-- ==== Sys2Proof/Word.lean ====
section
/-! DEFINITION. The word types: 64-bit registers (R16), bytes, and bit ranges written high:low (R8). -/
namespace Sys2Proof

/-- A register or a 64-bit message word (R16). -/
abbrev W64 := BitVec 64

/-- A byte of module memory, of host memory or of a frame. -/
abbrev Byte := BitVec 8

/-- Bits [hi:lo] of a number, as R8 writes a bit range. -/
def bits (v hi lo : Nat) : Nat := (v >>> lo) % 2 ^ (hi + 1 - lo)

/-- Bit b of a number. -/
def bit (v b : Nat) : Bool := v.testBit b

/-- `v` with bits [hi:lo] replaced by `x`. -/
def setBits (v hi lo x : Nat) : Nat :=
  v - (bits v hi lo) * 2 ^ lo + (x % 2 ^ (hi + 1 - lo)) * 2 ^ lo

/-- A Boolean as a field of one bit. -/
def b2n (b : Bool) : Nat := if b then 1 else 0

/-- The 64-bit word of a number. -/
def w64 (n : Nat) : W64 := BitVec.ofNat 64 n

/-- n-byte little-endian bytes of a number (R9: records, descriptors, rings). -/
def leBytes : Nat → Nat → List Byte
  | 0, _ => []
  | n + 1, v => BitVec.ofNat 8 v :: leBytes n (v / 256)

/-- The number held by little-endian bytes. -/
def leVal : List Byte → Nat
  | [] => 0
  | b :: t => b.toNat + 256 * leVal t

/-- n-byte big-endian bytes of a number (R9: headers on the fabric). -/
def beBytes (n v : Nat) : List Byte := (leBytes n v).reverse

/-- The number held by big-endian bytes. -/
def beVal (l : List Byte) : Nat := leVal l.reverse

/-- Saturating count of a counter field of `w` bits. -/
def satAdd (w a b : Nat) : Nat := min (a + b) (2 ^ w - 1)

/-- Wrapping count of a counter field of `w` bits. -/
def wrapAdd (w a b : Nat) : Nat := (a + b) % 2 ^ w

/-- Signed reading of a 64-bit word. -/
def sgn (v : W64) : Int := v.toInt

end Sys2Proof
end

