-- ==== Sys2Proof/Syntax.lean ====
section
/-! DEFINITION. The commands of the block: one constructor per row of the command table, with the operands that the spec gives it. A command that a host
entry carries has its `Src`; a command of one channel names the channel first. -/

namespace Sys2Proof

/-- One of the four channels of the module (R38). -/
inductive ChId where
  | c0 | c1 | c2 | c3
  deriving DecidableEq, Repr

/-- The ring entry that carried a command (R367): the VF's tenant slot or none for a PF ring, the ring pair, the CID, TSLOT of a PF
entry, and RESULT_ADDR of an extended one. -/
structure Src where
  vf : Option Nat
  n : Nat
  cid : Nat
  tslot : Nat
  res : Nat
  deriving DecidableEq, Repr

/-- What a read of host memory gave: the data, or a failure with the cause that event 0xB002 gives it (1 a completion timeout,
2 UR, 3 CA, 4 poisoned data, 7 any other) (R376, R379, R383). -/
inductive Fetched (α : Type) where
  | ok (data : α)
  | failed (cause : Nat)
  deriving DecidableEq, Repr

/-- A host or fabric destination (R373). -/
inductive Dest where
  | host (addr : Nat)
  | fabric (addr : Nat)
  deriving DecidableEq, Repr

/-- Which part of a register an access reaches (R16): all 64 bits, or one aligned half. -/
inductive Half where
  | both | low | high
  deriving DecidableEq, Repr

/-- A register write: the part it reaches and the value, already at its place in the 64-bit register. -/
structure Access where
  half : Half
  val : Nat
  deriving DecidableEq, Repr

/-- The register window a host access goes to: PF0's own registers on the hub, a channel window, or the VF window of a tenant slot. -/
inductive Window where
  | hub
  | ch (c : ChId)
  | vf (c : ChId) (t : Nat)
  deriving DecidableEq, Repr

/-- The copy of the ring registers: the PF's own, or those of a tenant slot's VF. -/
inductive RingWin where
  | pf
  | vf (t : Nat)
  deriving DecidableEq, Repr

/-- The function an event ring, a vector or a configuration space belongs to: PF0, a channel's PF, or a tenant slot's VF. -/
inductive EvqWin where
  | hub
  | pf (c : ChId)
  | vf (c : ChId) (t : Nat)
  deriving DecidableEq, Repr

/-- A submission entry as read (R367), with the parts of it that the ring machinery uses. -/
structure RingEntry where
  code : Nat
  cid : Nat
  fence : Bool
  tslot : Nat
  deriving DecidableEq, Repr

/-- What a read of host memory was for: a submission entry of a ring pair, or a command's parameters, buffer or record. -/
inductive ReadFor where
  | entry (w : RingWin) (n : Nat)
  | command (src : Src)
  deriving DecidableEq, Repr

/-- The bad completions of R379. -/
inductive BadCompletion where
  | ur | ca | poisoned
  deriving DecidableEq, Repr

/-- What a PCIe configuration write sets (R361): Bus Master Enable, the power state (D3hot or D0), or NumVFs with VF Enable. -/
inductive ConfigSet where
  | bme (on : Bool)
  | d3hot (on : Bool)
  | vfs (n : Nat)
  deriving DecidableEq, Repr


/-- A handoff control message (R129), its fields in order; TYPE is the command that carries it, and TAG its own operand. -/
structure HoMsg where
  version : Nat
  reason : Nat
  push : Bool
  repeated : Bool
  overrun : Bool
  isPrivate : Bool
  ctr : Nat
  req : Nat
  epoch : Nat
  srcH : Nat
  dstH : Nat
  tag : Nat
  profileId : Nat
  len : Nat
  budget : Nat
  stripe : Nat
  member : Nat
  format : Nat
  red : Nat
  prio : Nat
  region : Nat
  groups : Nat
  digest : List Byte
  deriving DecidableEq, Repr

/-- A row operation (R176): OP, ROWS, the 1 KiB-aligned addresses, and PATTERN. -/
structure RowOp where
  op : Nat
  rows : Nat
  dst : Nat
  src1 : Nat
  src2 : Nat
  pattern : Nat
  deriving DecidableEq, Repr

/-- A speculation record (R194): the header's fields and the table (parents for BEGIN, the path for VERIFY). OP is the command. -/
structure SpecRec where
  version : Nat
  anchor : Bool
  tree : Bool
  count : Nat
  h : Nat
  epoch : Nat
  base : Nat
  reqTag : Nat
  replyAddr : Nat
  replyKey : Nat
  replyGen : Nat
  table : List Nat
  deriving DecidableEq, Repr

/-- How a message reached the channel: on an FMT connection, as a flagged store or not, or on a RoCE queue pair, as one RDMA WRITE or not. -/
inductive Via where
  | fmt (conn : Nat) (flagged : Bool)
  | roce (qp : Nat) (single : Bool)
  deriving DecidableEq, Repr

/-- One entry record of a program image (R211). -/
structure EntryRec where
  id : Nat
  resident : Bool
  vfCall : Bool
  pfCall : Bool
  armable : Bool
  offset : Nat
  budget : Nat
  deriving DecidableEq, Repr

/-- A program image (R211) as the channel reads it: the header's fields, the entry table, the text and the data image, the size
that was fetched, whether the Ed25519 signature verifies under the key that KEY_ID names, and the SHA-512 digest of the image (R404). -/
structure ImageIn where
  magic : Nat
  hdrVersion : Nat
  kind : Nat
  role : Nat
  grants : Nat
  version : Nat
  keyId : Nat
  textBytes : Nat
  dataBytes : Nat
  scratchBytes : Nat
  evcCount : Nat
  coresMax : Nat
  tenantTag : Nat
  entries : List EntryRec
  text : List Byte
  data : List Byte
  size : Nat
  sigOk : Bool
  digest : List Byte
  deriving DecidableEq, Repr

/-- The fields of a Bamfel instruction word below OP (R234). -/
structure IFields where
  gn : Bool
  gp : Nat
  d : Nat
  a : Nat
  b : Nat
  x : Nat
  i : Nat
  deriving DecidableEq, Repr

/-- An FMT packet as the receiver sees it after decryption (R275, R276): the header's fields, the payload in its order on the wire,
whether PROT is set and the tag verifies, and whether the IP header was marked CE. OPCODE is the command that carries it. -/
structure FmtPkt where
  srcEid : Nat
  srcConn : Nat
  dstEid : Nat
  dstConn : Nat
  psn : Nat
  first : Bool
  last : Bool
  ar : Bool
  prot : Bool
  retx : Bool
  ece : Bool
  syndrome : Nat
  reason : Nat
  gen : Nat
  key : Nat
  region : Nat
  window : Nat
  oplen : Nat
  addr : Nat
  data : List Byte
  tagOk : Bool
  ce : Bool
  deriving DecidableEq, Repr

/-- A RoCE v2 packet (R296): the local queue pair, the base transport opcode (which says whether it is first or last of its message),
PSN, the RETH address, key and DMA length, the immediate data, the payload, the AETH syndrome of an acknowledgement, and whether it was marked CE. -/
structure RocePkt where
  qp : Nat
  opcode : Nat
  psn : Nat
  va : Nat
  rkey : Nat
  dmaLen : Nat
  imm : Option Nat
  data : List Byte
  syndrome : Nat
  ar : Bool
  ce : Bool
  icrcOk : Bool
  deriving DecidableEq, Repr

/-- The parameters of fab.op (R301, R374), with the bytes read from the host buffer for a store. -/
structure FabOpIn where
  conn : Nat
  opcode : Nat
  addr : Nat
  key : Nat
  gen : Nat
  region : Nat
  len : Nat
  host : Nat
  swap : Nat
  compare : Nat
  data : Fetched (List Byte)
  deriving DecidableEq, Repr

/-- The parameters of fab.roce (R297, R374). -/
structure RoceIn where
  pd : Nat
  ip : Nat
  qpn : Nat
  sendPsn : Nat
  recvPsn : Nat
  mtu : Nat
  timeout : Nat
  ringRegion : Nat
  ringSlots : Nat
  slotSize : Nat
  word : Nat
  prog : Nat
  counter : Nat
  deriving DecidableEq, Repr

/-- An attachment message (R330); TYPE is the command that carries it. -/
structure AttachMsg where
  reason : Nat
  reqNum : Nat
  owner : Nat
  attacher : Nat
  tag : Nat
  profileId : Nat
  n : Nat
  chain : Nat
  deriving DecidableEq, Repr

/-- A cascade frame (R327), with whether its CRC-32C holds. -/
structure CascFrame where
  probe : Bool
  pos : Nat
  hitPos : Nat
  hit : Bool
  use : Nat
  seg : Nat
  seq : Nat
  tag : Nat
  key : Nat
  result : Nat
  crcOk : Bool
  deriving DecidableEq, Repr

/-- A tier or fragment message (R354); TYPE is the command that carries it. -/
structure TierMsg where
  reason : Nat
  index : Nat
  red : Nat
  reqNum : Nat
  req : Nat
  tag : Nat
  epoch : Nat
  region : Nat
  length : Nat
  check : Nat
  deriving DecidableEq, Repr

/-- A fragment location list (R356): its header's fields and its entries (holder EID and INDEX). -/
structure FragLoc where
  req : Nat
  tag : Nat
  epoch : Nat
  red : Nat
  groups : Nat
  len : Nat
  digest : List Byte
  holders : List (Nat × Nat)
  deriving DecidableEq, Repr

/-- The parameter block of ho.rebuild (R146), with the fragment location list that its host address names. -/
structure RebuildIn where
  req : Nat
  profile : Nat
  red : Nat
  len : Nat
  epoch : Nat
  list : Fetched FragLoc
  preds : List Nat
  force : Bool
  deriving DecidableEq, Repr

/-- What a warm channel reset meets (R386, R89, R90): whether the device seed could be reconstructed within three tries, the slots whose page-group table cannot be
read, the slots whose image is inconsistent, and, where the journal is lost, the JSEQ at the break. -/
structure WarmIn where
  pufOk : Bool
  badTables : List Nat
  badImages : List Nat
  lost : Option Nat
  deriving DecidableEq, Repr


/-- An SPDM request in PF0's DOE mailbox (R403): one that only asks, or one that programs the link stream, a selective stream over
a range of requester IDs, or ends a stream. -/
inductive SpdmReq where
  | ask
  | link
  | selective (i lo hi : Nat)
  | stop (i : Nat)
  deriving DecidableEq, Repr

/-- A frame of the count link (R417). TYPE is the command that carries it. -/
structure LinkFrame where
  ch : ChId
  slot : Nat
  supply : Nat
  seq : Nat
  stream : Nat
  tag : Nat
  prompt : Nat
  output : Nat
  attached : Nat
  t0 : Nat
  out : Nat
  unmetered : Nat
  deriving DecidableEq, Repr

/-- A meter as it is plugged in (R431): its serial number, its meter time in µs, and the records it already holds as the
RECORD_CTR and CHAIN of its last one. -/
structure NewMeter where
  serial : Nat
  timeUs : Nat
  lastCtr : Nat
  chain : List Byte
  deriving DecidableEq, Repr

/-- A mirror message (R449) and the EID it came from. -/
structure MirrorMsg where
  eid : Nat
  version : Nat
  kind : Nat
  opNum : Nat
  result : List Byte
  param : List Byte
  payload : List Byte
  deriving DecidableEq, Repr

/-- An SRAM error (R445): a single-bit error, or a double-bit error in the memory named. -/
inductive SramErr where
  | single
  | entry (slot : Nat) (readable : Bool)
  | scratch (core : Nat)
  | icache (core : Nat)
  | packet (handle : Nat)
  | prefixEntry (entry : Nat)
  | keyStore (slot kind index : Nat)
  | control
  deriving DecidableEq, Repr

/-- What a pace sample reads (R467): the pace index, the core voltage in mV, the draw in W, and the two temperatures. -/
structure PaceIn where
  index : Nat
  vcore : Nat
  draw : Nat
  tempCtl : Nat
  tempBase : Nat
  deriving DecidableEq, Repr


/-- A command of the block. -/
inductive Instr where
  /-- FN_STOP (R500). -/
  | fnStop (c : ChId) (src : Src) (n : Nat)
  /-- FN_START (R500). -/
  | fnStart (c : ChId) (src : Src) (n : Nat)
  /-- ROLE_STOP (R34). -/
  | roleStop (c : ChId) (src : Src) (budget : Nat)
  /-- ROLE_LOAD (R36). -/
  | roleLoad (c : ChId) (src : Src) (img : Fetched ImageIn)
  /-- ROLE_START (R37). -/
  | roleStart (c : ChId) (src : Src)
  /-- ROLE_STOPPED (R33). -/
  | roleStopped (c : ChId)
  /-- ROLE_STOP_ABANDONED (R34). -/
  | roleStopAbandoned (c : ChId)
  /-- FN_STATE_STOP (R44). -/
  | fnStateStop (c : ChId) (n : Nat)
  /-- FN_STATE_START (R44). -/
  | fnStateStart (c : ChId) (n : Nat)
  /-- FUNCTION_QUIESCED (R48). -/
  | functionQuiesced (c : ChId) (n : Nat)
  /-- CHN_EID_WRITE (R55). -/
  | chnEidWrite (c : ChId) (a : Access)
  /-- REGISTER_WRITE (R17). -/
  | registerWrite (w : Window) (off : Nat) (a : Access)
  /-- CTX_PEEK_SEL_WRITE (R63). -/
  | ctxPeekSelWrite (c : ChId) (a : Access)
  /-- HUB_LINK_DOWN (R41). -/
  | hubLinkDown (c : ChId)
  /-- HUB_LINK_RESTORED (R41). -/
  | hubLinkRestored (c : ChId) (lost ns : Nat)
  /-- CTX_OPEN (R84). -/
  | ctxOpen (c : ChId) (src : Src) (req : Nat) (prio : Nat) (budget : Nat) (profile : Nat) (red : Nat) (flags : Nat)
  /-- CTX_SEAL (R65). -/
  | ctxSeal (c : ChId) (src : Src) (h : Nat)
  /-- SEAL_COMPLETE (R121). -/
  | sealComplete (c : ChId) (slot : Nat)
  /-- CTX_RETIRE (R65). -/
  | ctxRetire (c : ChId) (src : Src) (h : Nat)
  /-- DRAIN_COMPLETE (R65). -/
  | drainComplete (c : ChId) (slot : Nat)
  /-- CTX_QUERY (R82). -/
  | ctxQuery (c : ChId) (src : Src) (h : Nat)
  /-- CTX_FIND (R82). -/
  | ctxFind (c : ChId) (src : Src) (req : Nat)
  /-- CTX_SET (R82). -/
  | ctxSet (c : ChId) (src : Src) (h : Nat) (mask : Nat) (prio : Nat) (budget : Nat) (red : Nat)
  /-- CTX_SIGNAL (R82). -/
  | ctxSignal (c : ChId) (src : Src) (h : Nat) (amount : Nat)
  /-- DEADLINE_REACHED (R76). -/
  | deadlineReached (c : ChId) (slot : Nat)
  /-- TOMBSTONE_END (R69). -/
  | tombstoneEnd (c : ChId) (slot : Nat)
  /-- STARTUP_SLOT_HOLD_END (R73). -/
  | startupSlotHoldEnd (c : ChId)
  /-- JOURNAL_WRITE_FAIL (R88). -/
  | journalWriteFail (c : ChId) (slot : Nat) (cause : Nat)
  /-- SNAPSHOT_DUE (R88). -/
  | snapshotDue (c : ChId)
  /-- PG_WINDOW (R109). -/
  | pgWindow (c : ChId) (src : Src) (h : Nat) (pd : Nat) (fillAddr : Nat)
  /-- PG_ATTACH (R122). -/
  | pgAttach (c : ChId) (src : Src) (h : Nat) (owner : Nat) (n : Nat)
  /-- PG_EXPORT (R123). -/
  | pgExport (c : ChId) (src : Src) (h : Nat) (layer : Nat) (first : Nat) (log2 : Nat) (dest : Dest)
  /-- PG_IMPORT (R108). -/
  | pgImport (c : ChId) (src : Src) (h : Nat) (ext : Fetched (List Byte))
  /-- PG_SCALE (R123). -/
  | pgScale (c : ChId) (src : Src) (p : Nat) (table : Fetched (List Byte))
  /-- UNIT_PLACED (R118). -/
  | unitPlaced (c : ChId) (slot : Nat) (layer : Nat) (token : Nat) (unit : Nat)
  /-- FRAME_CLEARED (R105). -/
  | frameCleared (c : ChId) (ok : Bool)
  /-- HO_OFFER (R141). -/
  | hoOffer (c : ChId) (src : Src) (h : Nat) (dst : Nat) (push : Bool) (stripe : Nat) (member : Nat)
  /-- HO_CANCEL (R150). -/
  | hoCancel (c : ChId) (src : Src) (h : Nat) (force : Bool)
  /-- HO_REBUILD (R146). -/
  | hoRebuild (c : ChId) (src : Src) (p : Fetched RebuildIn)
  /-- HO_PROBE (R144). -/
  | hoProbe (c : ChId) (src : Src) (req : Nat)
  /-- OFFER (R138). -/
  | offer (c : ChId) (peer : Nat) (m : HoMsg) (tagOk : Bool)
  /-- TAKE (R137). -/
  | take (c : ChId) (peer : Nat) (m : HoMsg) (tagOk : Bool)
  /-- REFUSE (R137). -/
  | refuse (c : ChId) (peer : Nat) (m : HoMsg) (tagOk : Bool)
  /-- MANIFEST (R138). -/
  | manifest (c : ChId) (peer : Nat) (m : HoMsg) (tagOk : Bool)
  /-- ACCEPT (R137). -/
  | accept (c : ChId) (peer : Nat) (m : HoMsg) (tagOk : Bool)
  /-- RELEASE (R138). -/
  | release (c : ChId) (peer : Nat) (m : HoMsg) (tagOk : Bool)
  /-- ABORT (R137). -/
  | abort (c : ChId) (peer : Nat) (m : HoMsg) (tagOk : Bool)
  /-- CANCEL (R138). -/
  | cancel (c : ChId) (peer : Nat) (m : HoMsg) (tagOk : Bool)
  /-- SUPERSEDED (R137). -/
  | superseded (c : ChId) (peer : Nat) (m : HoMsg) (tagOk : Bool)
  /-- FENCE_MESSAGE (R147). -/
  | fenceMessage (c : ChId) (peer : Nat) (m : HoMsg) (tagOk : Bool)
  /-- FENCE_REPLY (R146). -/
  | fenceReply (c : ChId) (peer : Nat) (m : HoMsg) (tagOk : Bool)
  /-- OFFER_RETRY_EXPIRY (R137). -/
  | offerRetryExpiry (c : ChId) (slot : Nat)
  /-- ACCEPT_RETRY_SOURCE (R137). -/
  | acceptRetrySource (c : ChId) (slot : Nat)
  /-- ACCEPT_RETRY_DEST (R138). -/
  | acceptRetryDest (c : ChId) (slot : Nat)
  /-- TRANSFER_IDLE_SOURCE (R137). -/
  | transferIdleSource (c : ChId) (slot : Nat)
  /-- TRANSFER_IDLE_DEST (R138). -/
  | transferIdleDest (c : ChId) (slot : Nat)
  /-- STUCK_TIME_EXPIRY (R137). -/
  | stuckTimeExpiry (c : ChId) (slot : Nat)
  /-- TRANSFER_BODIES_DONE (R136). -/
  | transferBodiesDone (c : ChId) (slot : Nat)
  /-- DIGEST_VERIFIED (R136). -/
  | digestVerified (c : ChId) (slot : Nat)
  /-- RELEASE_COMPLETE (R137). -/
  | releaseComplete (c : ChId) (slot : Nat)
  /-- FENCE_RETRY (R146). -/
  | fenceRetry (c : ChId) (slot : Nat)
  /-- FENCE_TIME_EXPIRY (R146). -/
  | fenceTimeExpiry (c : ChId) (slot : Nat)
  /-- REBUILD_DECODED (R146). -/
  | rebuildDecoded (c : ChId) (slot : Nat)
  /-- CRU_QUEUE_CREATE (R155). -/
  | cruQueueCreate (c : ChId) (src : Src) (pd : Nat) (slots : Nat) (kib : Nat)
  /-- CRU_QUEUE_DELETE (R160). -/
  | cruQueueDelete (c : ChId) (src : Src) (q : Nat)
  /-- QUEUE_DELETE_DONE (R160). -/
  | queueDeleteDone (c : ChId) (q : Nat)
  /-- CRU_JOB (R182). -/
  | cruJob (c : ChId) (src : Src) (img : Fetched (List Byte)) (reply : Nat)
  /-- CRU_ROWOP (R177). -/
  | cruRowop (c : ChId) (src : Src) (op : RowOp)
  /-- ROWOP_DONE (R176). -/
  | rowopDone (c : ChId)
  /-- JOB_ACCEPT (R163). -/
  | jobAccept (c : ChId) (q : Nat)
  /-- JOB_COMPLETE (R174). -/
  | jobComplete (c : ChId) (job : Nat)
  /-- REFRESH_DUE (R178). -/
  | refreshDue (c : ChId) (pch : Nat)
  /-- BASE_DIE_HOT (R178). -/
  | baseDieHot (c : ChId) (stack : Nat) (temp : Nat)
  /-- CRU_HOLD_MAX_CLEAR (R179). -/
  | cruHoldMaxClear (c : ChId)
  /-- SPC_BEGIN (R186). -/
  | spcBegin (c : ChId) (src : Src) (r : Fetched SpecRec)
  /-- SPC_VERIFY (R190). -/
  | spcVerify (c : ChId) (src : Src) (r : Fetched SpecRec)
  /-- SPC_ABANDON (R193). -/
  | spcAbandon (c : ChId) (src : Src) (r : Fetched SpecRec)
  /-- SPC_GOVERN (R203). -/
  | spcGovern (c : ChId) (src : Src) (h : Nat) (reset : Bool) (limit : Nat)
  /-- SPEC_BEGIN_RECORD (R195). -/
  | specBeginRecord (c : ChId) (port : Nat) (via : Via) (r : SpecRec)
  /-- SPEC_VERIFY_RECORD (R195). -/
  | specVerifyRecord (c : ChId) (port : Nat) (via : Via) (r : SpecRec)
  /-- SPEC_ABANDON_RECORD (R195). -/
  | specAbandonRecord (c : ChId) (port : Nat) (via : Via) (r : SpecRec)
  /-- VERIFY_COMMIT (R190). -/
  | verifyCommit (c : ChId) (slot : Nat)
  /-- GAF_LOAD (R212). -/
  | gafLoad (c : ChId) (src : Src) (img : Fetched ImageIn)
  /-- GAF_UNLOAD (R213). -/
  | gafUnload (c : ChId) (src : Src) (prog : Nat)
  /-- GAF_INVOKE (R215). -/
  | gafInvoke (c : ChId) (src : Src) (prog : Nat) (entry : Nat) (params : List W64)
  /-- GAF_QUERY (R231). -/
  | gafQuery (c : ChId) (src : Src) (prog : Nat)
  /-- INVOCATION_START (R214). -/
  | invocationStart (c : ChId) (core : Nat)
  /-- TRIGGER_FIRE (R218). -/
  | triggerFire (c : ChId) (k : Nat)
  /-- WAIT_TIMEOUT (R218). -/
  | waitTimeout (c : ChId) (core : Nat)
  /-- CHEAP_POINT_OVERDUE (R223). -/
  | cheapPointOverdue (c : ChId) (core : Nat)
  /-- BUDGET_EXCEEDED (R215). -/
  | budgetExceeded (c : ChId) (core : Nat)
  /-- RESIDENT_RESTART (R221). -/
  | residentRestart (c : ChId) (prog : Nat) (entry : Nat)
  /-- SLOT_BOUNDARY (R226). -/
  | slotBoundary (c : ChId)
  /-- FRAME_BOUNDARY (R225). -/
  | frameBoundary (c : ChId)
  /-- POOL_QUANTUM_EXPIRY (R226). -/
  | poolQuantumExpiry (c : ChId) (core : Nat)
  /-- PREEMPTION_DEFERRED_RELEASE (R228). -/
  | preemptionDeferredRelease (c : ChId) (core : Nat)
  /-- GAF_SCHED_SWITCH (R225). -/
  | gafSchedSwitch (c : ChId)
  /-- GAF_PREEMPT_MAX_CLEAR (R223). -/
  | gafPreemptMaxClear (c : ChId)
  /-- GAF_EVC_ADD (R219). -/
  | gafEvcAdd (c : ChId) (a : Access)
  /-- NOP (R240). -/
  | nop (c : ChId) (k : Nat) (op : Nat) (f : IFields)
  /-- ADD (R240). -/
  | iAdd (c : ChId) (k : Nat) (f : IFields)
  /-- SUB (R240). -/
  | iSub (c : ChId) (k : Nat) (f : IFields)
  /-- MUL (R240). -/
  | iMul (c : ChId) (k : Nat) (f : IFields)
  /-- MULHU (R240). -/
  | iMulhu (c : ChId) (k : Nat) (f : IFields)
  /-- MULHS (R240). -/
  | iMulhs (c : ChId) (k : Nat) (f : IFields)
  /-- DIVU (R240). -/
  | iDivu (c : ChId) (k : Nat) (f : IFields)
  /-- REMU (R240). -/
  | iRemu (c : ChId) (k : Nat) (f : IFields)
  /-- AND (R240). -/
  | iAnd (c : ChId) (k : Nat) (f : IFields)
  /-- OR (R240). -/
  | iOr (c : ChId) (k : Nat) (f : IFields)
  /-- XOR (R240). -/
  | iXor (c : ChId) (k : Nat) (f : IFields)
  /-- SHL (R240). -/
  | iShl (c : ChId) (k : Nat) (f : IFields)
  /-- SHR (R240). -/
  | iShr (c : ChId) (k : Nat) (f : IFields)
  /-- SAR (R240). -/
  | iSar (c : ChId) (k : Nat) (f : IFields)
  /-- MINU (R240). -/
  | iMinu (c : ChId) (k : Nat) (f : IFields)
  /-- MAXU (R240). -/
  | iMaxu (c : ChId) (k : Nat) (f : IFields)
  /-- ADDI (R240). -/
  | iAddi (c : ChId) (k : Nat) (f : IFields)
  /-- ANDI (R240). -/
  | iAndi (c : ChId) (k : Nat) (f : IFields)
  /-- ORI (R240). -/
  | iOri (c : ChId) (k : Nat) (f : IFields)
  /-- XORI (R240). -/
  | iXori (c : ChId) (k : Nat) (f : IFields)
  /-- SHLI (R240). -/
  | iShli (c : ChId) (k : Nat) (f : IFields)
  /-- SHRI (R240). -/
  | iShri (c : ChId) (k : Nat) (f : IFields)
  /-- SARI (R240). -/
  | iSari (c : ChId) (k : Nat) (f : IFields)
  /-- MOVI (R240). -/
  | iMovi (c : ChId) (k : Nat) (f : IFields)
  /-- MOVHI (R240). -/
  | iMovhi (c : ChId) (k : Nat) (f : IFields)
  /-- EXTR (R240). -/
  | iExtr (c : ChId) (k : Nat) (f : IFields)
  /-- INSR (R240). -/
  | iInsr (c : ChId) (k : Nat) (f : IFields)
  /-- CLZ (R240). -/
  | iClz (c : ChId) (k : Nat) (f : IFields)
  /-- POPC (R240). -/
  | iPopc (c : ChId) (k : Nat) (f : IFields)
  /-- SEL (R240). -/
  | iSel (c : ChId) (k : Nat) (f : IFields)
  /-- RDTIME (R240). -/
  | iRdtime (c : ChId) (k : Nat) (f : IFields)
  /-- RDID (R240). -/
  | iRdid (c : ChId) (k : Nat) (f : IFields)
  /-- CMP (R240). -/
  | iCmp (c : ChId) (k : Nat) (f : IFields)
  /-- CMPI (R240). -/
  | iCmpi (c : ChId) (k : Nat) (f : IFields)
  /-- PLOG (R240). -/
  | iPlog (c : ChId) (k : Nat) (f : IFields)
  /-- PRD (R240). -/
  | iPrd (c : ChId) (k : Nat) (f : IFields)
  /-- BR (R241). -/
  | iBr (c : ChId) (k : Nat) (f : IFields)
  /-- CALL (R241). -/
  | iCall (c : ChId) (k : Nat) (f : IFields)
  /-- JMP (R241). -/
  | iJmp (c : ChId) (k : Nat) (f : IFields)
  /-- LOOP (R241). -/
  | iLoop (c : ChId) (k : Nat) (f : IFields)
  /-- END (R214). -/
  | iEnd (c : ChId) (k : Nat) (f : IFields)
  /-- LD (R243). -/
  | iLd (c : ChId) (k : Nat) (f : IFields)
  /-- ST (R243). -/
  | iSt (c : ChId) (k : Nat) (f : IFields)
  /-- VLD (R243). -/
  | iVld (c : ChId) (k : Nat) (f : IFields)
  /-- VST (R243). -/
  | iVst (c : ChId) (k : Nat) (f : IFields)
  /-- VADD (R245). -/
  | iVadd (c : ChId) (k : Nat) (f : IFields)
  /-- VSUB (R245). -/
  | iVsub (c : ChId) (k : Nat) (f : IFields)
  /-- VMUL (R245). -/
  | iVmul (c : ChId) (k : Nat) (f : IFields)
  /-- VAND (R245). -/
  | iVand (c : ChId) (k : Nat) (f : IFields)
  /-- VOR (R245). -/
  | iVor (c : ChId) (k : Nat) (f : IFields)
  /-- VXOR (R245). -/
  | iVxor (c : ChId) (k : Nat) (f : IFields)
  /-- VSHL (R245). -/
  | iVshl (c : ChId) (k : Nat) (f : IFields)
  /-- VSHR (R245). -/
  | iVshr (c : ChId) (k : Nat) (f : IFields)
  /-- VBCAST (R245). -/
  | iVbcast (c : ChId) (k : Nat) (f : IFields)
  /-- VEXT (R245). -/
  | iVext (c : ChId) (k : Nat) (f : IFields)
  /-- VINS (R245). -/
  | iVins (c : ChId) (k : Nat) (f : IFields)
  /-- VPERM (R245). -/
  | iVperm (c : ChId) (k : Nat) (f : IFields)
  /-- VFADD (R245). -/
  | iVfadd (c : ChId) (k : Nat) (f : IFields)
  /-- VFMUL (R245). -/
  | iVfmul (c : ChId) (k : Nat) (f : IFields)
  /-- VFMA (R245). -/
  | iVfma (c : ChId) (k : Nat) (f : IFields)
  /-- VFMAX (R245). -/
  | iVfmax (c : ChId) (k : Nat) (f : IFields)
  /-- VFSUM (R245). -/
  | iVfsum (c : ChId) (k : Nat) (f : IFields)
  /-- VQNT (R246). -/
  | iVqnt (c : ChId) (k : Nat) (f : IFields)
  /-- VDQNT (R246). -/
  | iVdqnt (c : ChId) (k : Nat) (f : IFields)
  /-- VGFMUL (R245). -/
  | iVgfmul (c : ChId) (k : Nat) (f : IFields)
  /-- VGFMAC (R245). -/
  | iVgfmac (c : ChId) (k : Nat) (f : IFields)
  /-- DMOV (R249). -/
  | iDmov (c : ChId) (k : Nat) (f : IFields)
  /-- DMOV_DONE (R249). -/
  | dmovDone (c : ChId) (k : Nat) (stop : Option Nat)
  /-- TRD (R251). -/
  | iTrd (c : ChId) (k : Nat) (f : IFields)
  /-- TCAS (R251). -/
  | iTcas (c : ChId) (k : Nat) (f : IFields)
  /-- SWLD (R251). -/
  | iSwld (c : ChId) (k : Nat) (f : IFields)
  /-- SWST (R251). -/
  | iSwst (c : ChId) (k : Nat) (f : IFields)
  /-- SWCAS (R251). -/
  | iSwcas (c : ChId) (k : Nat) (f : IFields)
  /-- SWADD (R251). -/
  | iSwadd (c : ChId) (k : Nat) (f : IFields)
  /-- SIG (R253). -/
  | iSig (c : ChId) (k : Nat) (f : IFields)
  /-- SIGI (R253). -/
  | iSigi (c : ChId) (k : Nat) (f : IFields)
  /-- WAIT (R253). -/
  | iWait (c : ChId) (k : Nat) (f : IFields)
  /-- ARM (R253). -/
  | iArm (c : ChId) (k : Nat) (f : IFields)
  /-- DISARM (R253). -/
  | iDisarm (c : ChId) (k : Nat) (f : IFields)
  /-- FENCE (R237). -/
  | iFence (c : ChId) (k : Nat) (f : IFields)
  /-- CTRRD (R253). -/
  | iCtrrd (c : ChId) (k : Nat) (f : IFields)
  /-- SRCH (R254). -/
  | iSrch (c : ChId) (k : Nat) (f : IFields)
  /-- PFXW (R254). -/
  | iPfxw (c : ChId) (k : Nat) (f : IFields)
  /-- CRYPT (R255). -/
  | iCrypt (c : ChId) (k : Nat) (f : IFields)
  /-- CRYPT_DONE (R255). -/
  | cryptDone (c : ChId) (k : Nat)
  /-- PALLOC (R256). -/
  | iPalloc (c : ChId) (k : Nat) (f : IFields)
  /-- PFREE (R256). -/
  | iPfree (c : ChId) (k : Nat) (f : IFields)
  /-- PRX (R256). -/
  | iPrx (c : ChId) (k : Nat) (f : IFields)
  /-- PLD (R256). -/
  | iPld (c : ChId) (k : Nat) (f : IFields)
  /-- PST (R256). -/
  | iPst (c : ChId) (k : Nat) (f : IFields)
  /-- PVLD (R256). -/
  | iPvld (c : ChId) (k : Nat) (f : IFields)
  /-- PVST (R256). -/
  | iPvst (c : ChId) (k : Nat) (f : IFields)
  /-- PPARSE (R257). -/
  | iPparse (c : ChId) (k : Nat) (f : IFields)
  /-- PBUILD (R258). -/
  | iPbuild (c : ChId) (k : Nat) (f : IFields)
  /-- PTX (R256). -/
  | iPtx (c : ChId) (k : Nat) (f : IFields)
  /-- YIELD (R259). -/
  | yieldI (c : ChId) (k : Nat) (scr pmask vmask smask : Nat)
  /-- FAB_PD (R278). -/
  | fabPd (c : ChId) (src : Src) (pd : Nat) (slot : Nat) (acl : Bool)
  /-- FAB_REG (R279). -/
  | fabReg (c : ChId) (src : Src) (pd : Nat) (units : Nat) (rights : Nat) (ownerEid : Nat) (ownerCheck : Bool)
  /-- FAB_REVOKE (R294). -/
  | fabRevoke (c : ChId) (src : Src) (r : Nat)
  /-- REVOKE_COMPLETE (R294). -/
  | revokeComplete (c : ChId) (r : Nat)
  /-- REGION_QUARANTINE_END (R279). -/
  | regionQuarantineEnd (c : ChId) (r : Nat)
  /-- FAB_OWNER (R281). -/
  | fabOwner (c : ChId) (src : Src) (r : Nat) (ownerEid : Nat) (ownerCheck : Bool)
  /-- FAB_CONN_OPEN (R283). -/
  | fabConnOpen (c : ChId) (src : Src) (peer : Nat) (pd : Nat) (target : Nat) (prio : Nat) (pmtu : Nat)
  /-- FAB_CONN_CLOSE (R283). -/
  | fabConnClose (c : ChId) (src : Src) (conn : Nat)
  /-- FAB_OP (R292). -/
  | fabOp (c : ChId) (src : Src) (op : Fetched FabOpIn)
  /-- FAB_ROCE (R297). -/
  | fabRoce (c : ChId) (src : Src) (q : Fetched RoceIn)
  /-- FAB_LANE_MODE_WRITE (R268). -/
  | fabLaneModeWrite (c : ChId) (a : Access)
  /-- FAB_CONN_SEL_WRITE (R283). -/
  | fabConnSelWrite (c : ChId) (a : Access)
  /-- FAB_REGION_SEL_WRITE (R279). -/
  | fabRegionSelWrite (c : ChId) (a : Access)
  /-- FRAME_RECEIVE (R265). -/
  | frameReceive (c : ChId) (port : Nat) (data : List Byte) (fcsOk : Bool)
  /-- PFC_FRAME_RECEIVED (R266). -/
  | pfcFrameReceived (c : ChId) (port : Nat) (prio : Nat) (quanta : Nat)
  /-- PAUSE_EXPIRY (R266). -/
  | pauseExpiry (c : ChId) (port : Nat) (prio : Nat)
  /-- PFC_PAUSE_REPEAT (R266). -/
  | pfcPauseRepeat (c : ChId) (port : Nat) (prio : Nat)
  /-- PFC_WATCHDOG_EXPIRY (R267). -/
  | pfcWatchdogExpiry (c : ChId) (port : Nat) (prio : Nat)
  /-- WATCHDOG_DROP_END (R267). -/
  | watchdogDropEnd (c : ChId) (port : Nat) (prio : Nat)
  /-- LINK_UP (R264). -/
  | linkUp (c : ChId) (port : Nat)
  /-- LINK_DOWN (R286). -/
  | linkDown (c : ChId) (port : Nat)
  /-- STORE (R292). -/
  | store (c : ChId) (p : FmtPkt)
  /-- FSTORE (R292). -/
  | fstore (c : ChId) (p : FmtPkt)
  /-- LOAD (R292). -/
  | load (c : ChId) (p : FmtPkt)
  /-- LOAD_RESP (R292). -/
  | loadResp (c : ChId) (p : FmtPkt)
  /-- FADD64 (R292). -/
  | fadd64 (c : ChId) (p : FmtPkt)
  /-- CSWAP64 (R292). -/
  | cswap64 (c : ChId) (p : FmtPkt)
  /-- SWAP64 (R292). -/
  | swap64 (c : ChId) (p : FmtPkt)
  /-- ATOMIC_RESP (R292). -/
  | atomicResp (c : ChId) (p : FmtPkt)
  /-- ACK (R287). -/
  | ack (c : ChId) (p : FmtPkt)
  /-- NAK (R289). -/
  | nak (c : ChId) (p : FmtPkt)
  /-- CONN_REQ (R284). -/
  | connReq (c : ChId) (p : FmtPkt)
  /-- CONN_ACC (R283). -/
  | connAcc (c : ChId) (p : FmtPkt)
  /-- CONN_REJ (R283). -/
  | connRej (c : ChId) (p : FmtPkt)
  /-- CLOSE (R283). -/
  | close (c : ChId) (p : FmtPkt)
  /-- CLOSE_ACK (R283). -/
  | closeAck (c : ChId) (p : FmtPkt)
  /-- HEARTBEAT (R453). -/
  | heartbeat (c : ChId) (p : FmtPkt)
  /-- EID_ASSIGN (R277). -/
  | eidAssign (c : ChId) (port : Nat) (reqNo : Nat) (valid : Bool) (eid : Nat) (sigOk : Bool)
  /-- EID_REPLY (R276). -/
  | eidReply (c : ChId) (port : Nat) (reqNo : Nat) (valid : Bool) (eid : Nat) (code : Nat)
  /-- RETRANSMIT_TIMEOUT (R287). -/
  | retransmitTimeout (c : ChId) (conn : Nat)
  /-- ACK_DELAY_EXPIRY (R288). -/
  | ackDelayExpiry (c : ChId) (conn : Nat)
  /-- RNR_DELAY_EXPIRY (R289). -/
  | rnrDelayExpiry (c : ChId) (conn : Nat)
  /-- CONN_REQ_RETRY (R283). -/
  | connReqRetry (c : ChId) (conn : Nat)
  /-- CLOSE_RETRY (R283). -/
  | closeRetry (c : ChId) (conn : Nat)
  /-- QUARANTINE_END (R283). -/
  | quarantineEnd (c : ChId) (conn : Nat)
  /-- PD0_IDLE_CLOSE (R285). -/
  | pd0IdleClose (c : ChId) (conn : Nat)
  /-- KEEPALIVE_EXPIRY (R452). -/
  | keepaliveExpiry (c : ChId) (conn : Nat)
  /-- ROCE_SEND (R299). -/
  | roceSend (c : ChId) (p : RocePkt)
  /-- ROCE_RDMA_WRITE (R298). -/
  | roceRdmaWrite (c : ChId) (p : RocePkt)
  /-- ROCE_RDMA_READ_REQUEST (R296). -/
  | roceRdmaReadRequest (c : ChId) (p : RocePkt)
  /-- ROCE_ACKNOWLEDGE (R296). -/
  | roceAcknowledge (c : ChId) (p : RocePkt)
  /-- ROCE_CNP (R300). -/
  | roceCnp (c : ChId) (p : RocePkt)
  /-- ROCE_UNSUPPORTED_OPCODE (R296). -/
  | roceUnsupportedOpcode (c : ChId) (p : RocePkt)
  /-- WIRE_FREE (R306). -/
  | wireFree (c : ChId) (port : Nat)
  /-- GATE_ENTRY_EXPIRY (R313). -/
  | gateEntryExpiry (c : ChId) (port : Nat)
  /-- TM_BUCKET_WRITE (R312). -/
  | tmBucketWrite (c : ChId) (off : Nat) (a : Access)
  /-- HWM_READ (R319). -/
  | hwmRead (c : ChId) (off : Nat) (half : Half)
  /-- SAMPLE_DUE (R317). -/
  | sampleDue (c : ChId)
  /-- TM_SMP_CIDX_WRITE (R318). -/
  | tmSmpCidxWrite (c : ChId) (cidx : Nat)
  /-- SOJOURN_ALARM (R319). -/
  | sojournAlarm (c : ChId) (port : Nat) (q : Nat)
  /-- SHAPER_BUCKET_REFILL (R308). -/
  | shaperBucketRefill (c : ChId) (port : Nat) (q : Option Nat)
  /-- PFX_CHAIN (R328). -/
  | pfxChain (c : ChId) (src : Src) (h : Nat) (first : Nat) (count : Nat) (tokens : Fetched (List Nat))
  /-- PFX_PUBLISH (R329). -/
  | pfxPublish (c : ChId) (src : Src) (h : Nat) (seg : Nat) (groups : Fetched (List Nat))
  /-- PFX_LOOKUP (R334). -/
  | pfxLookup (c : ChId) (src : Src) (seg : Nat) (keys : Fetched (List Nat)) (results : Nat)
  /-- PFX_WRITE (R334). -/
  | pfxWrite (c : ChId) (src : Src) (entry : Nat) (key : Nat) (mask : Nat) (result : Nat) (valid : Bool)
  /-- PFX_UNPIN (R334). -/
  | pfxUnpin (c : ChId) (src : Src) (owner : Nat) (count : Nat)
  /-- ATTACH (R331). -/
  | attach (c : ChId) (peer : Nat) (m : AttachMsg)
  /-- ATTACH_ACK (R122). -/
  | attachAck (c : ChId) (peer : Nat) (m : AttachMsg)
  /-- ATTACH_REFUSE (R122). -/
  | attachRefuse (c : ChId) (peer : Nat) (m : AttachMsg)
  /-- DETACH (R331). -/
  | detach (c : ChId) (peer : Nat) (m : AttachMsg)
  /-- DETACH_ACK (R332). -/
  | detachAck (c : ChId) (peer : Nat) (m : AttachMsg)
  /-- ATTACH_MSG_RETRY (R331). -/
  | attachMsgRetry (c : ChId) (req : Nat)
  /-- CASCADE_FRAME (R326). -/
  | cascadeFrame (c : ChId) (f : CascFrame)
  /-- CASCADE_TIMEOUT (R327). -/
  | cascadeTimeout (c : ChId) (seq : Nat)
  /-- CASCADE_PROBE_DUE (R327). -/
  | cascadeProbeDue (c : ChId)
  /-- TIER_MOVE (R342). -/
  | tierMove (c : ChId) (src : Src) (h : Nat) (first : Nat) (count : Nat) (target : Nat) (lease : Nat)
  /-- TIER_GROUP_WRITTEN (R342). -/
  | tierGroupWritten (c : ChId) (slot : Nat) (object : Fetched (List Byte))
  /-- TIER_LEND (R346). -/
  | tierLend (c : ChId) (src : Src) (peer : Nat) (slabs : Nat)
  /-- TIER_RECALL (R347). -/
  | tierRecall (c : ChId) (src : Src) (lease : Nat) (force : Bool)
  /-- RECALL_TIME_EXPIRY (R347). -/
  | recallTimeExpiry (c : ChId) (lease : Nat)
  /-- TIER_T2_POOL (R349). -/
  | tierT2Pool (c : ChId) (src : Src) (addr : Nat) (units : Nat) (remove : Bool) (force : Bool)
  /-- TIER_FRAG_WHERE (R356). -/
  | tierFragWhere (c : ChId) (src : Src) (h : Nat) (addr : Nat)
  /-- TIER_FRAG_LIST (R356). -/
  | tierFragList (c : ChId) (src : Src) (addr : Nat) (max : Nat)
  /-- TIER_FRAG_DROP (R353). -/
  | tierFragDrop (c : ChId) (src : Src) (req : Nat) (tag : Nat) (epoch : Nat)
  /-- LEND (R346). -/
  | lend (c : ChId) (peer : Nat) (m : TierMsg)
  /-- LEND_ACK (R346). -/
  | lendAck (c : ChId) (peer : Nat) (m : TierMsg)
  /-- RECALL (R347). -/
  | recall (c : ChId) (peer : Nat) (m : TierMsg)
  /-- RECALL_DONE (R347). -/
  | recallDone (c : ChId) (peer : Nat) (m : TierMsg)
  /-- FRAG_OPEN (R352). -/
  | fragOpen (c : ChId) (peer : Nat) (m : TierMsg)
  /-- FRAG_OPEN_ACK (R352). -/
  | fragOpenAck (c : ChId) (peer : Nat) (m : TierMsg)
  /-- FRAG_SEAL (R352). -/
  | fragSeal (c : ChId) (peer : Nat) (m : TierMsg)
  /-- FRAG_SEAL_ACK (R352). -/
  | fragSealAck (c : ChId) (peer : Nat) (m : TierMsg)
  /-- FRAG_FREE (R353). -/
  | fragFree (c : ChId) (peer : Nat) (m : TierMsg)
  /-- FRAG_FREE_ACK (R354). -/
  | fragFreeAck (c : ChId) (peer : Nat) (m : TierMsg)
  /-- TIER_REFUSE (R354). -/
  | tierRefuse (c : ChId) (peer : Nat) (m : TierMsg)
  /-- FRAG_READ (R354). -/
  | fragRead (c : ChId) (peer : Nat) (m : TierMsg)
  /-- FRAG_READ_ACK (R354). -/
  | fragReadAck (c : ChId) (peer : Nat) (m : TierMsg)
  /-- TIER_MSG_RETRY (R354). -/
  | tierMsgRetry (c : ChId) (req : Nat)
  /-- HEDGE_DEADLINE (R355). -/
  | hedgeDeadline (c : ChId) (slot : Nat) (stripe : Nat) (share : Nat)
  /-- PCIE_HOT_RESET (R476). -/
  | pcieHotReset
  /-- PCIE_CORRECTABLE_ERROR (R379). -/
  | pcieCorrectableError
  /-- PCIE_COMPLETION_TIMEOUT (R379). -/
  | pcieCompletionTimeout (c : ChId) (r : ReadFor)
  /-- PCIE_ERROR_COMPLETION (R379). -/
  | pcieErrorCompletion (c : ChId) (r : ReadFor) (kind : BadCompletion)
  /-- SMBUS_MCTP_REQUEST (R39). -/
  | smbusMctpRequest (kind : Nat)
  /-- TEN_SQ_DOORBELL (R368). -/
  | tenSqDoorbell (c : ChId) (w : RingWin) (n : Nat) (tail : Nat)
  /-- TEN_CQ_DOORBELL (R369). -/
  | tenCqDoorbell (c : ChId) (w : RingWin) (n : Nat) (head : Nat)
  /-- ENTRY_TAKE (R371). -/
  | entryTake (c : ChId) (w : RingWin) (n : Nat) (e : Fetched RingEntry)
  /-- COAL_TIME_EXPIRY (R370). -/
  | coalTimeExpiry (c : ChId) (w : RingWin) (n : Nat)
  /-- TEN_RING_CFG_WRITE (R366). -/
  | tenRingCfgWrite (c : ChId) (w : RingWin) (n : Nat) (a : Access)
  /-- TEN_EVQ_CFG_WRITE (R499). -/
  | tenEvqCfgWrite (w : EvqWin) (a : Access)
  /-- TEN_EVQ_CIDX_WRITE (R499). -/
  | tenEvqCidxWrite (w : EvqWin) (a : Access)
  /-- VECTOR_UNMASK (R381). -/
  | vectorUnmask (w : EvqWin) (v : Nat)
  /-- PCIE_CONFIG_WRITE (R361). -/
  | pcieConfigWrite (w : EvqWin) (x : ConfigSet)
  /-- SEC_CERT (R389). -/
  | secCert (c : ChId) (src : Src)
  /-- SEC_ATTEST (R404). -/
  | secAttest (c : ChId) (src : Src) (nonce : List Byte)
  /-- SEC_KEY_IMPORT (R396). -/
  | secKeyImport (c : ChId) (src : Src) (rec : Fetched (List Byte))
  /-- SEC_KEY_DESTROY (R398). -/
  | secKeyDestroy (c : ChId) (src : Src) (kind index : Nat)
  /-- SEC_PEER (R392). -/
  | secPeer (c : ChId) (src : Src) (eid : Nat) (remove : Bool) (chain : Fetched (List Byte)) (binding : Option (Fetched (List Byte)))
  /-- SEC_OWN (R390). -/
  | secOwn (c : ChId) (src : Src) (keySig : Fetched (List Byte))
  /-- SEC_CFG_WRITE (R391). -/
  | secCfgWrite (c : ChId) (src : Src) (rec : Fetched (List Byte)) (flashOk : Bool)
  /-- SEC_FW_STAGE (R407). -/
  | secFwStage (c : ChId) (src : Src) (img : Fetched (List Byte))
  /-- SEC_FW_COMMIT (R407). -/
  | secFwCommit (c : ChId) (src : Src) (raise : Bool)
  /-- FW_PROGRAM_DONE (R407). -/
  | fwProgramDone (c : ChId) (ok : Bool)
  /-- SEC_REC_GO (R408). -/
  | secRecGo (c : ChId) (a : Access) (img : Fetched (List Byte)) (flashOk : Bool)
  /-- SPDM_REQUEST (R403). -/
  | spdmRequest (req : SpdmReq)
  /-- TOTALS_DUE (R418). -/
  | totalsDue (c : ChId) (slot : Nat)
  /-- HELLO_DUE (R418). -/
  | helloDue (c : ChId)
  /-- CREDIT_PULSE (R419). -/
  | creditPulse (c : ChId)
  /-- METER_ABSENT (R428). -/
  | meterAbsent (c : ChId)
  /-- CREDITS_RESUMED (R430). -/
  | creditsResumed (c : ChId)
  /-- METER_TOTALS_FRAME (R420). -/
  | meterTotalsFrame (f : LinkFrame) (crcOk : Bool)
  /-- METER_HELLO_FRAME (R420). -/
  | meterHelloFrame (f : LinkFrame) (crcOk : Bool)
  /-- METER_SUPPLY_FRAME (R432). -/
  | meterSupplyFrame (f : LinkFrame) (crcOk : Bool)
  /-- METER_UNMETERED_FRAME (R422). -/
  | meterUnmeteredFrame (f : LinkFrame) (crcOk : Bool)
  /-- METER_CREDIT_TICK (R419). -/
  | meterCreditTick
  /-- METER_INTERVAL_BOUNDARY (R420). -/
  | meterIntervalBoundary
  /-- METER_LINK_GAP (R420). -/
  | meterLinkGap (c : ChId)
  /-- METER_INSERTED (R431). -/
  | meterInserted (m : NewMeter)
  /-- MTR_DRAIN_SEL_WRITE (R425). -/
  | mtrDrainSelWrite (a : Access)
  /-- MTR_DRAIN_ACK_WRITE (R425). -/
  | mtrDrainAckWrite (ctr : Nat)
  /-- MTR_REMOVE (R431). -/
  | mtrRemove
  /-- REL_EXPECT (R453). -/
  | relExpect (c : ChId) (src : Src) (eid : Nat) (remove : Bool) (digest : Nat)
  /-- REL_SHADOW (R449). -/
  | relShadow (c : ChId) (src : Src) (eid : Nat) (role : Nat) (sample ops : Nat)
  /-- REL_ISOLATE (R446). -/
  | relIsolate (c : ChId) (src : Src)
  /-- REL_INJECT (R458). -/
  | relInject (c : ChId) (src : Src) (addr : Nat) (kind : Nat) (count : Nat)
  /-- REL_MISMATCH_LIST (R458). -/
  | relMismatchList (c : ChId) (src : Src) (host max : Nat)
  /-- MIRROR_MESSAGE (R450). -/
  | mirrorMessage (c : ChId) (m : MirrorMsg)
  /-- SHADOW_STALL (R450). -/
  | shadowStall (c : ChId)
  /-- PEER_SILENT (R454). -/
  | peerSilent (c : ChId) (i : Nat)
  /-- PATROL_READ (R440). -/
  | patrolRead (c : ChId)
  /-- ROW_SPARE (R442). -/
  | rowSpare (c : ChId) (row : Nat) (flashOk : Bool)
  /-- LANE_SPARE (R443). -/
  | laneSpare (c : ChId) (pch : Nat) (lane : Nat) (flashOk : Bool)
  /-- SRAM_ERROR (R445). -/
  | sramError (c : ChId) (e : SramErr)
  /-- CONSISTENCY_CHECK_FAIL (R446). -/
  | consistencyCheckFail (c : ChId)
  /-- AUTO_WARM_EXPIRY (R447). -/
  | autoWarmExpiry (c : ChId)
  /-- BUS_WARNING (R464). -/
  | busWarning (vin : Nat)
  /-- WARNING_LEFT (R465). -/
  | warningLeft (vin low : Nat)
  /-- BUS_RESET_LEVEL (R466). -/
  | busResetLevel (vin : Nat)
  /-- RETENTION_RECOVERED (R466). -/
  | retentionRecovered (vin : Nat) (w0 w1 w2 w3 : WarmIn)
  /-- RETENTION_LOST (R466). -/
  | retentionLost (vin : Nat)
  /-- POWER_ON_RESET (R474). -/
  | powerOnReset (pufFails : List Nat)
  /-- INPUT_OVERVOLTAGE (R487). -/
  | inputOvervoltage
  /-- PLUG_MATE (R486). -/
  | plugMate
  /-- PLUG_BREAK (R486). -/
  | plugBreak
  /-- PACE_SAMPLE (R467). -/
  | paceSample (c : ChId) (p : PaceIn)
  /-- THERMAL_TRIP (R469). -/
  | thermalTrip (c : ChId) (ctl base : Nat)
  /-- CLOCK_SOURCE_FAIL (R472). -/
  | clockSourceFail (c : ChId) (source : Nat)
  /-- OSC_SETTLED (R470). -/
  | oscSettled (c : ChId)
  /-- CLK_SRC_WRITE (R471). -/
  | clkSrcWrite (c : ChId) (a : Access)
  /-- PWR_PACE_CLEAR (R467). -/
  | pwrPaceClear (c : ChId)
  /-- PWR_MOD_INPUT_READ (R462). -/
  | pwrModInputRead (half : Half)
  /-- PWR_REQ_C0 (R477). -/
  | pwrReqC0 (c : ChId)
  /-- PWR_REQ_C1 (R477). -/
  | pwrReqC1 (c : ChId)
  /-- PWR_REQ_C2 (R478). -/
  | pwrReqC2 (c : ChId)
  /-- C2_ENTRY_WAIT_END (R478). -/
  | c2EntryWaitEnd (c : ChId)
  /-- PWR_REQ_C3 (R479). -/
  | pwrReqC3 (c : ChId) (force : Bool)
  /-- PWR_REQ_WARM_RESET (R475). -/
  | pwrReqWarmReset (c : ChId)
  /-- PWR_REQ_COLD_RESET (R475). -/
  | pwrReqColdReset (c : ChId)
  /-- WARM_CHANNEL_RESET (R475). -/
  | warmChannelReset (c : ChId) (w : WarmIn)
  /-- COLD_CHANNEL_RESET (R475). -/
  | coldChannelReset (c : ChId) (pufOk : Bool)
  /-- MODULE_RESET (R475). -/
  | moduleReset (pufFails : List Nat)
  /-- CORE_RESET (R475). -/
  | coreReset (c : ChId) (core : Nat)
  /-- PORT_RESET (R475). -/
  | portReset (c : ChId) (port : Nat)
  /-- TENANT_RESET (R380). -/
  | tenantReset (c : ChId) (slot : Nat)
  /-- REF_CLOCK_READY (R470). -/
  | refClockReady (c : ChId)
  /-- FEC_DEGRADED_WINDOW (R303). -/
  | fecDegradedWindow (c : ChId) (port : Nat) (codewords corrected uncorrectable : Nat)
  /-- MOISTURE_SENSOR_CHANGE (R491). -/
  | moistureSensorChange (wet : Bool)
  deriving DecidableEq, Repr

end Sys2Proof
end

