-- ==== Sys2Proof/Machine/Crypto.lean ====
section
/-! DEFINITION. The published algorithms that the spec names: SHA-512 and SHA-512/256 (FIPS 180-4), HMAC and HKDF (RFC 2104, RFC 5869),
AES-256 and its Galois/Counter mode, CRC-32C, X25519 (RFC 7748) and Ed25519 (RFC 8032). -/
namespace Sys2Proof.Machine
open Sys2Proof

/-! ### SHA-512 -/

/-- The round constants of SHA-512, part 0. -/
def shaK0 : List Nat := [
  0x428A2F98D728AE22, 0x7137449123EF65CD, 0xB5C0FBCFEC4D3B2F, 0xE9B5DBA58189DBBC,
  0x3956C25BF348B538, 0x59F111F1B605D019, 0x923F82A4AF194F9B, 0xAB1C5ED5DA6D8118,
  0xD807AA98A3030242, 0x12835B0145706FBE, 0x243185BE4EE4B28C, 0x550C7DC3D5FFB4E2,
  0x72BE5D74F27B896F, 0x80DEB1FE3B1696B1, 0x9BDC06A725C71235, 0xC19BF174CF692694,
  0xE49B69C19EF14AD2, 0xEFBE4786384F25E3, 0x0FC19DC68B8CD5B5, 0x240CA1CC77AC9C65,
  0x2DE92C6F592B0275, 0x4A7484AA6EA6E483, 0x5CB0A9DCBD41FBD4, 0x76F988DA831153B5,
  0x983E5152EE66DFAB, 0xA831C66D2DB43210, 0xB00327C898FB213F, 0xBF597FC7BEEF0EE4,
  0xC6E00BF33DA88FC2, 0xD5A79147930AA725, 0x06CA6351E003826F, 0x142929670A0E6E70,
  0x27B70A8546D22FFC, 0x2E1B21385C26C926, 0x4D2C6DFC5AC42AED, 0x53380D139D95B3DF,
  0x650A73548BAF63DE, 0x766A0ABB3C77B2A8, 0x81C2C92E47EDAEE6, 0x92722C851482353B]

/-- The round constants of SHA-512, part 1. -/
def shaK1 : List Nat := [
  0xA2BFE8A14CF10364, 0xA81A664BBC423001, 0xC24B8B70D0F89791, 0xC76C51A30654BE30,
  0xD192E819D6EF5218, 0xD69906245565A910, 0xF40E35855771202A, 0x106AA07032BBD1B8,
  0x19A4C116B8D2D0C8, 0x1E376C085141AB53, 0x2748774CDF8EEB99, 0x34B0BCB5E19B48A8,
  0x391C0CB3C5C95A63, 0x4ED8AA4AE3418ACB, 0x5B9CCA4F7763E373, 0x682E6FF3D6B2B8A3,
  0x748F82EE5DEFB2FC, 0x78A5636F43172F60, 0x84C87814A1F0AB72, 0x8CC702081A6439EC,
  0x90BEFFFA23631E28, 0xA4506CEBDE82BDE9, 0xBEF9A3F7B2C67915, 0xC67178F2E372532B,
  0xCA273ECEEA26619C, 0xD186B8C721C0C207, 0xEADA7DD6CDE0EB1E, 0xF57D4F7FEE6ED178,
  0x06F067AA72176FBA, 0x0A637DC5A2C898A6, 0x113F9804BEF90DAE, 0x1B710B35131C471B,
  0x28DB77F523047D84, 0x32CAAB7B40C72493, 0x3C9EBE0A15C9BEBC, 0x431D67C49C100D4C,
  0x4CC5D4BECB3E42B6, 0x597F299CFC657E2A, 0x5FCB6FAB3AD6FAEC, 0x6C44198C4A475817]

/-- The round constants of SHA-512. -/
def shaK : List Nat := shaK0 ++ shaK1

/-- The initial hash value of SHA-512. -/
def shaInit : List Nat := [0x6A09E667F3BCC908, 0xBB67AE8584CAA73B, 0x3C6EF372FE94F82B, 0xA54FF53A5F1D36F1, 0x510E527FADE682D1, 0x9B05688C2B3E6C1F, 0x1F83D9ABFB41BD6B, 0x5BE0CD19137E2179]

/-- The initial hash value of SHA-512/256. -/
def sha256tInit : List Nat := [
  0x22312194FC2BF72C, 0x9F555FA3C84C64C2, 0x2393B86B6F53B151, 0x963877195940EABD,
  0x96283EE2A88EFFE3, 0xBE5E1E2553863992, 0x2B0199FC2C85B8AA, 0x0EB72DDC81C52CA2]

/-- Rotation right of a 64-bit word. -/
def ror64 (x n : Nat) : Nat := (x >>> n) ||| ((x <<< (64 - n)) % 2 ^ 64)

/-- The message schedule, newest word first, extended by `n` words. -/
def shaSchedule : Nat → List Nat → List Nat
  | 0, w => w
  | n + 1, w =>
    let w15 := w.getD 14 0
    let w2 := w.getD 1 0
    let s0 := ror64 w15 1 ^^^ ror64 w15 8 ^^^ (w15 >>> 7)
    let s1 := ror64 w2 19 ^^^ ror64 w2 61 ^^^ (w2 >>> 6)
    shaSchedule n ((s1 + w.getD 6 0 + s0 + w.getD 15 0) % 2 ^ 64 :: w)

/-- One round on the eight working variables. -/
def shaRound (v : List Nat) (kw : Nat × Nat) : List Nat :=
  match v with
  | [a, b, c, d, e, f, g, h] =>
    let s1 := ror64 e 14 ^^^ ror64 e 18 ^^^ ror64 e 41
    let ch := (e &&& f) ^^^ ((2 ^ 64 - 1 - e) &&& g)
    let t1 := h + s1 + ch + kw.1 + kw.2
    let s0 := ror64 a 28 ^^^ ror64 a 34 ^^^ ror64 a 39
    let mj := (a &&& b) ^^^ (a &&& c) ^^^ (b &&& c)
    [(t1 + s0 + mj) % 2 ^ 64, a, b, c, (d + t1) % 2 ^ 64, e, f, g]
  | _ => v

/-- A list cut into pieces of `k`. -/
def chunks {α : Type} (k : Nat) : Nat → List α → List (List α)
  | 0, _ => []
  | _ + 1, [] => []
  | n + 1, x :: t => (x :: t).take k :: chunks k n ((x :: t).drop k)

/-- The pieces of length `k` of a whole list. -/
def piecesOf {α : Type} (k : Nat) (l : List α) : List (List α) := chunks k l.length l

/-- One block of 128 bytes. -/
def shaBlock (h : List Nat) (b : List Byte) : List Nat :=
  let w := (shaSchedule 64 ((piecesOf 8 b).map beVal).reverse).reverse
  let v := (shaK.zip w).foldl shaRound h
  (h.zip v).map (fun e => (e.1 + e.2) % 2 ^ 64)

/-- The padded message. -/
def shaPad (m : List Byte) : List Byte :=
  m ++ [0x80] ++ List.replicate ((128 - (m.length + 17) % 128) % 128) 0 ++ beBytes 16 (8 * m.length)

/-- SHA-512, 64 bytes. -/
def sha512 (m : List Byte) : List Byte := (((piecesOf 128 (shaPad m)).foldl shaBlock shaInit).map (beBytes 8)).flatten

/-- SHA-512/256, 32 bytes. -/
def sha512t256 (m : List Byte) : List Byte :=
  ((((piecesOf 128 (shaPad m)).foldl shaBlock sha256tInit).map (beBytes 8)).flatten).take 32

/-! ### HMAC and HKDF with SHA-512 -/

/-- HMAC-SHA-512. -/
def hmac (key m : List Byte) : List Byte :=
  let k := if 128 < key.length then sha512 key else key
  let k := k ++ List.replicate (128 - k.length) 0
  sha512 (k.map (fun b => b ^^^ 0x5C) ++ sha512 (k.map (fun b => b ^^^ 0x36) ++ m))

/-- HKDF-Extract; an empty salt is 64 zero bytes. -/
def hkdfExtract (salt ikm : List Byte) : List Byte := hmac (if salt.isEmpty then List.replicate 64 0 else salt) ikm

/-- HKDF-Expand to at most 64 bytes. -/
def hkdfExpand (prk info : List Byte) (n : Nat) : List Byte := (hmac prk (info ++ [1])).take n

/-- The bytes of an ASCII string. -/
def ascii (s : String) : List Byte := s.toList.map (fun c => BitVec.ofNat 8 c.toNat)

/-! ### GF(2^8) and AES-256 -/

/-- Multiplication in GF(2)[x] modulo a polynomial of degree 8, by the bits of b from the lowest. -/
def gfMulAux (poly : Nat) : Nat → Nat → Nat → Nat
  | 0, _, _ => 0
  | n + 1, a, b =>
    (if b.testBit 0 then a else 0) ^^^
      gfMulAux poly n (let d := 2 * a; if d.testBit 8 then d ^^^ poly else d) (b / 2)

/-- Multiplication in GF(2^8) under a polynomial. -/
def gfMul (poly a b : Nat) : Nat := gfMulAux poly 8 a b

/-- The substitution table of AES, part 0. -/
def aesSbox0 : List Nat := [
  0x63, 0x7C, 0x77, 0x7B, 0xF2, 0x6B, 0x6F, 0xC5, 0x30, 0x01, 0x67, 0x2B, 0xFE, 0xD7, 0xAB, 0x76,
  0xCA, 0x82, 0xC9, 0x7D, 0xFA, 0x59, 0x47, 0xF0, 0xAD, 0xD4, 0xA2, 0xAF, 0x9C, 0xA4, 0x72, 0xC0,
  0xB7, 0xFD, 0x93, 0x26, 0x36, 0x3F, 0xF7, 0xCC, 0x34, 0xA5, 0xE5, 0xF1, 0x71, 0xD8, 0x31, 0x15,
  0x04, 0xC7, 0x23, 0xC3, 0x18, 0x96, 0x05, 0x9A, 0x07, 0x12, 0x80, 0xE2, 0xEB, 0x27, 0xB2, 0x75]

/-- The substitution table of AES, part 1. -/
def aesSbox1 : List Nat := [
  0x09, 0x83, 0x2C, 0x1A, 0x1B, 0x6E, 0x5A, 0xA0, 0x52, 0x3B, 0xD6, 0xB3, 0x29, 0xE3, 0x2F, 0x84,
  0x53, 0xD1, 0x00, 0xED, 0x20, 0xFC, 0xB1, 0x5B, 0x6A, 0xCB, 0xBE, 0x39, 0x4A, 0x4C, 0x58, 0xCF,
  0xD0, 0xEF, 0xAA, 0xFB, 0x43, 0x4D, 0x33, 0x85, 0x45, 0xF9, 0x02, 0x7F, 0x50, 0x3C, 0x9F, 0xA8,
  0x51, 0xA3, 0x40, 0x8F, 0x92, 0x9D, 0x38, 0xF5, 0xBC, 0xB6, 0xDA, 0x21, 0x10, 0xFF, 0xF3, 0xD2]

/-- The substitution table of AES, part 2. -/
def aesSbox2 : List Nat := [
  0xCD, 0x0C, 0x13, 0xEC, 0x5F, 0x97, 0x44, 0x17, 0xC4, 0xA7, 0x7E, 0x3D, 0x64, 0x5D, 0x19, 0x73,
  0x60, 0x81, 0x4F, 0xDC, 0x22, 0x2A, 0x90, 0x88, 0x46, 0xEE, 0xB8, 0x14, 0xDE, 0x5E, 0x0B, 0xDB,
  0xE0, 0x32, 0x3A, 0x0A, 0x49, 0x06, 0x24, 0x5C, 0xC2, 0xD3, 0xAC, 0x62, 0x91, 0x95, 0xE4, 0x79,
  0xE7, 0xC8, 0x37, 0x6D, 0x8D, 0xD5, 0x4E, 0xA9, 0x6C, 0x56, 0xF4, 0xEA, 0x65, 0x7A, 0xAE, 0x08]

/-- The substitution table of AES, part 3. -/
def aesSbox3 : List Nat := [
  0xBA, 0x78, 0x25, 0x2E, 0x1C, 0xA6, 0xB4, 0xC6, 0xE8, 0xDD, 0x74, 0x1F, 0x4B, 0xBD, 0x8B, 0x8A,
  0x70, 0x3E, 0xB5, 0x66, 0x48, 0x03, 0xF6, 0x0E, 0x61, 0x35, 0x57, 0xB9, 0x86, 0xC1, 0x1D, 0x9E,
  0xE1, 0xF8, 0x98, 0x11, 0x69, 0xD9, 0x8E, 0x94, 0x9B, 0x1E, 0x87, 0xE9, 0xCE, 0x55, 0x28, 0xDF,
  0x8C, 0xA1, 0x89, 0x0D, 0xBF, 0xE6, 0x42, 0x68, 0x41, 0x99, 0x2D, 0x0F, 0xB0, 0x54, 0xBB, 0x16]

/-- The substitution table of AES. -/
def aesSbox : List Nat := aesSbox0 ++ aesSbox1 ++ aesSbox2 ++ aesSbox3

/-- SubBytes of one byte. -/
def subByte (b : Byte) : Byte := BitVec.ofNat 8 (aesSbox.getD b.toNat 0)

/-- Bytewise exclusive or. -/
def xorBytes (a b : List Byte) : List Byte := List.zipWith (fun x y => x ^^^ y) a b

/-- The key schedule of AES-256 in 4-byte words, newest first, extended by `n` words; `i` is the index of the next word. -/
def aesExpand : Nat → Nat → Nat → List (List Byte) → List (List Byte)
  | 0, _, _, w => w
  | n + 1, i, rcon, w =>
    let t := w.getD 0 []
    let t' := if i % 8 = 0 then xorBytes ((t.drop 1 ++ t.take 1).map subByte) [BitVec.ofNat 8 rcon, 0, 0, 0]
              else if i % 8 = 4 then t.map subByte else t
    aesExpand n (i + 1) (if i % 8 = 0 then gfMul 0x11B rcon 2 else rcon) (xorBytes (w.getD 7 []) t' :: w)

/-- The fifteen round keys of AES-256. -/
def aesKeys (key : List Byte) : List (List Byte) :=
  (piecesOf 4 (aesExpand 52 8 1 (piecesOf 4 key).reverse).reverse).map List.flatten

/-- ShiftRows on a 16-byte column-major state. -/
def shiftRows (s : List Byte) : List Byte := (List.range 16).map (fun i => s.getD ((i + 4 * (i % 4)) % 16) 0)

/-- MixColumns of one column. -/
def mixColumn (c : List Byte) : List Byte :=
  let g (k i : Nat) : Byte := BitVec.ofNat 8 (gfMul 0x11B ((c.getD (i % 4) 0).toNat) k)
  (List.range 4).map (fun i => g 2 i ^^^ g 3 (i + 1) ^^^ g 1 (i + 2) ^^^ g 1 (i + 3))

/-- The rounds after the first key addition: every round but the last mixes columns. -/
def aesRounds : List (List Byte) → List Byte → List Byte
  | [], s => s
  | [k], s => xorBytes (shiftRows (s.map subByte)) k
  | k :: t, s => aesRounds t (xorBytes ((piecesOf 4 (shiftRows (s.map subByte))).map mixColumn).flatten k)

/-- AES-256 encryption of one block under an expanded key. -/
def aesBlock (keys : List (List Byte)) (s : List Byte) : List Byte :=
  aesRounds (keys.drop 1) (xorBytes s (keys.getD 0 []))

/-! ### Galois/Counter mode -/

/-- Multiplication in GF(2^128) of GCM, whose bit 0 is the leftmost. -/
def ghashMul : Nat → Nat → Nat → Nat → Nat
  | 0, _, _, z => z
  | n + 1, x, v, z =>
    ghashMul n x (if v.testBit 0 then (v / 2) ^^^ (0xE1 * 2 ^ 120) else v / 2) (if x.testBit n then z ^^^ v else z)

/-- Bytes padded with zeros to whole blocks. -/
def padBlock (l : List Byte) : List Byte := l ++ List.replicate ((16 - l.length % 16) % 16) 0

/-- GHASH of whole blocks under the hash subkey. -/
def ghash (h : Nat) (l : List Byte) : Nat := (piecesOf 16 l).foldl (fun y b => ghashMul 128 (y ^^^ beVal b) h 0) 0

/-- The counter block of a 96-bit IV. -/
def gcmCounter (iv : List Byte) (n : Nat) : List Byte := iv ++ beBytes 4 n

/-- CTR encryption of the text from counter 2. -/
def gcmCtr (keys : List (List Byte)) (iv text : List Byte) : List Byte :=
  ((piecesOf 16 text).zipIdx.map (fun e => xorBytes e.1 (aesBlock keys (gcmCounter iv (e.2 + 2))))).flatten

/-- The tag over additional data and ciphertext. -/
def gcmTag (keys : List (List Byte)) (iv aad ct : List Byte) : List Byte :=
  let h := beVal (aesBlock keys (List.replicate 16 0))
  let s := ghash h (padBlock aad ++ padBlock ct ++ beBytes 8 (8 * aad.length) ++ beBytes 8 (8 * ct.length))
  xorBytes (beBytes 16 s) (aesBlock keys (gcmCounter iv 1))

/-- AES-256-GCM sealing: ciphertext and tag. -/
def gcmSeal (key iv aad text : List Byte) : List Byte × List Byte :=
  let keys := aesKeys key
  let ct := gcmCtr keys iv text
  (ct, gcmTag keys iv aad ct)

/-- AES-256-GCM opening: the plaintext where the tag verifies. -/
def gcmOpen (key iv aad ct tag : List Byte) : Option (List Byte) :=
  let keys := aesKeys key
  if gcmTag keys iv aad ct = tag then some (gcmCtr keys iv ct) else none

/-! ### CRC-32C -/

/-- One bit of the reflected CRC-32C. -/
def crcBits : Nat → Nat → Nat
  | 0, c => c
  | n + 1, c => crcBits n (if c.testBit 0 then (c / 2) ^^^ 0x82F63B78 else c / 2)

/-- CRC-32C (Castagnoli) of bytes. -/
def crc32c (l : List Byte) : Nat := (l.foldl (fun c b => crcBits 8 (c ^^^ b.toNat)) 0xFFFFFFFF) ^^^ 0xFFFFFFFF

/-! ### The field modulo 2^255 - 19, X25519 and Ed25519 -/

/-- The prime of the curve. -/
def curveP : Nat := 2 ^ 255 - 19

/-- The order of the base point. -/
def curveL : Nat := 2 ^ 252 + 27742317777372353535851937790883648493

/-- Modular exponentiation by the low `n` bits of the exponent. -/
def powMod (m : Nat) : Nat → Nat → Nat → Nat
  | 0, _, _ => 1 % m
  | n + 1, b, e => (if e.testBit 0 then b else 1) * powMod m n (b * b % m) (e / 2) % m

/-- The inverse in the field. -/
def fieldInv (a : Nat) : Nat := powMod curveP 255 a (curveP - 2)

/-- Subtraction in the field. -/
def fieldSub (a b : Nat) : Nat := (a + curveP - b % curveP) % curveP

/-- One step of the Montgomery ladder on (x2, z2, x3, z3). -/
def ladderStep (u : Nat) (x2 z2 x3 z3 : Nat) : Nat × Nat × Nat × Nat :=
  let a := (x2 + z2) % curveP
  let b := fieldSub x2 z2
  let aa := a * a % curveP
  let bb := b * b % curveP
  let e := fieldSub aa bb
  let da := fieldSub x3 z3 * a % curveP
  let cb := (x3 + z3) * b % curveP
  let s := (da + cb) % curveP
  let d := fieldSub da cb
  (aa * bb % curveP, e * (aa + 121665 * e) % curveP, s * s % curveP, u * (d * d % curveP) % curveP)

/-- The ladder over bits n-1 to 0 of the scalar. -/
def ladder (k u : Nat) : Nat → Nat × Nat × Nat × Nat → Nat × Nat × Nat × Nat
  | 0, q => q
  | n + 1, (x2, z2, x3, z3) =>
    if k.testBit n then
      let (a, b, c, d) := ladderStep u x3 z3 x2 z2
      ladder k u n (c, d, a, b)
    else ladder k u n (ladderStep u x2 z2 x3 z3)

/-- The clamped scalar of 32 bytes (RFC 7748, RFC 8032). -/
def clamp (l : List Byte) : Nat := setBits (setBits (leVal l % 2 ^ 256) 2 0 0) 255 254 1

/-- X25519 of a private key and a public u-coordinate. -/
def x25519 (priv pub : List Byte) : List Byte :=
  let u := leVal pub % 2 ^ 255 % curveP
  let (x, z, _, _) := ladder (clamp priv) u 255 (1, 0, u, 1)
  leBytes 32 (x * fieldInv z % curveP)

/-- The X25519 public key of a private one. -/
def x25519Public (priv : List Byte) : List Byte := x25519 priv (leBytes 32 9)

/-- The constant d of the Edwards curve. -/
def edD : Nat := fieldSub 0 (121665 * fieldInv 121666)

/-- A point in extended coordinates. -/
structure EdPoint where
  x : Nat
  y : Nat
  z : Nat
  t : Nat
  deriving DecidableEq, Repr

/-- The neutral point. -/
def EdPoint.zero : EdPoint := ⟨0, 1, 1, 0⟩

/-- Point addition. -/
def EdPoint.add (p q : EdPoint) : EdPoint :=
  let a := fieldSub p.y p.x * fieldSub q.y q.x % curveP
  let b := (p.y + p.x) * (q.y + q.x) % curveP
  let c := 2 * p.t * q.t % curveP * edD % curveP
  let d := 2 * p.z * q.z % curveP
  let e := fieldSub b a
  let f := fieldSub d c
  let g := (d + c) % curveP
  let h := (b + a) % curveP
  ⟨e * f % curveP, g * h % curveP, f * g % curveP, e * h % curveP⟩

/-- The multiple of a point by the low `n` bits of k. -/
def EdPoint.mul : Nat → Nat → EdPoint → EdPoint
  | 0, _, _ => EdPoint.zero
  | n + 1, k, p =>
    let r := EdPoint.mul n (k / 2) (p.add p)
    if k.testBit 0 then p.add r else r

/-- The encoding of a point. -/
def EdPoint.encode (p : EdPoint) : List Byte :=
  let zi := fieldInv p.z
  let x := p.x * zi % curveP
  let y := p.y * zi % curveP
  leBytes 32 (y + (x % 2) * 2 ^ 255)

/-- The point with an encoding, where there is one. -/
def edDecode (l : List Byte) : Option EdPoint :=
  let v := leVal l
  let y := v % 2 ^ 255
  let sign := v / 2 ^ 255 % 2
  let y2 := y * y % curveP
  let u := fieldSub y2 1
  let w := (edD * y2 + 1) % curveP
  let r := u * powMod curveP 255 w 3 % curveP * powMod curveP 255 (u * powMod curveP 255 w 7 % curveP) ((curveP - 5) / 8) % curveP
  let r' := if w * (r * r % curveP) % curveP = u then some r
            else if w * (r * r % curveP) % curveP = fieldSub 0 u then some (r * powMod curveP 255 2 ((curveP - 1) / 4) % curveP)
            else none
  if l.length ≠ 32 ∨ curveP ≤ y then none
  else match r' with
    | none => none
    | some x =>
      if x = 0 ∧ sign = 1 then none
      else
        let x := if x % 2 = sign then x else curveP - x
        some ⟨x, y, 1, x * y % curveP⟩

/-- The base point. -/
def edBase : EdPoint :=
  (edDecode (leBytes 32 (4 * fieldInv 5 % curveP))).getD EdPoint.zero

/-- The Ed25519 public key of a 32-byte seed. -/
def edPublic (seed : List Byte) : List Byte := (EdPoint.mul 256 (clamp ((sha512 seed).take 32)) edBase).encode

/-- The Ed25519 signature of a message under a seed. -/
def edSign (seed m : List Byte) : List Byte :=
  let h := sha512 seed
  let a := clamp (h.take 32)
  let pub := (EdPoint.mul 256 a edBase).encode
  let r := leVal (sha512 (h.drop 32 ++ m)) % curveL
  let rEnc := (EdPoint.mul 256 r edBase).encode
  let k := leVal (sha512 (rEnc ++ pub ++ m)) % curveL
  rEnc ++ leBytes 32 ((r + k * a) % curveL)

/-- Does an Ed25519 signature verify? -/
def edVerify (pub m sig : List Byte) : Bool :=
  match edDecode pub, edDecode (sig.take 32) with
  | some a, some r =>
    let s := leVal (sig.drop 32)
    let k := leVal (sha512 (sig.take 32 ++ pub ++ m)) % curveL
    decide (sig.length = 64 ∧ s < curveL ∧ (EdPoint.mul 256 s edBase).encode = (r.add (EdPoint.mul 256 k a)).encode)
  | _, _ => false

/-- A signature of R385: Ed25519 over the SHA-512 digest of the bytes it covers. -/
def signs (pub covered sig : List Byte) : Bool := edVerify pub (sha512 covered) sig

/-- The signature of R385 made with a seed. -/
def signWith (seed covered : List Byte) : List Byte := edSign seed (sha512 covered)

end Sys2Proof.Machine
end

