-- ==== Sys2Proof/Config.lean ====
section
/-! DEFINITION. What the spec leaves open: the free values of the model, constants with no body. Nothing in Lean can evaluate one or prove a
value of it, so a claim holds whatever it is. -/
namespace Sys2Proof.Config

/-- The n-th value that channel c draws where the spec names no value: a random key, stream number or nonce, or a choice among several
that the spec leaves to the channel. -/
opaque free (c n : Nat) : Nat

/-- The local time in ns that passes while the block idles for the n-th time on channel c. -/
opaque elapsed (c n : Nat) : Nat

/-- The exponential of the attention arithmetic on FP32 codes, where the spec does not fix it bit for bit. -/
opaque fp32Exp (x : Nat) : Nat

/-- The hyperbolic tangent of the attention arithmetic on FP32 codes, where the spec does not fix it bit for bit. -/
opaque fp32Tanh (x : Nat) : Nat

/-- The FP32 value of a stored element whose code or FP16 scale encodes a NaN or an infinity, by FORMAT, element code and scale: no stage of the
channel produces such a code (R113), and the spec states no value for one that an import or a program brings in. Under FORMAT 16 it stands for the logit scale of a
query row whose row scale is a NaN (R167). -/
opaque nanElement (fmt code scale : Nat) : Nat

/-- The device seed that channel c's SRAM PUF gives (R385), 32 bytes. -/
opaque deviceSeed (c : Nat) : List Byte

/-- The module serial number of the certificates (R388). -/
opaque moduleSerial : Nat

/-- The stored device CA and channel device certificates of channel c, 512 bytes (R389). -/
opaque deviceCerts (c : Nat) : List Byte

/-- SHA-512 of the Vexenaub root key's certificate, held in the mask ROM (R384, R389). -/
opaque rootDigest : List Byte

/-- The Vexenaub firmware key, program key and root certificate's SUBJECT_KEY (R384, R389): Ed25519 public keys. -/
opaque firmwareKey : List Byte

/-- The Vexenaub program key (R24). -/
opaque programKey : List Byte

/-- The root certificate's SUBJECT_KEY (R389). -/
opaque rootKey : List Byte

/-- ROLE_DIGEST of the role program that a firmware image holds for a role (R27, R404), by FW_DIGEST and ROLE. -/
opaque bootRoleDigest (fwDigest : List Byte) (role : Nat) : List Byte

/-- The KEY_ID of the Vexenaub program key in a program image (R211). -/
opaque programKeyId : Nat

/-- The Ed25519 seed of the meter with a given serial number (R423), 32 bytes. -/
opaque meterSeed (serial : Nat) : List Byte

/-- The certificate of the meter with a given serial number (R424), 256 bytes. -/
opaque meterCert (serial : Nat) : List Byte

end Sys2Proof.Config
end

