-- ==== Sys2Proof/Machine/Events.lean ====
section
/-! DEFINITION. The event codes (R61) with the severity each has, whether its definition marks it tenant-visible, and whether it has a SUBJECT,
as the event tables of the spec list them. -/
namespace Sys2Proof.Machine

/-- An event code of the tables: its severity, whether it is tenant-visible, and whether SUBJECT holds something. -/
structure EventDef where
  code : Nat
  sev : Nat
  visible : Bool
  subject : Bool
  deriving DecidableEq, Repr

/-- The events of the block with prefix CHN. -/
def chnEvents : List EventDef := [
  ⟨0x0001, 1, false, true⟩,
  ⟨0x0002, 0, true, true⟩,
  ⟨0x0003, 0, false, true⟩,
  ⟨0x0004, 2, false, true⟩,
  ⟨0x0005, 0, false, true⟩]

/-- The events of the block with prefix CTX. -/
def ctxEvents : List EventDef := [
  ⟨0x1001, 1, false, true⟩,
  ⟨0x1002, 1, false, true⟩,
  ⟨0x1003, 1, true, true⟩,
  ⟨0x1004, 2, true, true⟩,
  ⟨0x1005, 1, false, false⟩,
  ⟨0x1006, 1, true, true⟩,
  ⟨0x1007, 0, false, true⟩,
  ⟨0x1008, 3, false, true⟩,
  ⟨0x1009, 2, false, true⟩]

/-- The events of the block with prefix PG. -/
def pgEvents : List EventDef := [
  ⟨0x2001, 1, true, true⟩,
  ⟨0x2002, 1, true, true⟩,
  ⟨0x2003, 1, false, false⟩,
  ⟨0x2004, 2, false, true⟩,
  ⟨0x2005, 0, true, true⟩,
  ⟨0x2006, 2, false, true⟩,
  ⟨0x2007, 2, false, true⟩]

/-- The events of the block with prefix HO. -/
def hoEvents : List EventDef := [
  ⟨0x3001, 0, true, true⟩,
  ⟨0x3002, 0, true, true⟩,
  ⟨0x3003, 1, true, true⟩,
  ⟨0x3004, 1, false, true⟩,
  ⟨0x3005, 2, false, true⟩,
  ⟨0x3006, 2, true, true⟩,
  ⟨0x3007, 1, false, true⟩,
  ⟨0x3008, 2, true, true⟩,
  ⟨0x3009, 2, true, true⟩,
  ⟨0x300A, 2, false, true⟩,
  ⟨0x300B, 1, false, true⟩,
  ⟨0x300C, 0, true, true⟩,
  ⟨0x300D, 2, false, true⟩,
  ⟨0x300E, 2, false, true⟩]

/-- The events of the block with prefix CRU. -/
def cruEvents : List EventDef := [
  ⟨0x4001, 1, true, true⟩,
  ⟨0x4002, 2, true, true⟩,
  ⟨0x4003, 1, true, true⟩,
  ⟨0x4004, 1, true, true⟩,
  ⟨0x4005, 2, false, true⟩,
  ⟨0x4006, 1, false, true⟩,
  ⟨0x4007, 2, false, true⟩,
  ⟨0x4008, 2, false, true⟩,
  ⟨0x4009, 0, true, true⟩]

/-- The events of the block with prefix SPC. -/
def spcEvents : List EventDef := [
  ⟨0x5001, 1, true, true⟩,
  ⟨0x5002, 1, true, true⟩,
  ⟨0x5003, 0, true, true⟩,
  ⟨0x5004, 2, true, true⟩,
  ⟨0x5005, 0, true, true⟩]

/-- The events of the block with prefix GAF. -/
def gafEvents : List EventDef := [
  ⟨0x6001, 0, true, true⟩,
  ⟨0x6002, 1, true, false⟩,
  ⟨0x6003, 2, true, true⟩,
  ⟨0x6004, 0, false, true⟩,
  ⟨0x6005, 1, false, true⟩,
  ⟨0x6006, 1, true, true⟩,
  ⟨0x6007, 2, false, true⟩,
  ⟨0x6008, 3, true, true⟩,
  ⟨0x6009, 0, true, true⟩,
  ⟨0x600A, 1, false, true⟩]

/-- The events of the block with prefix FAB. -/
def fabEvents : List EventDef := [
  ⟨0x7001, 2, false, true⟩,
  ⟨0x7002, 0, false, true⟩,
  ⟨0x7003, 1, false, true⟩,
  ⟨0x7004, 2, false, true⟩,
  ⟨0x7005, 2, true, true⟩,
  ⟨0x7006, 0, true, true⟩,
  ⟨0x7007, 1, true, true⟩,
  ⟨0x7008, 2, false, true⟩,
  ⟨0x7009, 1, false, true⟩,
  ⟨0x700A, 1, false, true⟩,
  ⟨0x700B, 1, false, true⟩,
  ⟨0x700C, 0, false, true⟩]

/-- The events of the block with prefix TM. -/
def tmEvents : List EventDef := [
  ⟨0x8001, 1, true, true⟩,
  ⟨0x8002, 2, false, true⟩,
  ⟨0x8003, 1, false, false⟩,
  ⟨0x8004, 1, false, true⟩,
  ⟨0x8005, 1, false, true⟩]

/-- The events of the block with prefix PFX. -/
def pfxEvents : List EventDef := [
  ⟨0x9001, 2, false, true⟩,
  ⟨0x9002, 0, false, true⟩,
  ⟨0x9003, 1, true, true⟩,
  ⟨0x9004, 2, false, true⟩]

/-- The events of the block with prefix TIER. -/
def tierEvents : List EventDef := [
  ⟨0xA001, 2, true, true⟩,
  ⟨0xA002, 0, false, true⟩,
  ⟨0xA003, 1, true, true⟩,
  ⟨0xA004, 1, false, true⟩,
  ⟨0xA005, 2, false, true⟩,
  ⟨0xA006, 0, true, true⟩,
  ⟨0xA007, 2, true, true⟩,
  ⟨0xA008, 0, false, true⟩,
  ⟨0xA009, 1, false, false⟩]

/-- The events of the block with prefix TEN. -/
def tenEvents : List EventDef := [
  ⟨0xB001, 2, true, true⟩,
  ⟨0xB002, 2, true, true⟩,
  ⟨0xB003, 1, false, true⟩,
  ⟨0xB004, 0, false, true⟩]

/-- The events of the block with prefix SEC. -/
def secEvents : List EventDef := [
  ⟨0xC001, 0, false, true⟩,
  ⟨0xC002, 1, false, true⟩,
  ⟨0xC003, 2, false, false⟩,
  ⟨0xC004, 0, true, true⟩,
  ⟨0xC005, 2, true, true⟩,
  ⟨0xC006, 1, true, true⟩,
  ⟨0xC007, 1, false, true⟩,
  ⟨0xC008, 1, true, true⟩,
  ⟨0xC009, 1, false, true⟩]

/-- The events of the block with prefix MTR. -/
def mtrEvents : List EventDef := [
  ⟨0xD001, 2, false, false⟩,
  ⟨0xD002, 0, false, true⟩,
  ⟨0xD003, 1, true, true⟩,
  ⟨0xD004, 1, true, true⟩,
  ⟨0xD005, 0, true, true⟩,
  ⟨0xD010, 1, false, false⟩,
  ⟨0xD011, 0, false, false⟩]

/-- The events of the block with prefix REL. -/
def relEvents : List EventDef := [
  ⟨0xE001, 1, false, true⟩,
  ⟨0xE002, 0, false, true⟩,
  ⟨0xE003, 0, false, true⟩,
  ⟨0xE004, 1, false, true⟩,
  ⟨0xE005, 2, false, true⟩,
  ⟨0xE006, 1, false, true⟩,
  ⟨0xE007, 3, false, true⟩,
  ⟨0xE008, 0, false, false⟩,
  ⟨0xE009, 2, false, true⟩,
  ⟨0xE00A, 2, false, false⟩,
  ⟨0xE00B, 2, false, true⟩,
  ⟨0xE00C, 0, false, true⟩,
  ⟨0xE00D, 3, false, true⟩,
  ⟨0xE00E, 1, false, true⟩]

/-- The events of the block with prefix PWR. -/
def pwrEvents : List EventDef := [
  ⟨0xF001, 1, false, false⟩,
  ⟨0xF002, 0, false, false⟩,
  ⟨0xF003, 3, false, false⟩,
  ⟨0xF004, 1, false, true⟩,
  ⟨0xF005, 0, false, true⟩,
  ⟨0xF006, 2, false, true⟩,
  ⟨0xF007, 1, false, true⟩,
  ⟨0xF008, 3, false, true⟩,
  ⟨0xF009, 2, false, true⟩,
  ⟨0xF00A, 1, false, true⟩,
  ⟨0xF00B, 0, false, true⟩,
  ⟨0xF00C, 1, false, true⟩]

/-- Every event code. -/
def eventDefs : List EventDef :=
  chnEvents ++ ctxEvents ++ pgEvents ++ hoEvents ++ cruEvents ++ spcEvents ++ gafEvents ++ fabEvents ++ tmEvents ++ pfxEvents ++ tierEvents ++ tenEvents ++ secEvents ++ mtrEvents ++ relEvents ++ pwrEvents

/-- The definition of a code. -/
def eventDef (code : Nat) : EventDef := (eventDefs.find? (fun e => decide (e.code = code))).getD ⟨code, 0, false, true⟩

end Sys2Proof.Machine
end

