-- ==== Sys2Proof/Machine/Maps.lean ====
section
/-! DEFINITION. Sparse data by key, in one canonical form: keys strictly rising, and no entry equal to the value that an
unlisted key reads as. Memories, register files, tables and timers are all held so, and so two equal tables are equal data. -/
namespace Sys2Proof.Machine

/-- A list with `x` put before the first entry that it may stand before. -/
def insertBy {α : Type} (le : α → α → Bool) (x : α) : List α → List α
  | [] => [x]
  | y :: t => if le x y then x :: y :: t else y :: insertBy le x t

/-- A list in ascending order. -/
def sortBy {α : Type} (le : α → α → Bool) (l : List α) : List α := l.foldr (insertBy le) []

/-- A sparse table keyed by a number. -/
abbrev AMap (β : Type) := List (Nat × β)

/-- The entry of key `k`, where one is listed. -/
def AMap.find {β : Type} (m : AMap β) (k : Nat) : Option β :=
  match m with
  | [] => none
  | (j, v) :: t => if j = k then some v else AMap.find t k

/-- What key `k` reads as, an unlisted key reading as `d`. -/
def AMap.getD {β : Type} (m : AMap β) (k : Nat) (d : β) : β := (AMap.find m k).getD d

/-- The table with key `k` listed as `v`. -/
def AMap.put {β : Type} (m : AMap β) (k : Nat) (v : β) : AMap β :=
  match m with
  | [] => [(k, v)]
  | (j, w) :: t =>
    if k < j then (k, v) :: (j, w) :: t
    else if k = j then (k, v) :: t
    else (j, w) :: AMap.put t k v

/-- The table with key `k` unlisted. -/
def AMap.del {β : Type} (m : AMap β) (k : Nat) : AMap β := List.filter (fun e => e.1 != k) m

/-- The table with key `k` reading as `v`, where an unlisted key reads as `d`. -/
def AMap.set {β : Type} [DecidableEq β] (m : AMap β) (d : β) (k : Nat) (v : β) : AMap β :=
  if v = d then AMap.del m k else AMap.put m k v

/-- Keys strictly rising. -/
def AMap.rising {β : Type} : AMap β → Bool
  | [] => true
  | [_] => true
  | (i, _) :: (j, w) :: t => decide (i < j) && AMap.rising ((j, w) :: t)

/-- The canonical form: keys strictly rising, and no entry equal to the default. -/
def AMap.wf {β : Type} [DecidableEq β] (m : AMap β) (d : β) : Bool :=
  AMap.rising m && List.all m (fun e => decide (e.2 ≠ d))

/-- The keys whose entry meets `p`, lowest first. -/
def AMap.keysWhere {β : Type} (m : AMap β) (p : Nat → β → Bool) : List Nat :=
  List.map (fun e => e.1) (List.filter (fun e => p e.1 e.2) m)

/-- Is there an entry that meets `p`? -/
def AMap.anyOf {β : Type} (m : AMap β) (p : Nat → β → Bool) : Bool := List.any m (fun e => p e.1 e.2)

/-- Every entry replaced by its image. -/
def AMap.mapVals {β γ : Type} (m : AMap β) (f : Nat → β → γ) : AMap γ := List.map (fun e => (e.1, f e.1 e.2)) m

/-- The entries that meet `p`. -/
def AMap.keep {β : Type} (m : AMap β) (p : Nat → β → Bool) : AMap β := List.filter (fun e => p e.1 e.2) m

/-- The listed entry of key `k` changed by `f`; no change where none is listed. -/
def AMap.modify {β : Type} (m : AMap β) (k : Nat) (f : β → β) : AMap β :=
  match AMap.find m k with
  | none => m
  | some v => AMap.put m k (f v)

/-- Bytes of memory at rising addresses; an address that nothing has written reads as zero. -/
abbrev Memory := List Host.Cell

end Sys2Proof.Machine
end

