-- ==== Sys2Proof/Machine/Regs.lean ====
section
/-! DEFINITION. The register map (R16 to R21, R50 to R54): every register of the channel window, of a VF window and of PF0, with
its offset, its fields, their access types, reset values and what they survive, as the register tables of the spec give them. -/
namespace Sys2Proof.Machine

/-- The function that owns an RWL field (R17). -/
inductive LockOwner where
  | role | allPorts | port | sched | slot | segment | allSegments
  deriving DecidableEq, Repr

/-- The access types of R17. -/
inductive AccessType where
  | ro | rw | w1c | wo
  | rwl (o : LockOwner)
  deriving DecidableEq, Repr

/-- The reset values of R20. -/
inductive ResetValue where
  | lit (v : Nat)
  | cr | strap | hw
  deriving DecidableEq, Repr

/-- A field: its bits, access type, reset value, and whether it survives a tenant reset, a warm channel reset, C2 and a port reset (R21). -/
structure FieldDesc where
  hi : Nat
  lo : Nat
  acc : AccessType
  rst : ResetValue
  ten : Bool
  warm : Bool
  c2 : Bool
  port : Bool
  deriving DecidableEq, Repr

/-- A register: its name, the offset of its first element, its array dimensions (stride and count), and its fields. -/
structure RegDesc where
  name : String
  base : Nat
  dims : List (Nat × Nat)
  fields : List FieldDesc
  deriving DecidableEq, Repr

/-! ### Offsets by name -/

namespace Reg

/-- HUB_ID, PF0 (R54): [63:48] VENDOR; [47:40] VARIANT; [39:32] STEPPING. -/
def HUB_ID : Nat := 0x0

/-- HUB_LINK, PF0 (R54): [31:16] DOWN_CNT; [3:0] UP. -/
def HUB_LINK : Nat := 0x1000

/-- CHN_ID, channel window (R54): [63:48] VENDOR; [47:40] VARIANT; [39:32] STEPPING; [1:0] CHANNEL. -/
def CHN_ID : Nat := 0x0

/-- CHN_EID, channel window (R54): [63] VALID; [17:0] EID. -/
def CHN_EID : Nat := 0x8

/-- CHN_FN_STATE, channel window (R55): [39:16] BAD_REG; [15:8] RESULT; [7:4] CMD; [2:0] STATE. -/
def CHN_FN_STATE (i : Nat) : Nat := 0x1000 + 0x8 * i

/-- CHN_CFG_EPOCH, channel window (R55): [31:0] EPOCH. -/
def CHN_CFG_EPOCH : Nat := 0x10

/-- CHN_EVT_DROP, channel window (R55): [31:0] DROPPED. -/
def CHN_EVT_DROP : Nat := 0x18

/-- CTX_TBL_STATUS, channel window (R91): [63] READY; [46:32] FREE; [30:16] TOMBSTONES; [14:0] ACTIVE. -/
def CTX_TBL_STATUS : Nat := 0x100000

/-- CTX_STALE_CNT, channel window (R91): [63:32] MISROUTED; [31:0] STALE. -/
def CTX_STALE_CNT : Nat := 0x100010

/-- CTX_EVENT_CNT, channel window (R91): [63:32] OVERRUNS; [31:0] FAULTS. -/
def CTX_EVENT_CNT : Nat := 0x100018

/-- CTX_JRNL_CFG, channel window (R91): [39:32] SNAP_TIME; [19:0] SNAP_RECORDS. -/
def CTX_JRNL_CFG : Nat := 0x100020

/-- CTX_JRNL_BASE, channel window (R91): [39:21] BASE. -/
def CTX_JRNL_BASE : Nat := 0x100028

/-- CTX_JRNL_STATUS, channel window (R91): [63] DEGRADED; [19:0] SINCE_SNAP. -/
def CTX_JRNL_STATUS : Nat := 0x100030

/-- CTX_JRNL_SEQ, channel window (R91): [63:0] JSEQ. -/
def CTX_JRNL_SEQ : Nat := 0x100038

/-- CTX_STATE_CNT, channel window (R91): [14:0] COUNT. -/
def CTX_STATE_CNT (i : Nat) : Nat := 0x100100 + 0x8 * i

/-- CTX_TEN_LIMIT, channel window (R91): [46:32] MAX; [14:0] IN_USE. -/
def CTX_TEN_LIMIT (i : Nat) : Nat := 0x100200 + 0x8 * i

/-- CTX_PEEK_SEL, channel window (R91): [13:0] SLOT. -/
def CTX_PEEK_SEL : Nat := 0x100300

/-- CTX_PEEK_DATA, channel window (R91): [63:0] DATA. -/
def CTX_PEEK_DATA (i : Nat) : Nat := 0x100308 + 0x8 * i

/-- PG_POOL_STATUS, channel window (R124): [63:32] FREE_GRAN; [31:0] CULLET_GRAN. -/
def PG_POOL_STATUS : Nat := 0x200000

/-- PG_POOL_CFG, channel window (R124): [31:0] LOW_WATER. -/
def PG_POOL_CFG : Nat := 0x200008

/-- PG_SLABS, channel window (R124): [49:32] TOTAL; [17:0] UNASSIGNED. -/
def PG_SLABS : Nat := 0x200010

/-- PG_RESERVE, channel window (R124): [47:32] FRAG_GIB; [15:0] PGT_POOL_MIB. -/
def PG_RESERVE : Nat := 0x200018

/-- PG_MAP_BASE, channel window (R124): [39:21] BASE. -/
def PG_MAP_BASE : Nat := 0x200020

/-- PG_MARVER_CNT, channel window (R124): [63:32] NONFINITE; [31:0] SATURATED. -/
def PG_MARVER_CNT : Nat := 0x200028

/-- PG_REFUSE_CNT, channel window (R124): [63:48] WINDOW; [47:32] STATE; [31:16] SHAPE; [15:0] NOFRAME. -/
def PG_REFUSE_CNT : Nat := 0x200030

/-- PG_DISCARD_CNT, channel window (R124): [31:0] TOKENS. -/
def PG_DISCARD_CNT : Nat := 0x200038

/-- PG_PROF_GEOM, channel window (R124): [63] VALID; [55:47] LAYERS; [46:40] KV_HEADS; [39:31] Q_HEADS; [30:28] HEAD_DIM; [27:24] FORMAT; [23] INPUT; [18:16] REDUN_OK. -/
def PG_PROF_GEOM (i : Nat) : Nat := 0x201000 + 0x20 * i

/-- PG_PROF_ID, channel window (R124): [31:0] ID. -/
def PG_PROF_ID (i : Nat) : Nat := 0x201008 + 0x20 * i

/-- PG_PROF_SCALE, channel window (R124): [39:6] ADDR. -/
def PG_PROF_SCALE (i : Nat) : Nat := 0x201010 + 0x20 * i

/-- PG_PROF_DERIVED, channel window (R124): [48:32] PART_BYTES; [23:20] REC_LOG2; [19:16] WIN_LOG2; [15:8] PARTS; [7:0] FRAME_GRAN. -/
def PG_PROF_DERIVED (i : Nat) : Nat := 0x201018 + 0x20 * i

/-- HO_TIMERS, channel window (R151): [63:56] OFFER_TRIES; [55:40] OFFER_RETRY; [39:32] ACCEPT_TRIES; [31:16] ACCEPT_RETRY; [15:0] TRANSFER_IDLE. -/
def HO_TIMERS : Nat := 0x300000

/-- HO_TIMERS2, channel window (R151): [31:16] STUCK_TIME; [15:0] FENCE_TIME. -/
def HO_TIMERS2 : Nat := 0x300008

/-- HO_LIMIT, channel window (R151): [47:32] MAX_IN; [15:0] MAX_OUT. -/
def HO_LIMIT : Nat := 0x300010

/-- HO_ACTIVE, channel window (R151): [47:32] INBOUND; [15:0] OUTBOUND. -/
def HO_ACTIVE : Nat := 0x300018

/-- HO_CNT, channel window (R151): [63:32] DONE_OUT; [31:0] DONE_IN. -/
def HO_CNT : Nat := 0x300020

/-- HO_FAIL_CNT, channel window (R151): [63:48] RETURNED; [47:32] ABORTED; [31:16] DIGEST; [15:0] TAG. -/
def HO_FAIL_CNT : Nat := 0x300028

/-- HO_REBUILD_CNT, channel window (R151): [63:32] DONE; [31:0] FAILED. -/
def HO_REBUILD_CNT : Nat := 0x300030

/-- CRU_STATUS, channel window (R183): [51:48] HOT; [24:16] UNITS_ONLINE; [12:0] INFLIGHT. -/
def CRU_STATUS : Nat := 0x400000

/-- CRU_CFG, channel window (R183): [12:0] MAX_INFLIGHT. -/
def CRU_CFG : Nat := 0x400008

/-- CRU_JOB_CNT, channel window (R183): [63:32] DONE; [31:0] REFUSED. -/
def CRU_JOB_CNT : Nat := 0x400010

/-- CRU_ARITH_CNT, channel window (R183): [63:32] OVERFLOW; [31:0] NONFINITE_Q. -/
def CRU_ARITH_CNT : Nat := 0x400018

/-- CRU_ROWOP_CNT, channel window (R183): [63:0] ROWS. -/
def CRU_ROWOP_CNT : Nat := 0x400020

/-- CRU_EXT_CNT, channel window (R183): [63:32] HELD; [31:0] REFUSED_WR. -/
def CRU_EXT_CNT : Nat := 0x400028

/-- CRU_HOLD_MAX, channel window (R183): [63] CLEAR; [31:0] MAX_NS. -/
def CRU_HOLD_MAX : Nat := 0x400030

/-- CRU_UNIT_OFFLINE, channel window (R183): [63:0] MAP. -/
def CRU_UNIT_OFFLINE (i : Nat) : Nat := 0x400100 + 0x8 * i

/-- CRU_Q_CFG, channel window (R183): [63:62] STATE; [51:48] TENANT; [41:32] PD; [22:16] SLOT_KIB; [12:0] RING_SLOTS. -/
def CRU_Q_CFG (i : Nat) : Nat := 0x408000 + 0x10 * i

/-- CRU_Q_PTR, channel window (R183): [31:16] PIDX; [15:0] CIDX. -/
def CRU_Q_PTR (i : Nat) : Nat := 0x408008 + 0x10 * i

/-- SPC_GOV_CFG, channel window (R204): [63:56] DISABLE_RUN; [55:48] REENABLE_GROUPS; [47:39] UP_THRESH; [38:30] DOWN_THRESH; [29:23] MAX_DEPTH; [22:16] INIT_DEPTH; [8:0] MAX_NODES. -/
def SPC_GOV_CFG : Nat := 0x500000

/-- SPC_STATUS, channel window (R204): [46:32] DISABLED; [14:0] OPEN. -/
def SPC_STATUS : Nat := 0x500008

/-- SPC_VERIFY_CNT, channel window (R204): [63:32] VERIFIES; [31:0] ABANDONS. -/
def SPC_VERIFY_CNT : Nat := 0x500010

/-- SPC_TOKEN_CNT, channel window (R204): [63:32] DRAFTED; [31:0] ACCEPTED. -/
def SPC_TOKEN_CNT : Nat := 0x500018

/-- SPC_TRUNC_CNT, channel window (R204): [63:0] TRUNCATED. -/
def SPC_TRUNC_CNT : Nat := 0x500020

/-- SPC_REFUSE_CNT, channel window (R204): [63:32] UNDELIVERED; [31:0] REFUSED. -/
def SPC_REFUSE_CNT : Nat := 0x500028

/-- GAF_STATUS, channel window (R232): [38:32] BUSY; [22:16] PREEMPTING; [8:0] SAVED. -/
def GAF_STATUS : Nat := 0x600000

/-- GAF_SCHED_CTRL, channel window (R232): [63] SWITCH; [62] PENDING; [61] ACTIVE; [31:16] QUANTUM; [6:0] BASE_CORES. -/
def GAF_SCHED_CTRL : Nat := 0x600008

/-- GAF_SCHED_NOW, channel window (R232): [37:32] SLOT; [31:0] FRAME_US. -/
def GAF_SCHED_NOW : Nat := 0x600010

/-- GAF_EXC_CNT, channel window (R232): [63:32] TENANT; [31:0] BASE. -/
def GAF_EXC_CNT : Nat := 0x600018

/-- GAF_PREEMPT, channel window (R232): [63:32] COUNT; [31:0] OVERDUE. -/
def GAF_PREEMPT : Nat := 0x600020

/-- GAF_PREEMPT_MAX, channel window (R232): [63] CLEAR; [31:0] MAX_NS. -/
def GAF_PREEMPT_MAX : Nat := 0x600028

/-- GAF_EVC_ADD, channel window (R232): [63:48] INDEX; [31:0] AMOUNT. -/
def GAF_EVC_ADD : Nat := 0x600030

/-- GAF_PREEMPT_DEFER, channel window (R232): [63:32] DEFERRED; [31:0] MAX_US. -/
def GAF_PREEMPT_DEFER : Nat := 0x600038

/-- GAF_PROG, channel window (R232): [63:61] STATE; [60:58] KIND; [51:48] TENANT; [47:32] ENTRIES; [31:0] VERSION. -/
def GAF_PROG (i : Nat) : Nat := 0x600100 + 0x10 * i

/-- GAF_PROG_KEY, channel window (R232): [63:32] KEY_ID; [15:0] EVC_BASE_DIV64. -/
def GAF_PROG_KEY (i : Nat) : Nat := 0x600108 + 0x10 * i

/-- GAF_CORE, channel window (R232): [63:61] STATE; [60:56] PROG; [55:52] TENANT; [47:32] ENTRY; [31:0] INVOCATION. -/
def GAF_CORE (i : Nat) : Nat := 0x600400 + 0x8 * i

/-- GAF_SCHED_A, channel window (R232): [63] LAT; [54:48] CRU_SHARE; [45:40] CORES; [39:32] OWNER; [13:0] LENGTH. -/
def GAF_SCHED_A (i : Nat) : Nat := 0x601000 + 0x8 * i

/-- GAF_SCHED_B, channel window (R232): [63] LAT; [54:48] CRU_SHARE; [45:40] CORES; [39:32] OWNER; [13:0] LENGTH. -/
def GAF_SCHED_B (i : Nat) : Nat := 0x601200 + 0x8 * i

/-- GAF_EVC, channel window (R232): [63:0] VALUE. -/
def GAF_EVC (i : Nat) : Nat := 0x680000 + 0x8 * i

/-- FAB_LANE_MODE, channel window (R302): [1:0] MODE. -/
def FAB_LANE_MODE : Nat := 0x700000

/-- FAB_NET4, channel window (R302): [32] EN4; [31:18] PREFIX4. -/
def FAB_NET4 : Nat := 0x700008

/-- FAB_NET6_HI, channel window (R302): [63:0] PREFIX6_HI. -/
def FAB_NET6_HI : Nat := 0x700010

/-- FAB_NET6_LO, channel window (R302): [63:18] PREFIX6_LO; [0] EN6. -/
def FAB_NET6_LO : Nat := 0x700018

/-- FAB_FMT_CFG, channel window (R302): [31:16] UDP_PORT; [0] FAMILY. -/
def FAB_FMT_CFG : Nat := 0x700020

/-- FAB_TIMERS, channel window (R302): [63:48] RTO_INIT; [47:40] RETRY_MAX; [39:32] RNR_DELAY; [31:24] ACK_EVERY; [23:12] ACK_DELAY; [11:0] KEEPALIVE. -/
def FAB_TIMERS : Nat := 0x700028

/-- FAB_WINDOW, channel window (R302): [42:32] WIN_MAX; [26:16] WIN_INIT; [4:0] ATOMIC_MAX. -/
def FAB_WINDOW : Nat := 0x700030

/-- FAB_CONN_CNT, channel window (R302): [45:32] ERROR; [29:16] QUARANTINE; [13:0] OPEN. -/
def FAB_CONN_CNT : Nat := 0x700038

/-- FAB_RETX_CNT, channel window (R302): [63:32] TIMEOUTS; [31:0] GOBACKS. -/
def FAB_RETX_CNT : Nat := 0x700040

/-- FAB_RX_CNT, channel window (R302): [63:32] TAG_FAIL; [31:0] DUPLICATES. -/
def FAB_RX_CNT : Nat := 0x700048

/-- FAB_NAK_CNT, channel window (R302): [63:32] RNR_NAKS; [31:0] PROT_NAKS. -/
def FAB_NAK_CNT : Nat := 0x700050

/-- FAB_CONN_SEL, channel window (R302): [12:0] CONN. -/
def FAB_CONN_SEL : Nat := 0x700058

/-- FAB_CONN_VIEW0, channel window (R302): [63:61] STATE; [60] ROCE; [59:57] PRIORITY; [56:52] PORT; [51:42] PD; [41:31] CWND; [30:13] PEER_EID; [12:0] PEER_CONN. -/
def FAB_CONN_VIEW0 : Nat := 0x700060

/-- FAB_CONN_VIEW1, channel window (R302): [47:24] UNA; [23:0] EXPECTED. -/
def FAB_CONN_VIEW1 : Nat := 0x700068

/-- FAB_REGION_SEL, channel window (R302): [15:0] REGION. -/
def FAB_REGION_SEL : Nat := 0x700070

/-- FAB_REGION_VIEW, channel window (R302): [63:62] STATE; [61:59] RIGHTS; [58] OWNER_CHECK; [57:40] OWNER_EID; [39:30] PD; [29:16] SLABS; [15:0] GEN. -/
def FAB_REGION_VIEW : Nat := 0x700078

/-- FAB_PD, channel window (R302): [63] ASSIGNED; [62] ACL; [61] BASE; [51:48] TENANT. -/
def FAB_PD (i : Nat) : Nat := 0x701000 + 0x8 * i

/-- FAB_PORT_CFG, channel window (R302): [63] IFACE; [61:48] MAX_FRAME; [47:0] MAC. -/
def FAB_PORT_CFG (i : Nat) : Nat := 0x704000 + 0x40 * i

/-- FAB_PORT_L2, channel window (R302): [63] TAG; [59:48] VID; [47:0] NEXT_HOP. -/
def FAB_PORT_L2 (i : Nat) : Nat := 0x704008 + 0x40 * i

/-- FAB_PFC_CFG, channel window (R302): [63:56] PFC_EN; [55:48] WD_DROP; [47:32] PAUSE_QUANTA; [31:20] XOFF; [19:8] XON; [7:0] PFC_WD. -/
def FAB_PFC_CFG (i : Nat) : Nat := 0x704010 + 0x40 * i

/-- FAB_PORT_STATUS, channel window (R302): [63:62] LINK; [61:54] RX_PAUSED; [53:46] TX_PAUSED; [11:0] RX_BUFS. -/
def FAB_PORT_STATUS (i : Nat) : Nat := 0x704018 + 0x40 * i

/-- FAB_PORT_FEC, channel window (R302): [63:32] UNCORR; [31:0] CORR. -/
def FAB_PORT_FEC (i : Nat) : Nat := 0x704020 + 0x40 * i

/-- FAB_PORT_DROP, channel window (R302): [63:48] OVERSIZE; [47:32] FCS_ERR; [31:16] RX_NOBUF; [15:0] TX_DISCARD. -/
def FAB_PORT_DROP (i : Nat) : Nat := 0x704028 + 0x40 * i

/-- TM_PORT_SHAPE, channel window (R319): [55:32] RATE; [23:0] BURST. -/
def TM_PORT_SHAPE (i : Nat) : Nat := 0x800000 + 0x1000 * i

/-- TM_PORT_SCHED, channel window (R319): [63] GCL_EN; [38:32] GCL_LEN; [31:0] QMAP. -/
def TM_PORT_SCHED (i : Nat) : Nat := 0x800008 + 0x1000 * i

/-- TM_GCL_BASE, channel window (R319): [63:0] BASE_TIME. -/
def TM_GCL_BASE (i : Nat) : Nat := 0x800010 + 0x1000 * i

/-- TM_PORT_HWM, channel window (R319): [63:32] MAX_BYTES; [31:0] MAX_SOJOURN. -/
def TM_PORT_HWM (i : Nat) : Nat := 0x800018 + 0x1000 * i

/-- TM_PORT_ALARM, channel window (R319): [31:0] ALARM_NS. -/
def TM_PORT_ALARM (i : Nat) : Nat := 0x800020 + 0x1000 * i

/-- TM_PORT_CNT, channel window (R319): [63:32] GATE_DROP; [31:0] LINK_DROP. -/
def TM_PORT_CNT (i : Nat) : Nat := 0x800028 + 0x1000 * i

/-- TM_Q_CFG, channel window (R319): [58:56] PRIO; [47:40] WEIGHT; [11:0] MAX_FRAMES. -/
def TM_Q_CFG (i : Nat) (j : Nat) : Nat := 0x800100 + 0x1000 * i + 0x10 * j

/-- TM_Q_SHAPE, channel window (R319): [55:32] RATE; [23:0] BURST. -/
def TM_Q_SHAPE (i : Nat) (j : Nat) : Nat := 0x800108 + 0x1000 * i + 0x10 * j

/-- TM_Q_STATUS, channel window (R319): [43:32] DEPTH_FRAMES; [31:0] DEPTH_BYTES. -/
def TM_Q_STATUS (i : Nat) (j : Nat) : Nat := 0x800200 + 0x1000 * i + 0x8 * j

/-- TM_GCL, channel window (R319): [63:48] GATES; [31:0] INTERVAL. -/
def TM_GCL (i : Nat) (j : Nat) : Nat := 0x800800 + 0x1000 * i + 0x8 * j

/-- TM_POL_RATE, channel window (R319): [63] EN; [62] YEL_ECN; [47:24] PIR; [23:0] CIR. -/
def TM_POL_RATE (i : Nat) : Nat := 0x820000 + 0x40 * i

/-- TM_POL_BURST, channel window (R319): [55:32] PBS; [23:0] CBS. -/
def TM_POL_BURST (i : Nat) : Nat := 0x820008 + 0x40 * i

/-- TM_POL_GREEN, channel window (R319): [63:0] BYTES. -/
def TM_POL_GREEN (i : Nat) : Nat := 0x820010 + 0x40 * i

/-- TM_POL_YELLOW, channel window (R319): [63:0] BYTES. -/
def TM_POL_YELLOW (i : Nat) : Nat := 0x820018 + 0x40 * i

/-- TM_POL_RED, channel window (R319): [63:0] BYTES. -/
def TM_POL_RED (i : Nat) : Nat := 0x820020 + 0x40 * i

/-- TM_TEN_HWM, channel window (R319): [63:32] MAX_BYTES; [31:0] MAX_SOJOURN. -/
def TM_TEN_HWM (i : Nat) : Nat := 0x821000 + 0x8 * i

/-- TM_SMP_CFG, channel window (R319): [63] EN; [36:32] RING_LOG2; [31:0] INTERVAL. -/
def TM_SMP_CFG : Nat := 0x822000

/-- TM_SMP_BASE, channel window (R319): [63:6] ADDR. -/
def TM_SMP_BASE : Nat := 0x822008

/-- TM_SMP_PTR, channel window (R319): [63:32] PIDX; [31:0] CIDX. -/
def TM_SMP_PTR : Nat := 0x822010

/-- TM_SMP_DROP, channel window (R319): [31:0] DROPPED. -/
def TM_SMP_DROP : Nat := 0x822018

/-- PFX_STATUS, channel window (R335): [48:32] VALID; [1:0] CASC_STATE. -/
def PFX_STATUS : Nat := 0x900000

/-- PFX_CASC_CFG, channel window (R335): [63] EN; [6:4] POS; [3:0] LEN. -/
def PFX_CASC_CFG : Nat := 0x900008

/-- PFX_CNT, channel window (R335): [63:32] HITS; [31:0] MISSES. -/
def PFX_CNT : Nat := 0x900010

/-- PFX_CASC_CNT, channel window (R335): [63:32] TIMEOUTS; [31:0] REMOTE_HITS. -/
def PFX_CASC_CNT : Nat := 0x900018

/-- PFX_SEG_CFG, channel window (R335): [63:62] USE; [61] CASC; [52:48] OWNER; [9:0] IN_USE. -/
def PFX_SEG_CFG (i : Nat) : Nat := 0x901000 + 0x8 * i

/-- TIER_STATUS, channel window (R359): [62:42] OBJ_T1; [41:21] OBJ_T2; [20:12] LENT; [11:3] BORROWED. -/
def TIER_STATUS : Nat := 0xA00000

/-- TIER_HEDGE, channel window (R359): [63:48] HEDGE_T1; [47:32] HEDGE_T2; [31:16] HEDGE_FRAG. -/
def TIER_HEDGE : Nat := 0xA00008

/-- TIER_LEND_CFG, channel window (R359): [49:32] LEND_RESERVE; [15:0] RECALL_TIME. -/
def TIER_LEND_CFG : Nat := 0xA00010

/-- TIER_SEAL, channel window (R359): [63:40] BOOT; [39:0] COUNT. -/
def TIER_SEAL : Nat := 0xA00018

/-- TIER_T2_BASE, channel window (R359): [63:21] ADDR; [0] REMOVING. -/
def TIER_T2_BASE : Nat := 0xA00020

/-- TIER_T2_SIZE, channel window (R359): [63:32] USED; [31:0] UNITS. -/
def TIER_T2_SIZE : Nat := 0xA00028

/-- TIER_CNT, channel window (R359): [63:32] OUT; [31:0] IN. -/
def TIER_CNT : Nat := 0xA00030

/-- TIER_FAIL_CNT, channel window (R359): [63:48] AUTH; [47:32] LOST; [31:16] HEDGES; [15:0] LATE. -/
def TIER_FAIL_CNT : Nat := 0xA00038

/-- TIER_FRAG_STATUS, channel window (R359): [63:48] SETS; [31:0] USED_GRAN. -/
def TIER_FRAG_STATUS : Nat := 0xA00040

/-- TIER_HOLDER, channel window (R359): [63] VALID; [17:0] EID. -/
def TIER_HOLDER (i : Nat) : Nat := 0xA00100 + 0x8 * i

/-- TIER_TEN_QUOTA, channel window (R359): [63:32] QUOTA; [31:0] IN_USE. -/
def TIER_TEN_QUOTA (i : Nat) (j : Nat) : Nat := 0xA00200 + 0x20 * i + 0x8 * j

/-- TIER_LEASE, channel window (R359): [63:62] STATE; [61] DIR; [49:32] SLABS; [17:0] PEER. -/
def TIER_LEASE (i : Nat) : Nat := 0xA01000 + 0x8 * i

/-- TEN_ID, VF window (R382): [63:32] TAG; [10:8] STATE; [5:4] CHANNEL; [3:0] SLOT. -/
def TEN_ID : Nat := 0x0

/-- TEN_SQ_DB, VF window (R382): [15:0] TAIL or HEAD. -/
def TEN_SQ_DB (i : Nat) : Nat := 0x1000 + 0x100 * i

/-- TEN_CQ_DB, VF window (R382): [15:0] TAIL or HEAD. -/
def TEN_CQ_DB (i : Nat) : Nat := 0x2000 + 0x100 * i

/-- TEN_SQ_BASE, VF window (R382): [63:12] ADDR. -/
def TEN_SQ_BASE (i : Nat) : Nat := 0x3000 + 0x40 * i

/-- TEN_CQ_BASE, VF window (R382): [63:12] ADDR. -/
def TEN_CQ_BASE (i : Nat) : Nat := 0x3008 + 0x40 * i

/-- TEN_RING_CFG, VF window (R382): [63] EN; [62] ACTIVE; [61] ERR; [55:48] ERR_CAUSE; [44:40] VECTOR; [39:24] COAL_TIME; [23:16] COAL_COUNT; [9:5] CQ_LOG2; [4:0] SQ_LOG2. -/
def TEN_RING_CFG (i : Nat) : Nat := 0x3010 + 0x40 * i

/-- TEN_RING_PTR, VF window (R382): [63:48] CQ_HEAD; [47:32] CQ_TAIL; [31:16] SQ_TAIL; [15:0] SQ_HEAD. -/
def TEN_RING_PTR (i : Nat) : Nat := 0x3018 + 0x40 * i

/-- TEN_EVQ_BASE, VF window (R382): [63:12] ADDR. -/
def TEN_EVQ_BASE : Nat := 0x4000

/-- TEN_EVQ_CFG, VF window (R382): [63] EN; [12:8] VECTOR; [4:0] LOG2. -/
def TEN_EVQ_CFG : Nat := 0x4008

/-- TEN_EVQ_PTR, VF window (R382): [63:32] PIDX; [31:0] CIDX. -/
def TEN_EVQ_PTR : Nat := 0x4010

/-- TEN_EVQ_DROP, VF window (R382): [31:0] DROPPED. -/
def TEN_EVQ_DROP : Nat := 0x4018

/-- TEN_SLOT_CFG, channel window (R382): [31:0] TAG. -/
def TEN_SLOT_CFG (i : Nat) : Nat := 0xB00000 + 0x8 * i

/-- TEN_SLOT_STATUS, channel window (R382): [47:32] INFLIGHT; [31:16] RINGS_EN; [15:0] RINGS_ERR. -/
def TEN_SLOT_STATUS (i : Nat) : Nat := 0xB00100 + 0x8 * i

/-- SEC_STATE, channel window (R411): [63:32] FW_VERSION; [4] OWNED; [3] STAGED; [2:0] STATE. -/
def SEC_STATE : Nat := 0xC00000

/-- SEC_FW_FLOOR, channel window (R411): [31:0] FLOOR. -/
def SEC_FW_FLOOR : Nat := 0xC00008

/-- SEC_FW_DIGEST, channel window (R411): [63:0] DIGEST. -/
def SEC_FW_DIGEST (i : Nat) : Nat := 0xC00010 + 0x8 * i

/-- SEC_PEERS, channel window (R411): [44:32] VALID; [31:0] REFUSED. -/
def SEC_PEERS : Nat := 0xC00050

/-- SEC_FAIL_CNT, channel window (R411): [63:32] UNWRAP; [31:0] PRIVATE. -/
def SEC_FAIL_CNT : Nat := 0xC00058

/-- SEC_TEN_CFG, channel window (R411): [63] PRIVATE; [62] IDE_REQ; [24] STORAGE; [23:16] PROG_KEYS; [15:0] DATA_KEYS. -/
def SEC_TEN_CFG (i : Nat) : Nat := 0xC00100 + 0x8 * i

/-- SEC_REC_ADDR, channel window (R411): [63:6] ADDR. -/
def SEC_REC_ADDR : Nat := 0xC00200

/-- SEC_REC_CTRL, channel window (R411): [63] GO; [55:48] RESULT; [27:0] LEN. -/
def SEC_REC_CTRL : Nat := 0xC00208

/-- MTR_STATUS, channel window (R433): [63] PRESENT; [38:32] CREDITS; [31:0] STREAM. -/
def MTR_STATUS : Nat := 0xD00000

/-- MTR_TEN_CFG, channel window (R433): [63] METERED_ONLY; [62] PAUSED. -/
def MTR_TEN_CFG (i : Nat) : Nat := 0xD00100 + 0x8 * i

/-- MTR_TOT, channel window (R433): [63:0] VALUE. -/
def MTR_TOT (i : Nat) (j : Nat) : Nat := 0xD01000 + 0x40 * i + 0x8 * j

/-- MTR_RES, channel window (R433): [63:32] OUT; [31:0] T0. -/
def MTR_RES (i : Nat) : Nat := 0xD01800 + 0x8 * i

/-- MTR_DRAIN_STATUS, PF0 (R433): [63] PRESENT; [62] REMOVE_READY; [61] EXTENDED; [24:0] UNACKED. -/
def MTR_DRAIN_STATUS : Nat := 0x80000

/-- MTR_DRAIN_SEL, PF0 (R433): [63:0] CTR. -/
def MTR_DRAIN_SEL : Nat := 0x80008

/-- MTR_DRAIN_DATA, PF0 (R433): [63:0] DATA. -/
def MTR_DRAIN_DATA (i : Nat) : Nat := 0x80100 + 0x8 * i

/-- MTR_DRAIN_ACK, PF0 (R433): [63] REMOVE; [62:0] CTR. -/
def MTR_DRAIN_ACK : Nat := 0x80010

/-- MTR_DRAIN_TIME, PF0 (R433): [63:0] MS. -/
def MTR_DRAIN_TIME : Nat := 0x80018

/-- REL_STATE, channel window (R459): [15:8] ISO_CAUSE; [2:0] STATE. -/
def REL_STATE : Nat := 0xE00000

/-- REL_ECC_CFG, channel window (R459): [63] MODE; [47:40] SCRUB_HOURS; [31:16] ROW_CE_THRESH; [15:0] LANE_CE_THRESH. -/
def REL_ECC_CFG : Nat := 0xE00008

/-- REL_ECC_CNT, channel window (R459): [63:32] CE; [31:0] UE. -/
def REL_ECC_CNT : Nat := 0xE00010

/-- REL_LAST_UE, channel window (R459): [63:56] CONSUMER; [39:0] ADDR. -/
def REL_LAST_UE : Nat := 0xE00018

/-- REL_SPARE, channel window (R459): [47:32] LANES; [19:0] ROWS. -/
def REL_SPARE : Nat := 0xE00020

/-- REL_SRAM_CNT, channel window (R459): [63:32] DED; [31:0] SEC. -/
def REL_SRAM_CNT : Nat := 0xE00028

/-- REL_ISO_CFG, channel window (R459): [63] AUTO_WARM; [7:0] AUTO_LIMIT. -/
def REL_ISO_CFG : Nat := 0xE00030

/-- REL_SHADOW_CFG, channel window (R459): [63] SHADOW_EN; [31:0] SHADOW_OPS. -/
def REL_SHADOW_CFG : Nat := 0xE00038

/-- REL_SHADOW_STATUS, channel window (R459): [63:62] PART; [49:32] PEER; [31:0] COUNT. -/
def REL_SHADOW_STATUS : Nat := 0xE00040

/-- REL_HB_CFG, channel window (R459): [63] SELF_MISMATCH; [47:32] PEERS_MISMATCHED; [15:0] HB_LOSS. -/
def REL_HB_CFG : Nat := 0xE00048

/-- REL_CFG_DIGEST, channel window (R459): [63:0] DIGEST. -/
def REL_CFG_DIGEST (i : Nat) : Nat := 0xE00100 + 0x8 * i

/-- REL_SELF_EXPECT, channel window (R459): [63:0] EXPECT. -/
def REL_SELF_EXPECT (i : Nat) : Nat := 0xE00140 + 0x8 * i

/-- REL_HB_PEER, channel window (R459): [63] VALID; [17:0] EID. -/
def REL_HB_PEER (i : Nat) : Nat := 0xE00200 + 0x8 * i

/-- PWR_STATUS, channel window (R481): [55:48] TEMP_CTL; [47:40] TEMP_BASE; [31:16] VCORE; [4] RIDE; [1:0] CSTATE. -/
def PWR_STATUS : Nat := 0xF00000

/-- PWR_PACE, channel window (R481): [63] CLEAR; [47:32] MIN; [26:16] TARGET; [10:0] INDEX. -/
def PWR_PACE : Nat := 0xF00008

/-- PWR_LIMIT, channel window (R481): [15:0] CAP_W. -/
def PWR_LIMIT : Nat := 0xF00010

/-- PWR_RESET, channel window (R481): [63] CORE_GO; [53:48] CORE; [47] PORT_GO; [36:32] PORT. -/
def PWR_RESET : Nat := 0xF00018

/-- PWR_RESET_LOG, channel window (R481): [63:56] LAST; [31:16] WARM; [15:0] RIDES. -/
def PWR_RESET_LOG : Nat := 0xF00020

/-- CLK_SRC, channel window (R481): [41] OSC_READY; [40] REF_READY; [34:32] COAST; [2:0] SEL. -/
def CLK_SRC : Nat := 0xF00100

/-- CLK_SETTLE, channel window (R481): [7:0] SETTLE. -/
def CLK_SETTLE : Nat := 0xF00108

/-- CLK_LOCAL, channel window (R481): [63:0] TIME. -/
def CLK_LOCAL : Nat := 0xF00110

/-- PWR_MOD_INPUT, PF0 (R481): [47:32] VMIN; [17:16] STATE; [15:0] VIN. -/
def PWR_MOD_INPUT : Nat := 0x2000

/-- PWR_MOD_CTRL, PF0 (R481): [63:60] REQ; [59] FORCE; [47:40] RESULT; [34:32] STATE; [0] BUSY. -/
def PWR_MOD_CTRL (i : Nat) : Nat := 0x2100 + 0x8 * i

end Reg

/-! ### The tables -/

/-- The registers of the tables with prefix HUB. -/
def hubRegs : List RegDesc := [
  ⟨"HUB_ID", 0x0, [], [⟨63, 48, .ro, (.lit 0x7E5A), false, false, false, false⟩, ⟨47, 40, .ro, .hw, false, false, false, false⟩, ⟨39, 32, .ro, .hw, false, false, false, false⟩]⟩,
  ⟨"HUB_LINK", 0x1000, [], [⟨31, 16, .ro, (.lit 0x0), false, false, false, false⟩, ⟨3, 0, .ro, .hw, false, false, false, false⟩]⟩,
  ⟨"MTR_DRAIN_STATUS", 0x80000, [], [⟨63, 63, .ro, .hw, false, false, false, false⟩, ⟨62, 62, .ro, .hw, false, false, false, false⟩, ⟨61, 61, .ro, .hw, false, false, false, false⟩, ⟨24, 0, .ro, .hw, false, false, false, false⟩]⟩,
  ⟨"MTR_DRAIN_SEL", 0x80008, [], [⟨63, 0, .rw, (.lit 0x0), false, false, false, false⟩]⟩,
  ⟨"MTR_DRAIN_DATA", 0x80100, [(0x8, 32)], [⟨63, 0, .ro, (.lit 0x0), false, false, false, false⟩]⟩,
  ⟨"MTR_DRAIN_ACK", 0x80010, [], [⟨63, 63, .wo, (.lit 0x0), false, false, false, false⟩, ⟨62, 0, .wo, (.lit 0x0), false, false, false, false⟩]⟩,
  ⟨"MTR_DRAIN_TIME", 0x80018, [], [⟨63, 0, .ro, .hw, false, false, false, false⟩]⟩,
  ⟨"PWR_MOD_INPUT", 0x2000, [], [⟨47, 32, .ro, .hw, false, false, false, false⟩, ⟨17, 16, .ro, .hw, false, false, false, false⟩, ⟨15, 0, .ro, .hw, false, false, false, false⟩]⟩,
  ⟨"PWR_MOD_CTRL", 0x2100, [(0x8, 4)], [⟨63, 60, .wo, (.lit 0x0), false, false, false, false⟩, ⟨59, 59, .wo, (.lit 0x0), false, false, false, false⟩, ⟨47, 40, .ro, (.lit 0x0), false, false, false, false⟩, ⟨34, 32, .ro, .hw, false, false, false, false⟩, ⟨0, 0, .ro, (.lit 0x0), false, false, false, false⟩]⟩]

/-- The registers of the tables with prefix CHN. -/
def chnRegs : List RegDesc := [
  ⟨"CHN_ID", 0x0, [], [⟨63, 48, .ro, (.lit 0x7E5A), false, false, false, false⟩, ⟨47, 40, .ro, .hw, false, false, false, false⟩, ⟨39, 32, .ro, .hw, false, false, false, false⟩, ⟨1, 0, .ro, .hw, false, false, false, false⟩]⟩,
  ⟨"CHN_EID", 0x8, [], [⟨63, 63, .rw, (.lit 0x0), false, true, true, false⟩, ⟨17, 0, .rw, (.lit 0x0), false, true, true, false⟩]⟩,
  ⟨"CHN_FN_STATE", 0x1000, [(0x8, 512)], [⟨39, 16, .ro, (.lit 0x0), false, true, true, false⟩, ⟨15, 8, .ro, (.lit 0x0), false, true, true, false⟩, ⟨7, 4, .wo, (.lit 0x0), false, false, false, false⟩, ⟨2, 0, .ro, .cr, false, false, false, false⟩]⟩,
  ⟨"CHN_CFG_EPOCH", 0x10, [], [⟨31, 0, .ro, .cr, false, true, true, false⟩]⟩,
  ⟨"CHN_EVT_DROP", 0x18, [], [⟨31, 0, .ro, (.lit 0x0), false, false, true, false⟩]⟩]

/-- The registers of the tables with prefix CTX. -/
def ctxRegs : List RegDesc := [
  ⟨"CTX_TBL_STATUS", 0x100000, [], [⟨63, 63, .ro, (.lit 0x0), false, false, true, false⟩, ⟨46, 32, .ro, .hw, false, false, false, false⟩, ⟨30, 16, .ro, .hw, false, false, false, false⟩, ⟨14, 0, .ro, .hw, false, false, false, false⟩]⟩,
  ⟨"CTX_STALE_CNT", 0x100010, [], [⟨63, 32, .ro, (.lit 0x0), false, false, true, false⟩, ⟨31, 0, .ro, (.lit 0x0), false, false, true, false⟩]⟩,
  ⟨"CTX_EVENT_CNT", 0x100018, [], [⟨63, 32, .ro, (.lit 0x0), false, false, true, false⟩, ⟨31, 0, .ro, (.lit 0x0), false, false, true, false⟩]⟩,
  ⟨"CTX_JRNL_CFG", 0x100020, [], [⟨39, 32, (.rwl .role), .cr, false, true, true, false⟩, ⟨19, 0, (.rwl .role), .cr, false, true, true, false⟩]⟩,
  ⟨"CTX_JRNL_BASE", 0x100028, [], [⟨39, 21, .ro, .hw, false, false, false, false⟩]⟩,
  ⟨"CTX_JRNL_STATUS", 0x100030, [], [⟨63, 63, .ro, (.lit 0x0), false, false, true, false⟩, ⟨19, 0, .ro, .hw, false, false, false, false⟩]⟩,
  ⟨"CTX_JRNL_SEQ", 0x100038, [], [⟨63, 0, .ro, (.lit 0x0), false, true, true, false⟩]⟩,
  ⟨"CTX_STATE_CNT", 0x100100, [(0x8, 10)], [⟨14, 0, .ro, .hw, false, false, false, false⟩]⟩,
  ⟨"CTX_TEN_LIMIT", 0x100200, [(0x8, 16)], [⟨46, 32, (.rwl .slot), .cr, true, true, true, false⟩, ⟨14, 0, .ro, .hw, false, false, false, false⟩]⟩,
  ⟨"CTX_PEEK_SEL", 0x100300, [], [⟨13, 0, .rw, (.lit 0x0), false, false, false, false⟩]⟩,
  ⟨"CTX_PEEK_DATA", 0x100308, [(0x8, 16)], [⟨63, 0, .ro, (.lit 0x0), false, false, false, false⟩]⟩]

/-- The registers of the tables with prefix PG. -/
def pgRegs : List RegDesc := [
  ⟨"PG_POOL_STATUS", 0x200000, [], [⟨63, 32, .ro, .hw, false, false, false, false⟩, ⟨31, 0, .ro, .hw, false, false, false, false⟩]⟩,
  ⟨"PG_POOL_CFG", 0x200008, [], [⟨31, 0, .rw, .cr, false, true, true, false⟩]⟩,
  ⟨"PG_SLABS", 0x200010, [], [⟨49, 32, .ro, .hw, false, false, false, false⟩, ⟨17, 0, .ro, .hw, false, false, false, false⟩]⟩,
  ⟨"PG_RESERVE", 0x200018, [], [⟨47, 32, .ro, .cr, false, true, true, false⟩, ⟨15, 0, .ro, .cr, false, true, true, false⟩]⟩,
  ⟨"PG_MAP_BASE", 0x200020, [], [⟨39, 21, .ro, .hw, false, false, false, false⟩]⟩,
  ⟨"PG_MARVER_CNT", 0x200028, [], [⟨63, 32, .ro, (.lit 0x0), false, false, true, false⟩, ⟨31, 0, .ro, (.lit 0x0), false, false, true, false⟩]⟩,
  ⟨"PG_REFUSE_CNT", 0x200030, [], [⟨63, 48, .ro, (.lit 0x0), false, false, true, false⟩, ⟨47, 32, .ro, (.lit 0x0), false, false, true, false⟩, ⟨31, 16, .ro, (.lit 0x0), false, false, true, false⟩, ⟨15, 0, .ro, (.lit 0x0), false, false, true, false⟩]⟩,
  ⟨"PG_DISCARD_CNT", 0x200038, [], [⟨31, 0, .ro, (.lit 0x0), false, false, true, false⟩]⟩,
  ⟨"PG_PROF_GEOM", 0x201000, [(0x20, 16)], [⟨63, 63, (.rwl .role), .cr, false, true, true, false⟩, ⟨55, 47, (.rwl .role), .cr, false, true, true, false⟩, ⟨46, 40, (.rwl .role), .cr, false, true, true, false⟩, ⟨39, 31, (.rwl .role), .cr, false, true, true, false⟩, ⟨30, 28, (.rwl .role), .cr, false, true, true, false⟩, ⟨27, 24, (.rwl .role), .cr, false, true, true, false⟩, ⟨23, 23, (.rwl .role), .cr, false, true, true, false⟩, ⟨18, 16, (.rwl .role), .cr, false, true, true, false⟩]⟩,
  ⟨"PG_PROF_ID", 0x201008, [(0x20, 16)], [⟨31, 0, (.rwl .role), .cr, false, true, true, false⟩]⟩,
  ⟨"PG_PROF_SCALE", 0x201010, [(0x20, 16)], [⟨39, 6, .ro, .hw, false, true, true, false⟩]⟩,
  ⟨"PG_PROF_DERIVED", 0x201018, [(0x20, 16)], [⟨48, 32, .ro, .hw, false, false, false, false⟩, ⟨23, 20, .ro, .hw, false, false, false, false⟩, ⟨19, 16, .ro, .hw, false, false, false, false⟩, ⟨15, 8, .ro, .hw, false, false, false, false⟩, ⟨7, 0, .ro, .hw, false, false, false, false⟩]⟩]

/-- The registers of the tables with prefix HO. -/
def hoRegs : List RegDesc := [
  ⟨"HO_TIMERS", 0x300000, [], [⟨63, 56, .rw, .cr, false, true, true, false⟩, ⟨55, 40, .rw, .cr, false, true, true, false⟩, ⟨39, 32, .rw, .cr, false, true, true, false⟩, ⟨31, 16, .rw, .cr, false, true, true, false⟩, ⟨15, 0, .rw, .cr, false, true, true, false⟩]⟩,
  ⟨"HO_TIMERS2", 0x300008, [], [⟨31, 16, .rw, .cr, false, true, true, false⟩, ⟨15, 0, .rw, .cr, false, true, true, false⟩]⟩,
  ⟨"HO_LIMIT", 0x300010, [], [⟨47, 32, .rw, .cr, false, true, true, false⟩, ⟨15, 0, .rw, .cr, false, true, true, false⟩]⟩,
  ⟨"HO_ACTIVE", 0x300018, [], [⟨47, 32, .ro, .hw, false, false, false, false⟩, ⟨15, 0, .ro, .hw, false, false, false, false⟩]⟩,
  ⟨"HO_CNT", 0x300020, [], [⟨63, 32, .ro, (.lit 0x0), false, false, true, false⟩, ⟨31, 0, .ro, (.lit 0x0), false, false, true, false⟩]⟩,
  ⟨"HO_FAIL_CNT", 0x300028, [], [⟨63, 48, .ro, (.lit 0x0), false, false, true, false⟩, ⟨47, 32, .ro, (.lit 0x0), false, false, true, false⟩, ⟨31, 16, .ro, (.lit 0x0), false, false, true, false⟩, ⟨15, 0, .ro, (.lit 0x0), false, false, true, false⟩]⟩,
  ⟨"HO_REBUILD_CNT", 0x300030, [], [⟨63, 32, .ro, (.lit 0x0), false, false, true, false⟩, ⟨31, 0, .ro, (.lit 0x0), false, false, true, false⟩]⟩]

/-- The registers of the tables with prefix CRU. -/
def cruRegs : List RegDesc := [
  ⟨"CRU_STATUS", 0x400000, [], [⟨51, 48, .ro, .hw, false, false, false, false⟩, ⟨24, 16, .ro, .hw, false, false, false, false⟩, ⟨12, 0, .ro, .hw, false, false, false, false⟩]⟩,
  ⟨"CRU_CFG", 0x400008, [], [⟨12, 0, .rw, .cr, false, true, true, false⟩]⟩,
  ⟨"CRU_JOB_CNT", 0x400010, [], [⟨63, 32, .ro, (.lit 0x0), false, false, true, false⟩, ⟨31, 0, .ro, (.lit 0x0), false, false, true, false⟩]⟩,
  ⟨"CRU_ARITH_CNT", 0x400018, [], [⟨63, 32, .ro, (.lit 0x0), false, false, true, false⟩, ⟨31, 0, .ro, (.lit 0x0), false, false, true, false⟩]⟩,
  ⟨"CRU_ROWOP_CNT", 0x400020, [], [⟨63, 0, .ro, (.lit 0x0), false, false, true, false⟩]⟩,
  ⟨"CRU_EXT_CNT", 0x400028, [], [⟨63, 32, .ro, (.lit 0x0), false, false, true, false⟩, ⟨31, 0, .ro, (.lit 0x0), false, false, true, false⟩]⟩,
  ⟨"CRU_HOLD_MAX", 0x400030, [], [⟨63, 63, .wo, (.lit 0x0), false, false, false, false⟩, ⟨31, 0, .ro, (.lit 0x0), false, false, true, false⟩]⟩,
  ⟨"CRU_UNIT_OFFLINE", 0x400100, [(0x8, 4)], [⟨63, 0, .ro, .hw, false, false, false, false⟩]⟩,
  ⟨"CRU_Q_CFG", 0x408000, [(0x10, 1024)], [⟨63, 62, .ro, (.lit 0x0), false, false, true, false⟩, ⟨51, 48, .ro, (.lit 0x0), false, false, true, false⟩, ⟨41, 32, .ro, (.lit 0x0), false, false, true, false⟩, ⟨22, 16, .ro, (.lit 0x0), false, false, true, false⟩, ⟨12, 0, .ro, (.lit 0x0), false, false, true, false⟩]⟩,
  ⟨"CRU_Q_PTR", 0x408008, [(0x10, 1024)], [⟨31, 16, .ro, (.lit 0x0), false, false, true, false⟩, ⟨15, 0, .ro, (.lit 0x0), false, false, true, false⟩]⟩]

/-- The registers of the tables with prefix SPC. -/
def spcRegs : List RegDesc := [
  ⟨"SPC_GOV_CFG", 0x500000, [], [⟨63, 56, .rw, .cr, false, true, true, false⟩, ⟨55, 48, .rw, .cr, false, true, true, false⟩, ⟨47, 39, .rw, .cr, false, true, true, false⟩, ⟨38, 30, .rw, .cr, false, true, true, false⟩, ⟨29, 23, .rw, .cr, false, true, true, false⟩, ⟨22, 16, .rw, .cr, false, true, true, false⟩, ⟨8, 0, .rw, .cr, false, true, true, false⟩]⟩,
  ⟨"SPC_STATUS", 0x500008, [], [⟨46, 32, .ro, .hw, false, false, false, false⟩, ⟨14, 0, .ro, .hw, false, false, false, false⟩]⟩,
  ⟨"SPC_VERIFY_CNT", 0x500010, [], [⟨63, 32, .ro, (.lit 0x0), false, false, true, false⟩, ⟨31, 0, .ro, (.lit 0x0), false, false, true, false⟩]⟩,
  ⟨"SPC_TOKEN_CNT", 0x500018, [], [⟨63, 32, .ro, (.lit 0x0), false, false, true, false⟩, ⟨31, 0, .ro, (.lit 0x0), false, false, true, false⟩]⟩,
  ⟨"SPC_TRUNC_CNT", 0x500020, [], [⟨63, 0, .ro, (.lit 0x0), false, false, true, false⟩]⟩,
  ⟨"SPC_REFUSE_CNT", 0x500028, [], [⟨63, 32, .ro, (.lit 0x0), false, false, true, false⟩, ⟨31, 0, .ro, (.lit 0x0), false, false, true, false⟩]⟩]

/-- The registers of the tables with prefix GAF. -/
def gafRegs : List RegDesc := [
  ⟨"GAF_STATUS", 0x600000, [], [⟨38, 32, .ro, .hw, false, false, false, false⟩, ⟨22, 16, .ro, .hw, false, false, false, false⟩, ⟨8, 0, .ro, .hw, false, false, false, false⟩]⟩,
  ⟨"GAF_SCHED_CTRL", 0x600008, [], [⟨63, 63, .wo, (.lit 0x0), false, false, false, false⟩, ⟨62, 62, .ro, (.lit 0x0), false, false, false, false⟩, ⟨61, 61, .ro, .cr, false, true, true, false⟩, ⟨31, 16, .rw, .cr, false, true, true, false⟩, ⟨6, 0, .rw, .cr, false, true, true, false⟩]⟩,
  ⟨"GAF_SCHED_NOW", 0x600010, [], [⟨37, 32, .ro, .hw, false, false, false, false⟩, ⟨31, 0, .ro, .hw, false, false, false, false⟩]⟩,
  ⟨"GAF_EXC_CNT", 0x600018, [], [⟨63, 32, .ro, (.lit 0x0), false, false, true, false⟩, ⟨31, 0, .ro, (.lit 0x0), false, false, true, false⟩]⟩,
  ⟨"GAF_PREEMPT", 0x600020, [], [⟨63, 32, .ro, (.lit 0x0), false, false, true, false⟩, ⟨31, 0, .ro, (.lit 0x0), false, false, true, false⟩]⟩,
  ⟨"GAF_PREEMPT_MAX", 0x600028, [], [⟨63, 63, .wo, (.lit 0x0), false, false, false, false⟩, ⟨31, 0, .ro, (.lit 0x0), false, false, true, false⟩]⟩,
  ⟨"GAF_EVC_ADD", 0x600030, [], [⟨63, 48, .wo, (.lit 0x0), false, false, false, false⟩, ⟨31, 0, .wo, (.lit 0x0), false, false, false, false⟩]⟩,
  ⟨"GAF_PREEMPT_DEFER", 0x600038, [], [⟨63, 32, .ro, (.lit 0x0), false, false, true, false⟩, ⟨31, 0, .ro, (.lit 0x0), false, false, true, false⟩]⟩,
  ⟨"GAF_PROG", 0x600100, [(0x10, 32)], [⟨63, 61, .ro, .hw, false, true, true, false⟩, ⟨60, 58, .ro, .hw, false, true, true, false⟩, ⟨51, 48, .ro, .hw, false, true, true, false⟩, ⟨47, 32, .ro, .hw, false, true, true, false⟩, ⟨31, 0, .ro, .hw, false, true, true, false⟩]⟩,
  ⟨"GAF_PROG_KEY", 0x600108, [(0x10, 32)], [⟨63, 32, .ro, .hw, false, true, true, false⟩, ⟨15, 0, .ro, .hw, false, true, true, false⟩]⟩,
  ⟨"GAF_CORE", 0x600400, [(0x8, 64)], [⟨63, 61, .ro, (.lit 0x0), false, false, false, false⟩, ⟨60, 56, .ro, (.lit 0x0), false, false, false, false⟩, ⟨55, 52, .ro, (.lit 0x0), false, false, false, false⟩, ⟨47, 32, .ro, (.lit 0x0), false, false, false, false⟩, ⟨31, 0, .ro, (.lit 0x0), false, false, false, false⟩]⟩,
  ⟨"GAF_SCHED_A", 0x601000, [(0x8, 64)], [⟨63, 63, .rw, .cr, false, true, true, false⟩, ⟨54, 48, .rw, .cr, false, true, true, false⟩, ⟨45, 40, .rw, .cr, false, true, true, false⟩, ⟨39, 32, .rw, .cr, false, true, true, false⟩, ⟨13, 0, .rw, .cr, false, true, true, false⟩]⟩,
  ⟨"GAF_SCHED_B", 0x601200, [(0x8, 64)], [⟨63, 63, .rw, .cr, false, true, true, false⟩, ⟨54, 48, .rw, .cr, false, true, true, false⟩, ⟨45, 40, .rw, .cr, false, true, true, false⟩, ⟨39, 32, .rw, .cr, false, true, true, false⟩, ⟨13, 0, .rw, .cr, false, true, true, false⟩]⟩,
  ⟨"GAF_EVC", 0x680000, [(0x8, 65536)], [⟨63, 0, .ro, (.lit 0x0), false, false, true, false⟩]⟩]

/-- The registers of the tables with prefix FAB. -/
def fabRegs : List RegDesc := [
  ⟨"FAB_LANE_MODE", 0x700000, [], [⟨1, 0, (.rwl .allPorts), .cr, false, true, true, false⟩]⟩,
  ⟨"FAB_NET4", 0x700008, [], [⟨32, 32, (.rwl .allPorts), .cr, false, true, true, false⟩, ⟨31, 18, (.rwl .allPorts), .cr, false, true, true, false⟩]⟩,
  ⟨"FAB_NET6_HI", 0x700010, [], [⟨63, 0, (.rwl .allPorts), .cr, false, true, true, false⟩]⟩,
  ⟨"FAB_NET6_LO", 0x700018, [], [⟨63, 18, (.rwl .allPorts), .cr, false, true, true, false⟩, ⟨0, 0, (.rwl .allPorts), .cr, false, true, true, false⟩]⟩,
  ⟨"FAB_FMT_CFG", 0x700020, [], [⟨31, 16, (.rwl .allPorts), .cr, false, true, true, false⟩, ⟨0, 0, (.rwl .allPorts), .cr, false, true, true, false⟩]⟩,
  ⟨"FAB_TIMERS", 0x700028, [], [⟨63, 48, .rw, .cr, false, true, true, false⟩, ⟨47, 40, .rw, .cr, false, true, true, false⟩, ⟨39, 32, .rw, .cr, false, true, true, false⟩, ⟨31, 24, .rw, .cr, false, true, true, false⟩, ⟨23, 12, .rw, .cr, false, true, true, false⟩, ⟨11, 0, .rw, .cr, false, true, true, false⟩]⟩,
  ⟨"FAB_WINDOW", 0x700030, [], [⟨42, 32, .rw, .cr, false, true, true, false⟩, ⟨26, 16, .rw, .cr, false, true, true, false⟩, ⟨4, 0, .rw, .cr, false, true, true, false⟩]⟩,
  ⟨"FAB_CONN_CNT", 0x700038, [], [⟨45, 32, .ro, .hw, false, false, false, false⟩, ⟨29, 16, .ro, .hw, false, false, false, false⟩, ⟨13, 0, .ro, .hw, false, false, false, false⟩]⟩,
  ⟨"FAB_RETX_CNT", 0x700040, [], [⟨63, 32, .ro, (.lit 0x0), false, false, true, false⟩, ⟨31, 0, .ro, (.lit 0x0), false, false, true, false⟩]⟩,
  ⟨"FAB_RX_CNT", 0x700048, [], [⟨63, 32, .ro, (.lit 0x0), false, false, true, false⟩, ⟨31, 0, .ro, (.lit 0x0), false, false, true, false⟩]⟩,
  ⟨"FAB_NAK_CNT", 0x700050, [], [⟨63, 32, .ro, (.lit 0x0), false, false, true, false⟩, ⟨31, 0, .ro, (.lit 0x0), false, false, true, false⟩]⟩,
  ⟨"FAB_CONN_SEL", 0x700058, [], [⟨12, 0, .rw, (.lit 0x0), false, false, false, false⟩]⟩,
  ⟨"FAB_CONN_VIEW0", 0x700060, [], [⟨63, 61, .ro, (.lit 0x0), false, false, false, false⟩, ⟨60, 60, .ro, (.lit 0x0), false, false, false, false⟩, ⟨59, 57, .ro, (.lit 0x0), false, false, false, false⟩, ⟨56, 52, .ro, (.lit 0x0), false, false, false, false⟩, ⟨51, 42, .ro, (.lit 0x0), false, false, false, false⟩, ⟨41, 31, .ro, (.lit 0x0), false, false, false, false⟩, ⟨30, 13, .ro, (.lit 0x0), false, false, false, false⟩, ⟨12, 0, .ro, (.lit 0x0), false, false, false, false⟩]⟩,
  ⟨"FAB_CONN_VIEW1", 0x700068, [], [⟨47, 24, .ro, (.lit 0x0), false, false, false, false⟩, ⟨23, 0, .ro, (.lit 0x0), false, false, false, false⟩]⟩,
  ⟨"FAB_REGION_SEL", 0x700070, [], [⟨15, 0, .rw, (.lit 0x0), false, false, false, false⟩]⟩,
  ⟨"FAB_REGION_VIEW", 0x700078, [], [⟨63, 62, .ro, (.lit 0x0), false, false, false, false⟩, ⟨61, 59, .ro, (.lit 0x0), false, false, false, false⟩, ⟨58, 58, .ro, (.lit 0x0), false, false, false, false⟩, ⟨57, 40, .ro, (.lit 0x0), false, false, false, false⟩, ⟨39, 30, .ro, (.lit 0x0), false, false, false, false⟩, ⟨29, 16, .ro, (.lit 0x0), false, false, false, false⟩, ⟨15, 0, .ro, (.lit 0x0), false, false, false, false⟩]⟩,
  ⟨"FAB_PD", 0x701000, [(0x8, 1024)], [⟨63, 63, .ro, .hw, true, true, true, false⟩, ⟨62, 62, .ro, .hw, true, true, true, false⟩, ⟨61, 61, .ro, .hw, true, true, true, false⟩, ⟨51, 48, .ro, .hw, true, true, true, false⟩]⟩,
  ⟨"FAB_PORT_CFG", 0x704000, [(0x40, 32)], [⟨63, 63, (.rwl .port), .cr, false, true, true, true⟩, ⟨61, 48, (.rwl .port), .cr, false, true, true, true⟩, ⟨47, 0, (.rwl .port), .cr, false, true, true, true⟩]⟩,
  ⟨"FAB_PORT_L2", 0x704008, [(0x40, 32)], [⟨63, 63, (.rwl .port), .cr, false, true, true, true⟩, ⟨59, 48, (.rwl .port), .cr, false, true, true, true⟩, ⟨47, 0, (.rwl .port), .cr, false, true, true, true⟩]⟩,
  ⟨"FAB_PFC_CFG", 0x704010, [(0x40, 32)], [⟨63, 56, (.rwl .port), .cr, false, true, true, true⟩, ⟨55, 48, .rw, .cr, false, true, true, true⟩, ⟨47, 32, (.rwl .port), .cr, false, true, true, true⟩, ⟨31, 20, .rw, .cr, false, true, true, true⟩, ⟨19, 8, .rw, .cr, false, true, true, true⟩, ⟨7, 0, .rw, .cr, false, true, true, true⟩]⟩,
  ⟨"FAB_PORT_STATUS", 0x704018, [(0x40, 32)], [⟨63, 62, .ro, .hw, false, false, false, false⟩, ⟨61, 54, .ro, .hw, false, false, false, false⟩, ⟨53, 46, .ro, .hw, false, false, false, false⟩, ⟨11, 0, .ro, .hw, false, false, false, false⟩]⟩,
  ⟨"FAB_PORT_FEC", 0x704020, [(0x40, 32)], [⟨63, 32, .ro, (.lit 0x0), false, false, true, true⟩, ⟨31, 0, .ro, (.lit 0x0), false, false, true, true⟩]⟩,
  ⟨"FAB_PORT_DROP", 0x704028, [(0x40, 32)], [⟨63, 48, .ro, (.lit 0x0), false, false, true, true⟩, ⟨47, 32, .ro, (.lit 0x0), false, false, true, true⟩, ⟨31, 16, .ro, (.lit 0x0), false, false, true, true⟩, ⟨15, 0, .ro, (.lit 0x0), false, false, true, true⟩]⟩]

/-- The registers of the tables with prefix TM. -/
def tmRegs : List RegDesc := [
  ⟨"TM_PORT_SHAPE", 0x800000, [(0x1000, 32)], [⟨55, 32, .rw, .cr, false, true, true, true⟩, ⟨23, 0, .rw, .cr, false, true, true, true⟩]⟩,
  ⟨"TM_PORT_SCHED", 0x800008, [(0x1000, 32)], [⟨63, 63, (.rwl .sched), .cr, false, true, true, true⟩, ⟨38, 32, (.rwl .sched), .cr, false, true, true, true⟩, ⟨31, 0, (.rwl .sched), .cr, false, true, true, true⟩]⟩,
  ⟨"TM_GCL_BASE", 0x800010, [(0x1000, 32)], [⟨63, 0, (.rwl .sched), .cr, false, true, true, true⟩]⟩,
  ⟨"TM_PORT_HWM", 0x800018, [(0x1000, 32)], [⟨63, 32, .ro, (.lit 0x0), false, false, true, false⟩, ⟨31, 0, .ro, (.lit 0x0), false, false, true, false⟩]⟩,
  ⟨"TM_PORT_ALARM", 0x800020, [(0x1000, 32)], [⟨31, 0, .rw, .cr, false, true, true, true⟩]⟩,
  ⟨"TM_PORT_CNT", 0x800028, [(0x1000, 32)], [⟨63, 32, .ro, (.lit 0x0), false, false, true, false⟩, ⟨31, 0, .ro, (.lit 0x0), false, false, true, false⟩]⟩,
  ⟨"TM_Q_CFG", 0x800100, [(0x1000, 32), (0x10, 16)], [⟨58, 56, (.rwl .sched), .cr, false, true, true, true⟩, ⟨47, 40, (.rwl .sched), .cr, false, true, true, true⟩, ⟨11, 0, (.rwl .sched), .cr, false, true, true, true⟩]⟩,
  ⟨"TM_Q_SHAPE", 0x800108, [(0x1000, 32), (0x10, 16)], [⟨55, 32, .rw, .cr, false, true, true, true⟩, ⟨23, 0, .rw, .cr, false, true, true, true⟩]⟩,
  ⟨"TM_Q_STATUS", 0x800200, [(0x1000, 32), (0x8, 16)], [⟨43, 32, .ro, .hw, false, false, false, false⟩, ⟨31, 0, .ro, .hw, false, false, false, false⟩]⟩,
  ⟨"TM_GCL", 0x800800, [(0x1000, 32), (0x8, 64)], [⟨63, 48, (.rwl .sched), .cr, false, true, true, true⟩, ⟨31, 0, (.rwl .sched), .cr, false, true, true, true⟩]⟩,
  ⟨"TM_POL_RATE", 0x820000, [(0x40, 32)], [⟨63, 63, .rw, .cr, true, true, true, false⟩, ⟨62, 62, .rw, .cr, true, true, true, false⟩, ⟨47, 24, .rw, .cr, true, true, true, false⟩, ⟨23, 0, .rw, .cr, true, true, true, false⟩]⟩,
  ⟨"TM_POL_BURST", 0x820008, [(0x40, 32)], [⟨55, 32, .rw, .cr, true, true, true, false⟩, ⟨23, 0, .rw, .cr, true, true, true, false⟩]⟩,
  ⟨"TM_POL_GREEN", 0x820010, [(0x40, 32)], [⟨63, 0, .ro, (.lit 0x0), false, false, true, false⟩]⟩,
  ⟨"TM_POL_YELLOW", 0x820018, [(0x40, 32)], [⟨63, 0, .ro, (.lit 0x0), false, false, true, false⟩]⟩,
  ⟨"TM_POL_RED", 0x820020, [(0x40, 32)], [⟨63, 0, .ro, (.lit 0x0), false, false, true, false⟩]⟩,
  ⟨"TM_TEN_HWM", 0x821000, [(0x8, 16)], [⟨63, 32, .ro, (.lit 0x0), false, false, true, false⟩, ⟨31, 0, .ro, (.lit 0x0), false, false, true, false⟩]⟩,
  ⟨"TM_SMP_CFG", 0x822000, [], [⟨63, 63, .rw, (.lit 0x0), false, false, true, false⟩, ⟨36, 32, .rw, (.lit 0x0), false, false, true, false⟩, ⟨31, 0, .rw, (.lit 0x0), false, false, true, false⟩]⟩,
  ⟨"TM_SMP_BASE", 0x822008, [], [⟨63, 6, .rw, (.lit 0x0), false, false, true, false⟩]⟩,
  ⟨"TM_SMP_PTR", 0x822010, [], [⟨63, 32, .ro, (.lit 0x0), false, false, true, false⟩, ⟨31, 0, .rw, (.lit 0x0), false, false, true, false⟩]⟩,
  ⟨"TM_SMP_DROP", 0x822018, [], [⟨31, 0, .ro, (.lit 0x0), false, false, true, false⟩]⟩]

/-- The registers of the tables with prefix PFX. -/
def pfxRegs : List RegDesc := [
  ⟨"PFX_STATUS", 0x900000, [], [⟨48, 32, .ro, .hw, false, false, false, false⟩, ⟨1, 0, .ro, (.lit 0x0), false, false, false, false⟩]⟩,
  ⟨"PFX_CASC_CFG", 0x900008, [], [⟨63, 63, (.rwl .allSegments), .cr, false, true, true, false⟩, ⟨6, 4, (.rwl .allSegments), .cr, false, true, true, false⟩, ⟨3, 0, (.rwl .allSegments), .cr, false, true, true, false⟩]⟩,
  ⟨"PFX_CNT", 0x900010, [], [⟨63, 32, .ro, (.lit 0x0), false, false, true, false⟩, ⟨31, 0, .ro, (.lit 0x0), false, false, true, false⟩]⟩,
  ⟨"PFX_CASC_CNT", 0x900018, [], [⟨63, 32, .ro, (.lit 0x0), false, false, true, false⟩, ⟨31, 0, .ro, (.lit 0x0), false, false, true, false⟩]⟩,
  ⟨"PFX_SEG_CFG", 0x901000, [(0x8, 256)], [⟨63, 62, (.rwl .segment), .cr, true, true, true, false⟩, ⟨61, 61, (.rwl .segment), .cr, true, true, true, false⟩, ⟨52, 48, (.rwl .segment), .cr, true, true, true, false⟩, ⟨9, 0, .ro, .hw, false, false, false, false⟩]⟩]

/-- The registers of the tables with prefix TIER. -/
def tierRegs : List RegDesc := [
  ⟨"TIER_STATUS", 0xA00000, [], [⟨62, 42, .ro, .hw, false, false, false, false⟩, ⟨41, 21, .ro, .hw, false, false, false, false⟩, ⟨20, 12, .ro, .hw, false, false, false, false⟩, ⟨11, 3, .ro, .hw, false, false, false, false⟩]⟩,
  ⟨"TIER_HEDGE", 0xA00008, [], [⟨63, 48, .rw, .cr, false, true, true, false⟩, ⟨47, 32, .rw, .cr, false, true, true, false⟩, ⟨31, 16, .rw, .cr, false, true, true, false⟩]⟩,
  ⟨"TIER_LEND_CFG", 0xA00010, [], [⟨49, 32, .rw, .cr, false, true, true, false⟩, ⟨15, 0, .rw, .cr, false, true, true, false⟩]⟩,
  ⟨"TIER_SEAL", 0xA00018, [], [⟨63, 40, .ro, .hw, false, true, true, false⟩, ⟨39, 0, .ro, (.lit 0x0), false, true, true, false⟩]⟩,
  ⟨"TIER_T2_BASE", 0xA00020, [], [⟨63, 21, .ro, (.lit 0x0), false, true, true, false⟩, ⟨0, 0, .ro, (.lit 0x0), false, true, true, false⟩]⟩,
  ⟨"TIER_T2_SIZE", 0xA00028, [], [⟨63, 32, .ro, .hw, false, false, false, false⟩, ⟨31, 0, .ro, (.lit 0x0), false, true, true, false⟩]⟩,
  ⟨"TIER_CNT", 0xA00030, [], [⟨63, 32, .ro, (.lit 0x0), false, false, true, false⟩, ⟨31, 0, .ro, (.lit 0x0), false, false, true, false⟩]⟩,
  ⟨"TIER_FAIL_CNT", 0xA00038, [], [⟨63, 48, .ro, (.lit 0x0), false, false, true, false⟩, ⟨47, 32, .ro, (.lit 0x0), false, false, true, false⟩, ⟨31, 16, .ro, (.lit 0x0), false, false, true, false⟩, ⟨15, 0, .ro, (.lit 0x0), false, false, true, false⟩]⟩,
  ⟨"TIER_FRAG_STATUS", 0xA00040, [], [⟨63, 48, .ro, .hw, false, false, false, false⟩, ⟨31, 0, .ro, .hw, false, false, false, false⟩]⟩,
  ⟨"TIER_HOLDER", 0xA00100, [(0x8, 16)], [⟨63, 63, .rw, .cr, false, true, true, false⟩, ⟨17, 0, .rw, .cr, false, true, true, false⟩]⟩,
  ⟨"TIER_TEN_QUOTA", 0xA00200, [(0x20, 16), (0x8, 3)], [⟨63, 32, .rw, .cr, true, true, true, false⟩, ⟨31, 0, .ro, .hw, false, false, false, false⟩]⟩,
  ⟨"TIER_LEASE", 0xA01000, [(0x8, 256)], [⟨63, 62, .ro, (.lit 0x0), false, true, true, false⟩, ⟨61, 61, .ro, (.lit 0x0), false, true, true, false⟩, ⟨49, 32, .ro, (.lit 0x0), false, true, true, false⟩, ⟨17, 0, .ro, (.lit 0x0), false, true, true, false⟩]⟩]

/-- The registers of the tables with prefix VF. -/
def vfRegs : List RegDesc := [
  ⟨"TEN_ID", 0x0, [], [⟨63, 32, .ro, .hw, true, true, true, false⟩, ⟨10, 8, .ro, .hw, false, false, false, false⟩, ⟨5, 4, .ro, .hw, false, false, false, false⟩, ⟨3, 0, .ro, .hw, false, false, false, false⟩]⟩,
  ⟨"TEN_SQ_DB", 0x1000, [(0x100, 16)], [⟨15, 0, .wo, (.lit 0x0), false, false, false, false⟩]⟩,
  ⟨"TEN_CQ_DB", 0x2000, [(0x100, 16)], [⟨15, 0, .wo, (.lit 0x0), false, false, false, false⟩]⟩,
  ⟨"TEN_SQ_BASE", 0x3000, [(0x40, 16)], [⟨63, 12, .rw, (.lit 0x0), false, false, false, false⟩]⟩,
  ⟨"TEN_CQ_BASE", 0x3008, [(0x40, 16)], [⟨63, 12, .rw, (.lit 0x0), false, false, false, false⟩]⟩,
  ⟨"TEN_RING_CFG", 0x3010, [(0x40, 16)], [⟨63, 63, .rw, (.lit 0x0), false, false, false, false⟩, ⟨62, 62, .ro, (.lit 0x0), false, false, false, false⟩, ⟨61, 61, .w1c, (.lit 0x0), false, false, false, false⟩, ⟨55, 48, .ro, (.lit 0x0), false, false, false, false⟩, ⟨44, 40, .rw, (.lit 0x0), false, false, false, false⟩, ⟨39, 24, .rw, (.lit 0x0), false, false, false, false⟩, ⟨23, 16, .rw, (.lit 0x0), false, false, false, false⟩, ⟨9, 5, .rw, (.lit 0x0), false, false, false, false⟩, ⟨4, 0, .rw, (.lit 0x0), false, false, false, false⟩]⟩,
  ⟨"TEN_RING_PTR", 0x3018, [(0x40, 16)], [⟨63, 48, .ro, (.lit 0x0), false, false, false, false⟩, ⟨47, 32, .ro, (.lit 0x0), false, false, false, false⟩, ⟨31, 16, .ro, (.lit 0x0), false, false, false, false⟩, ⟨15, 0, .ro, (.lit 0x0), false, false, false, false⟩]⟩,
  ⟨"TEN_EVQ_BASE", 0x4000, [], [⟨63, 12, .rw, (.lit 0x0), false, false, false, false⟩]⟩,
  ⟨"TEN_EVQ_CFG", 0x4008, [], [⟨63, 63, .rw, (.lit 0x0), false, false, false, false⟩, ⟨12, 8, .rw, (.lit 0x0), false, false, false, false⟩, ⟨4, 0, .rw, (.lit 0x0), false, false, false, false⟩]⟩,
  ⟨"TEN_EVQ_PTR", 0x4010, [], [⟨63, 32, .ro, (.lit 0x0), false, false, false, false⟩, ⟨31, 0, .rw, (.lit 0x0), false, false, false, false⟩]⟩,
  ⟨"TEN_EVQ_DROP", 0x4018, [], [⟨31, 0, .ro, (.lit 0x0), false, false, false, false⟩]⟩]

/-- The registers of the tables with prefix TEN. -/
def tenRegs : List RegDesc := [
  ⟨"TEN_SLOT_CFG", 0xB00000, [(0x8, 16)], [⟨31, 0, (.rwl .slot), .cr, true, true, true, false⟩]⟩,
  ⟨"TEN_SLOT_STATUS", 0xB00100, [(0x8, 16)], [⟨47, 32, .ro, .hw, false, false, false, false⟩, ⟨31, 16, .ro, .hw, false, false, false, false⟩, ⟨15, 0, .ro, .hw, false, false, false, false⟩]⟩]

/-- The registers of the tables with prefix SEC. -/
def secRegs : List RegDesc := [
  ⟨"SEC_STATE", 0xC00000, [], [⟨63, 32, .ro, .hw, false, false, false, false⟩, ⟨4, 4, .ro, .hw, false, false, false, false⟩, ⟨3, 3, .ro, (.lit 0x0), false, false, false, false⟩, ⟨2, 0, .ro, .hw, false, false, false, false⟩]⟩,
  ⟨"SEC_FW_FLOOR", 0xC00008, [], [⟨31, 0, .ro, .hw, false, false, false, false⟩]⟩,
  ⟨"SEC_FW_DIGEST", 0xC00010, [(0x8, 8)], [⟨63, 0, .ro, .hw, false, false, false, false⟩]⟩,
  ⟨"SEC_PEERS", 0xC00050, [], [⟨44, 32, .ro, .hw, false, false, false, false⟩, ⟨31, 0, .ro, (.lit 0x0), false, false, true, false⟩]⟩,
  ⟨"SEC_FAIL_CNT", 0xC00058, [], [⟨63, 32, .ro, (.lit 0x0), false, false, true, false⟩, ⟨31, 0, .ro, (.lit 0x0), false, false, true, false⟩]⟩,
  ⟨"SEC_TEN_CFG", 0xC00100, [(0x8, 16)], [⟨63, 63, (.rwl .slot), .cr, true, true, true, false⟩, ⟨62, 62, (.rwl .slot), .cr, true, true, true, false⟩, ⟨24, 24, .ro, .hw, false, false, false, false⟩, ⟨23, 16, .ro, .hw, false, false, false, false⟩, ⟨15, 0, .ro, .hw, false, false, false, false⟩]⟩,
  ⟨"SEC_REC_ADDR", 0xC00200, [], [⟨63, 6, .rw, (.lit 0x0), false, false, false, false⟩]⟩,
  ⟨"SEC_REC_CTRL", 0xC00208, [], [⟨63, 63, .wo, (.lit 0x0), false, false, false, false⟩, ⟨55, 48, .ro, (.lit 0x0), false, false, false, false⟩, ⟨27, 0, .rw, (.lit 0x0), false, false, false, false⟩]⟩]

/-- The registers of the tables with prefix MTR. -/
def mtrRegs : List RegDesc := [
  ⟨"MTR_STATUS", 0xD00000, [], [⟨63, 63, .ro, (.lit 0x0), false, false, false, false⟩, ⟨38, 32, .ro, (.lit 0x0), false, false, false, false⟩, ⟨31, 0, .ro, .hw, false, true, true, false⟩]⟩,
  ⟨"MTR_TEN_CFG", 0xD00100, [(0x8, 16)], [⟨63, 63, (.rwl .slot), .cr, true, true, true, false⟩, ⟨62, 62, .ro, (.lit 0x0), false, false, false, false⟩]⟩,
  ⟨"MTR_TOT", 0xD01000, [(0x40, 16), (0x8, 7)], [⟨63, 0, .ro, (.lit 0x0), true, true, true, false⟩]⟩,
  ⟨"MTR_RES", 0xD01800, [(0x8, 16)], [⟨63, 32, .ro, .hw, false, false, false, false⟩, ⟨31, 0, .ro, .hw, false, false, false, false⟩]⟩]

/-- The registers of the tables with prefix REL. -/
def relRegs : List RegDesc := [
  ⟨"REL_STATE", 0xE00000, [], [⟨15, 8, .ro, (.lit 0x0), false, true, true, false⟩, ⟨2, 0, .ro, .hw, false, false, false, false⟩]⟩,
  ⟨"REL_ECC_CFG", 0xE00008, [], [⟨63, 63, .rw, .cr, false, true, true, false⟩, ⟨47, 40, .rw, .cr, false, true, true, false⟩, ⟨31, 16, .rw, .cr, false, true, true, false⟩, ⟨15, 0, .rw, .cr, false, true, true, false⟩]⟩,
  ⟨"REL_ECC_CNT", 0xE00010, [], [⟨63, 32, .ro, (.lit 0x0), false, false, true, false⟩, ⟨31, 0, .ro, (.lit 0x0), false, false, true, false⟩]⟩,
  ⟨"REL_LAST_UE", 0xE00018, [], [⟨63, 56, .ro, (.lit 0x0), false, false, true, false⟩, ⟨39, 0, .ro, (.lit 0x0), false, false, true, false⟩]⟩,
  ⟨"REL_SPARE", 0xE00020, [], [⟨47, 32, .ro, .hw, false, false, false, false⟩, ⟨19, 0, .ro, .hw, false, false, false, false⟩]⟩,
  ⟨"REL_SRAM_CNT", 0xE00028, [], [⟨63, 32, .ro, (.lit 0x0), false, false, true, false⟩, ⟨31, 0, .ro, (.lit 0x0), false, false, true, false⟩]⟩,
  ⟨"REL_ISO_CFG", 0xE00030, [], [⟨63, 63, .rw, .cr, false, true, true, false⟩, ⟨7, 0, .rw, .cr, false, true, true, false⟩]⟩,
  ⟨"REL_SHADOW_CFG", 0xE00038, [], [⟨63, 63, .rw, .cr, false, true, true, false⟩, ⟨31, 0, .rw, .cr, false, true, true, false⟩]⟩,
  ⟨"REL_SHADOW_STATUS", 0xE00040, [], [⟨63, 62, .ro, (.lit 0x0), false, false, false, false⟩, ⟨49, 32, .ro, (.lit 0x0), false, false, false, false⟩, ⟨31, 0, .ro, (.lit 0x0), false, false, false, false⟩]⟩,
  ⟨"REL_HB_CFG", 0xE00048, [], [⟨63, 63, .ro, (.lit 0x0), false, false, false, false⟩, ⟨47, 32, .ro, .hw, false, false, false, false⟩, ⟨15, 0, .rw, .cr, false, true, true, false⟩]⟩,
  ⟨"REL_CFG_DIGEST", 0xE00100, [(0x8, 8)], [⟨63, 0, .ro, .hw, false, false, false, false⟩]⟩,
  ⟨"REL_SELF_EXPECT", 0xE00140, [(0x8, 2)], [⟨63, 0, .rw, .cr, false, true, true, false⟩]⟩,
  ⟨"REL_HB_PEER", 0xE00200, [(0x8, 16)], [⟨63, 63, .rw, .cr, false, true, true, false⟩, ⟨17, 0, .rw, .cr, false, true, true, false⟩]⟩]

/-- The registers of the tables with prefix PWR. -/
def pwrRegs : List RegDesc := [
  ⟨"PWR_STATUS", 0xF00000, [], [⟨55, 48, .ro, .hw, false, false, false, false⟩, ⟨47, 40, .ro, .hw, false, false, false, false⟩, ⟨31, 16, .ro, .hw, false, false, false, false⟩, ⟨4, 4, .ro, .hw, false, false, false, false⟩, ⟨1, 0, .ro, .hw, false, false, false, false⟩]⟩,
  ⟨"PWR_PACE", 0xF00008, [], [⟨63, 63, .wo, (.lit 0x0), false, false, false, false⟩, ⟨47, 32, .ro, .hw, false, false, true, false⟩, ⟨26, 16, .ro, .hw, false, false, false, false⟩, ⟨10, 0, .ro, .hw, false, false, false, false⟩]⟩,
  ⟨"PWR_LIMIT", 0xF00010, [], [⟨15, 0, .rw, .cr, false, true, true, false⟩]⟩,
  ⟨"PWR_RESET", 0xF00018, [], [⟨63, 63, .wo, (.lit 0x0), false, false, false, false⟩, ⟨53, 48, .wo, (.lit 0x0), false, false, false, false⟩, ⟨47, 47, .wo, (.lit 0x0), false, false, false, false⟩, ⟨36, 32, .wo, (.lit 0x0), false, false, false, false⟩]⟩,
  ⟨"PWR_RESET_LOG", 0xF00020, [], [⟨63, 56, .ro, .hw, false, false, false, false⟩, ⟨31, 16, .ro, (.lit 0x0), false, true, true, false⟩, ⟨15, 0, .ro, (.lit 0x0), false, true, true, false⟩]⟩,
  ⟨"CLK_SRC", 0xF00100, [], [⟨41, 41, .ro, .hw, false, false, false, false⟩, ⟨40, 40, .ro, .hw, false, false, false, false⟩, ⟨34, 32, .ro, .hw, false, false, false, false⟩, ⟨2, 0, .rw, .strap, false, true, true, false⟩]⟩,
  ⟨"CLK_SETTLE", 0xF00108, [], [⟨7, 0, .ro, .cr, false, true, true, false⟩]⟩,
  ⟨"CLK_LOCAL", 0xF00110, [], [⟨63, 0, .ro, (.lit 0x0), false, true, true, false⟩]⟩]

/-- Every register of the channel window that a table gives. -/
def channelRegs : List RegDesc :=
  chnRegs ++ ctxRegs ++ pgRegs ++ hoRegs ++ cruRegs ++ spcRegs ++ gafRegs ++ fabRegs ++ tmRegs ++ pfxRegs ++ tierRegs ++ tenRegs ++ secRegs ++ mtrRegs ++ relRegs ++ pwrRegs

/-- The index of offset `off` in an array of registers of the given dimensions, whose first element lies at 0; none outside it. -/
def arrayIndex : List (Nat × Nat) → Nat → Option (List Nat)
  | [], off => if off = 0 then some [] else none
  | (st, n) :: t, off =>
    let i := if t.isEmpty then off / st else min (off / st) (n - 1)
    if i < n then (arrayIndex t (off - i * st)).map (fun l => i :: l) else none

/-- The register at `off`, with its indexes, where one is defined. -/
def findReg (l : List RegDesc) (off : Nat) : Option (RegDesc × List Nat) :=
  l.findSome? (fun d => if d.base ≤ off then (arrayIndex d.dims (off - d.base)).map (fun i => (d, i)) else none)

end Sys2Proof.Machine
end

