-- ==== Sys2Proof/Machine/CfgText.lean ====
section
/-! DEFINITION. The canonical configuration of a channel and its digest (R451). -/
namespace Sys2Proof.Machine
open Sys2Proof

/-- Is a field loaded from the configuration record (R20)? -/
def FieldDesc.isCr (f : FieldDesc) : Bool := decide (f.rst = .cr)

/-- The offsets of the elements of an array of registers. -/
def arrayOffsets (base : Nat) : List (Nat × Nat) → List Nat
  | [] => [base]
  | (st, n) :: t => (List.range n).flatMap (fun i => arrayOffsets (base + i * st) t)

/-- The fields of a register that the digest covers: those whose reset value is CR, but for the registers that R451 leaves out. -/
def RegDesc.crFields (d : RegDesc) : List FieldDesc :=
  if d.name = "CHN_FN_STATE" ∨ d.name = "CHN_CFG_EPOCH" ∨ d.name = "REL_SELF_EXPECT" then [] else d.fields.filter FieldDesc.isCr

/-- Every register with such a field, in ascending offset. -/
def crRegisters : List (Nat × List FieldDesc) :=
  sortBy (fun a b => decide (a.1 ≤ b.1))
    ((channelRegs.filter (fun d => !d.crFields.isEmpty)).flatMap (fun d => (arrayOffsets d.base d.dims).map (fun o => (o, d.crFields))))

/-- A value with every bit outside some fields set to zero. -/
def onlyFields (fs : List FieldDesc) (v : Nat) : Nat := (fs.map (fun f => bits v f.hi f.lo * 2 ^ f.lo)).sum

/-- The canonical configuration (R451): the registers, ROLE_DIGEST and FW_DIGEST. -/
def canonicalConfig (regs : AMap Nat) (roleDigest fwDigest : List Byte) : List Byte :=
  crRegisters.flatMap (fun r => leBytes 4 r.1 ++ leBytes 8 (onlyFields r.2 (regs.getD r.1 0))) ++ roleDigest ++ fwDigest

/-- CFG_DIGEST of a configuration. -/
def configDigest (regs : AMap Nat) (roleDigest fwDigest : List Byte) : List Byte := sha512 (canonicalConfig regs roleDigest fwDigest)

end Sys2Proof.Machine
end

