-- ==== Sys2Proof/Machine/State.lean ====
section
/-! DEFINITION. The state of the block: the hub, the four channels with every register, table, queue and memory the spec gives them, and the
queue of the commands that wait; why a step can stop; and the state after reset. -/
namespace Sys2Proof.Machine
open Sys2Proof

/-! ### Common: outputs, functions, rings, events (chapters 1, 2 and 14) -/

/-- A PCIe function of one channel: virtual function of a tenant slot, or the channel's physical function (R362, R363). -/
inductive PciFn where
  | vf (slot : Nat)
  | pf
  deriving DecidableEq, Repr

/-- What a channel, or the hub, sends to the world outside. The newest output stands first in the log that holds them. -/
inductive Output where
  /-- a posted write to host memory with the requester of `fn` (R363) -/
  | hostWrite (fn : PciFn) (addr : Nat) (data : List Byte)
  /-- an MSI-X interrupt (R370, R499) -/
  | msix (fn : PciFn) (vector : Nat)
  /-- an AER report (R379): severity 0 correctable, 1 advisory, 2 non-fatal -/
  | aer (fn : PciFn) (severity : Nat)
  /-- the END of a commanded invocation: its status and its 64-bit result (R372), whether or not a completion is written -/
  | done (src : Src) (status : Nat) (result : Nat)
  /-- an asynchronous event raised (R58), whether or not a ring takes its record -/
  | event (code sev : Nat) (tenant : Option Nat) (subject detail : Nat)
  /-- an FMT message or packet handed to the transport for a peer: its kind and its fields in the order the meaning names them -/
  | fmt (peer : Nat) (kind : String) (fields : List Nat) (data : List Byte)
  /-- a frame leaving a port on a queue -/
  | frame (port queue : Nat) (data : List Byte)
  /-- a 64-byte frame of the count link to the meter (R417) -/
  | link (data : List Byte)
  /-- a 40-byte cascade frame on MATCH_OUT (R326) -/
  | matchOut (data : List Byte)
  /-- the data that a register read returns, for the reads that change the register they read (R319, R462) -/
  | regRead (off value : Nat)
  /-- a signal on a pin or a link of the module: its name and its level -/
  | pin (name : String) (level : Nat)
  deriving DecidableEq, Repr

/-- The four states of a function, and ABSENT (R44, CHN_FN_STATE). -/
inductive FnState where
  | running | stopping | stopped | starting | absent
  deriving DecidableEq, Repr

/-- STATE of CHN_FN_STATE. -/
def FnState.code : FnState → Nat
  | .running => 0
  | .stopping => 1
  | .stopped => 2
  | .starting => 3
  | .absent => 7

/-- What a channel keeps of one function: its state, RESULT and BAD_REG of CHN_FN_STATE, a STOP held during STARTING (R46) with
the command that gave it, and the command whose completion waits for the end of STOPPING. -/
structure FnRec where
  st : FnState
  result : Nat
  badReg : Nat
  held : Option (Option Src)
  owner : Option Src
  deriving DecidableEq, Repr

/-- A function that no reset and no command has moved: STOPPED (R49). -/
def FnRec.init : FnRec := ⟨.stopped, 0, 0, none, none⟩

/-- The role programs of R23. -/
inductive Role where
  | unassigned | prompt | generation | cache
  deriving DecidableEq, Repr

/-- The role: the one that runs or last ran, the role of the image that role.load installed, the local time at which the drain budget of a stop ends (R34), and
the profile registers under which the role last started, by 2 × profile (PG_PROF_GEOM) and 2 × profile + 1 (PG_PROF_ID) (R94). -/
structure RoleSt where
  cur : Role
  image : Option Role
  budgetEnd : Option Nat
  profiles : AMap Nat
  deriving DecidableEq, Repr

/-- An entry taken and not completed (R368): its code, its CID, and its FENCE flag. -/
structure Taken where
  code : Nat
  cid : Nat
  deriving DecidableEq, Repr

/-- One ring pair (R366 to R370): its registers as written, the bases and sizes latched at the last enable, its indices,
the phase of the next completion, the entries taken and not completed, and the completions not yet signalled. -/
structure Ring where
  sqBase : Nat
  cqBase : Nat
  en : Bool
  err : Bool
  cause : Nat
  vector : Nat
  coalTime : Nat
  coalCount : Nat
  cqLog2 : Nat
  sqLog2 : Nat
  lSqBase : Nat
  lCqBase : Nat
  lSqLog2 : Nat
  lCqLog2 : Nat
  cqHead : Nat
  cqTail : Nat
  sqTail : Nat
  sqHead : Nat
  phase : Bool
  taken : List Taken
  unsignalled : Nat
  oldest : Option Nat
  deriving DecidableEq, Repr

/-- A ring pair at its reset values. -/
def Ring.init : Ring :=
  { sqBase := 0, cqBase := 0, en := false, err := false, cause := 0, vector := 0, coalTime := 0, coalCount := 0,
    cqLog2 := 0, sqLog2 := 0, lSqBase := 0, lCqBase := 0, lSqLog2 := 4, lCqLog2 := 4, cqHead := 0, cqTail := 0,
    sqTail := 0, sqHead := 0, phase := true, taken := [], unsignalled := 0, oldest := none }

/-- One event ring (R60, R499): registers as written, what the last enable latched, the indices, SEQ, the drop count,
whether FLAGS bit 0 is owed to the next record, and whether the vector has been raised since the last write of CIDX. -/
structure EvRing where
  base : Nat
  en : Bool
  vector : Nat
  log2 : Nat
  lBase : Nat
  lLog2 : Nat
  pidx : Nat
  cidx : Nat
  seq : Nat
  drop : Nat
  lost : Bool
  raised : Bool
  deriving DecidableEq, Repr

/-- An event ring at its reset values. -/
def EvRing.init : EvRing :=
  { base := 0, en := false, vector := 0, log2 := 0, lBase := 0, lLog2 := 4, pidx := 0, cidx := 0, seq := 0, drop := 0,
    lost := false, raised := false }

/-- One MSI-X vector: its mask and its pending bit (R381). -/
structure Vec where
  masked : Bool
  pending : Bool
  deriving DecidableEq, Repr

/-- A vector after reset: masked, nothing pending. -/
def Vec.init : Vec := ⟨true, false⟩

/-- What a PCIe configuration write sets on one function (R361, R476): Bus Master Enable, the D3hot state, and, on a PF, NumVFs. -/
structure Pci where
  bme : Bool
  d3hot : Bool
  numVfs : Nat
  deriving DecidableEq, Repr

/-- A function's configuration after reset. -/
def Pci.init : Pci := ⟨false, false, 0⟩

/-! ### The context table (chapter 3) -/

/-- STATE codes of R64. -/
inductive CtxState where
  | free | prefilling | sealed | offered | inbound | decoding | parked | draining | retired | faulted
  deriving DecidableEq, Repr

/-- The code of a state (R64). -/
def CtxState.code : CtxState → Nat
  | .free => 0
  | .prefilling => 1
  | .sealed => 2
  | .offered => 3
  | .inbound => 4
  | .decoding => 5
  | .parked => 6
  | .draining => 7
  | .retired => 8
  | .faulted => 9

/-- One context-table entry, field by field as R63 lays it out. SUBSTATE keeps its code (R64). -/
structure Entry where
  state : CtxState
  sub : Nat
  overrun : Bool
  prefixOwner : Bool
  prefixAttached : Bool
  isPrivate : Bool
  unmetered : Bool
  gen : Nat
  epoch : Nat
  req : Nat
  tag : Nat
  tslot : Nat
  prio : Nat
  profile : Nat
  format : Nat
  red : Nat
  ret : Nat
  fault : Nat
  deadline : Nat
  committed : Nat
  provisional : Nat
  pgt : Nat
  peer : Nat
  stateTime : Nat
  governor : Nat
  refs : Nat
  ch0 : Nat
  ch1 : Nat
  ch2 : Nat
  jlast : Nat
  span : Nat
  evc0 : Nat
  evc1 : Nat
  evc2 : Nat
  evc3 : Nat
  deriving DecidableEq, Repr

/-- An entry of R73: FREE with GENERATION 0. -/
def Entry.free : Entry :=
  { state := .free, sub := 0, overrun := false, prefixOwner := false, prefixAttached := false, isPrivate := false,
    unmetered := false, gen := 0, epoch := 0, req := 0, tag := 0, tslot := 0, prio := 0, profile := 0, format := 0,
    red := 0, ret := 0, fault := 0, deadline := 0, committed := 0, provisional := 0, pgt := 0, peer := 0,
    stateTime := 0, governor := 0, refs := 0, ch0 := 0, ch1 := 0, ch2 := 0, jlast := 0, span := 0, evc0 := 0,
    evc1 := 0, evc2 := 0, evc3 := 0 }

/-- One journal record (R87): its sequence number, slot, CAUSE, TIME and the entry's image. -/
structure JRec where
  seq : Nat
  slot : Nat
  cause : Nat
  time : Nat
  image : Entry
  deriving DecidableEq, Repr

/-- One snapshot buffer (R88): the JSEQ of its trailer and the table image. -/
structure Snapshot where
  seq : Nat
  table : AMap Entry
  valid : Bool
  deriving DecidableEq, Repr

/-- The journal: the two snapshot buffers, the records newest first, how many since the last snapshot, the local time of that
snapshot, the ring position of the next record, and what CTX_JRNL_STATUS and CTX_JRNL_SEQ show. -/
structure Journal where
  seq : Nat
  snapA : Snapshot
  snapB : Snapshot
  recs : List JRec
  sinceSnap : Nat
  snapTime : Nat
  ringPos : Nat
  degraded : Bool
  deriving DecidableEq, Repr

/-- The context table: its entries (an unlisted slot is FREE at generation 0), the free queue as runs of slots (first slot,
length) in queue order, READY, the local time until which R73 withholds slots, the handles' occurrences since the last
stale and misrouted events, the captured peek image, and the commands that wait on a context: ctx.seal and ctx.retire. -/
structure CtxTable where
  entries : AMap Entry
  freeQ : List (Nat × Nat)
  ready : Bool
  holdUntil : Option Nat
  journal : Journal
  peekSel : Nat
  peekData : List Byte
  sealing : AMap Src
  retiring : AMap (List Src)
  deadlineDone : AMap Nat
  deriving DecidableEq, Repr

/-! ### Pages, frames and append windows (chapter 4) -/

/-- LOC of a page-group record (R100). -/
inductive Loc where
  | t0 | t1 | t2 | remote
  deriving DecidableEq, Repr

/-- The code of LOC. -/
def Loc.code : Loc → Nat
  | .t0 => 0
  | .t1 => 1
  | .t2 => 2
  | .remote => 3

/-- One page-group record (R100): the header fields, and the frame entries listed by l × P + j. For a group in tier T1 or T2 the
entries give the tier object. -/
structure PgRec where
  loc : Loc
  shared : Bool
  rows : Nat
  owner : Nat
  chain : Nat
  frames : AMap Nat
  deriving DecidableEq, Repr

/-- A record that nothing has written. -/
def PgRec.init : PgRec := ⟨.t0, false, 0, 0, 0, []⟩

/-- One unit admitted and not yet placed (R118): its stored elements and scale, and the packet that carried it (the connection
or queue pair, and the packet's sequence number). -/
structure Staged where
  layer : Nat
  token : Nat
  unit : Nat
  elems : List Byte
  scale : List Byte
  conn : Nat
  psn : Nat
  deriving DecidableEq, Repr

/-- The context map of one slot (R99) and what the append path keeps beside it: the directory (block number to HBM address),
the records, F[l], the placed units of incomplete token-layer records (by l × 2^22 + t, one bit a unit), the units in
staging, the append-window region and its PD. -/
structure PageMap where
  dir : AMap Nat
  recs : AMap PgRec
  fill : AMap Nat
  placed : AMap Nat
  staged : List Staged
  region : Option Nat
  pd : Nat
  deriving DecidableEq, Repr

/-- A context map with nothing in it. -/
def PageMap.init : PageMap := ⟨[], [], [], [], [], none, 0⟩

/-- One assigned slab (R103): its frame size in 4 KiB granules and the frames in use, on the cullet list or withdrawn, one bit a frame. -/
structure Slab where
  gran : Nat
  used : Nat
  deriving DecidableEq, Repr

/-- The frame pool and the page-group-table pool: the assigned slabs (an unlisted slab is unassigned), slabs taken for
regions, attention queues and leases (1, 2 or 3), the cullet list in release order, frames released while a job reads them, the withdrawn frames, the table blocks in use (address and length), and how many entries pg.scale has loaded of
each profile's scale table. -/
structure PagePool where
  slabs : AMap Slab
  taken : AMap Nat
  cullet : List Nat
  readHeld : List Nat
  withdrawn : List Nat
  blocks : AMap Nat
  scaleLoaded : AMap Nat
  deriving DecidableEq, Repr

/-! ### The punty handoff (chapter 5) -/

/-- One predecessor of a rebuild (R146): its EID and its FENCE_REPLY, HELD or not and the epoch it carried. -/
structure Pred where
  eid : Nat
  reply : Option (Bool × Nat)
  deriving DecidableEq, Repr

/-- A rebuild in progress (R146): the last known epoch E, the predecessors, FORCE, the local time of the next FENCE and of
FENCE_TIME's end, and whether the fencing has ended. -/
structure Rebuild where
  lastEpoch : Nat
  preds : List Pred
  force : Bool
  retryDue : Nat
  timeDue : Nat
  fenced : Bool
  list : FragLoc
  deriving DecidableEq, Repr

/-- What a channel keeps of one handoff beside the entry (R137, R138): the OFFER as sent or taken, the commands that wait (ho.offer or ho.rebuild, and
ho.cancel), the tries made, the local times at which the timers expire, whether handoff-stuck has been raised, the region registered here, the manifest as
built or received, how many bytes of the region's layout have been moved, the REGION field of the peer's region, DIGEST as received, whether the fragment set is written, the reason that a
tombstone records, and a rebuild. -/
structure Handoff where
  offer : HoMsg
  cmd : Option Src
  cancel : List Src
  tries : Nat
  due : Nat
  idleDue : Nat
  cancelDue : Nat
  stuck : Bool
  region : Option Nat
  manifest : List Byte
  moved : Nat
  peerRegion : Nat
  digestIn : List Byte
  fragsDone : Bool
  reason : Nat
  rebuild : Option Rebuild
  deriving DecidableEq, Repr

/-- The handoffs under way or remembered, by slot. -/
structure HandoffSt where
  of : AMap Handoff
  deriving DecidableEq, Repr

/-! ### Attention near memory (chapter 6) -/

/-- STATE of CRU_Q_CFG. -/
inductive QueueState where
  | free | active | deleting
  deriving DecidableEq, Repr

/-- One attention queue (R155 to R160): its configuration, key, slabs, PIDX and CIDX, the connections on which the doorbells of the posted jobs arrived, as runs,
the command that deletes it, and the jobs replied since the delete point. -/
structure AttnQueue where
  st : QueueState
  tenant : Nat
  pd : Nat
  key : Nat
  kib : Nat
  slots : Nat
  slabs : List Nat
  pidx : Nat
  cidx : Nat
  posts : List (Nat × Nat)
  delSrc : Option Src
  drained : Nat
  deriving DecidableEq, Repr

/-- A free queue. -/
def AttnQueue.init : AttnQueue := ⟨.free, 0, 0, 0, 0, 0, [], 0, 0, [], none, 0⟩

/-- An accepted job not yet replied (R158): the queue or the command it came from, the copied slot image, what acceptance resolved (the context's slot,
generation, tenant slot and profile, the first token that is not excluded, the span's end, the epoch, REMOTE_END and OWNER of R166), its status, the host address
of the reply or the connection of the doorbell, and the frames of the span by page-group × 64 + part. -/
structure Job where
  queue : Option Nat
  src : Option Src
  image : List Byte
  slot : Nat
  gen : Nat
  tenant : Nat
  profile : Nat
  first : Nat
  spanEnd : Nat
  epoch : Nat
  remoteEnd : Nat
  owner : Nat
  status : Nat
  reply : Nat
  conn : Nat
  frames : AMap Nat
  deriving DecidableEq, Repr

/-- A row operation under way: its operands and the command that waits (R176, R177). -/
structure RowRun where
  op : RowOp
  src : Option Src
  deriving DecidableEq, Repr

/-- The crucible units of a channel: the queues, the jobs accepted, the host jobs that wait for room or for the end of ride-through (command, slot image and reply
address), the row operations under way in order, the units offline (one
bit a pseudo-channel), the stacks that run doubled refresh, and the refreshes serviced. -/
structure Crucible where
  queues : AMap AttnQueue
  jobs : AMap Job
  nextJob : Nat
  waiting : List (Src × List Byte × Nat)
  rowops : List RowRun
  offline : Nat
  hot : Nat
  refreshes : Nat
  deriving DecidableEq, Repr

/-! ### Speculation (chapter 7) -/

/-- Where a speculation or attention reply goes: to the command that asked, or to an address of a peer. -/
inductive ReplyTo where
  | host (src : Src)
  | peer (via : Via) (addr key gen : Nat)
  deriving DecidableEq, Repr

/-- An open draft (R185, R186): the base, NODES, ANCHOR, each node's parent (none for a root), and the VERIFY under way. -/
structure Draft where
  base : Nat
  anchor : Bool
  parents : List (Option Nat)
  verify : Option (List Nat × ReplyTo × Nat)
  deriving DecidableEq, Repr

/-! ### Descriptors of the asynchronous instructions (chapter 9) -/

/-- A descriptor move (R248), with what acceptance resolved: the context's slot and the length its rows are read up to. -/
structure DmovDesc where
  kind : Nat
  dspace : Nat
  sspace : Nat
  vTiles : Bool
  count : Nat
  slot : Nat
  layer : Nat
  head : Nat
  log2 : Nat
  first : Nat
  src : Nat
  dst : Nat
  stride : Nat
  limit : Nat
  data : List Byte
  deriving DecidableEq, Repr

/-- A CRYPT operation (R255), with the key that its handle names and the source bytes as they stood when it was accepted (R237). -/
structure CryptDesc where
  op : Nat
  at_ : Nat
  key : Nat
  iv : List Byte
  aad : List Byte
  text : List Byte
  tag : List Byte
  out : Nat
  tagAt : Nat
  keyBytes : List Byte
  deriving DecidableEq, Repr

/-- An instruction that waits for asynchronous work to complete (R237, R250): FENCE, a signal, END, an instruction that found
sixteen outstanding, or a YIELD or WAIT whose preemption waits. -/
inductive Held where
  | fence
  | signal (amount : Nat) (ref : Nat)
  | ending
  | issue (op : Nat) (f : IFields)
  | save (scr pmask vmask smask : Nat)
  deriving DecidableEq, Repr

/-- A packet buffer in use (R256): the frame's length and its bytes, whether its FCS is good, and for a received frame its port and priority (R266). -/
structure PktBuf where
  len : Nat
  data : Memory
  fcs : Bool
  rx : Option (Nat × Nat)
  deriving DecidableEq, Repr

/-! ### Gaffer cores (chapter 8) -/

/-- STATE of GAF_CORE. -/
inductive CoreState where
  | idle | running | waiting | saving | restoring
  deriving DecidableEq, Repr

/-- The code of a core's state. -/
def CoreState.code : CoreState → Nat
  | .idle => 0
  | .running => 1
  | .waiting => 2
  | .saving => 3
  | .restoring => 4

/-- KIND of a program image (R211). -/
inductive ProgKind where
  | role | base | tenant
  deriving DecidableEq, Repr

/-- An installed program (R210, R211): the image's fields, the counters it holds, where its image lies in HBM and how long it is (none for the base
programs), the local time of the last exception of a resident entry, and the code with which it became faulted. -/
structure Prog where
  kind : ProgKind
  faulted : Bool
  grants : Nat
  version : Nat
  keyId : Nat
  scratch : Nat
  coresMax : Nat
  tenant : Nat
  entries : List EntryRec
  text : List Byte
  data : List Byte
  evcBase : Nat
  evcCount : Nat
  imgAt : Nat
  imgLen : Nat
  lastExc : Option Nat
  excCode : Nat
  deriving DecidableEq, Repr

/-- An invocation: its program slot and entry, whether it is the resident one, the caller, its number, the command whose completion END posts, and its
parameters s1 to s6. -/
structure Invocation where
  prog : Nat
  entry : Nat
  resident : Bool
  pf : Bool
  tslot : Nat
  number : Nat
  src : Option Src
  params : List W64
  deriving DecidableEq, Repr

/-- An event counter as an instruction names it: counter i of the channel, or bound counter j of a context (R217). -/
inductive Ctr where
  | num (i : Nat)
  | bound (slot j : Nat)
  deriving DecidableEq, Repr

/-- An asynchronous instruction issued and not completed (R237): a descriptor move, a CRYPT operation, or a packet sent. -/
inductive AsyncOp where
  | dmov (offset : Nat) (d : DmovDesc)
  | crypt (offset : Nat) (d : CryptDesc)
  deriving DecidableEq, Repr

/-- What an invocation waits for: a counter's target and the timeout (R218), with the handle by which it names a bound counter; the completion of its
asynchronous work; or the return of a cascaded lookup, into a scalar register (R326). -/
inductive WaitFor where
  | counter (k : Ctr) (h : Nat) (target : Nat) (endAt : Option Nat) (rd : Nat)
  | async (i : Held)
  | lookup (rd : Nat)
  deriving DecidableEq, Repr

/-- The architectural state of a core (R206) with the invocation that it runs: s1 to s31, v0 to v15 and p1 to p7 (an unlisted register is
zero), the instruction offset, scratch, the lines in its instruction cache, asynchronous work and deferred exceptions, what it waits for, the local time it
has run, since when it runs and when it was placed on the core, the time at which its preemption was requested, a deferred preemption (since when, and
whether it may take a kept save area), whether ride-through holds it (R464), and an exception 0x08 or 0x09 that falls due at the end of a wait (R262). -/
structure GCore where
  st : CoreState
  inv : Option Invocation
  s : AMap W64
  v : AMap (BitVec 512)
  p : Nat
  pc : Nat
  scratch : Memory
  lines : List Nat
  asyncs : List AsyncOp
  excs : List (Nat × Nat)
  wait : Option WaitFor
  ran : Nat
  since : Nat
  started : Nat
  preempt : Option Nat
  deferred : Option (Nat × Bool)
  held : Bool
  dueExc : Option Nat
  deriving DecidableEq, Repr

/-- An idle core. -/
def GCore.init : GCore :=
  { st := .idle, inv := none, s := [], v := [], p := 0, pc := 0, scratch := [], lines := [], asyncs := [], excs := [], wait := none,
    ran := 0, since := 0, started := 0, preempt := none, deferred := none, held := false, dueExc := none }

/-- An armed trigger (R218): the counter, the reference by which the program names it and the handle in that reference, the target, the arming program
and its entry. -/
structure Trigger where
  ctr : Ctr
  ref : Nat
  h : Nat
  target : Nat
  prog : Nat
  entry : Nat
  deriving DecidableEq, Repr

/-- The gaffer cores of a channel: programs by slot, cores, runnable invocations in arrival order, the save areas in use with the time of each
save, the event counters, the triggers by number, the shared words (by owner and index), the next invocation number, the schedule's current slot and when
it ends, the base cores of the running schedule, the tenant slot that the pool served last, and the resident entries to be invoked again (by program and
entry: the exception code, plus 256 for a second exception within 1 s). -/
structure Gaffer where
  progs : AMap Prog
  cores : AMap GCore
  queue : List Invocation
  saved : List (GCore × Nat)
  evc : AMap Nat
  triggers : AMap Trigger
  words : AMap Nat
  nextInv : Nat
  curSlot : Nat
  slotEnd : Nat
  runBase : Nat
  poolLast : Nat
  restarts : AMap Nat
  deriving DecidableEq, Repr

/-! ### Fabric ports and the memory transport (chapter 10) -/

/-- STATE of FAB_REGION_VIEW. -/
inductive RegionState where
  | free | valid | revoking | quarantined
  deriving DecidableEq, Repr

/-- The code of a region's state. -/
def RegionState.code : RegionState → Nat
  | .free => 0
  | .valid => 1
  | .revoking => 2
  | .quarantined => 3

/-- What a region number stands for: slabs of its own, the append window of a slot, the transfer or inbound region of a slot's
handoff, a lease, or a fragment set (R279). -/
inductive RegionKind where
  | slabs
  | append (slot : Nat)
  | transfer (slot : Nat)
  | inbound (slot : Nat)
  | lease (i : Nat)
  | frag (set : Nat)
  deriving DecidableEq, Repr

/-- One registered region (R279, R281, R294). -/
structure Region where
  st : RegionState
  kind : RegionKind
  pd : Nat
  rights : Nat
  key : Nat
  gen : Nat
  ownerCheck : Bool
  ownerEid : Nat
  slabs : List Nat
  base : Nat
  size : Nat
  tenant : Nat
  byVf : Bool
  admitted : Nat
  after : Nat
  cmd : Option Src
  endAt : Nat
  deriving DecidableEq, Repr

/-- A region number never registered. -/
def Region.init : Region :=
  { st := .free, kind := .slabs, pd := 0, rights := 0, key := 0, gen := 0, ownerCheck := false, ownerEid := 0, slabs := [],
    base := 0, size := 0, tenant := 0, byVf := false, admitted := 0, after := 0, cmd := none, endAt := 0 }

/-- A protection domain assigned to a tenant slot, with its ACL bit (R278). -/
structure Pd where
  tenant : Nat
  acl : Bool
  deriving DecidableEq, Repr

/-- The connection states of R283. -/
inductive ConnState where
  | closed | reqSent | open_ | closing | error | quarantine
  deriving DecidableEq, Repr

/-- STATE of FAB_CONN_VIEW0. -/
def ConnState.code : ConnState → Nat
  | .closed => 0
  | .reqSent => 1
  | .open_ => 2
  | .closing => 3
  | .error => 4
  | .quarantine => 5

/-- What an operation of the base programs with an outcome of its own serves: the pull or the push of a slot's handoff, a tier move of a slot under a FETCH_SEQ, the storing of
fragment INDEX of a slot's set, or a fetch of a share under a FETCH_SEQ. -/
inductive Work where
  | pull (slot : Nat)
  | push (slot : Nat)
  | tier (slot seq : Nat)
  | frag (slot i : Nat)
  | share (slot seq : Nat)
  deriving DecidableEq, Repr

/-- An operation of such work that has ended, with its status, its address and the bytes that it loaded. -/
structure Ended where
  work : Work
  status : Nat
  addr : Nat
  len : Nat
  data : List Byte
  deriving DecidableEq, Repr

/-- Who issued an operation on a connection: its source under R293. A reply to an attention job or a speculation record carries what its
reply-undeliverable event names: whether it is a speculation reply, the job or record, the tenant slot, REPLY_ADDR, the queue or OP, and the tag. -/
inductive Issuer where
  | cmd (src : Src)
  | reply (spec : Bool) (id tenant addr sub tag : Nat)
  | base
  | work (w : Work)
  deriving DecidableEq, Repr

/-- An operation issued and not completed (R292, R293): its issuer, its opcode (R276; on a RoCE queue pair 0x100 SEND, 0x101 SEND with immediate,
0x102 WRITE, 0x103 WRITE with immediate, with the immediate in `gen`), its address and region, the bytes to send or those of a load received so far, the
pieces received, its first PSN and packet count once sent, its status if it has failed, and where the host wants the data. -/
structure TxOp where
  issuer : Issuer
  opcode : Nat
  addr : Nat
  key : Nat
  gen : Nat
  region : Nat
  len : Nat
  data : List Byte
  host : Nat
  psn : Nat
  npkts : Nat
  sent : Bool
  failed : Nat
  got : AMap (List Byte)
  order : Nat
  deriving DecidableEq, Repr

/-- The RoCE part of a queue pair (R297, R299): the peer's address and QPN, the receive ring and its producer index, the shared word
that holds the consumer index, the receive counter, the message being received (none, a SEND or a WRITE; a
write's length, address and key; its bytes so far), when a CNP was last sent, and the count of messages received. -/
structure RoceQp where
  ip : Nat
  qpn : Nat
  timeout : Nat
  ringRegion : Nat
  ringSlots : Nat
  slotSize : Nat
  word : Nat
  counter : Option Nat
  prog : Nat
  pidx : Nat
  msgKind : Nat
  msgLen : Nat
  got : Nat
  va : Nat
  rkey : Nat
  lastCnp : Option Nat
  msn : Nat
  deriving DecidableEq, Repr

/-- One connection number (R283 to R290). -/
structure Conn where
  st : ConnState
  roce : Option RoceQp
  prio : Nat
  pd : Nat
  target : Nat
  peer : Nat
  peerConn : Nat
  peerInit : Nat
  initPsn : Nat
  pmtu : Nat
  v6 : Bool
  ours : Bool
  byVf : Bool
  tries : Nat
  due : Option Nat
  openCmd : Option Src
  closeCmd : List Src
  nx : Nat
  una : Nat
  ep : Nat
  nakSent : Bool
  dupRun : Bool
  cwnd : Nat
  peerWin : Nat
  rto : Nat
  rtoDue : Option Nat
  retries : Nat
  rnrRun : Nat
  rnrDue : Option Nat
  unacked : Nat
  ackDue : Option Nat
  ece : Bool
  lastCut : Nat
  grown : Nat
  ops : List TxOp
  atomics : List (Nat × Nat)
  waiting : List (Nat × Nat)
  lastUse : Nat
  hbAt : Nat
  hbSeq : Nat
  endAt : Nat
  port : Nat
  deriving DecidableEq, Repr

/-- A closed connection number. -/
def Conn.init : Conn :=
  { st := .closed, roce := none, prio := 0, pd := 0, target := 0, peer := 0, peerConn := 0, peerInit := 0, initPsn := 0, pmtu := 0,
    v6 := false, ours := false, byVf := false, tries := 0, due := none, openCmd := none, closeCmd := [],
    nx := 0, una := 0, ep := 0, nakSent := false, dupRun := false, cwnd := 0, peerWin := 0,
    rto := 0, rtoDue := none, retries := 0, rnrRun := 0, rnrDue := none, unacked := 0, ackDue := none, ece := false,
    lastCut := 0, grown := 0, ops := [], atomics := [], waiting := [], lastUse := 0, hbAt := 0, hbSeq := 0, endAt := 0, port := 0 }

/-- LINK of FAB_PORT_STATUS. -/
inductive LinkState where
  | down | training | up
  deriving DecidableEq, Repr

/-- The code of LINK. -/
def LinkState.code : LinkState → Nat
  | .down => 0
  | .training => 1
  | .up => 2

/-- One fabric port (R264 to R271): its link, the receive rings of buffer handles, the priorities paused by the partner (the local time
each pause ends, and since when it has lasted), those this port pauses (when the PFC frame repeats), the priorities whose frames the
watchdog drops (from when on no longer, zero while the pause lasts), and the buffers held by priority. -/
structure Port where
  link : LinkState
  rings : AMap (List Nat)
  rxPaused : AMap Nat
  pausedSince : AMap Nat
  stormed : List Nat
  txPaused : AMap Nat
  dropping : AMap Nat
  held : AMap Nat
  deriving DecidableEq, Repr

/-- A port whose link trains, as after a reset (R474). -/
def Port.init : Port := ⟨.training, [], [], [], [], [], [], []⟩

/-- The fabric block: ports, packet buffers in use, regions, protection domains, connections, the queue of CLOSED connection numbers in the
order in which they closed (as runs), the operations' issue order, when a CONN_REJ last went to each peer, which program holds a packet buffer, and the operations
of the base programs' work that have ended and are not yet served. -/
structure Fabric where
  ports : AMap Port
  bufs : AMap PktBuf
  regions : AMap Region
  pds : AMap Pd
  conns : AMap Conn
  freeConns : List (Nat × Nat)
  order : Nat
  rejAt : AMap Nat
  bufOwner : AMap Nat
  ended : List Ended
  deriving DecidableEq, Repr

/-! ### Queues, shapers, policers and gates (chapter 11) -/

/-- A frame that waits in an egress queue: its bytes, its frame bytes (R309), the connection it belongs to, the packet buffer that
PTX frees when it is sent, the local time at which it was enqueued, and whether it is ECT. -/
structure QFrame where
  data : List Byte
  size : Nat
  conn : Option Nat
  buf : Option Nat
  at_ : Nat
  deriving DecidableEq, Repr

/-- A bucket's level in units of 1/8000 byte, and the local time at which it was last brought up to date (R308, R310). -/
structure Bucket where
  level : Int
  at_ : Nat
  deriving DecidableEq, Repr

/-- One port's egress side (R304 to R316): the queues, the transport's frames that wait for room in a full queue, the buckets of the queues and of the port, the deficits and the round-robin pointer of
the weighted group, the gate list's current entry and the local time at which it ends, the largest sojourn of the sampling interval
by queue, and the longest open window of each queue. -/
structure Egress where
  queues : AMap (List QFrame)
  wait : AMap (List QFrame)
  qBucket : AMap Bucket
  pBucket : Option Bucket
  deficit : AMap Nat
  rr : Nat
  visited : Bool
  gateIdx : Option Nat
  gateEnd : Nat
  sojMax : AMap Nat
  deriving DecidableEq, Repr

/-- An egress side with nothing queued. -/
def Egress.init : Egress :=
  { queues := [], wait := [], qBucket := [], pBucket := none, deficit := [], rr := 4, visited := false, gateIdx := none, gateEnd := 0, sojMax := [] }

/-- The traffic block: the ports, the policers' two buckets by 2 × slot + direction, and the sampler's next due time, sequence number and
owed flag. -/
structure Traffic where
  eg : AMap Egress
  tc : AMap Bucket
  tp : AMap Bucket
  smpDue : Option Nat
  smpSeq : Nat
  smpLost : Bool
  deriving DecidableEq, Repr

/-! ### Prefix matching (chapter 12) -/

/-- A valid entry of the prefix array (R321). -/
structure PfxEntry where
  key : Nat
  mask : Nat
  result : Nat
  deriving DecidableEq, Repr

/-- Who waits for a cascaded lookup: a SRCH on a core, into a scalar register, or a key of a pfx.lookup command. -/
inductive LookupFor where
  | core (k d : Nat)
  | cmd (src : Src) (host i : Nat)
  deriving DecidableEq, Repr

/-- A cascaded lookup under way (R326): the frame's sequence number, who waits, the local result and when the frame was sent. -/
structure CascWait where
  seq : Nat
  who : LookupFor
  seg : Nat
  local_ : Option Nat
  due : Nat
  probe : Bool
  deriving DecidableEq, Repr

/-- A pfx.lookup whose cascaded keys have not all returned: the command, the results so far and how many are still owed. -/
structure LookupCmd where
  src : Src
  host : Nat
  results : AMap Nat
  owed : Nat
  total : Nat
  deriving DecidableEq, Repr

/-- An attachment request sent and not answered (R331): DETACH or ATTACH, its message, the peer, the command, the tries and the due time. -/
structure AttachReq where
  isDetach : Bool
  msg : AttachMsg
  peer : Nat
  cmd : Option Src
  tries : Nat
  due : Nat
  deriving DecidableEq, Repr

/-- The outcome recorded for a repeat of an ATTACH or DETACH (R331): the sender, its REQ_NUM, the TYPE and message of the answer, and until when it is kept. -/
structure AttachAnswer where
  peer : Nat
  reqNum : Nat
  ty : Nat
  msg : AttachMsg
  until_ : Nat
  deriving DecidableEq, Repr

/-- The prefix block: the valid entries, the cascade's state (0 off, 1 up, 2 down), its consecutive timeouts, since when it is down and
when the next probe is due, the lookups under way, the attachment requests by REQ_NUM, the next REQ_NUM, the outcomes recorded for
repeats, and the token ids that pfx.chain has supplied, by slot and group. -/
structure Prefix where
  entries : AMap PfxEntry
  casc : Nat
  miss : Nat
  downAt : Nat
  probeDue : Nat
  seq : Nat
  waits : List CascWait
  cmds : List LookupCmd
  reqs : AMap AttachReq
  nextReq : Nat
  answered : List AttachAnswer
  tokens : AMap (List Nat)
  deriving DecidableEq, Repr

/-! ### Tiers and coded state (chapter 13) -/

/-- A tier object record (R339). Its STATE here is writing or valid; a freed record is not listed. `body` is the model's own copy of the plaintext: what a read
whose tag holds gives back. -/
structure TierObj where
  t1 : Bool
  valid : Bool
  lease : Nat
  addr : Nat
  length : Nat
  iv : List Byte
  tag : List Byte
  group : Nat
  epoch : Nat
  slot : Nat
  body : List Byte
  deriving DecidableEq, Repr

/-- A tier.move under way (R342): the command, the next group and the one after the last, the target tier, the lease named, how many have moved, the object
record or the frames taken for the group in hand, whether its home is still being read, how many operations on it are outstanding under which FETCH_SEQ and
when they pass their deadline, what has been read of it by offset, whether one failed, the plaintext that a hedged read gave in its place, and the status with which a
later happening stops the move. -/
structure TierMove where
  cmd : Src
  next : Nat
  last : Nat
  target : Nat
  lease : Nat
  moved : Nat
  obj : Option Nat
  frames : AMap Nat
  reading : Bool
  left : Nat
  seq : Nat
  due : Nat
  data : AMap (List Byte)
  failed : Bool
  plain : Option (List Byte)
  stop : Option Nat
  deriving DecidableEq, Repr

/-- A lease entry (TIER_LEASE, R346, R347): whether it is granted, recalling, lent or borrowed, its length and peer, the region (REGION of R354 for a
borrower, the region number for a lender), the command that waits, when RECALL_TIME ends, with
FORCE, and the REQ_NUM of the RECALL that a borrower has yet to answer. -/
structure Lease where
  granted : Bool
  recalling : Bool
  lent : Bool
  slabs : Nat
  peer : Nat
  region : Nat
  cmd : Option Src
  recallEnd : Option Nat
  force : Bool
  reqNum : Nat
  deriving DecidableEq, Repr

/-- A fragment set that this channel holds for another (R352, R353): its identity and header fields as opened, the home, the region, where it lies in the
fragment area, and whether it has been sealed. -/
structure FragSet where
  req : Nat
  tag : Nat
  epoch : Nat
  index : Nat
  red : Nat
  home : Nat
  region : Nat
  base : Nat
  length : Nat
  isSealed : Bool
  deriving DecidableEq, Repr

/-- One holder of a set that this home writes (R352): its EID and INDEX, the region it gave, how far it has come (0 asked to open, 1 storing, 2 sealing,
3 acknowledged), SEAL_BASE of its fragment, and the bytes stored so far. -/
structure Holder where
  eid : Nat
  index : Nat
  region : Nat
  step : Nat
  sealBase : Nat
  stored : Nat
  deriving DecidableEq, Repr

/-- The fragment set of a home's context (R352): its epoch and scheme, its holders, the TIER_HOLDER entry to try next, a ctx.set that waits for it with its
mask, priority, deadline and redundancy, and the last refusal with its holder. -/
structure HomeSet where
  epoch : Nat
  red : Nat
  holders : List Holder
  nextHolder : Nat
  cmd : Option (Src × Nat × Nat × Nat)
  lastReason : Nat
  lastEid : Nat
  deriving DecidableEq, Repr

/-- What a reader keeps of one holder (R355, R357): its EID and INDEX, the region that FRAG_READ_ACK gave (0 none yet), whether it has been asked, the first 128 bytes of
its header, the bytes of the unit in hand, the open FETCH_SEQ, whether its share of the unit in hand is past its deadline, and whether it is out of use. -/
structure Share where
  eid : Nat
  index : Nat
  region : Nat
  asked : Bool
  head : List Byte
  buf : List Byte
  seq : Option Nat
  late : Bool
  dead : Bool
  deriving DecidableEq, Repr

/-- A read of shares under way (R355, R357): the set's identity and sizes, the holders, the unit in hand (0 the manifest, s + 1 stripe s), the last unit wanted,
when the hedge deadline passes, and the manifest once read. -/
structure ShareRead where
  req : Nat
  tag : Nat
  epoch : Nat
  red : Nat
  len : Nat
  bodyBytes : Nat
  shares : List Share
  unit : Nat
  last : Nat
  due : Nat
  man : List Byte
  deriving DecidableEq, Repr

/-- What a tier message serves: a lease, holder i of the set that a slot's home writes, the release of a set, or share i of a slot's read. -/
inductive TierFor where
  | lease (i : Nat)
  | home (slot i : Nat)
  | free
  | share (slot i : Nat)
  deriving DecidableEq, Repr

/-- A tier message sent and not answered (R354): its TYPE, the peer, the message, what it serves, the tries and the due time. -/
structure TierReq where
  ty : Nat
  peer : Nat
  msg : TierMsg
  what : TierFor
  tries : Nat
  due : Nat
  deriving DecidableEq, Repr

/-- A recorded outcome (R354): the sender, its REQ_NUM, the TYPE and message of the answer, and until when it is kept. -/
structure Answered where
  peer : Nat
  reqNum : Nat
  ty : Nat
  msg : TierMsg
  until_ : Nat
  deriving DecidableEq, Repr

/-- The tiers block: object records and the blocks that hold them, moves, leases, the T2 pool, the seal counter, held sets, the written sets of this home's
contexts and those being written, reads of shares, unanswered messages, recorded outcomes, and the next FETCH_SEQ and REQ_NUM. -/
structure Tiers where
  objs : AMap TierObj
  objBlocks : AMap Nat
  moves : AMap TierMove
  leases : AMap Lease
  t2Base : Nat
  t2Units : Nat
  t2Removing : Option Src
  sealBoot : Nat
  sealCount : Nat
  sets : AMap FragSet
  homes : AMap HomeSet
  writing : AMap HomeSet
  reads : AMap ShareRead
  reqs : AMap TierReq
  answered : List Answered
  fetchSeq : Nat
  nextReq : Nat
  nextSet : Nat
  deriving DecidableEq, Repr

/-! ### The host port (chapter 14) -/

/-- The host port of one channel: ring pairs by 16 × w + n, event rings by w, MSI-X vectors by 32 × w + v and configuration by w, where
w is a tenant slot's VF or 16 for the channel's PF; whether the hub link is up; which of those functions an IDE selective stream covers
(R401); for each rate-limited event the local time it was last raised, plus one, and the occurrences since (R58); and the tag with which each slot function
last started (R398). -/
structure HostPort where
  rings : AMap Ring
  evqs : AMap EvRing
  vecs : AMap Vec
  pci : AMap Pci
  linkUp : Bool
  ide : List Nat
  lastEvent : AMap (Nat × Nat)
  tags : AMap Nat
  deriving DecidableEq, Repr

/-! ### Security (chapter 15) -/

/-- STATE of SEC_STATE (R387). -/
inductive SecMode where
  | boot | serving | updating | recovery | failed
  deriving DecidableEq, Repr

/-- The code of a security state. -/
def SecMode.code : SecMode → Nat
  | .boot => 0
  | .serving => 1
  | .updating => 2
  | .recovery => 3
  | .failed => 7

/-- A program key (R395): the Ed25519 public key, its KEY_ID and its version floor. -/
structure ProgKey where
  key : List Byte
  keyId : Nat
  floor : Nat
  deriving DecidableEq, Repr

/-- The keys of one tenant slot (R395, R396), the import key being the private X25519 key and the NONCE of its report. -/
structure TenKeys where
  storage : Option (List Byte)
  data : AMap (List Byte)
  prog : AMap ProgKey
  importKey : Option (List Byte × List Byte)
  deriving DecidableEq, Repr

/-- A slot with no key. -/
def TenKeys.init : TenKeys := ⟨none, [], [], none⟩

/-- A peer-table entry (R392): the 768-byte chain and the binding. -/
structure PeerEntry where
  chain : List Byte
  binding : List Byte
  deriving DecidableEq, Repr

/-- The flash of a channel (R390, R391, R406, R442): the owner key, FW_FLOOR, the configuration record, the firmware image's VERSION,
FW_DIGEST and JOURNAL_FMT (none where programming left no valid image), the repair record's rows, and lanes by
pseudo-channel, and the seal BOOT count. -/
structure Flash where
  owner : Option (List Byte)
  fwFloor : Nat
  cfg : List Byte
  fwValid : Bool
  fwVersion : Nat
  fwDigest : List Byte
  journalFmt : Nat
  rows : List Nat
  lanes : List (Nat × Nat)
  sealBoot : Nat
  deriving DecidableEq, Repr

/-- A firmware image that passed sec.fw.stage (R407). -/
structure StagedFw where
  version : Nat
  digest : List Byte
  journalFmt : Nat
  deriving DecidableEq, Repr

/-- The security block: the flash, the running image, the owner under which the alias keys were derived, the configuration that the last
reset loaded (fabric-manager key, debug, boot role), the staged image, the commit under way, and the keys and peers. -/
structure Security where
  mode : SecMode
  flash : Flash
  fwVersion : Nat
  fwDigest : List Byte
  journalFmt : Nat
  aliasOwner : List Byte
  fmKey : Option (List Byte)
  debug : Bool
  bootRole : Nat
  roleDigest : List Byte
  cfgDigest : List Byte
  staged : Option StagedFw
  commit : Option (Src × Bool)
  keys : AMap TenKeys
  peers : AMap PeerEntry
  deriving DecidableEq, Repr

/-! ### The meter link and the Pontil meter (chapter 16) -/

/-- The meter-link block's totals of one tenant slot (R416, R428): the running sums and their unmetered parts, the stream the slot's totals
belong to, what the last TOTALS frame carried, what the last UNMETERED frame carried, and when the slot last sent. Unmetered residency is in
token-ns of local time. -/
structure Totals where
  prompt : Nat
  output : Nat
  attached : Nat
  uPrompt : Nat
  uOutput : Nat
  uAttached : Nat
  uRes : Nat
  stream : Nat
  sent : Nat × Nat × Nat × Nat × Nat
  uSent : Nat × Nat × Nat × Nat
  lastSent : Nat
  deriving DecidableEq, Repr

/-- Totals at the start of a stream. -/
def Totals.init : Totals := ⟨0, 0, 0, 0, 0, 0, 0, 0, (0, 0, 0, 0, 0), (0, 0, 0, 0), 0⟩

/-- The meter-link block of a channel: whether credits arrive, the credits held, the stream, SEQ, the frames sent in the stream, when the last
pulse came, when the next HELLO is due, the totals by slot, whether and since when the meter counts as absent (R419, R428), and the frames, with
their TYPE, that wait for a credit. -/
structure MeterLink where
  present : Bool
  credits : Nat
  stream : Nat
  seq : Nat
  frames : Nat
  lastPulse : Nat
  helloDue : Nat
  tot : AMap Totals
  absent : Bool
  absentAt : Nat
  owed : List (Nat × LinkFrame)
  deriving DecidableEq, Repr

/-- The last totals the meter accepted of a channel, stream and slot, and their arrival time in µs of meter time (R420). -/
structure MeterSlot where
  ch : Nat
  stream : Nat
  slot : Nat
  tag : Nat
  prompt : Nat
  output : Nat
  attached : Nat
  t0 : Nat
  out : Nat
  at_ : Nat
  isFirst : Bool
  deriving DecidableEq, Repr

/-- The account of a channel and tenant tag in the open interval: the counts, the residency in token-µs with the carried remainder, the last
slot and stream they came from, and whether the interval is the first of a stream. -/
structure MeterAcc where
  ch : Nat
  tag : Nat
  slot : Nat
  stream : Nat
  prompt : Nat
  output : Nat
  attached : Nat
  resT0 : Nat
  resOut : Nat
  isFirst : Bool
  deriving DecidableEq, Repr

/-- The Pontil meter in socket J3 (R420 to R432). -/
structure Meter where
  serial : Nat
  timeUs : Nat
  start : Nat
  slots : List MeterSlot
  accs : List MeterAcc
  records : AMap (List Byte)
  lastCtr : Nat
  chain : List Byte
  acked : Nat
  extended : Bool
  extendedOpen : Bool
  removing : Option Nat
  withheld : Bool
  faults : Nat
  discards : Nat
  lastFrame : AMap Nat
  gap : List Nat
  supplyAt : AMap Nat
  supplySince : List Nat
  vmin : Nat
  highRaised : Bool
  deriving DecidableEq, Repr

/-! ### Reliability (chapter 17) -/

/-- STATE of REL_STATE (R446, R448). -/
inductive RelMode where
  | serving | isolated | shadow
  deriving DecidableEq, Repr

/-- The code of REL_STATE.STATE. -/
def RelMode.code : RelMode → Nat
  | .serving => 0
  | .isolated => 1
  | .shadow => 2

/-- What the code of one HBM codeword holds besides its data (R438, R458): bytes in error, or poison. -/
inductive CwState where
  | err (bytes : Nat)
  | poison
  deriving DecidableEq, Repr

/-- An expectation (R453): the first 16 bytes of the digest, the mark, and the digest and epoch last reported as a mismatch. -/
structure Expect where
  digest : Nat
  marked : Bool
  seen : Option (Nat × Nat)
  deriving DecidableEq, Repr

/-- The reliability block: the state, the local time of isolation and the isolations of the last hour, the admission (PART, PEER, SAMPLE, OPS,
COUNT and the operations seen by a partner), the local time of the last mirror message and whether the stall has been raised, the expectations,
when each EID was last heard and which heartbeat peers are silent, codeword states, the
correctable errors of rows (rows are numbered by address over 1,024) and the rows that gave an uncorrectable one, the patrol's position and its count, the
pseudo-channels whose spares-exhausted event has been raised, the degraded ones, and the repairs in force (R441 to R444): each spare row taken, by the row that it
stands for, and each spare lane taken, by pseudo-channel and lane. -/
structure Rel where
  mode : RelMode
  isoAt : Option Nat
  isoTimes : List Nat
  part : Nat
  peer : Nat
  sample : Nat
  ops : Nat
  count : Nat
  seenOps : Nat
  lastMirror : Nat
  stalled : Bool
  expects : AMap Expect
  heard : AMap Nat
  silent : List Nat
  cw : AMap CwState
  rowCe : AMap (List Nat)
  rowUe : List Nat
  patrolAt : Nat
  patrolCe : Nat
  exhausted : List Nat
  degraded : List Nat
  rows : List Nat
  lanes : List (Nat × Nat)
  deriving DecidableEq, Repr

/-! ### Power, pace and clocks (chapter 18) -/

/-- CSTATE and STATE of PWR_MOD_CTRL (R477): C0, C1, C2, C3, or in reset or retention. -/
inductive PwrState where
  | c0 | c1 | c2 | c3 | held
  deriving DecidableEq, Repr

/-- The code of PWR_MOD_CTRL.STATE. -/
def PwrState.code : PwrState → Nat
  | .c0 => 0
  | .c1 => 1
  | .c2 => 2
  | .c3 => 3
  | .held => 4

/-- Why a reset is about to run (LAST of PWR_RESET_LOG): nothing waits, or the code with which WARM_CHANNEL_RESET or COLD_CHANNEL_RESET runs. -/
abbrev ResetCause := Option Nat

/-- The power block of a channel: its state, ride-through (since when, and the lowest VIN), the measured pace, core voltage and temperatures,
the thermal trip, a C2 request under way (its prior state and when its wait ends), RESULT, the reset that is pending, the time in retention,
and the clock block's inputs: REF_READY, whether the oscillator runs and when it settles, OSC_READY, the coasting domains, and whether the draw
exceeds CAP_W at the lowest pace. -/
structure Power where
  st : PwrState
  ride : Bool
  rideAt : Nat
  rideMin : Nat
  index : Nat
  minIndex : Nat
  vcore : Nat
  tempCtl : Nat
  tempBase : Nat
  tripped : Bool
  c2Prior : PwrState
  c2Due : Option Nat
  busy : Bool
  result : Nat
  pending : ResetCause
  last : Nat
  heldAt : Nat
  refReady : Bool
  oscDue : Option Nat
  oscReady : Bool
  coast : Nat
  capped : Bool
  deriving DecidableEq, Repr

/-- The state of the 56 V bus (R461, R486, R487): normal, warning, below the reset level, below the retention level, or not started. -/
inductive BusState where
  | normal | warning | below | lost
  deriving DecidableEq, Repr

/-- STATE of PWR_MOD_INPUT; a bus that lost everything reads as below the reset level. -/
def BusState.code : BusState → Nat
  | .normal => 0
  | .warning => 1
  | .below => 2
  | .lost => 2

/-! ### The whole module -/

/-- The state of one channel. `regs` holds, by channel-window offset, the registers whose stored bits have no structured home; an
unlisted register reads as zero in those bits. `fresh` counts the free values the channel has drawn. `out` is what it has sent, newest first.
`toHub` holds the events (code, SUBJECT, DETAIL) that the command under way has raised for PF0's ring; it is empty between commands. -/
structure Chan where
  num : Nat
  g8x : Bool
  time : Nat
  fresh : Nat
  out : List Output
  regs : AMap Nat
  fns : AMap FnRec
  role : RoleSt
  ctx : CtxTable
  maps : AMap PageMap
  pool : PagePool
  hbm : Memory
  ho : HandoffSt
  cru : Crucible
  drafts : AMap Draft
  gaf : Gaffer
  fab : Fabric
  tm : Traffic
  pfx : Prefix
  tiers : Tiers
  host : HostPort
  sec : Security
  mtr : MeterLink
  rel : Rel
  pwr : Power
  toHub : List (Nat × Nat × Nat)
  deriving DecidableEq, Repr

/-- The state of the hub and the carrier: PF0's event ring with the severities of its records not yet consumed (newest first), its vector
and configuration, the hub's free-running count in ns, the outages counted, the host transactions lost on each failed link and when it failed,
the bus, the plug, the pins, the IDE streams, the drain registers and the meter in J3. -/
structure Hub where
  out : List Output
  evq : EvRing
  vec : Vec
  pci : Pci
  time : Nat
  sevs : List Nat
  lost : List Nat
  downAt : List Nat
  downCnt : Nat
  bus : BusState
  vin : Nat
  vmin : Nat
  plugged : Bool
  overvoltage : Bool
  busAt : Nat
  leak : Bool
  pwrgd : Bool
  ide : AMap (Nat × Nat)
  meter : Option Meter
  drainSel : Nat
  drainData : List Byte
  deriving DecidableEq, Repr

/-- The state of the module, and the commands that wait, first in, first out. -/
structure State where
  hub : Hub
  ch0 : Chan
  ch1 : Chan
  ch2 : Chan
  ch3 : Chan
  pending : List Instr
  deriving DecidableEq, Repr


/-! ### Why a step can stop -/

/-- The reasons to stop with a fault. The spec gives every command of this block an outcome, so no command raises one. -/
inductive Fault where
  /-- Raised by no command of this model (safe): the spec names no happening after which the block has no next state. -/
  | stuck
  deriving DecidableEq, Repr

/-- The reasons to refuse a command. -/
inductive Refusal where
  /-- The command has no meaning yet (safe). -/
  | notModelled (mnemonic : String)
  deriving DecidableEq, Repr

/-! ### Reset -/

/-- The journal after a reset that clears HBM (R73, R88). -/
def Journal.init : Journal :=
  { seq := 0, snapA := ⟨0, [], false⟩, snapB := ⟨0, [], false⟩, recs := [], sinceSnap := 0, snapTime := 0, ringPos := 0, degraded := false }

/-- The table of R73 at local time `now`: every slot FREE with GENERATION 0, the free queue in ascending order, READY, and slots withheld
for 100 ms. -/
def CtxTable.cleared (now : Nat) : CtxTable :=
  { entries := [], freeQ := [(0, 16384)], ready := true, holdUntil := some (now + 100000000), journal := Journal.init, peekSel := 0,
    peekData := [], sealing := [], retiring := [], deadlineDone := [] }

/-- The frame pool with every slab unassigned. -/
def PagePool.init : PagePool := ⟨[], [], [], [], [], [], []⟩

/-- The crucible block with no queue and no job. -/
def Crucible.init : Crucible := ⟨[], [], 0, [], [], 0, 0, 0⟩

/-- The cores idle, nothing loaded. -/
def Gaffer.init : Gaffer :=
  { progs := [], cores := [], queue := [], saved := [], evc := [], triggers := [], words := [], nextInv := 0, curSlot := 0,
    slotEnd := 0, runBase := 0, poolLast := 0, restarts := [] }

/-- The fabric with every port in training and every connection number closed. -/
def Fabric.init : Fabric :=
  { ports := [], bufs := [], regions := [], pds := [], conns := [], freeConns := [(0, 8192)], order := 0, rejAt := [], bufOwner := [], ended := [] }

/-- The traffic block with nothing queued and every bucket full (an unlisted bucket is full). -/
def Traffic.init : Traffic := ⟨[], [], [], none, 0, false⟩

/-- The prefix block with no valid entry. -/
def Prefix.init : Prefix :=
  { entries := [], casc := 0, miss := 0, downAt := 0, probeDue := 0, seq := 0, waits := [], cmds := [], reqs := [], nextReq := 0,
    answered := [], tokens := [] }

/-- The tiers block with no object, lease or set; `boot` is the flash's BOOT count. -/
def Tiers.init (boot : Nat) : Tiers :=
  { objs := [], objBlocks := [], moves := [], leases := [], t2Base := 0, t2Units := 0, t2Removing := none, sealBoot := boot, sealCount := 0,
    sets := [], homes := [], writing := [], reads := [], reqs := [], answered := [], fetchSeq := 0, nextReq := 0, nextSet := 0 }

/-- The host port with every ring disabled, every vector masked and every configuration at its defaults. -/
def HostPort.init : HostPort := ⟨[], [], [], [], true, [], [], []⟩

/-- The flash as the module leaves the factory (R498): unowned, no configuration record, and the image named by the log. -/
def Flash.factory : Flash :=
  { owner := none, fwFloor := 0, cfg := [], fwValid := true, fwVersion := 0, fwDigest := List.replicate 64 0, journalFmt := 0, rows := [],
    lanes := [], sealBoot := 1 }

/-- The security block in SERVING, unowned (R391). -/
def Security.factory : Security :=
  { mode := .serving, flash := Flash.factory, fwVersion := 0, fwDigest := List.replicate 64 0, journalFmt := 0, aliasOwner := List.replicate 16 0,
    fmKey := none, debug := false, bootRole := 0, roleDigest := List.replicate 64 0, cfgDigest := List.replicate 64 0, staged := none,
    commit := none, keys := [], peers := [] }

/-- The meter-link block at the start of stream `stream` at local time `now`, with no credit seen. -/
def MeterLink.start (stream now : Nat) : MeterLink :=
  { present := false, credits := 0, stream := stream, seq := 0, frames := 0, lastPulse := now, helloDue := now, tot := [], absent := false,
    absentAt := now, owed := [] }

/-- The reliability block serving, with no error seen. -/
def Rel.init : Rel :=
  { mode := .serving, isoAt := none, isoTimes := [], part := 0, peer := 0, sample := 0, ops := 0, count := 0, seenOps := 0,
    lastMirror := 0, stalled := false, expects := [], heard := [], silent := [], cw := [], rowCe := [], rowUe := [], patrolAt := 0, patrolCe := 0,
    exhausted := [], degraded := [], rows := [], lanes := [] }

/-- The power block in C0 at the pace target, every clock source ready and selected by open straps (R467, R470). -/
def Power.init : Power :=
  { st := .c0, ride := false, rideAt := 0, rideMin := 0, index := 1024, minIndex := 1024, vcore := 0, tempCtl := 0, tempBase := 0, tripped := false,
    c2Prior := .c0, c2Due := none, busy := false, result := 0, pending := none, last := 1, heldAt := 0, refReady := true, oscDue := none,
    oscReady := true, coast := 0, capped := false }

/-- A base program of the firmware image with n resident entries (R210, R216); the text of its image is not given. -/
def Prog.base (n : Nat) : Prog :=
  { kind := .base, faulted := false, grants := 31, version := 0, keyId := 0, scratch := 262144, coresMax := 64, tenant := 0,
    entries := (List.range n).map (fun i => ⟨i, true, false, false, false, 0, 0⟩), text := [], data := [], evcBase := 0, evcCount := 0,
    imgAt := 0, imgLen := 0, lastExc := none, excCode := 0 }

/-- The invocations of the first n resident entries of base program p, numbered from `first`. -/
def baseResidents (p n first : Nat) : List Invocation :=
  (List.range n).map (fun i => ⟨p, i, true, true, 0, first + i, none, []⟩)

/-- The gaffer cores with the base programs installed and their resident entries invoked (R210, R216): command dispatch, journal and heartbeats; one
receive and one transmit loop of the FMT transport for each port; the RoCE profile uses no port. -/
def Gaffer.boot (ports : Nat) : Gaffer :=
  { Gaffer.init with progs := [(0, Prog.base 3), (1, Prog.base (2 * ports)), (2, Prog.base 0)],
                     queue := baseResidents 0 3 1 ++ baseResidents 1 (2 * ports) 4, nextInv := 4 + 2 * ports }

/-- A channel as it serves after power-on with an unowned flash (R391, R473, R474, R498): CLK_SRC.SEL samples open straps. -/
def Chan.reset (n : Nat) (g8x : Bool) : Chan :=
  { num := n, g8x := g8x, time := 0, fresh := 1, out := [], regs := [(0xF00100, 7)], fns := [],
    role := ⟨.unassigned, none, none, []⟩, ctx := CtxTable.cleared 0, maps := [], pool := PagePool.init, hbm := [], ho := ⟨[]⟩,
    cru := Crucible.init, drafts := [], gaf := Gaffer.boot (if g8x then 32 else 16), fab := Fabric.init, tm := Traffic.init,
    pfx := Prefix.init, tiers := Tiers.init 1, host := HostPort.init,
    sec := { Security.factory with cfgDigest := configDigest [] (List.replicate 64 0) (List.replicate 64 0) }, mtr := MeterLink.start (Config.free n 0 % 2 ^ 32) 0, rel := Rel.init,
    pwr := Power.init, toHub := [] }

/-- The hub after power-on (R54, R461, R474): every hub link up, the bus at 56 V, PWRGD released, J3 empty (R497). -/
def Hub.reset : Hub :=
  { out := [], evq := EvRing.init, vec := Vec.init, pci := Pci.init, time := 0, sevs := [], lost := [0, 0, 0, 0], downAt := [0, 0, 0, 0], downCnt := 0, bus := .normal, vin := 5600,
    vmin := 5600, plugged := true, overvoltage := false, busAt := 0, leak := false, pwrgd := true, ide := [], meter := none,
    drainSel := 0, drainData := List.replicate 256 0 }

/-- The module after a power-on reset as it leaves the factory: a VXF-G16, no meter fitted, no command waiting. -/
def State.reset : State :=
  { hub := Hub.reset, ch0 := Chan.reset 0 false, ch1 := Chan.reset 1 false, ch2 := Chan.reset 2 false, ch3 := Chan.reset 3 false, pending := [] }

end Sys2Proof.Machine
end

