-- ==== Sys2Proof/Machine/Ops.lean ====
section
/-! DEFINITION. The shared operations of the block: registers, memory, free values, the events and completions it posts to the host, and the
three ways in which a command's effect is laid on the module. -/
namespace Sys2Proof

/-- The function on whose behalf a command is made (R363). -/
def Src.fn (s : Src) : Machine.PciFn :=
  match s.vf with
  | some t => .vf t
  | none => .pf

/-- The tenant slot a command acts for (R367). -/
def Src.slot (s : Src) : Nat := s.vf.getD s.tslot

/-- A 64-bit value with the part that an access reaches replaced (R16). -/
def Access.apply (a : Access) (old : Nat) : Nat :=
  match a.half with
  | .both => a.val % 2 ^ 64
  | .low => setBits (old % 2 ^ 64) 31 0 (bits a.val 31 0)
  | .high => setBits (old % 2 ^ 64) 63 32 (bits a.val 63 32)

/-- Does an access reach bits [hi:lo]? -/
def Access.covers (a : Access) (hi lo : Nat) : Bool :=
  match a.half with
  | .both => true
  | .low => decide (hi < 32)
  | .high => decide (32 ≤ lo)

end Sys2Proof

namespace Sys2Proof.Machine
open Sys2Proof

/-! ### Memory (R9; a byte nothing has written reads as zero) -/

/-- One byte of memory. -/
def Memory.get (m : Memory) (a : Nat) : Byte :=
  match m with
  | [] => 0
  | (b, v) :: t => if b = a then v else Memory.get t a

/-- The byte stored at its place among rising addresses; zero is what an unlisted address reads as, and is not listed. -/
def Memory.put (m : Memory) (a : Nat) (v : Byte) : Memory :=
  match m with
  | [] => if v = 0 then [] else [(a, v)]
  | (b, w) :: t =>
    if a < b then (if v = 0 then (b, w) :: t else (a, v) :: (b, w) :: t)
    else if a = b then (if v = 0 then t else (a, v) :: t)
    else (b, w) :: Memory.put t a v

/-- The canonical form: addresses strictly rising, and no byte listed as zero. -/
def Memory.wf : Memory → Bool
  | [] => true
  | [(_, v)] => decide (v ≠ 0)
  | (a, v) :: (b, w) :: t => decide (a < b) && decide (v ≠ 0) && Memory.wf ((b, w) :: t)

/-- The canonical form of a memory whose newest stores stand in front. -/
def Memory.canon (m : Memory) : Memory := m.foldr (fun e acc => Memory.put acc e.1 e.2) []

/-- `n` bytes from address `a`. -/
def Memory.read (m : Memory) (a : Nat) : Nat → List Byte
  | 0 => []
  | n + 1 => Memory.get m a :: Memory.read m (a + 1) n

/-- Bytes stored from address `a`, each in front of the memory, where a read finds it first. -/
def Memory.write (m : Memory) (a : Nat) : List Byte → Memory
  | [] => m
  | b :: t => Memory.write ((a, b) :: m) (a + 1) t

/-- A run of `n` bytes of value zero stored from address `a`. -/
def Memory.clear (m : Memory) (a n : Nat) : Memory := m.filter (fun e => decide (e.1 < a ∨ a + n ≤ e.1))

/-! ### The channels of the module -/

/-- The channel of an identity. -/
def State.ch (s : State) : ChId → Chan
  | .c0 => s.ch0
  | .c1 => s.ch1
  | .c2 => s.ch2
  | .c3 => s.ch3

/-- The module with one channel replaced. -/
def State.setCh (s : State) (c : ChId) (x : Chan) : State :=
  match c with
  | .c0 => { s with ch0 := x }
  | .c1 => { s with ch1 := x }
  | .c2 => { s with ch2 := x }
  | .c3 => { s with ch3 := x }

/-- The number of a channel (R41). -/
def chNum : ChId → Nat
  | .c0 => 0
  | .c1 => 1
  | .c2 => 2
  | .c3 => 3

/-! ### Registers (R16 to R21) -/

/-- The stored bits of the register at a channel-window offset. -/
def Chan.rd (c : Chan) (off : Nat) : Nat := c.regs.getD off 0

/-- Bits [hi:lo] of the register at `off`. -/
def Chan.fget (c : Chan) (off hi lo : Nat) : Nat := bits (c.rd off) hi lo

/-- One bit of the register at `off`. -/
def Chan.flag (c : Chan) (off b : Nat) : Bool := (c.rd off).testBit b

/-- The register at `off` holding `v`. -/
def Chan.wr (c : Chan) (off v : Nat) : Chan := { c with regs := c.regs.set 0 off v }

/-- The register at `off` with bits [hi:lo] holding `v`. -/
def Chan.fset (c : Chan) (off hi lo v : Nat) : Chan := c.wr off (setBits (c.rd off) hi lo v)

/-- The count in bits [hi:lo] raised by `n`; it saturates. -/
def Chan.bump (c : Chan) (off hi lo n : Nat) : Chan := c.fset off hi lo (satAdd (hi + 1 - lo) (c.fget off hi lo) n)

/-- The value of a setting whose zero acts as `d`. -/
def Chan.orD (c : Chan) (off hi lo d : Nat) : Nat := if c.fget off hi lo = 0 then d else c.fget off hi lo

/-! ### Time and free values -/

/-- Does R414 call the state resident? -/
def CtxState.resident (s : CtxState) : Bool :=
  decide (s = .prefilling ∨ s = .sealed ∨ s = .decoding ∨ s = .parked ∨ s = .offered)

/-- The rows of a context's own page-groups that lie in one of the tiers `p` selects (R414). -/
def PageMap.rows (m : PageMap) (p : Loc → Bool) : Nat :=
  (m.recs.map (fun e => if !e.2.shared && p e.2.loc then e.2.rows else 0)).sum

/-- The resident tokens of tenant slot t in the tiers `p` selects (R414). -/
def Chan.resident (c : Chan) (t : Nat) (p : Loc → Bool) : Nat :=
  (c.ctx.entries.map (fun e => if e.2.tslot = t ∧ e.2.state.resident then (c.maps.getD e.1 PageMap.init).rows p else 0)).sum

/-- Resident tokens in T0. -/
def Chan.resT0 (c : Chan) (t : Nat) : Nat := c.resident t (fun l => decide (l = .t0))

/-- Resident tokens in T1 and T2. -/
def Chan.resOut (c : Chan) (t : Nat) : Nat := c.resident t (fun l => decide (l = .t1 ∨ l = .t2))

/-- The tenant tag of a slot (R365); zero is no tenant. -/
def Chan.tag (c : Chan) (t : Nat) : Nat := c.fget (Reg.TEN_SLOT_CFG t) 31 0

/-- The totals of a slot; a slot that nothing has counted for stands at the start of the channel's stream. -/
def Chan.totals (c : Chan) (t : Nat) : Totals := (c.mtr.tot.find t).getD { Totals.init with stream := c.mtr.stream }

/-- The totals of a slot replaced. -/
def Chan.setTotals (c : Chan) (t : Nat) (x : Totals) : Chan := { c with mtr := { c.mtr with tot := c.mtr.tot.put t x } }

/-- The channel with its local time at least `t` (R473: local time never decreases). While the meter is absent, the residency of each tenant is
integrated over the time that passes (R428). -/
def Chan.reach (c : Chan) (t : Nat) : Chan :=
  let dt := t - c.time
  let c' := if c.mtr.absent && decide (0 < dt) then
      (List.range 16).foldl (fun c t => if c.tag t = 0 then c
        else let x := c.totals t; c.setTotals t { x with uRes := x.uRes + dt * (c.resT0 t + c.resOut t) }) c
    else c
  { c' with time := max c.time t }

/-- A free value of the channel, and the channel that has drawn it. -/
def Chan.draw (c : Chan) : Nat × Chan := (Config.free c.num c.fresh, { c with fresh := c.fresh + 1 })

/-- n free bytes. -/
def Chan.drawBytes (c : Chan) (n : Nat) : List Byte × Chan := (leBytes n c.draw.1, c.draw.2)

/-- The channel's endpoint id, where one is assigned (R30). -/
def Chan.eid (c : Chan) : Option Nat := if c.flag Reg.CHN_EID 63 then some (c.fget Reg.CHN_EID 17 0) else none

/-- The slot that holds a nonzero tag (R80). -/
def Chan.slotOfTag (c : Chan) (tag : Nat) : Option Nat := (List.range 16).find? (fun t => decide (tag ≠ 0 ∧ c.tag t = tag))

/-! ### Functions (R43, R44) -/

/-- The number of ports of the lane mode (R43, R268): modes 0, 1 and 2 group 1, 4 and 8 lanes a port. -/
def Chan.ports (c : Chan) : Nat :=
  let lanes := if c.g8x then 32 else 16
  match c.fget Reg.FAB_LANE_MODE 1 0 with
  | 0 => lanes
  | 1 => lanes / 4
  | _ => lanes / 8

/-- Is function n present on the channel (R43)? -/
def Chan.fnPresent (c : Chan) (n : Nat) : Bool :=
  decide (n = 0 ∨ (0x10 ≤ n ∧ n < 0x10 + c.ports) ∨ (0x30 ≤ n ∧ n ≤ 0x3F) ∨ (0x40 ≤ n ∧ n < 0x40 + c.ports) ∨ (0x100 ≤ n ∧ n ≤ 0x1FF))

/-- What the channel keeps of function n. -/
def Chan.fn (c : Chan) (n : Nat) : FnRec := c.fns.getD n FnRec.init

/-- The state of function n, ABSENT where it is not present. -/
def Chan.fnState (c : Chan) (n : Nat) : FnState := if c.fnPresent n then (c.fn n).st else .absent

/-- The record of function n replaced. -/
def Chan.setFn (c : Chan) (n : Nat) (r : FnRec) : Chan := { c with fns := c.fns.set FnRec.init n r }

/-- Is function n RUNNING? -/
def Chan.running (c : Chan) (n : Nat) : Bool := decide (c.fnState n = .running)

/-! ### What the channel sends -/

/-- The channel with one more output. -/
def Chan.emit (c : Chan) (o : Output) : Chan := { c with out := o :: c.out }

/-- The index of a function in the host port's tables: a VF's tenant slot, or 16 for the channel's PF. -/
def PciFn.index : PciFn → Nat
  | .vf t => t
  | .pf => 16

/-- Why DMA on behalf of a function fails, in the codes of event 0xB002: 0x05 Bus Master Enable clear (R476), 0x06 no IDE stream (R401),
0x07 any other failure, here the failed hub link (R381). -/
def Chan.dmaFault (c : Chan) (f : PciFn) : Option Nat :=
  if !c.host.linkUp then some 7
  else if !(c.host.pci.getD f.index Pci.init).bme then some 5
  else match f with
    | .vf t => if c.flag (Reg.SEC_TEN_CFG t) 62 && !c.host.ide.contains t then some 6 else none
    | .pf => none

/-- The interrupt of vector v of function index w (R370, R381): sent, or held pending while the vector is masked. -/
def Chan.interrupt (c : Chan) (f : PciFn) (v : Nat) : Chan :=
  let k := f.index * 32 + v
  let x := c.host.vecs.getD k Vec.init
  if x.masked then { c with host := { c.host with vecs := c.host.vecs.set Vec.init k { x with pending := true } } }
  else if (c.dmaFault f).isSome then c
  else c.emit (.msix f v)

/-! ### Events (R58 to R60, R499) -/

/-- The number of entries of a ring whose size field is out of 4 to 16 (R366, R499). -/
def ringLog2 (v : Nat) : Nat := max 4 (min 16 v)

/-- The 32-byte record of an event (R58). -/
def eventRecord (d : EventDef) (lost : Bool) (ten : Option Nat) (seq source time subject detail : Nat) : List Byte :=
  leBytes 2 d.code ++ leBytes 1 d.sev ++ leBytes 1 (b2n lost + 2 * b2n d.subject + 4 * b2n ten.isSome) ++ leBytes 2 seq ++
  leBytes 1 (ten.getD 0) ++ leBytes 1 source ++ leBytes 8 time ++ leBytes 8 subject ++ leBytes 8 detail

/-- An event ring after a record is offered to it (R60, R499): written where `ok`, or discarded and counted in `drop`; the flag says whether
a record was written and whether the vector is raised. -/
def EvRing.offer (r : EvRing) (ok : Bool) : EvRing × Bool × Bool :=
  if !r.en then (r, false, false)
  else if ok && decide ((r.pidx + 2 ^ 32 - r.cidx) % 2 ^ 32 ≠ 2 ^ r.lLog2) then
    ({ r with pidx := (r.pidx + 1) % 2 ^ 32, seq := (r.seq + 1) % 65536, lost := false, raised := true }, true, !r.raised)
  else ({ r with drop := satAdd 32 r.drop 1, lost := true }, false, false)

/-- The record of an event offered to the event ring of function f (R59). -/
def Chan.postEvent (c : Chan) (f : PciFn) (d : EventDef) (ten : Option Nat) (subject detail : Nat) : Chan :=
  let r := c.host.evqs.getD f.index EvRing.init
  let (r', wrote, raise) := r.offer (c.dmaFault f).isNone
  let c := { c with host := { c.host with evqs := c.host.evqs.set EvRing.init f.index r' } }
  let c := if f = .pf then (if r'.drop = r.drop then c else c.bump Reg.CHN_EVT_DROP 31 0 1) else c
  let c := if wrote then
      c.emit (.hostWrite f (r.lBase + 32 * (r.pidx % 2 ^ r.lLog2)) (eventRecord d r.lost ten r.seq c.num c.time subject detail))
    else c
  if raise then c.interrupt f r'.vector else c

/-- The channel raises the event that `d` defines: on its PF ring, and on the tenant's ring where it concerns a tenant and is tenant-visible (R59). -/
def Chan.eventAs (c : Chan) (d : EventDef) (ten : Option Nat) (subject detail : Nat) : Chan :=
  let c := c.emit (.event d.code d.sev ten subject detail)
  let c := c.postEvent .pf d ten subject detail
  match ten with
  | some t => if d.visible then c.postEvent (.vf t) d ten subject detail else c
  | none => c

/-- The channel raises the event of a code. -/
def Chan.event (c : Chan) (code : Nat) (ten : Option Nat) (subject detail : Nat) : Chan := c.eventAs (eventDef code) ten subject detail

/-- An event raised at most once per `every` ns of local time for each `key`; the DETAIL is made from the occurrences (each counting `by_`) since the
last one raised. -/
def Chan.eventEvery (c : Chan) (every code key : Nat) (ten : Option Nat) (subject : Nat) (detail : Nat → Nat) (by_ : Nat := 1) : Chan :=
  let k := code * 2 ^ 64 + key
  let (last, n) := c.host.lastEvent.getD k (0, 0)
  if last = 0 ∨ last + every ≤ c.time + 1 then
    let c := { c with host := { c.host with lastEvent := c.host.lastEvent.set (0, 0) k (c.time + 1, 0) } }
    c.event code ten subject (detail (n + by_))
  else { c with host := { c.host with lastEvent := c.host.lastEvent.set (0, 0) k (last, n + by_) } }

/-- One millisecond of local time. -/
def ms : Nat := 1000000

/-- An event for PF0's ring, which the hub writes when the command ends. -/
def Chan.tellHub (c : Chan) (code subject detail : Nat) : Chan := { c with toHub := c.toHub ++ [(code, subject, detail)] }

/-! ### Host reads, writes and completions (R363, R369, R376, R378) -/

/-- The host-DMA-error event (R376, R383): at most once per 1 ms per function. -/
def Chan.dmaError (c : Chan) (f : PciFn) (addr cause code : Nat) : Chan :=
  c.eventEvery ms 0xB002 f.index (match f with | .vf t => some t | .pf => none) addr (fun _ => cause + code * 65536)

/-- A posted write to host memory, and whether it succeeded. -/
def Chan.hostWrite (c : Chan) (f : PciFn) (addr : Nat) (data : List Byte) : Bool × Chan :=
  match c.dmaFault f with
  | none => (true, c.emit (.hostWrite f addr data))
  | some _ => (false, c)

/-- A ring pair's key. -/
def ringKey (f : PciFn) (n : Nat) : Nat := 16 * f.index + n

/-- A ring pair. -/
def Chan.ring (c : Chan) (f : PciFn) (n : Nat) : Ring := c.host.rings.getD (ringKey f n) Ring.init

/-- A ring pair replaced. -/
def Chan.setRing (c : Chan) (f : PciFn) (n : Nat) (r : Ring) : Chan :=
  { c with host := { c.host with rings := c.host.rings.set Ring.init (ringKey f n) r } }

/-- The tenant of a function, for an event. -/
def PciFn.tenant : PciFn → Option Nat
  | .vf t => some t
  | .pf => none

/-- The pair enters error (R378), unless it is in error already, and the ring-error event is raised. -/
def Chan.ringError (c : Chan) (f : PciFn) (n cause index : Nat) : Chan :=
  let r := c.ring f n
  if r.err then c
  else
    let c := c.setRing f n { r with err := true, cause := cause }
    c.event 0xB001 f.tenant (n + (match f with | .vf _ => 0 | .pf => 16)) (cause + index % 65536 * 65536)

/-- The 16-byte completion entry (R369). -/
def completionEntry (result cid sqHead status : Nat) (phase : Bool) : List Byte :=
  leBytes 8 result ++ leBytes 2 cid ++ leBytes 2 sqHead ++ leBytes 1 status ++ leBytes 1 (b2n phase) ++ leBytes 2 0

/-- Is the pair ACTIVE: taking entries, or owing completions (TEN_RING_CFG, R366)? -/
def Ring.active (r : Ring) : Bool := r.en || !r.taken.isEmpty

/-- CODE of the entry that carried a command, where its pair still holds it. -/
def Chan.codeOf (c : Chan) (src : Src) : Nat := (((c.ring src.fn src.n).taken.find? (fun e => decide (e.cid = src.cid))).map (fun e => e.code)).getD 0

/-- The host-DMA-error event of a command's read or write (R376). -/
def Chan.srcError (c : Chan) (src : Src) (addr cause : Nat) : Chan := c.dmaError src.fn addr cause (c.codeOf src)

/-- The completion of a taken entry written to its pair (R369, R370), or discarded where the pair is in error (R378) or no longer holds the entry. -/
def Chan.postCompletion (c : Chan) (f : PciFn) (n cid status result : Nat) : Chan :=
  let r := c.ring f n
  match r.taken.find? (fun e => decide (e.cid = cid)) with
  | none => c
  | some e =>
    let r := { r with taken := r.taken.erase e }
    if r.err then c.setRing f n (if !r.en ∧ r.taken.isEmpty then { r with err := false, cause := 0 } else r)
    else if (c.dmaFault f).isSome then (c.setRing f n r).ringError f n 4 r.cqTail
    else
      let size := 2 ^ r.lCqLog2
      let c := c.emit (.hostWrite f (r.lCqBase + 16 * r.cqTail) (completionEntry result cid r.sqHead status r.phase))
      let tail := (r.cqTail + 1) % size
      let fire := decide (r.coalTime = 0 ∨ max 1 r.coalCount ≤ r.unsignalled + 1)
      let r := { r with cqTail := tail, phase := if tail = 0 then !r.phase else r.phase,
                        unsignalled := if fire then 0 else r.unsignalled + 1,
                        oldest := if fire then none else some (r.oldest.getD c.time) }
      let c := c.setRing f n r
      if fire then c.interrupt f r.vector else c

/-- The command ends with `status` and `result`; a result record goes to RESULT_ADDR first (R374). A record that cannot be written makes the status
0xB2 and raises the host-DMA-error event; the effects stand (R376). -/
def Chan.complete (c : Chan) (src : Src) (status result : Nat) (rec : List Byte := []) : Chan :=
  let (ok, c') := if rec.isEmpty then (true, c) else c.hostWrite src.fn src.res rec
  let c := if ok then c' else c'.srcError src src.res ((c.dmaFault src.fn).getD 7)
  let st := if ok then status else 0xB2
  let c := c.emit (.done src st result)
  c.postCompletion src.fn src.n src.cid st result

/-- An extended command's end: the result record, with RESULT its first 8 bytes (R374). -/
def Chan.completeX (c : Chan) (src : Src) (status : Nat) (rec : List Byte) : Chan :=
  c.complete src status (leVal (rec.take 8)) rec

/-- The completion of a command that may not be there: a function command written to a register has none. -/
def Chan.completeOpt (c : Chan) (src : Option Src) (status result : Nat) : Chan :=
  match src with
  | some s => c.complete s status result
  | none => c

/-- A command's read of host memory has failed (R376): it completes with 0xB1 and no other effect. The command does not carry the address that failed, which the
event names: a free value. -/
def Chan.readFailedFor (c : Chan) (src : Src) (cause : Nat) : Chan :=
  let (a, c) := c.draw
  (c.srcError src (a % 2 ^ 64) cause).complete src 0xB1 0

/-- A command reads host memory (R376). -/
def Chan.reading {α : Type} (c : Chan) (src : Src) (f : Fetched α) (k : α → Chan) : Chan :=
  match c.dmaFault src.fn, f with
  | some e, _ => c.readFailedFor src e
  | none, .failed e => c.readFailedFor src e
  | none, .ok d => k d

/-! ### Command admission -/

/-- Does the channel take commands and traffic: SERVING (R387), not isolated (R446), and in C0 or C1 (R466, R477)? -/
def Chan.serves (c : Chan) : Bool :=
  decide (c.sec.mode = .serving ∧ c.rel.mode ≠ .isolated ∧ (c.pwr.st = .c0 ∨ c.pwr.st = .c1))

/-- Does the channel window answer (R41, R361, R387): in SERVING, powered, over a hub link that is up, its PF not in D3hot? -/
def Chan.regsLive (c : Chan) : Bool := decide (c.sec.mode = .serving ∧ (c.pwr.st = .c0 ∨ c.pwr.st = .c1)) && c.host.linkUp && !(c.host.pci.getD 16 Pci.init).d3hot

/-- Are the actions of R464 for handoffs and schedulable cores in force: in ride-through, or while a C2 request waits (R478)? -/
def Chan.riding (c : Chan) : Bool := c.pwr.ride || c.pwr.c2Due.isSome

/-- A reset of the channel begins; `code` is the LAST that it will leave in PWR_RESET_LOG. The channel is in reset until WARM_CHANNEL_RESET or COLD_CHANNEL_RESET. -/
def Chan.awaitReset (c : Chan) (code : Nat) : Chan := { c with pwr := { c.pwr with pending := some code, st := .held, c2Due := none } }

/-- What a base-program command must pass before its own checks: a VF may not call a PF-only entry (0x78, R372), a channel in SHADOW takes only
some commands (0x29, R448), and a slot with no tag has no tenant (0xB0, R365): that holds for every command of its VF, and with `needTag` for a PF
command that names it. -/
structure Admit where
  pfOnly : Bool
  shadowOk : Bool
  needTag : Bool
  deriving DecidableEq, Repr

/-- A base-program command under R365, R372 and R448. -/
def Chan.command (c : Chan) (src : Src) (a : Admit) (body : Chan → Chan) : Chan :=
  if !c.serves then c
  else if a.pfOnly && src.vf.isSome then c.complete src 0x78 0
  else if decide (c.rel.mode = .shadow) && !a.shadowOk then c.complete src 0x29 0
  else if (a.needTag || src.vf.isSome) && decide (c.tag src.slot = 0) then c.complete src 0xB0 0
  else body c

/-! ### How an effect is laid on the module -/

/-- Every memory of the channel in canonical form. -/
def Chan.settle (c : Chan) : Chan :=
  { c with hbm := Memory.canon c.hbm,
           gaf := { c.gaf with cores := c.gaf.cores.mapVals (fun _ k => { k with scratch := Memory.canon k.scratch }),
                               saved := c.gaf.saved.map (fun e => ({ e.1 with scratch := Memory.canon e.1.scratch }, e.2)) },
           fab := { c.fab with bufs := c.fab.bufs.mapVals (fun _ b => { b with data := Memory.canon b.data }) },
           toHub := [] }

/-- The hub writes an event to PF0's ring (R59, R60). -/
def Hub.event (h : Hub) (code : Nat) (subject detail : Nat) : Hub :=
  let d := eventDef code
  let lost := h.evq.lost
  let (r, wrote, raise) := h.evq.offer h.pci.bme
  let h := { h with evq := r, out := .event code d.sev none subject detail :: h.out }
  let h := if wrote then
      { h with sevs := d.sev :: h.sevs,
               out := .hostWrite .pf (r.lBase + 32 * ((r.pidx + 2 ^ 32 - 1) % 2 ^ 32 % 2 ^ r.lLog2))
                 (eventRecord d lost none ((r.seq + 65535) % 65536) 0x80 h.time subject detail) :: h.out }
    else h
  if raise then
    if h.vec.masked then { h with vec := { h.vec with pending := true } } else { h with out := .msix .pf 0 :: h.out }
  else h

/-- The hub writes the events that a channel has handed to it. -/
def Hub.events (h : Hub) (l : List (Nat × Nat × Nat)) : Hub := l.foldl (fun h e => h.event e.1 e.2.1 e.2.2) h

/-- A command of one channel: it changes that channel, and the hub writes what the channel hands to it (R38). -/
def onCh (c : ChId) (f : Chan → Chan) (s : State) : Host.Outcome State Fault Refusal :=
  let x := f (s.ch c)
  .next { s.setCh c x.settle with hub := s.hub.events x.toHub }

/-- A command of the hub alone. -/
def onHub (f : Hub → Hub) (s : State) : Host.Outcome State Fault Refusal := .next { s with hub := f s.hub }

/-- A command of the hub that names one channel. -/
def onHubCh (c : ChId) (f : Hub → Chan → Hub × Chan) (s : State) : Host.Outcome State Fault Refusal :=
  let x := f s.hub (s.ch c)
  .next { s.setCh c x.2.settle with hub := x.1.events x.2.toHub }

/-- A happening that reaches every channel of the module, each in its own way: the shared input and the host port (R38). -/
def onEach (f : Hub → Hub) (g0 g1 g2 g3 : Chan → Chan) (s : State) : Host.Outcome State Fault Refusal :=
  let x0 := g0 s.ch0
  let x1 := g1 s.ch1
  let x2 := g2 s.ch2
  let x3 := g3 s.ch3
  .next { s with ch0 := x0.settle, ch1 := x1.settle, ch2 := x2.settle, ch3 := x3.settle,
                 hub := (f s.hub).events (x0.toHub ++ x1.toHub ++ x2.toHub ++ x3.toHub) }

/-- A happening that reaches every channel of the module in the same way. -/
def onAll (f : Hub → Hub) (g : Chan → Chan) (s : State) : Host.Outcome State Fault Refusal := onEach f g g g g s

end Sys2Proof.Machine
end

