-- ==== Sys2Proof/Machine/Signals.lean ====
section
/-! DEFINITION. Event counters and the waits and triggers on them (R77, R217 to R219). -/
namespace Sys2Proof.Machine
open Sys2Proof

/-- The entry in a slot of the context table; an unlisted slot is FREE at generation 0 (R73). -/
def Chan.entry (c : Chan) (slot : Nat) : Entry := c.ctx.entries.getD slot Entry.free

/-- The entry in a slot replaced, with nothing journalled. -/
def Chan.setEntry (c : Chan) (slot : Nat) (e : Entry) : Chan :=
  { c with ctx := { c.ctx with entries := c.ctx.entries.set Entry.free slot e } }

/-- The CTXH of a slot and generation (R56). -/
def Chan.ctxh (c : Chan) (slot gen : Nat) : Nat := c.fget Reg.CHN_EID 17 0 * 2 ^ 30 + slot * 2 ^ 16 + gen

/-- The CTXH of the entry in a slot. -/
def Chan.handle (c : Chan) (slot : Nat) : Nat := c.ctxh slot (c.entry slot).gen

/-- The bound counter j of an entry (R77). -/
def Entry.evc (e : Entry) : Nat → Nat
  | 0 => e.evc0
  | 1 => e.evc1
  | 2 => e.evc2
  | _ => e.evc3

/-- The bound counter j of an entry replaced. -/
def Entry.setEvc (e : Entry) (j v : Nat) : Entry :=
  match j with
  | 0 => { e with evc0 := v }
  | 1 => { e with evc1 := v }
  | 2 => { e with evc2 := v }
  | _ => { e with evc3 := v }

/-- The value of a counter. -/
def Chan.ctrVal (c : Chan) : Ctr → Nat
  | .num i => c.gaf.evc.getD i 0
  | .bound slot j => (c.entry slot).evc j

/-- A counter replaced. -/
def Chan.setCtr (c : Chan) (k : Ctr) (v : Nat) : Chan :=
  match k with
  | .num i => { c with gaf := { c.gaf with evc := c.gaf.evc.set 0 i v } }
  | .bound slot j => c.setEntry slot ((c.entry slot).setEvc j v)

/-- A predicate register set; p0 is constantly 1 (R206). -/
def setPred (p d : Nat) (b : Bool) : Nat := if d = 0 then p else setBits p d d (b2n b)

/-- A wait ends on its target or on its timeout: p[D] says which, and the core runs on (R253). -/
def GCore.endWait (k : GCore) (rd : Nat) (onTarget : Bool) (now : Nat) : GCore :=
  { k with wait := none, st := .running, since := now, p := setPred k.p rd onTarget, pc := k.pc + 8 }

/-- Does a handle still name the context whose bound counter it is? -/
def Chan.named (c : Chan) (k : Ctr) (h : Nat) : Bool :=
  match k with
  | .num _ => true
  | .bound slot _ => decide (c.handle slot = h)

/-- Every core that waits for a counter that has reached its target goes on (R219). -/
def Chan.wake (c : Chan) (k : Ctr) : Chan :=
  let v := c.ctrVal k
  { c with gaf := { c.gaf with cores := c.gaf.cores.mapVals (fun _ g =>
      match g.wait with
      | some (.counter k' h target _ rd) => if k' = k ∧ target ≤ v ∧ (h = 0 ∨ c.named k h) then g.endWait rd true c.time else g
      | _ => g) } }

/-- The tenant to which a counter belongs, for the counter-saturated event: the slot of a bound counter's context, or the program whose range holds
the number (R217). -/
def Chan.ctrTenant (c : Chan) : Ctr → Option Nat
  | .bound slot _ => some (c.entry slot).tslot
  | .num i => (c.gaf.progs.find? (fun e => decide (e.2.kind = .tenant ∧ e.2.evcBase ≤ i ∧ i < e.2.evcBase + e.2.evcCount))).map (fun e => e.2.tenant)

/-- An amount added to a counter (R217): a sum past the top leaves it at the top and raises the counter-saturated event; waiters wake. -/
def Chan.addCtr (c : Chan) (k : Ctr) (n : Nat) : Chan :=
  let v := c.ctrVal k + n
  let top := 2 ^ 64 - 1
  let subject := match k with | .num i => i | .bound slot _ => c.handle slot
  let c' := (c.setCtr k (min v top)).wake k
  if top < v then c'.event 0x6006 (c.ctrTenant k) subject (v - top) else c'

end Sys2Proof.Machine
end

