-- ==== Sys2Proof/Machine/CtxOps.lean ====
section
/-! DEFINITION. The shared operations of the context table (chapter 3): the journal, the handle check, allocation, transitions and faults. -/
namespace Sys2Proof.Machine
open Sys2Proof

/-! ### The journal (R86 to R88) -/

/-- An entry changed, with a journal record of it (R86, R87): JSEQ counts up, and JRNL_LAST carries its low 32 bits. -/
def Chan.journal (c : Chan) (slot cause : Nat) (e : Entry) : Chan :=
  let j := c.ctx.journal
  let seq := j.seq + 1
  let e := { e with jlast := seq % 2 ^ 32 }
  let c := c.setEntry slot e
  { c with ctx := { c.ctx with journal := { j with seq := seq, recs := ⟨seq, slot, cause, c.time, e⟩ :: j.recs,
                                                   sinceSnap := j.sinceSnap + 1, ringPos := (j.ringPos + 1) % 1048576 } } }

/-- A snapshot of the table into the older buffer (R88); the records that neither snapshot needs are forgotten. -/
def Chan.snapshot (c : Chan) : Chan :=
  let j := c.ctx.journal
  let s : Snapshot := ⟨j.seq, c.ctx.entries, true⟩
  let toA := decide (j.snapA.seq ≤ j.snapB.seq)
  let a := if toA then s else j.snapA
  let b := if toA then j.snapB else s
  { c with ctx := { c.ctx with journal := { j with snapA := a, snapB := b, recs := j.recs.filter (fun r => decide (min a.seq b.seq < r.seq)),
                                                   sinceSnap := 0, snapTime := c.time, degraded := false } } }

/-- SNAP_RECORDS and SNAP_TIME as they act. -/
def Chan.snapRecords (c : Chan) : Nat := max 4096 (min 524288 (c.fget Reg.CTX_JRNL_CFG 19 0))

/-- The snapshot interval in ns. -/
def Chan.snapInterval (c : Chan) : Nat := c.orD Reg.CTX_JRNL_CFG 39 32 10 * 100 * ms

/-! ### Handles (R70, R83) -/

/-- The check of R70: a slot whose entry the handle names, or the status, misrouted or stale. -/
def Chan.checkHandle (c : Chan) (h : Nat) : Except Nat Nat :=
  let slot := bits h 29 16
  let e := c.entry slot
  if bits h 47 30 ≠ c.fget Reg.CHN_EID 17 0 then .error 0x21
  else if bits h 15 0 = 0 ∨ e.state = .free ∨ e.gen ≠ bits h 15 0 then .error 0x20
  else .ok slot

/-- A stale or misrouted handle is counted, and its event raised at most once per 1 ms per code (R70). -/
def Chan.badHandle (c : Chan) (status h : Nat) (fabric : Bool) : Chan :=
  let d := fun n => min n (2 ^ 32 - 1) + b2n fabric * 2 ^ 63
  if status = 0x21 then (c.bump Reg.CTX_STALE_CNT 63 32 1).eventEvery ms 0x1002 0 none h d
  else (c.bump Reg.CTX_STALE_CNT 31 0 1).eventEvery ms 0x1001 0 none h d

/-- A command names a context: the handle is checked, and a VF reaches only its own slot's contexts (R83). -/
def Chan.withCtx (c : Chan) (src : Src) (h : Nat) (k : Nat → Chan) : Chan :=
  match c.checkHandle h with
  | .error st => (c.badHandle st h false).complete src st 0
  | .ok slot =>
    match src.vf with
    | some t => if (c.entry slot).tslot = t then k slot else (c.badHandle 0x20 h false).complete src 0x20 0
    | none => k slot

/-- A base-program command that acts on contexts: during the rebuild of the table it completes with 0x29 (R84, R89). -/
def Chan.ctxCommand (c : Chan) (src : Src) (a : Admit) (body : Chan → Chan) : Chan :=
  c.command src a (fun c => if c.ctx.ready then body c else c.complete src 0x29 0)

/-- DEADLINE of a budget (R75); a sum past 64 bits is a value the spec does not state. -/
def Chan.deadlineOf (c : Chan) (budget : Nat) : Nat × Chan :=
  if budget = 0 then (0, c)
  else if c.time + budget < 2 ^ 64 then (c.time + budget, c)
  else let (v, c) := c.draw; (v % 2 ^ 64, c)

/-- A refusal under R400: counted, and reported at most once per 1 ms of local time per slot. -/
def Chan.privateRefused (c : Chan) (t subject code : Nat) : Chan :=
  (c.bump Reg.SEC_FAIL_CNT 31 0 1).eventEvery ms 0xC006 t (some t) subject (fun _ => code)

/-! ### Slots (R68, R69, R73) -/

/-- The first slot of a queue held as runs, and the rest. -/
def popRun : List (Nat × Nat) → Option (Nat × List (Nat × Nat))
  | [] => none
  | (_, 0) :: t => popRun t
  | (a, n + 1) :: t => some (a, if n = 0 then t else (a + 1, n) :: t)

/-- A number at the tail of a queue held as runs. -/
def pushRun (l : List (Nat × Nat)) (a : Nat) : List (Nat × Nat) :=
  match l.getLast? with
  | some (b, n) => if b + n = a then l.dropLast ++ [(b, n + 1)] else l ++ [(a, 1)]
  | none => [(a, 1)]

/-- The slot at the head of the free queue with its next generation (R68). -/
def Chan.nextSlot (c : Chan) : Option (Nat × Nat × Chan) :=
  match popRun c.ctx.freeQ with
  | none => none
  | some (slot, q) =>
    let g := (c.entry slot).gen
    some (slot, if g = 65535 then 1 else g + 1, { c with ctx := { c.ctx with freeQ := q } })

/-- Entries that meet a condition. -/
def Chan.countCtx (c : Chan) (p : Entry → Bool) : Nat := (c.ctx.entries.filter (fun e => p e.2)).length

/-- Is the entry charged to the context quota of slot t (R79)? -/
def Entry.charges (t : Nat) (e : Entry) : Bool := decide (e.tslot = t ∧ e.state ≠ .free ∧ e.state ≠ .retired)

/-- MAX of CTX_TEN_LIMIT as it acts. -/
def Chan.ctxQuota (c : Chan) (t : Nat) : Nat := min 16384 (c.fget (Reg.CTX_TEN_LIMIT t) 46 32)

/-- Would one more context exceed the slot's quota (R79)? -/
def Chan.quotaFull (c : Chan) (t : Nat) : Bool := decide (c.ctxQuota t < c.countCtx (Entry.charges t) + 1)

/-- The context-quota event (R79, R92). -/
def Chan.quotaEvent (c : Chan) (t : Nat) : Chan := c.event 0x1006 (some t) (0x30 + t) (c.ctxQuota t)

/-- Are slots withheld (R73), or none free? -/
def Chan.noSlot (c : Chan) : Bool :=
  (popRun c.ctx.freeQ).isNone || (match c.ctx.holdUntil with | some t => decide (c.time < t) | none => false)

/-- The no-slot event, at most once per 1 ms (R92). -/
def Chan.noSlotEvent (c : Chan) : Chan :=
  let n := c.countCtx (fun e => decide (e.state = .retired))
  c.eventEvery ms 0x1005 0 none 0 (fun _ => n)

/-! ### Transitions (R64, R65, R77) -/

/-- An entry enters a state and sub-state: STATE_TIME moves with STATE, and EVC2 counts every change. The record is journalled. While the meter is absent a
context that becomes resident is marked UNMETERED (R428). -/
def Chan.moveTo (c : Chan) (slot : Nat) (st : CtxState) (sub : Nat) (upd : Entry → Entry) : Chan :=
  let e := c.entry slot
  let changed := decide (e.state ≠ st ∨ e.sub ≠ sub)
  let e' := { upd e with state := st, sub := sub, stateTime := if e.state = st then e.stateTime else c.time }
  let mark := c.mtr.absent && st.resident && !e'.unmetered
  let c := c.journal slot 1 { e' with unmetered := e'.unmetered || mark }
  let c := if changed then c.addCtr (.bound slot 2) 1 else c
  if mark then c.eventEvery ms 0xD003 e'.tslot (some e'.tslot) (c.handle slot) (fun _ => e'.tslot) else c

/-- Fields of an entry change with no change of state: journalled with the given CAUSE (R87). -/
def Chan.update (c : Chan) (slot cause : Nat) (upd : Entry → Entry) : Chan := c.journal slot cause (upd (c.entry slot))

/-- Fields whose change is not journalled (R86). -/
def Chan.touch (c : Chan) (slot : Nat) (upd : Entry → Entry) : Chan := c.setEntry slot (upd (c.entry slot))

/-- The context-faulted transition of PREFILLING, SEALED, DECODING or PARKED (R65): FAULT_CODE, the count and the event. -/
def Chan.toFaulted (c : Chan) (slot code : Nat) : Chan :=
  let e := c.entry slot
  let c := c.moveTo slot .faulted 0 (fun e => { e with fault := code, provisional := 0 })
  let c := { c with drafts := c.drafts.del slot }
  (c.bump Reg.CTX_EVENT_CNT 31 0 1).event 0x1004 (some e.tslot) (c.handle slot) (code + e.state.code * 256)

/-- The state of an entry by the code of RETURN_STATE (R63). -/
def retState : Nat → CtxState
  | 1 => .sealed
  | 2 => .decoding
  | _ => .parked

/-- RETURN_STATE of a state. -/
def retCode : CtxState → Nat
  | .sealed => 1
  | .decoding => 2
  | .parked => 3
  | _ => 0

/-- The role as its function lets it act: unassigned while STOPPED or STARTING (R23, R33). -/
def Chan.actingRole (c : Chan) : Role :=
  if decide (c.fnState 0 = .running ∨ c.fnState 0 = .stopping) then c.role.cur else .unassigned

/-- The states that a role holds (R25); DRAINING, RETIRED and FAULTED are held by every role. -/
def Role.holds : Role → CtxState → Bool
  | .prompt, s => decide (s = .prefilling ∨ s = .sealed ∨ s = .offered)
  | .generation, s => decide (s = .inbound ∨ s = .decoding ∨ s = .offered)
  | .cache, s => decide (s = .inbound ∨ s = .parked ∨ s = .offered)
  | .unassigned, _ => false

/-- Is a context in state s a retained one (R25, R33)? -/
def Chan.retained (c : Chan) (s : CtxState) : Bool := !(c.actingRole.holds s)

/-- The 128 bytes of an entry (R63). -/
def Entry.bytes (e : Entry) : List Byte :=
  leBytes 1 (e.state.code + 16 * e.sub) ++
  leBytes 1 (b2n e.overrun + 2 * b2n e.prefixOwner + 4 * b2n e.prefixAttached + 8 * b2n e.isPrivate + 16 * b2n e.unmetered) ++
  leBytes 2 e.gen ++ leBytes 4 e.epoch ++ leBytes 8 e.req ++ leBytes 4 e.tag ++ leBytes 1 (e.tslot + 16 * e.prio) ++
  leBytes 1 (e.profile + 16 * e.format) ++ leBytes 1 (e.red + 8 * e.ret) ++ leBytes 1 e.fault ++ leBytes 8 e.deadline ++
  leBytes 4 e.committed ++ leBytes 2 e.provisional ++ leBytes 2 0 ++ leBytes 8 e.pgt ++ leBytes 8 e.peer ++ leBytes 8 e.stateTime ++
  leBytes 4 e.governor ++ leBytes 4 e.refs ++ leBytes 4 e.ch0 ++ leBytes 4 e.ch1 ++ leBytes 4 e.ch2 ++ leBytes 4 e.jlast ++
  leBytes 4 e.span ++ leBytes 4 0 ++ leBytes 8 e.evc0 ++ leBytes 8 e.evc1 ++ leBytes 8 e.evc2 ++ leBytes 8 e.evc3

end Sys2Proof.Machine
end

