-- ==== Sys2Proof/Machine/MeterOps.lean ====
section
/-! DEFINITION. The meter-link block of a channel (R413 to R419, R428 to R430): what it counts, and the frames it sends. -/
namespace Sys2Proof.Machine
open Sys2Proof

/-- Is tenant slot t paused: METERED_ONLY set while the meter is absent (R429)? -/
def Chan.paused (c : Chan) (t : Nat) : Bool := c.mtr.absent && c.flag (Reg.MTR_TEN_CFG t) 63

/-- The billed quantities counted in tokens (R413). -/
inductive Billed where
  | prompt | output | attached
  deriving DecidableEq, Repr

/-- The context's counts are unmetered from here on (R428): the flag, and the event at most once per 1 ms per slot. -/
def Chan.markUnmetered (c : Chan) (slot : Nat) : Chan :=
  let e := c.entry slot
  let c := if e.unmetered then c else c.update slot 3 (fun e => { e with unmetered := true })
  c.eventEvery ms 0xD003 e.tslot (some e.tslot) (c.handle slot) (fun _ => e.tslot)

/-- `n` tokens of a billed quantity counted for the context in `slot` (R413): into the totals of the stream, or into the unmetered ones. -/
def Chan.bill (c : Chan) (slot : Nat) (q : Billed) (n : Nat) : Chan :=
  let t := (c.entry slot).tslot
  if c.tag t = 0 ∨ n = 0 then c
  else
    let x := c.totals t
    if c.mtr.absent then
      let x := match q with
        | .prompt => { x with uPrompt := x.uPrompt + n }
        | .output => { x with uOutput := x.uOutput + n }
        | .attached => { x with uAttached := x.uAttached + n }
      (c.setTotals t x).markUnmetered slot
    else
      let x := match q with
        | .prompt => { x with prompt := x.prompt + n }
        | .output => { x with output := x.output + n }
        | .attached => { x with attached := x.attached + n }
      c.setTotals t x

/-- The 64 bytes of a link frame of a TYPE (R417). -/
def linkBytes (ty chan : Nat) (f : LinkFrame) : List Byte :=
  let b := leBytes 1 ty ++ leBytes 1 (chan + 16 * f.slot) ++ leBytes 1 f.supply ++ leBytes 1 0 ++ leBytes 4 f.seq ++ leBytes 4 f.stream ++
    leBytes 4 f.tag ++ leBytes 8 f.prompt ++ leBytes 8 f.output ++ leBytes 8 f.attached ++ leBytes 4 (min f.t0 (2 ^ 32 - 1)) ++
    leBytes 4 (min f.out (2 ^ 32 - 1)) ++ leBytes 8 f.unmetered ++ leBytes 4 0
  b ++ leBytes 4 (crc32c b)

/-- The channel identity of a channel number. -/
def chOf : Nat → ChId
  | 0 => .c0
  | 1 => .c1
  | 2 => .c2
  | _ => .c3

/-- A frame with nothing in it but the channel, the slot and the stream. -/
def Chan.blankFrame (c : Chan) (slot stream : Nat) : LinkFrame :=
  { ch := chOf c.num, slot := slot, supply := 0, seq := 0, stream := stream, tag := 0, prompt := 0, output := 0, attached := 0, t0 := 0,
    out := 0, unmetered := 0 }

/-- A frame sent against a credit (R418, R419): SEQ is the next number of the link. -/
def Chan.sendLink (c : Chan) (ty : Nat) (f : LinkFrame) : Chan :=
  let f := { f with seq := c.mtr.seq % 2 ^ 32 }
  let c := { c with mtr := { c.mtr with seq := c.mtr.seq + 1, frames := c.mtr.frames + 1, credits := c.mtr.credits - 1 } }
  c.emit (.link (linkBytes ty c.num f))

/-- Does the block send at all: in every security state but FAILED (R418)? -/
def Chan.linkLive (c : Chan) : Bool := decide (c.sec.mode ≠ .failed ∧ c.pwr.st ≠ .c3)

/-- A frame sent now where a credit is held, or kept until one comes. -/
def Chan.linkOrOwe (c : Chan) (ty : Nat) (f : LinkFrame) : Chan :=
  if c.linkLive && decide (0 < c.mtr.credits) then c.sendLink ty f
  else { c with mtr := { c.mtr with owed := c.mtr.owed ++ [(ty, f)] } }

/-- The HELLO frame (R417). -/
def Chan.helloFrame (c : Chan) : LinkFrame :=
  { c.blankFrame 0 c.mtr.stream with
      prompt := 0x7E5A * 2 ^ 48 + (if c.g8x then 2 else 1) * 2 ^ 40 + c.num,
      output := c.fget Reg.CHN_EID 17 0 + c.fget Reg.CHN_EID 63 63 * 2 ^ 63 }

/-- HELLO, and when the next one is due (R418). -/
def Chan.sendHello (c : Chan) : Chan :=
  let c := c.linkOrOwe 1 c.helloFrame
  { c with mtr := { c.mtr with helloDue := c.time + 1000 * ms } }

/-- What a TOTALS frame of slot t would carry. -/
def Chan.totalsNow (c : Chan) (t : Nat) : Nat × Nat × Nat × Nat × Nat :=
  let x := c.totals t
  (x.prompt, x.output, x.attached, c.resT0 t, c.resOut t)

/-- The TOTALS frame of slot t sent (R417, R418). -/
def Chan.sendTotals (c : Chan) (t : Nat) : Chan :=
  let x := c.totals t
  let n := c.totalsNow t
  let f := { c.blankFrame t x.stream with tag := c.tag t, prompt := x.prompt, output := x.output, attached := x.attached,
                                          t0 := n.2.2.2.1, out := n.2.2.2.2 }
  (c.setTotals t { x with sent := n, lastSent := c.time }).sendLink 2 f

/-- May a frame of this TYPE leave: SUPPLY frames do in C3 as well (R481)? -/
def Chan.linkSends (c : Chan) (ty : Nat) : Bool := c.linkLive || decide (ty = 3 ∧ c.sec.mode ≠ .failed)

/-- A SUPPLY frame (R418, R464, R465). -/
def Chan.sendSupply (c : Chan) (bits : Nat) : Chan :=
  let f := { c.blankFrame 0 c.mtr.stream with supply := bits }
  if c.linkSends 3 && decide (0 < c.mtr.credits) then c.sendLink 3 f else { c with mtr := { c.mtr with owed := c.mtr.owed ++ [(3, f)] } }

/-- A new stream for the whole channel (R416): a fresh random number, every total at zero. -/
def Chan.newStream (c : Chan) : Chan :=
  let (r, c) := c.draw
  let s := r % 2 ^ 32
  { c with mtr := { c.mtr with stream := s, frames := 0,
                               tot := c.mtr.tot.mapVals (fun _ x => { x with prompt := 0, output := 0, attached := 0, sent := (0, 0, 0, 0, 0), stream := s }) } }

/-- A new stream for one slot (R416, R433): the final TOTALS goes out under the old tag before this. -/
def Chan.newSlotStream (c : Chan) (t : Nat) : Chan :=
  let (r, c) := c.draw
  c.setTotals t { Totals.init with stream := r % 2 ^ 32, lastSent := c.time }

/-- HELLO at the start of the stream of one slot (R418). -/
def Chan.slotHello (c : Chan) (t : Nat) : Chan :=
  if c.mtr.absent then c else c.linkOrOwe 1 { c.helloFrame with slot := t, stream := (c.totals t).stream }

end Sys2Proof.Machine
end

