-- ==== Sys2Proof/Machine/TrafficOps.lean ====
section
/-! DEFINITION. The egress queues, shapers, policers and gates of a port (chapter 11) as operations that the transport and the traffic commands share. -/
namespace Sys2Proof.Machine
open Sys2Proof

/-! ### Ports -/

/-- A port. -/
def Chan.port (c : Chan) (n : Nat) : Port := c.fab.ports.getD n Port.init

/-- A port replaced. -/
def Chan.setPort (c : Chan) (n : Nat) (p : Port) : Chan := { c with fab := { c.fab with ports := c.fab.ports.set Port.init n p } }

/-- The egress side of a port. -/
def Chan.egress (c : Chan) (n : Nat) : Egress := c.tm.eg.getD n Egress.init

/-- The egress side of a port replaced. -/
def Chan.setEgress (c : Chan) (n : Nat) (e : Egress) : Chan := { c with tm := { c.tm with eg := c.tm.eg.set Egress.init n e } }

/-- The port rate in Gb/s, which is bits a nanosecond (R263). -/
def Chan.portRate (c : Chan) : Nat :=
  match c.fget Reg.FAB_LANE_MODE 1 0 with
  | 0 => 200
  | 1 => 800
  | _ => 1600

/-- Does port n exist in the lane mode? -/
def Chan.hasPort (c : Chan) (n : Nat) : Bool := decide (n < c.ports)

/-- The ports whose function is RUNNING, lowest first. -/
def Chan.runningPorts (c : Chan) : List Nat := (List.range c.ports).filter (fun n => c.running (0x10 + n))

/-- The tenant slot that a PD is assigned to; PD 0 belongs to none (R278). -/
def Chan.pdSlot (c : Chan) (pd : Nat) : Option Nat := if pd = 0 then none else (c.fab.pds.find pd).map (fun p => p.tenant)

/-- The tenant slot of a connection's PD. -/
def Chan.connSlot (c : Chan) (k : Nat) : Option Nat := (c.fab.conns.find k).bind (fun x => c.pdSlot x.pd)

/-! ### Buckets (R308, R310): levels in units of 1/8000 byte -/

/-- A bucket brought up to date at local time `now`; an unlisted bucket is full. -/
def bucketAt (b : Option Bucket) (rate burst now : Nat) : Int :=
  let full : Int := (burst * 8000 : Nat)
  match b with
  | none => full
  | some b => min full (b.level + (rate * (now - b.at_) : Nat))

/-- The rate and burst of a shaper register. -/
def Chan.shape (c : Chan) (off : Nat) : Nat × Nat := (c.fget off 55 32, c.fget off 23 0)

/-- Is a shaper not below zero? A RATE of 0 never stops a frame. -/
def Chan.shaperOk (c : Chan) (off : Nat) (b : Option Bucket) : Bool :=
  let (r, burst) := c.shape off
  decide (r = 0) || decide (0 ≤ bucketAt b r burst c.time)

/-- A shaper's bucket after a frame of `size` bytes: it never falls below −9,216 bytes. -/
def Chan.charge (c : Chan) (off : Nat) (b : Option Bucket) (size : Nat) : Option Bucket :=
  let (r, burst) := c.shape off
  if r = 0 then b
  else some ⟨max (-73728000) (bucketAt b r burst c.time - (size * 8000 : Nat)), c.time⟩

/-- The colours of R310. -/
inductive Colour where
  | green | yellow | red
  deriving DecidableEq, Repr

/-- A policer judges a frame of `size` bytes (R310, R311): direction 0 ingress, 1 egress. It counts the frame by its colour, and a red one raises the
policer-discard event at most once per 1 ms per policer. -/
def Chan.police (c : Chan) (t dir size : Nat) : Colour × Chan :=
  let k := 2 * t + dir
  let rate := c.rd (Reg.TM_POL_RATE k)
  if !rate.testBit 63 then (.green, c)
  else
    let cir := bits rate 23 0
    let pir := max cir (bits rate 47 24)
    let cbs := max 9216 (c.fget (Reg.TM_POL_BURST k) 23 0)
    let pbs := max 9216 (c.fget (Reg.TM_POL_BURST k) 55 32)
    let tc := bucketAt (c.tm.tc.find k) cir cbs c.time
    let tp := bucketAt (c.tm.tp.find k) pir pbs c.time
    let b : Int := (size * 8000 : Nat)
    let put := fun (tc tp : Int) => { c with tm := { c.tm with tc := c.tm.tc.put k ⟨tc, c.time⟩, tp := c.tm.tp.put k ⟨tp, c.time⟩ } }
    let count := fun (c : Chan) (off : Nat) => c.wr off ((c.rd off + size) % 2 ^ 64)
    if tp < b then
      (.red, (count (put tc tp) (Reg.TM_POL_RED k)).eventEvery ms 0x8001 k (some t) (t + 16 * dir) (fun n => n))
    else if tc < b then (.yellow, count (put tc (tp - b)) (Reg.TM_POL_YELLOW k))
    else (.green, count (put (tc - b) (tp - b)) (Reg.TM_POL_GREEN k))

/-- Is YEL_ECN of a policer set? -/
def Chan.yelEcn (c : Chan) (t dir : Nat) : Bool := c.flag (Reg.TM_POL_RATE (2 * t + dir)) 62

/-! ### Queues (R304, R305, R319) -/

/-- The frames in queue q of port n. -/
def Chan.qframes (c : Chan) (n q : Nat) : List QFrame := (c.egress n).queues.getD q []

/-- Frame bytes of a list of frames. -/
def frameSum (l : List QFrame) : Nat := (l.map (fun f => f.size)).sum

/-- Frame bytes queued on a port. -/
def Egress.bytes (e : Egress) : Nat := (e.queues.map (fun x => frameSum x.2)).sum

/-- Frame bytes of slot t's connections queued across the ports. -/
def Chan.tenantBytes (c : Chan) (t : Nat) : Nat :=
  (c.tm.eg.map (fun p => (p.2.queues.map (fun x => frameSum (x.2.filter (fun f =>
    match f.conn with | some k => decide (c.connSlot k = some t) | none => false)))).sum)).sum

/-- A mark raised to at least v (R319). -/
def Chan.raiseMark (c : Chan) (off hi lo v : Nat) : Chan :=
  let v := min v (2 ^ (hi + 1 - lo) - 1)
  if c.fget off hi lo < v then c.fset off hi lo v else c

/-- A frame at the tail of queue q of port n, and the high-water marks it raises. -/
def Chan.pushFrame (c : Chan) (n q : Nat) (f : QFrame) : Chan :=
  let e := c.egress n
  let c := c.setEgress n { e with queues := e.queues.set [] q (e.queues.getD q [] ++ [f]) }
  let c := c.raiseMark (Reg.TM_PORT_HWM n) 63 32 (c.egress n).bytes
  match f.conn.bind c.connSlot with
  | some t => c.raiseMark (Reg.TM_TEN_HWM t) 63 32 (c.tenantBytes t)
  | none => c

/-- MAX_FRAMES of a queue. -/
def Chan.maxFrames (c : Chan) (n q : Nat) : Nat := c.orD (Reg.TM_Q_CFG n q) 11 0 1

/-- Packet buffers in use: those that programs and receive rings hold, and those of the transport's queued frames (R256, R304). -/
def Chan.bufsUsed (c : Chan) : Nat :=
  c.fab.bufs.length + (c.tm.eg.map (fun p => (p.2.queues.map (fun x => x.2.countP (fun f => f.buf.isNone))).sum)).sum

/-- A transport frame of priority p enqueued on port n (R305): it waits where the queue is full or no packet buffer is free. -/
def Chan.enqueue (c : Chan) (n p : Nat) (f : QFrame) : Chan :=
  let q := bits (c.rd (Reg.TM_PORT_SCHED n)) (4 * p + 3) (4 * p)
  let e := c.egress n
  let w := e.wait.getD q []
  if w.isEmpty && decide ((c.qframes n q).length < c.maxFrames n q ∧ c.bufsUsed < 4095) then c.pushFrame n q f
  else c.setEgress n { e with wait := e.wait.set [] q (w ++ [f]) }

/-- More frames than can wait for a queue at once. -/
def refillFuel : Nat := 4096

/-- Waiting transport frames move into a queue while it has room. -/
def Chan.refill (c : Chan) (n q : Nat) : Nat → Chan
  | 0 => c
  | k + 1 =>
    let e := c.egress n
    match e.wait.getD q [] with
    | [] => c
    | f :: t =>
      if (c.qframes n q).length < c.maxFrames n q ∧ c.bufsUsed < 4095 then
        ((c.setEgress n { e with wait := e.wait.set [] q t }).pushFrame n q f).refill n q k
      else c

/-- A PFC frame for one priority (R266): the MAC control destination, EtherType and opcode, the enable vector and the quanta of each priority. -/
def pfcFrame (src p quanta : Nat) : List Byte :=
  beBytes 6 0x0180C2000001 ++ beBytes 6 src ++ beBytes 2 0x8808 ++ beBytes 2 0x0101 ++ beBytes 2 (2 ^ p) ++
  (List.range 8).flatMap (fun i => beBytes 2 (if i = p then quanta else 0)) ++ List.replicate 26 0

/-- A PFC frame sent from port n; the port's own MAC address is its source. -/
def Chan.sendPfc (c : Chan) (n p quanta : Nat) : Chan := c.emit (.frame n 16 (pfcFrame (c.fget (Reg.FAB_PORT_CFG n) 47 0) p quanta))

/-- XON of a port as it acts: at most XOFF. -/
def Chan.xon (c : Chan) (n : Nat) : Nat := min (c.fget (Reg.FAB_PFC_CFG n) 31 20) (c.fget (Reg.FAB_PFC_CFG n) 19 8)

/-- A received frame's buffer no longer counts against its port and priority (R266): quanta 0 goes out when the count falls below XON. -/
def Chan.unholdBuf (c : Chan) (n p : Nat) : Chan :=
  let x := c.port n
  let held := x.held.getD p 0 - 1
  let c := c.setPort n { x with held := x.held.set 0 p held }
  if (x.txPaused.find p).isSome ∧ held < c.xon n then
    (c.setPort n { c.port n with txPaused := x.txPaused.del p }).sendPfc n p 0
  else c

/-- A packet buffer freed. -/
def Chan.freeBuf (c : Chan) (h : Nat) : Chan :=
  let x := c.fab.bufs.find h
  let c := { c with fab := { c.fab with bufs := c.fab.bufs.del h, bufOwner := c.fab.bufOwner.del h } }
  match x.bind (fun b => b.rx) with
  | some (n, p) => c.unholdBuf n p
  | none => c

/-- The head frame of a queue removed; the buffer of a frame that PTX enqueued is freed. -/
def Chan.popFrame (c : Chan) (n q : Nat) : Chan :=
  let e := c.egress n
  match e.queues.getD q [] with
  | [] => c
  | f :: t =>
    let c := c.setEgress n { e with queues := e.queues.set [] q t, deficit := if t.isEmpty then e.deficit.del q else e.deficit }
    let c := match f.buf with | some h => c.freeBuf h | none => c
    c.refill n q refillFuel

/-! ### Gates (R313 to R315) -/

/-- GATES and INTERVAL of entry i of port n's list. -/
def Chan.gclGates (c : Chan) (n i : Nat) : Nat := c.fget (Reg.TM_GCL n i) 63 48

/-- INTERVAL of entry i. -/
def Chan.gclInterval (c : Chan) (n i : Nat) : Nat := c.fget (Reg.TM_GCL n i) 31 0

/-- GCL_LEN of port n. -/
def Chan.gclLen (c : Chan) (n : Nat) : Nat := c.fget (Reg.TM_PORT_SCHED n) 38 32

/-- Does the gate list run? -/
def Chan.gclOn (c : Chan) (n : Nat) : Bool := c.flag (Reg.TM_PORT_SCHED n) 63

/-- The cycle of the list. -/
def Chan.gclCycle (c : Chan) (n : Nat) : Nat := ((List.range (c.gclLen n)).map (c.gclInterval n)).sum

/-- How long queue q stays open from the start of entry i, counted over at most k consecutive entries; the flag says that the gate was open in all k. -/
def Chan.openRun (c : Chan) (n q : Nat) : Nat → Nat → Nat × Bool
  | 0, _ => (0, true)
  | k + 1, i =>
    if (c.gclGates n i).testBit q then
      let (w, all) := Chan.openRun c n q k ((i + 1) % max 1 (c.gclLen n))
      (c.gclInterval n i + w, all)
    else (0, false)

/-- The longest open window of queue q, none where the gate is always open (R315). -/
def Chan.longestOpen (c : Chan) (n q : Nat) : Option Nat :=
  let runs := (List.range (c.gclLen n)).map (fun i => c.openRun n q (c.gclLen n) i)
  if runs.any Prod.snd then none else some (runs.foldl (fun m r => max m r.1) 0)

/-- Is queue q's gate open now? -/
def Chan.gateOpen (c : Chan) (n q : Nat) : Bool :=
  !c.gclOn n || (match (c.egress n).gateIdx with | none => true | some i => (c.gclGates n i).testBit q)

/-- Does a frame of `size` bytes pass the gate of queue q now (R315)? -/
def Chan.gatePasses (c : Chan) (n q size : Nat) : Bool :=
  if !c.gclOn n then true
  else
    let e := c.egress n
    let next := match e.gateIdx with | none => 0 | some i => (i + 1) % max 1 (c.gclLen n)
    let (w, all) := c.openRun n q (c.gclLen n) next
    c.gateOpen n q && (all || decide ((size + 20) * 8 ≤ (e.gateEnd - c.time + w) * c.portRate))

/-- Would a frame never fit (R315)? -/
def Chan.neverFits (c : Chan) (n q size : Nat) : Bool :=
  c.gclOn n && (match c.longestOpen n q with | none => false | some w => decide (w * c.portRate < (size + 20) * 8))

/-- The gate list at START (R314): open until the first cycle that begins now or later. -/
def Chan.gateStart (c : Chan) (n : Nat) : Chan :=
  let e := c.egress n
  let base := c.rd (Reg.TM_GCL_BASE n)
  let cyc := max 1 (c.gclCycle n)
  let first := if c.time ≤ base then base else base + (c.time - base + cyc - 1) / cyc * cyc
  c.setEgress n { e with gateIdx := if first = c.time then some 0 else none,
                         gateEnd := if first = c.time then c.time + c.gclInterval n 0 else first, deficit := [], rr := 4, visited := false }

/-! ### Selection (R306) -/

/-- Is queue q of port n eligible? -/
def Chan.eligible (c : Chan) (n q : Nat) : Bool :=
  match c.qframes n q with
  | [] => false
  | f :: _ =>
    let e := c.egress n
    (((c.port n).rxPaused.find (c.fget (Reg.TM_Q_CFG n q) 58 56)).isNone) &&
    c.shaperOk (Reg.TM_Q_SHAPE n q) (e.qBucket.find q) && c.shaperOk (Reg.TM_PORT_SHAPE n) e.pBucket && c.gatePasses n q f.size

/-- The size of a queue's head frame. -/
def Chan.headSize (c : Chan) (n q : Nat) : Nat := ((c.qframes n q).head?.map (fun f => f.size)).getD 0

/-- dwrr of R306, with the deficits and the pointer it leaves. -/
def Chan.dwrr (c : Chan) (n : Nat) : Nat → Egress → Option Nat × Egress
  | 0, e => (none, e)
  | k + 1, e =>
    let q := e.rr
    let next := if q = 15 then 4 else q + 1
    if !c.eligible n q then
      Chan.dwrr c n k { e with rr := next, visited := false, deficit := if (c.qframes n q).isEmpty then e.deficit.del q else e.deficit }
    else
      let d := e.deficit.getD q 0 + (if e.visited then 0 else c.orD (Reg.TM_Q_CFG n q) 47 40 1 * 1024)
      let b := c.headSize n q
      if b ≤ d then (some q, { e with visited := true, deficit := e.deficit.set 0 q (d - b) })
      else Chan.dwrr c n k { e with rr := next, visited := false, deficit := e.deficit.set 0 q d }

/-- The queue that the port takes: the lowest eligible strict queue, or the weighted group's choice. -/
def Chan.select (c : Chan) (n : Nat) : Option Nat × Egress :=
  match (List.range 4).find? (fun q => c.eligible n q) with
  | some q => (some q, c.egress n)
  | none =>
    if (List.range 12).any (fun i => c.eligible n (4 + i)) then c.dwrr n 160 (c.egress n) else (none, c.egress n)

/-! ### Discards -/

/-- The queued frames of a port discarded, counted in LINK_DROP, with the event, and its buckets full (R316). -/
def Chan.dropQueued (c : Chan) (n : Nat) : Chan :=
  let e := c.egress n
  let frames := e.queues.flatMap (fun x => x.2) ++ e.wait.flatMap (fun x => x.2)
  let c := c.setEgress n { e with queues := [], wait := [], qBucket := [], pBucket := none, deficit := [], sojMax := [] }
  let c := (frames.filterMap (fun f => f.buf)).foldl Chan.freeBuf c
  if frames.isEmpty then c else (c.bump (Reg.TM_PORT_CNT n) 31 0 frames.length).event 0x8005 none n frames.length

end Sys2Proof.Machine
end

