-- ==== Sys2Proof/Machine/Transport.lean ====
section
/-! DEFINITION. The sending side of the transport (chapter 10): connections, the frames they make, operations in flight and their completion. -/
namespace Sys2Proof.Machine
open Sys2Proof

/-! ### Connections -/

/-- A connection number. -/
def Chan.conn (c : Chan) (k : Nat) : Conn := c.fab.conns.getD k Conn.init

/-- A connection replaced. -/
def Chan.setConn (c : Chan) (k : Nat) (x : Conn) : Chan := { c with fab := { c.fab with conns := c.fab.conns.set Conn.init k x } }

/-- Sequence numbers run modulo 2^24 (R287). -/
def psnMod : Nat := 2 ^ 24

/-- The distance from b up to a, modulo 2^24. -/
def psnSub (a b : Nat) : Nat := (a + psnMod - b % psnMod) % psnMod

/-- RTO_INIT in ns (FAB_TIMERS). -/
def Chan.rtoInit (c : Chan) : Nat := max 8 (min 65000 (c.fget Reg.FAB_TIMERS 63 48)) * 1000

/-- RETRY_MAX. -/
def Chan.retryMax (c : Chan) : Nat := c.orD Reg.FAB_TIMERS 47 40 7

/-- RNR_DELAY in ns. -/
def Chan.rnrDelay (c : Chan) : Nat := c.orD Reg.FAB_TIMERS 39 32 1 * 10000

/-- ACK_EVERY. -/
def Chan.ackEvery (c : Chan) : Nat := c.orD Reg.FAB_TIMERS 31 24 1

/-- ACK_DELAY in ns. -/
def Chan.ackDelay (c : Chan) : Nat := c.orD Reg.FAB_TIMERS 23 12 1 * 100

/-- WIN_MAX (FAB_WINDOW). -/
def Chan.winMax (c : Chan) : Nat :=
  let v := c.fget Reg.FAB_WINDOW 42 32
  if v = 0 ∨ 1024 < v then 1024 else v

/-- The initial congestion window, at least one packet. -/
def Chan.winInit (c : Chan) : Nat := max 1 (min c.winMax (c.fget Reg.FAB_WINDOW 26 16))

/-- ATOMIC_MAX. -/
def Chan.atomicMax (c : Chan) : Nat := min 16 (c.orD Reg.FAB_WINDOW 4 0 1)

/-- Is there a session with a peer: a valid peer-table entry (R392)? -/
def Chan.session (c : Chan) (eid : Nat) : Bool := (c.sec.peers.find eid).isSome

/-- Can port n carry a connection: RUNNING, with its link up? -/
def Chan.carries (c : Chan) (n : Nat) : Bool := c.hasPort n && c.running (0x10 + n) && decide ((c.port n).link = .up)

/-- The port that carries connection k (R286): the one it has while that can, then the next one; a new connection takes one by its number among the RUNNING ports. -/
def Chan.portFor (c : Chan) (k : Nat) : Option Nat :=
  let x := c.conn k
  if x.st = .closed then
    let ps := c.runningPorts
    let n := ps.length
    (List.range n).findSome? (fun i =>
      let p := ps.getD ((k + i) % max 1 n) 0
      if c.carries p then some p else none)
  else (List.range c.ports).findSome? (fun i =>
    let p := (x.port + i) % max 1 c.ports
    if c.carries p then some p else none)

/-! ### Frames (R265, R271, R272, R274, R275) -/

/-- MAX_FRAME of a port. -/
def Chan.maxFrame (c : Chan) (n : Nat) : Nat := max 1518 (min 9216 (c.fget (Reg.FAB_PORT_CFG n) 61 48))

/-- The channel's IPv4 or IPv6 address for an EID (R272). -/
def Chan.ipOf (c : Chan) (v6 : Bool) (eid : Nat) : List Byte :=
  if v6 then beBytes 8 (c.rd Reg.FAB_NET6_HI) ++ beBytes 8 (c.fget Reg.FAB_NET6_LO 63 18 * 2 ^ 18 + eid)
  else beBytes 4 (c.fget Reg.FAB_NET4 31 18 * 2 ^ 18 + eid)

/-- The one's-complement sum of 16-bit words, folded. -/
def onesSum : List Byte → Nat → Nat
  | a :: b :: t, acc => onesSum t (let s := acc + a.toNat * 256 + b.toNat; s % 65536 + s / 65536)
  | [a], acc => let s := acc + a.toNat * 256; s % 65536 + s / 65536
  | [], acc => acc

/-- Ethernet, IP and UDP headers before a UDP payload of `len` bytes: the DSCP is 8 × priority and the ECN field ECT(0) (R265). -/
def Chan.l3l4 (c : Chan) (n prio : Nat) (v6 : Bool) (dst : List Byte) (srcPort dstPort len : Nat) : List Byte :=
  let tag := if c.flag (Reg.FAB_PORT_L2 n) 63 then beBytes 2 0x8100 ++ beBytes 2 (prio * 8192 + c.fget (Reg.FAB_PORT_L2 n) 59 48) else []
  let eth := beBytes 6 (c.fget (Reg.FAB_PORT_L2 n) 47 0) ++ beBytes 6 (c.fget (Reg.FAB_PORT_CFG n) 47 0) ++ tag
  let tos := prio * 32 + 2
  let src := c.ipOf v6 (c.fget Reg.CHN_EID 17 0)
  let udp := beBytes 2 srcPort ++ beBytes 2 dstPort ++ beBytes 2 (8 + len) ++ beBytes 2 0
  if v6 then
    eth ++ beBytes 2 0x86DD ++ beBytes 4 (6 * 2 ^ 28 + tos * 2 ^ 20) ++ beBytes 2 (8 + len) ++ beBytes 1 17 ++ beBytes 1 64 ++ src ++ dst ++ udp
  else
    let hd := fun ck => beBytes 1 0x45 ++ beBytes 1 tos ++ beBytes 2 (28 + len) ++ beBytes 2 0 ++ beBytes 2 0x4000 ++ beBytes 1 64 ++ beBytes 1 17 ++
      beBytes 2 ck ++ src ++ dst
    eth ++ beBytes 2 0x0800 ++ hd (65535 - onesSum (hd 0) 0) ++ udp

/-- The fields of an FMT header (R275) that the opcode uses. -/
structure FmtHdr where
  opcode : Nat
  flags : Nat
  syndrome : Nat
  srcConn : Nat
  dstEid : Nat
  dstConn : Nat
  psn : Nat
  reason : Nat
  gen : Nat
  key : Nat
  region : Nat
  window : Nat
  oplen : Nat
  addr : Nat
  deriving DecidableEq, Repr

/-- A header with nothing but its opcode and the two ends. -/
def FmtHdr.plain (opcode srcConn dstEid dstConn : Nat) : FmtHdr :=
  { opcode := opcode, flags := 0, syndrome := 0, srcConn := srcConn, dstEid := dstEid, dstConn := dstConn, psn := 0, reason := 0, gen := 0, key := 0,
    region := 0, window := 0, oplen := 0, addr := 0 }

/-- The 40 bytes of a header (R275), with PROT set for every opcode but 0x38 and 0x39 (R277). -/
def FmtHdr.bytes (h : FmtHdr) (eid len : Nat) : List Byte :=
  let prot := if h.opcode = 0x38 ∨ h.opcode = 0x39 then 0 else 16
  beBytes 1 0x10 ++ beBytes 1 h.opcode ++ beBytes 1 (h.flags + prot) ++ beBytes 1 h.syndrome ++ beBytes 4 (eid * 8192 + h.srcConn) ++
  beBytes 4 (h.dstEid * 8192 + h.dstConn) ++ beBytes 3 h.psn ++ beBytes 1 h.reason ++ beBytes 2 len ++ beBytes 2 h.gen ++ beBytes 4 h.key ++
  beBytes 2 h.region ++ beBytes 2 h.window ++ beBytes 4 h.oplen ++ beBytes 8 h.addr

/-- A UDP frame enqueued on the port that carries connection number k; nothing is sent while no port runs (R268). `extra` bytes follow the payload on the
wire that the model does not spell out: the seal of FMT, or the ICRC. -/
def Chan.sendUdp (c : Chan) (k prio : Nat) (v6 : Bool) (dst : List Byte) (dstPort : Nat) (payload : List Byte) (extra : Nat) (attr : Bool) : Chan :=
  match c.portFor k with
  | none => c
  | some n =>
    let data := c.l3l4 n prio v6 dst (0xC000 + k % 0x4000) dstPort (payload.length + extra) ++ payload
    c.enqueue n prio ⟨data, max 64 (data.length + extra + 4), if attr then some k else none, none, c.time⟩

/-- The next value of the one sequence from which every counter of an IV is drawn (R341, R394): BOOT and COUNT of TIER_SEAL; BOOT counts up in flash when
COUNT would wrap. -/
def Chan.nextSeal (c : Chan) : Nat × Chan :=
  let t := c.tiers
  let v := t.sealBoot * 2 ^ 40 + t.sealCount
  if t.sealCount + 1 < 2 ^ 40 then (v, { c with tiers := { t with sealCount := t.sealCount + 1 } })
  else (v, { c with tiers := { t with sealCount := 0, sealBoot := t.sealBoot + 1 },
                    sec := { c.sec with flash := { c.sec.flash with sealBoot := c.sec.flash.sealBoot + 1 } } })

/-- An FMT packet from connection number k (R274): the CTR field and the tag follow the header and the payload in the frame bytes; the payload stands in
the frame in clear. -/
def Chan.sendFmt (c : Chan) (k prio : Nat) (v6 : Bool) (h : FmtHdr) (payload : List Byte) (attr : Bool := true) : Chan :=
  let plain := decide (h.opcode = 0x38 ∨ h.opcode = 0x39)
  let c := if plain || (c.portFor k).isNone then c else c.nextSeal.2
  c.sendUdp k prio v6 (c.ipOf v6 h.dstEid) (c.fget Reg.FAB_FMT_CFG 31 16)
    (h.bytes (c.fget Reg.CHN_EID 17 0) payload.length ++ payload) (if plain then 0 else 24) attr

/-- Does an opcode count as traffic of its connection (R285, R452)? Heartbeats do not, nor do the acknowledgements that answer them. -/
def isTraffic (opcode : Nat) : Bool := !decide (opcode = 0x30 ∨ opcode = 0x10 ∨ opcode = 0x11)

/-- A packet of connection k to its peer. -/
def Chan.sendOn (c : Chan) (k : Nat) (f : FmtHdr → FmtHdr) (opcode : Nat) (payload : List Byte) : Chan :=
  let x := c.conn k
  (c.sendFmt k x.prio x.v6 (f (FmtHdr.plain opcode k x.peer x.peerConn)) payload).setConn k { x with lastUse := if isTraffic opcode then c.time else x.lastUse }

/-- A RoCE packet of queue pair k (R296): the base transport header, then what follows it. -/
def Chan.sendRoce (c : Chan) (k opcode psn : Nat) (ackReq : Bool) (rest : List Byte) : Chan :=
  let x := c.conn k
  match x.roce with
  | none => c
  | some q =>
    let v4 := decide (q.ip / 2 ^ 32 = 0xFFFF)
    let pad := (4 - rest.length % 4) % 4
    let bth := beBytes 1 opcode ++ beBytes 1 (16 * pad) ++ beBytes 2 0xFFFF ++ beBytes 4 q.qpn ++ beBytes 4 (psn + (if ackReq then 2 ^ 31 else 0))
    c.sendUdp k x.prio (!v4) (if v4 then beBytes 4 (q.ip % 2 ^ 32) else beBytes 16 q.ip) 4791 (bth ++ rest ++ List.replicate pad 0) 4 true

/-! ### Operations in flight (R287, R292, R293) -/

/-- Is the opcode an atomic? -/
def TxOp.isAtomic (o : TxOp) : Bool := decide (o.opcode = 5 ∨ o.opcode = 6 ∨ o.opcode = 7)

/-- Is it a store of either kind, or a heartbeat: does its acknowledgement end it? -/
def TxOp.isStore (o : TxOp) : Bool := decide (o.opcode = 1 ∨ o.opcode = 2 ∨ o.opcode = 0x30 ∨ 0x100 ≤ o.opcode)

/-- A flagged store, which waits for every earlier store of its source (R293); on a queue pair, a write with immediate, which carries a trailer. -/
def TxOp.isFlagged (o : TxOp) : Bool := decide (o.opcode = 2 ∨ o.opcode = 0x103)

/-- The packets of an operation at a PMTU. -/
def TxOp.packets (o : TxOp) (pmtu : Nat) : Nat := if o.isStore then max 1 ((o.data.length + pmtu - 1) / max 1 pmtu) else 1

/-- One handoff, rebuild or tier move is one source (R293). -/
def Work.same : Work → Work → Bool
  | .pull a, .pull b => decide (a = b)
  | .push a, .push b => decide (a = b)
  | .tier a _, .tier b _ => decide (a = b)
  | .frag a _, .frag b _ => decide (a = b)
  | .share a _, .share b _ => decide (a = b)
  | _, _ => false

/-- Two issuers that are one source (R293): one ring pair of a tenant slot, one reply, or one piece of the base programs' work; their messages have no order
among themselves. -/
def Issuer.same : Issuer → Issuer → Bool
  | .cmd a, .cmd b => decide (a.vf = b.vf ∧ a.n = b.n)
  | .reply s i _ _ _ _, .reply t j _ _ _ _ => decide (s = t ∧ i = j)
  | .work a, .work b => a.same b
  | _, _ => false

/-- May an operation not yet sent be sent now, under points 2 and 3 of R293? -/
def Chan.mayStart (c : Chan) (k : Nat) (o : TxOp) : Bool :=
  let peer := (c.conn k).peer
  !(c.fab.conns.anyOf (fun j x => x.ops.any (fun o' => o'.issuer.same o.issuer && decide (o'.order < o.order) &&
      ((o.isFlagged && o'.isStore) || (j == k && !o'.sent) || (j != k && x.peer == peer)))))

/-- Has the target acknowledged every packet of a sent operation? -/
def Conn.acked (x : Conn) (o : TxOp) : Bool := o.sent && decide (o.npkts ≤ psnSub x.una o.psn ∧ psnSub x.una o.psn < 2 ^ 23)

/-- Bytes of a load that have arrived. -/
def TxOp.received (o : TxOp) : Nat := (o.got.map (fun e => e.2.length)).sum

/-- Packet i of an operation, sent or sent again (R275, R288). -/
def Chan.sendPacket (c : Chan) (k : Nat) (o : TxOp) (i : Nat) (again : Bool) : Chan :=
  let x := c.conn k
  let psn := (o.psn + i) % psnMod
  let last := decide (i + 1 = o.npkts)
  let part := (o.data.drop (i * x.pmtu)).take x.pmtu
  if o.opcode < 0x100 then
    let flags := 128 * b2n (decide (i = 0)) + 64 * b2n last + 32 * b2n (last || again || decide (o.opcode = 2)) + 8 * b2n again
    c.sendOn k (fun h => { h with flags := flags, psn := psn, gen := o.gen, key := o.key, region := o.region, addr := o.addr + i * x.pmtu,
                                  oplen := if o.opcode = 3 then o.len else 0 }) o.opcode (if o.opcode = 3 then [] else part)
  else
    let write := decide (0x102 ≤ o.opcode)
    let imm := decide (o.opcode % 2 = 1)
    let first := decide (i = 0)
    let base := if write then 6 else 0
    let code := base + (if first && last then (if imm then 5 else 4) else if first then 0 else if last then (if imm then 3 else 2) else 1)
    let reth := if write && first then beBytes 8 o.addr ++ beBytes 4 o.key ++ beBytes 4 o.data.length else []
    c.sendRoce k code psn last (reth ++ (if imm && last then beBytes 4 o.gen else []) ++ part)

/-! ### The end of an operation -/

/-- A reply that is refused or cannot be addressed is abandoned, counted, and reported (R174, R197). -/
def Chan.replyLost (c : Chan) (spec : Bool) (tenant addr sub tag : Nat) : Chan :=
  if spec then (c.bump Reg.SPC_REFUSE_CNT 63 32 1).event 0x5004 (some tenant) addr (sub + tag * 2 ^ 32)
  else (c.bump Reg.CRU_JOB_CNT 31 0 1).event 0x4002 (some tenant) addr (sub + tag * 2 ^ 32)

/-- An operation ends with a status and a result; load data goes to the host buffer first (R293, R301). The trailer of an attention reply that has been applied counts
its job as done. -/
def Chan.opEnd (c : Chan) (o : TxOp) (status result : Nat) : Chan :=
  match o.issuer with
  | .cmd src =>
    if status = 0 ∧ o.opcode = 3 then
      let data := o.data ++ o.got.flatMap (fun e => e.2)
      let (ok, c') := c.hostWrite src.fn o.host data
      if ok then c'.complete src 0 result else (c'.srcError src o.host ((c.dmaFault src.fn).getD 7)).complete src 0xB2 result
    else c.complete src status result
  | .reply spec _ tenant addr sub tag =>
    if status ≠ 0 then c.replyLost spec tenant addr sub tag
    else
      let st := (o.data.getD 8 0).toNat
      if !spec ∧ (o.opcode = 2 ∨ o.opcode = 0x103) ∧ (st = 0 ∨ st = 0x50) then c.bump Reg.CRU_JOB_CNT 63 32 1 else c
  | .base => c
  | .work w =>
    let had := if o.opcode = 3 then o.data.length else 0
    { c with fab := { c.fab with ended := c.fab.ended ++ [⟨w, status, o.addr - had, o.len + had, o.data ++ o.got.flatMap (fun e => e.2)⟩] } }

/-- A connection ends its operations with a status, or silently; each reply is abandoned once. -/
def Chan.failOps (c : Chan) (k status : Nat) : Chan :=
  let x := c.conn k
  let c := c.setConn k { x with ops := [], rtoDue := none, rnrDue := none }
  if status = 0 then c
  else (x.ops.foldl (fun acc o =>
    let seen := match o.issuer with | .reply _ _ _ _ _ _ => acc.2.any (fun i => i.same o.issuer) | _ => false
    if seen then acc else (acc.1.opEnd o (if o.failed = 0 then status else o.failed) (if o.failed = 0 then 0 else o.host), o.issuer :: acc.2)) (c, ([] : List Issuer))).1

/-- A connection enters ERROR (R283): its operations end with 0x82, or without completion where `silent`, and the event names the cause (R303). -/
def Chan.connError (c : Chan) (k cause : Nat) (silent : Bool) : Chan :=
  let x := c.conn k
  let c := c.failOps k (if silent then 0 else 0x82)
  let c := if silent then c else c.completeOpt x.openCmd 0x82 0
  let c := if silent then c else x.closeCmd.foldl (fun c s => c.complete s 0x82 0) c
  let c := c.setConn k { c.conn k with st := .error, openCmd := none, closeCmd := [], due := none, ackDue := none, waiting := [] }
  c.event 0x7005 (c.connSlot k) (k + b2n x.roce.isSome * 2 ^ 63) (cause + (if x.roce.isSome then 0 else x.peer * 2 ^ 24))

/-- A connection enters QUARANTINE for 100 ms (R283), which completes every close of it. -/
def Chan.connQuarantine (c : Chan) (k : Nat) : Chan :=
  let c := (c.conn k).closeCmd.foldl (fun c s => c.complete s 0 0) c
  let x := c.conn k
  c.setConn k { x with st := .quarantine, endAt := c.time + 100 * ms, openCmd := none, closeCmd := [], due := none, ackDue := none, rtoDue := none,
                       rnrDue := none, waiting := [] }

/-- More operations than a connection holds. -/
def reapFuel : Nat := 4096

/-- Every operation that has ended leaves the connection, in order, and completes: stores when acknowledged, loads and atomics when answered. -/
def Chan.reap (c : Chan) (k : Nat) : Nat → Chan
  | 0 => c
  | n + 1 =>
    let x := c.conn k
    match x.ops.find? (fun o => x.acked o && (decide (o.failed ≠ 0) || o.isStore || decide (o.len ≤ o.received))) with
    | none => c
    | some o =>
      let rest := x.ops.erase o
      let rest := if o.failed = 0 then rest else match o.issuer with
        | .reply _ _ _ _ _ _ => rest.filter (fun o' => !(o'.issuer.same o.issuer))
        | _ => rest
      let c := c.setConn k { x with ops := rest }
      let result := if o.failed ≠ 0 then o.host else if o.isAtomic then beVal ((o.got.getD 0 []).take 8) else if o.opcode = 3 then o.data.length + o.len else o.len
      (c.opEnd o o.failed result).reap k n

/-! ### Sending (R287, R290) -/

/-- May another packet go: the window, the receiver's advertised one, and no wait after a receiver-not-ready NAK. -/
def Conn.windowOpen (x : Conn) : Bool := x.rnrDue.isNone && decide (psnSub x.nx x.una < min x.cwnd (max 1 x.peerWin))

/-- The operation whose packet goes next, with its first PSN where it starts. -/
def Chan.nextOp (c : Chan) (k : Nat) : Option TxOp :=
  let x := c.conn k
  match x.ops.find? (fun o => o.sent && decide (psnSub x.nx o.psn < o.npkts)) with
  | some o => some o
  | none =>
    (x.ops.find? (fun o => !o.sent && c.mayStart k o &&
        (!o.isAtomic || decide (x.ops.countP (fun o' => o'.sent && o'.isAtomic) < c.atomicMax)))).map
      (fun o => { o with sent := true, psn := x.nx, npkts := o.packets x.pmtu })

/-- Connection k sends while its window allows. -/
def Chan.pump (c : Chan) (k : Nat) : Nat → Chan
  | 0 => c
  | n + 1 =>
    let x := c.conn k
    if !(decide (x.st = .open_ ∨ x.st = .closing) && x.windowOpen && decide (psnSub x.nx x.una < c.winMax) && (c.portFor k).isSome && c.serves) then c
    else match c.nextOp k with
      | none => c
      | some o =>
        let c := c.setConn k { x with ops := x.ops.map (fun o' => if o'.order = o.order then o else o') }
        let c := c.sendPacket k o (psnSub x.nx o.psn) false
        let x := c.conn k
        (c.setConn k { x with nx := (x.nx + 1) % psnMod, rtoDue := if x.rtoDue.isSome then x.rtoDue else some (c.time + x.rto) }).pump k n

/-- How many packets one command can send at most. -/
def pumpFuel : Nat := 1100

/-- Connection k resends every packet from una to nx (R287). -/
def Chan.resend (c : Chan) (k : Nat) : Chan :=
  let x := c.conn k
  (List.range (psnSub x.nx x.una)).foldl (fun c i =>
    let p := (x.una + i) % psnMod
    match x.ops.find? (fun o => o.sent && decide (psnSub p o.psn < o.npkts)) with
    | none => c
    | some o => c.sendPacket k o (psnSub p o.psn) true) c

/-- Something is outstanding while a packet is unacknowledged or a load or atomic unanswered. -/
def Conn.outstanding (x : Conn) : Bool := decide (x.una ≠ x.nx) || x.ops.any (fun o => o.sent)

/-- CLOSE is sent (R283). -/
def Chan.sendClose (c : Chan) (k : Nat) : Chan := c.sendOn k id 0x23 []

/-- In CLOSING with every operation acknowledged, CLOSE goes out, for the first time. -/
def Chan.closeIfIdle (c : Chan) (k : Nat) : Chan :=
  let x := c.conn k
  if x.st = .closing ∧ x.ops = [] ∧ x.due = none then
    let c := c.sendClose k
    c.setConn k { c.conn k with tries := 1, due := some (c.time + ms) }
  else c

/-- What follows a change of connection k: ended operations complete, and every connection that may now send does so (R293). -/
def Chan.flush (c : Chan) (k : Nat) : Chan :=
  let c := c.reap k reapFuel
  let c := c.pump k pumpFuel
  let c := (c.fab.conns.keysWhere (fun j x => decide (j ≠ k) && !x.ops.isEmpty)).foldl (fun c j => c.pump j pumpFuel) c
  let x := c.conn k
  (c.setConn k { x with rtoDue := if x.outstanding then x.rtoDue else none }).closeIfIdle k

/-- An operation issued on connection k (R293): on one that is not OPEN it completes at once with 0x82; one of the base programs, which alone use PD 0, waits
for the open. -/
def Chan.issue (c : Chan) (k : Nat) (o : TxOp) : Chan :=
  let x := c.conn k
  if decide (x.st = .open_) || decide (x.st = .reqSent ∧ x.pd = 0 ∧ x.ours) then
    let o := { o with order := c.fab.order }
    let c := { c with fab := { c.fab with order := c.fab.order + 1 } }
    ((c.setConn k { x with ops := x.ops ++ [o], lastUse := if isTraffic o.opcode then c.time else x.lastUse }).pump k pumpFuel)
  else c.opEnd o 0x82 0

/-- An operation with nothing but its issuer, opcode, address, key, generation, region and bytes. -/
def TxOp.of (i : Issuer) (opcode addr key gen region : Nat) (data : List Byte) : TxOp :=
  { issuer := i, opcode := opcode, addr := addr, key := key, gen := gen, region := region, len := data.length, data := data, host := 0, psn := 0, npkts := 0,
    sent := false, failed := 0, got := [], order := 0 }

/-! ### Opening (R283, R285) -/

/-- The connection number that has been CLOSED longest, and the channel without it. -/
def Chan.nextConn (c : Chan) : Option (Nat × Chan) :=
  (popRun c.fab.freeConns).map (fun e => (e.1, { c with fab := { c.fab with freeConns := e.2 } }))

/-- PMTU bytes of a code (R276). -/
def pmtuBytes (code : Nat) : Nat := 1024 * 2 ^ min 3 code

/-- The code of a PMTU. -/
def pmtuCode (b : Nat) : Nat := if 8192 ≤ b then 3 else if 4096 ≤ b then 2 else if 2048 ≤ b then 1 else 0

/-- The largest PMTU code whose packets fit MAX_FRAME of every port (R285). -/
def Chan.basePmtu (c : Chan) (v6 : Bool) : Nat :=
  let room := (List.range c.ports).foldl (fun m n => min m (c.maxFrame n)) 9216
  let tag := if (List.range c.ports).any (fun n => c.flag (Reg.FAB_PORT_L2 n) 63) then 4 else 0
  let past := (if v6 then 62 else 42) + tag + 40 + 24 + 4
  if 8192 + past ≤ room then 3 else if 4096 + past ≤ room then 2 else if 2048 + past ≤ room then 1 else 0

/-- The tenant tag that a connection on a PD carries: that of the PD's slot, zero for PD 0 (R284). -/
def Chan.pdTag (c : Chan) (pd : Nat) : Nat := ((c.pdSlot pd).map c.tag).getD 0

/-- CONN_REQ or CONN_ACC of connection k (R276): tag, PDs, priority and PMTU code, with the sender's initial PSN. -/
def Chan.sendConn (c : Chan) (k opcode : Nat) : Chan :=
  let x := c.conn k
  c.sendOn k (fun h => { h with psn := x.initPsn }) opcode
    (beBytes 4 (c.pdTag x.pd) ++ beBytes 2 x.target ++ beBytes 2 x.pd ++ beBytes 1 x.prio ++ beBytes 1 (pmtuCode x.pmtu))

/-- A connection number enters REQ_SENT: a random initial PSN, and the first CONN_REQ. -/
def Chan.startOpen (c : Chan) (k peer pd target prio pmtu : Nat) (cmd : Option Src) : Chan :=
  let (r, c) := c.draw
  let x : Conn := { Conn.init with st := .reqSent, prio := prio, pd := pd, target := target, peer := peer, initPsn := r % psnMod, pmtu := pmtuBytes pmtu,
                                   v6 := c.flag Reg.FAB_FMT_CFG 0, ours := true, byVf := decide (cmd.bind (fun s => s.vf) ≠ none), tries := 1, due := some (c.time + ms), openCmd := cmd,
                                   nx := r % psnMod, una := r % psnMod, lastUse := c.time, port := (c.portFor k).getD 0 }
  (c.setConn k x).sendConn k 0x20

/-- A connection is OPEN: the window and the timer start afresh. -/
def Chan.nowOpen (c : Chan) (k peerPsn : Nat) : Chan :=
  let x := c.conn k
  c.setConn k { x with st := .open_, ep := peerPsn, peerInit := peerPsn, cwnd := c.winInit, peerWin := 65535, rto := c.rtoInit, tries := 0, due := none,
                       lastUse := c.time, openCmd := none, retries := 0, port := (c.portFor k).getD 0 }

/-- The connection that carries the base programs' traffic to a peer (R285): an OPEN one on PD 0, of two the one that the lower EID requested, else one that is
being requested. -/
def Chan.baseConn (c : Chan) (peer : Nat) : Option Nat :=
  let is := fun (st : ConnState) (x : Conn) => decide (x.pd = 0 ∧ x.peer = peer ∧ x.st = st ∧ x.roce = none)
  let kept := fun (x : Conn) => x.ours == decide (c.fget Reg.CHN_EID 17 0 < peer)
  match ((c.fab.conns.keysWhere (fun _ x => is .open_ x && kept x)) ++ (c.fab.conns.keysWhere (fun _ x => is .open_ x))).head? with
  | some k => some k
  | none => (c.fab.conns.keysWhere (fun _ x => is .reqSent x)).head?

/-- A message of a base program written to a mailbox of a peer as one flagged store (R282, R285), over the kept PD 0 connection, which is opened at
first need. Without an EID, a session or a free number nothing is sent. -/
def Chan.sendBase (c : Chan) (peer mailbox : Nat) (data : List Byte) : Chan :=
  if c.eid.isNone || !c.session peer then c
  else
    let o := TxOp.of .base 2 (peer * 2 ^ 46 + 3 * 2 ^ 44 + mailbox) 0 0 0 data
    match c.baseConn peer with
    | some k => c.issue k o
    | none =>
      match c.nextConn with
      | none => c
      | some (k, c) => (c.startOpen k peer 0 0 6 (c.basePmtu (c.flag Reg.FAB_FMT_CFG 0)) none).issue k o

/-- An operation of the base programs' own work, over the kept PD 0 connection to a peer; where none can be had it ends at once. -/
def Chan.issueWork (c : Chan) (peer : Nat) (o : TxOp) : Chan :=
  if c.eid.isNone || !c.session peer then c.opEnd o 0x82 0
  else match c.baseConn peer with
    | some k => c.issue k o
    | none =>
      match c.nextConn with
      | none => c.opEnd o 0x82 0
      | some (k, c) => (c.startOpen k peer 0 0 6 (c.basePmtu (c.flag Reg.FAB_FMT_CFG 0)) none).issue k o

/-! ### Acknowledging (R288, R289, R296, R300) -/

/-- The last PSN that may be acknowledged: everything received in order whose bytes are written (R118, R292). -/
def Conn.ackPoint (x : Conn) : Nat :=
  match x.waiting with
  | [] => psnSub x.ep 1
  | w :: t => psnSub (t.foldl (fun m e => if psnSub m e.1 < 2 ^ 23 then e.1 else m) w.1) 1

/-- The acknowledgement extended header of RoCE: a syndrome and the message sequence number. -/
def Chan.aeth (c : Chan) (k syndrome : Nat) : List Byte := beBytes 1 syndrome ++ beBytes 3 (((c.conn k).roce.map (fun q => q.msn)).getD 0)

/-- An ACK of everything that may be acknowledged (R288), carrying ECE where a marked packet came; the window it advertises is a free value. -/
def Chan.sendAck (c : Chan) (k : Nat) : Chan :=
  let x := c.conn k
  let (w, c) := c.draw
  let c := if x.roce.isSome then c.sendRoce k 0x11 x.ackPoint false (c.aeth k 0)
    else c.sendOn k (fun h => { h with psn := x.ackPoint, flags := 4 * b2n x.ece, window := w % 65536 }) 0x10 []
  c.setConn k { c.conn k with unacked := 0, ackDue := none, ece := false }

/-- A NAK (R289). Under RoCE (R300) a protection or invalid-request refusal moves the queue pair to ERROR, and a receiver not ready is an RNR NAK. -/
def Chan.sendNak (c : Chan) (k syndrome psn reason : Nat) : Chan :=
  let x := c.conn k
  let (w, c) := c.draw
  let c := if syndrome = 3 then c.bump Reg.FAB_NAK_CNT 63 32 1 else if syndrome = 2 ∨ syndrome = 4 then c.bump Reg.FAB_NAK_CNT 31 0 1 else c
  if x.roce.isSome then
    let code := match syndrome with | 1 => 0x60 | 2 => 0x62 | 3 => 0x20 + w % 32 | 4 => 0x61 | _ => 0x63
    let c := c.sendRoce k 0x11 psn false (c.aeth k code)
    match syndrome with
    | 2 => c.connError k 4 false
    | 4 => c.connError k 5 false
    | _ => c
  else
    let c := c.sendOn k (fun h => { h with psn := psn, syndrome := syndrome, reason := reason, flags := 4 * b2n x.ece, window := w % 65536 }) 0x11 []
    c.setConn k { c.conn k with unacked := 0, ackDue := none, ece := false }

/-- One unit of a packet that waits for placement has been placed: the packet is acknowledged when its last one is (R118). -/
def Chan.unitDone (c : Chan) (k psn : Nat) : Chan :=
  let x := c.conn k
  match x.waiting.find? (fun e => decide (e.1 = psn)) with
  | none => c
  | some e =>
    if 1 < e.2 then c.setConn k { x with waiting := x.waiting.map (fun w => if w.1 = psn then (w.1, w.2 - 1) else w) }
    else (c.setConn k { x with waiting := x.waiting.erase e }).sendAck k

end Sys2Proof.Machine
end

