-- ==== Sys2Proof/Machine/Mirror.lean ====
section
/-! DEFINITION. The partner's side of shadow admission (R449): every SAMPLE-th mirrored operation goes to the shadow. -/
namespace Sys2Proof.Machine
open Sys2Proof

/-- One operation of a mirrored kind has been done: its PARAM, its payload and its result bytes. The partner sends each SAMPLE-th one until it has sent
OPS messages. -/
def Chan.mirror (c : Chan) (kind : Nat) (param payload result : List Byte) : Chan :=
  if c.rel.part ≠ 2 ∨ c.rel.ops ≤ c.rel.count then c
  else
    let seen := c.rel.seenOps + 1
    let c := { c with rel := { c.rel with seenOps := seen } }
    if seen % max 1 c.rel.sample ≠ 0 then c
    else
      let n := c.rel.count + 1
      let c := { c with rel := { c.rel with count := n } }
      c.sendBase c.rel.peer 0x4000 (beBytes 1 1 ++ beBytes 1 kind ++ beBytes 2 payload.length ++ beBytes 4 n ++ sha512t256 result ++
        param ++ leBytes (8 - param.length) 0 ++ leBytes 16 0 ++ payload)

end Sys2Proof.Machine
end

