-- ==== Sys2Proof/Machine/Floats.lean ====
section
/-! DEFINITION. The number formats of the block: FP32, FP16, BF16 and the stored element formats, exact arithmetic with one rounding to nearest even, the
marver stage's quantisation and its inverse (R113 to R115, R167, R244 to R246). -/
namespace Sys2Proof.Machine
open Sys2Proof

/-! ### Values -/

/-- A value of a binary format: NaN, an infinity, or (−1)^neg × m × 2^e. -/
inductive Fp where
  | nan
  | inf (neg : Bool)
  | fin (neg : Bool) (m : Nat) (e : Int)
  deriving DecidableEq, Repr

/-- A code with `p` fraction bits and `w` exponent bits, infinities and NaNs at the top exponent. -/
def Fp.ofCode (p w x : Nat) : Fp :=
  let neg := x.testBit (p + w)
  let ex := bits x (p + w - 1) p
  let fr := x % 2 ^ p
  let emin : Int := 2 - 2 ^ (w - 1)
  if ex = 2 ^ w - 1 then (if fr = 0 then .inf neg else .nan)
  else if ex = 0 then .fin neg fr (emin - p)
  else .fin neg (2 ^ p + fr) (emin - p + (ex - 1))

/-- FP32. -/
def Fp.ofFp32 (x : Nat) : Fp := Fp.ofCode 23 8 (x % 2 ^ 32)

/-- FP16. -/
def Fp.ofFp16 (x : Nat) : Fp := Fp.ofCode 10 5 (x % 2 ^ 16)

/-- BF16. -/
def Fp.ofBf16 (x : Nat) : Fp := Fp.ofCode 7 8 (x % 2 ^ 16)

/-- FP8 E5M2 (R113). -/
def Fp.ofE5m2 (x : Nat) : Fp := Fp.ofCode 2 5 (x % 256)

/-- FP8 E4M3 (R113): no infinity, and NaN only at 0x7F and 0xFF. -/
def Fp.ofE4m3 (x : Nat) : Fp :=
  let ex := bits x 6 3
  let fr := x % 8
  if x % 128 = 127 then .nan
  else if ex = 0 then .fin (x.testBit 7) fr (-9)
  else .fin (x.testBit 7) (8 + fr) (-9 + (ex - 1))

/-- MXFP4's E2M1 (R113): 0, 0.5, 1, 1.5, 2, 3, 4, 6. -/
def Fp.ofE2m1 (x : Nat) : Fp :=
  let ex := bits x 2 1
  let fr := x % 2
  if ex = 0 then .fin (x.testBit 3) fr (-1) else .fin (x.testBit 3) (2 + fr) (-1 + (ex - 1))

/-- 2^e as an exact value. -/
def Fp.pow2 (e : Int) : Fp := .fin false 1 e

/-! ### Rounding -/

/-- n / d rounded to the nearest integer, ties to even. -/
def rneDiv (n d : Nat) : Nat :=
  let q := n / d
  let r := n % d
  if 2 * r < d then q else if d < 2 * r then q + 1 else q + q % 2

/-- Numerator and denominator of n / d × 2^e. -/
def scaleRat (n d : Nat) (e : Int) : Nat × Nat := if 0 ≤ e then (n * 2 ^ e.toNat, d) else (n, d * 2 ^ (-e).toNat)

/-- floor(log2 (n / d)) of a positive ratio. -/
def floorLog2 (n d : Nat) : Int :=
  let k : Int := (n.log2 : Int) - (d.log2 : Int)
  let s := scaleRat n d (-k)
  if s.1 < s.2 then k - 1 else k

/-- The code, sign aside, nearest to n / d × 2^e in a format with `p` fraction bits whose smallest normal exponent is `emin`, and no largest. -/
def roundCode (p : Nat) (emin : Int) (n d : Nat) (e : Int) : Nat :=
  if n = 0 then 0
  else
    let (a, b) := scaleRat n d e
    let k := max (floorLog2 a b) emin
    let (x, y) := scaleRat a b (p - k)
    (k - emin).toNat * 2 ^ p + rneDiv x y

/-- A value as FP32 (R244): an overflow gives an infinity, and a NaN 0x7FC0_0000. -/
def Fp.toFp32 : Fp → Nat
  | .nan => 0x7FC00000
  | .inf s => b2n s * 2 ^ 31 + 0x7F800000
  | .fin s m e => b2n s * 2 ^ 31 + min (roundCode 23 (-126) m 1 e) 0x7F800000

/-- A value as FP32 in a crucible (R167): the code, and whether it saturated to the largest finite value. -/
def Fp.toSat : Fp → Nat × Bool
  | .nan => (0, false)
  | .inf s => (b2n s * 2 ^ 31 + 0x7F7FFFFF, true)
  | .fin s m e =>
    let c := roundCode 23 (-126) m 1 e
    if 0x7F800000 ≤ c then (b2n s * 2 ^ 31 + 0x7F7FFFFF, true) else (b2n s * 2 ^ 31 + c, false)

/-! ### Exact arithmetic -/

/-- Two finite magnitudes at one exponent. -/
def alignExp (m1 : Nat) (e1 : Int) (m2 : Nat) (e2 : Int) : Nat × Nat × Int :=
  let e := min e1 e2
  (m1 * 2 ^ (e1 - e).toNat, m2 * 2 ^ (e2 - e).toNat, e)

/-- An exact sum under IEEE 754; an exact zero of two signs is +0. -/
def Fp.add : Fp → Fp → Fp
  | .nan, _ => .nan
  | _, .nan => .nan
  | .inf s, .inf t => if s = t then .inf s else .nan
  | .inf s, _ => .inf s
  | _, .inf t => .inf t
  | .fin s m e, .fin t n f =>
    let (a, b, g) := alignExp m e n f
    if s = t then .fin s (a + b) g
    else if a = b then .fin false 0 g
    else if b < a then .fin s (a - b) g
    else .fin t (b - a) g

/-- An exact product under IEEE 754. -/
def Fp.mul : Fp → Fp → Fp
  | .nan, _ => .nan
  | _, .nan => .nan
  | .inf s, .inf t => .inf (s != t)
  | .inf s, .fin t n _ => if n = 0 then .nan else .inf (s != t)
  | .fin s m _, .inf t => if m = 0 then .nan else .inf (s != t)
  | .fin s m e, .fin t n f => .fin (s != t) (m * n) (e + f)

/-- The negative of a value. -/
def Fp.neg : Fp → Fp
  | .nan => .nan
  | .inf s => .inf (!s)
  | .fin s m e => .fin (!s) m e

/-- a < b, where neither is NaN. -/
def Fp.lt : Fp → Fp → Bool
  | .nan, _ => false
  | _, .nan => false
  | .inf s, .inf t => s && !t
  | .inf s, .fin _ _ _ => s
  | .fin _ _ _, .inf t => !t
  | .fin s m e, .fin t n f =>
    let (a, b, _) := alignExp m e n f
    if s then (if t then decide (b < a) else decide (0 < a + b)) else (if t then false else decide (a < b))

/-- Is the value finite? -/
def Fp.finite : Fp → Bool
  | .fin _ _ _ => true
  | _ => false

/-- Finite and positive. -/
def Fp.positive : Fp → Bool
  | .fin s m _ => !s && decide (0 < m)
  | _ => false

/-! ### FP32 operations of the vector instructions (R244, R245) -/

/-- VFADD's lane. -/
def fp32Add (a b : Nat) : Nat := (Fp.add (.ofFp32 a) (.ofFp32 b)).toFp32

/-- VFMUL's lane. -/
def fp32Mul (a b : Nat) : Nat := (Fp.mul (.ofFp32 a) (.ofFp32 b)).toFp32

/-- VFMA's lane: rounded once. -/
def fp32Fma (a b d : Nat) : Nat := (Fp.add (Fp.mul (.ofFp32 a) (.ofFp32 b)) (.ofFp32 d)).toFp32

/-- VFMAX's lane: +0 exceeds −0. -/
def fp32Max (a b : Nat) : Nat :=
  if Fp.ofFp32 a = .nan ∨ Fp.ofFp32 b = .nan then 0x7FC00000
  else if (Fp.ofFp32 a).lt (.ofFp32 b) then b
  else if (Fp.ofFp32 b).lt (.ofFp32 a) then a
  else if a.testBit 31 then b else a

/-! ### The marver stage (R113, R114) -/

/-- An element of an input block: BF16 or FP16 (PG_PROF_GEOM.INPUT). -/
def ofInput (fp16 : Bool) (x : Nat) : Fp := if fp16 then .ofFp16 x else .ofBf16 x

/-- The fraction bits, the smallest normal exponent, the code of the maximum, the maximum and the width of a stored element, by FORMAT. -/
def elemShape : Nat → Nat × Int × Nat × Nat × Nat
  | 1 => (2, -14, 0x7B, 57344, 8)
  | 3 => (1, 0, 7, 6, 4)
  | _ => (3, -6, 0x7E, 448, 8)

/-- A value stored as an element of a binary format (R113): the code with its sign, and whether it saturated. A magnitude above the maximum
saturates; the sign is that of the value before rounding. -/
def storeElem (fmt : Nat) (x : Fp) : Nat × Bool :=
  let (p, emin, top, mx, w) := elemShape fmt
  match x with
  | .nan => (0, false)
  | .inf s => (b2n s * 2 ^ (w - 1) + top, true)
  | .fin s m e =>
    let (a, b) := scaleRat m 1 e
    if mx * b < a then (b2n s * 2 ^ (w - 1) + top, true) else (b2n s * 2 ^ (w - 1) + roundCode p emin m 1 e, false)

/-- The FP16 scale of INT4-G: amax / 7 rounded once, saturating at 65,504 (R114). -/
def int4Scale (m : Nat) (e : Int) : Nat := min (roundCode 10 (-14) m 7 e) 0x7BFF

/-- An INT4-G element x / s (R113, R114): two's complement in four bits, and whether its magnitude is above 7. -/
def int4Elem (s : Nat) (x : Fp) : Nat × Bool :=
  match Fp.ofFp16 s, x with
  | .fin _ sm se, .fin neg m e =>
    if sm = 0 then (0, false)
    else
      let (a, b) := scaleRat m sm (e - se)
      let q := min (rneDiv a b) 7
      (if neg then (16 - q) % 16 else q, decide (7 * b < a))
  | _, _ => (0, false)

/-- What quantising one block gives (R246): the 32 element codes, the scale, and the counts of non-finite and of saturated elements. -/
structure Quantised where
  codes : List Nat
  scale : Nat
  nonfinite : Nat
  saturated : Nat
  deriving DecidableEq, Repr

/-- The largest magnitude of a block, as m × 2^e. -/
def blockMax (xs : List Fp) : Nat × Int :=
  xs.foldl (fun acc x => match x with
    | .fin _ m e => let (a, b, g) := alignExp acc.1 acc.2 m e; (max a b, g)
    | _ => acc) (0, 0)

/-- quantise_block of R114, after the replacement of non-finite inputs by +0 (R113). `sinv` is the static inverse scale as FP32. -/
def quantiseBlock (fmt sinv : Nat) (raw : List Fp) : Quantised :=
  let bad := raw.countP (fun x => !x.finite)
  let xs := raw.map (fun x => if x.finite then x else .fin false 0 0)
  if fmt = 0 ∨ fmt = 1 then
    let ys := xs.map (fun x => Fp.mul x (.ofFp32 sinv))
    let qs := ys.map (storeElem fmt)
    { codes := qs.map Prod.fst, scale := 0, nonfinite := bad + ys.countP (fun y => decide (y = .nan)), saturated := qs.countP Prod.snd }
  else
    let (m, e) := blockMax xs
    if fmt = 4 then
      let s := int4Scale m e
      let qs := xs.map (int4Elem s)
      { codes := qs.map Prod.fst, scale := s, nonfinite := bad, saturated := qs.countP Prod.snd }
    else
      let emax : Int := if fmt = 2 then 8 else 2
      let (a, b) := scaleRat m 1 e
      let k : Int := if m = 0 then -127 else max (-127) (min 127 (floorLog2 a b - emax))
      let qs := xs.map (fun x => storeElem fmt (Fp.mul x (.pow2 (-k))))
      { codes := qs.map Prod.fst, scale := (k + 127).toNat, nonfinite := bad, saturated := qs.countP Prod.snd }

/-- Does a FORMAT store four bits an element (R97)? -/
def fourBit (fmt : Nat) : Bool := decide (fmt = 3 ∨ fmt = 4)

/-- Two 4-bit codes a byte, element 2k in bits [3:0] (R97). -/
def packNibbles : List Nat → List Byte
  | a :: b :: t => BitVec.ofNat 8 (a % 16 + 16 * (b % 16)) :: packNibbles t
  | [a] => [BitVec.ofNat 8 (a % 16)]
  | [] => []

/-- The stored bytes of a run of elements (R97). -/
def packElems (fmt : Nat) (codes : List Nat) : List Byte :=
  if fourBit fmt then packNibbles codes else codes.map (BitVec.ofNat 8)

/-- The element codes of stored bytes. -/
def unpackElems (fmt : Nat) (data : List Byte) : List Nat :=
  if fourBit fmt then data.flatMap (fun b => [b.toNat % 16, b.toNat / 16]) else data.map BitVec.toNat

/-- The bytes of one scale: 1 for the MX formats, 2 for INT4-G, none for the static formats (R97). -/
def scaleWidth (fmt : Nat) : Nat := if fmt = 4 then 2 else if fmt = 2 ∨ fmt = 3 then 1 else 0

/-! ### What a stored element stands for (R115, R167) -/

/-- The element without its scale. An element code that the format never holds is a NaN, which a product takes as +0. -/
def elemValue (fmt code : Nat) : Fp :=
  match fmt with
  | 0 => .ofE4m3 code
  | 1 => .ofE5m2 code
  | 2 => .ofE4m3 code
  | 3 => .ofE2m1 code
  | _ => let q := code % 16; if q < 8 then .fin false q 0 else .fin true (16 - q) 0

/-- The scale's value: S for the static formats, 2^(scale − 127) for the MX formats, FP16 for INT4-G. -/
def scaleValue (fmt scale : Nat) : Fp :=
  match fmt with
  | 0 => .ofFp32 scale
  | 1 => .ofFp32 scale
  | 2 => .pow2 ((scale % 256 : Nat) - (127 : Int))
  | 3 => .pow2 ((scale % 256 : Nat) - (127 : Int))
  | _ => .ofFp16 scale

/-- An FP32 code made finite: an exponent of all ones is cleared. -/
def finiteCode (x : Nat) : Nat := if bits x 30 23 = 255 then setBits (x % 2 ^ 32) 30 23 0 else x % 2 ^ 32

/-- e × σ as the crucibles and VDQNT form it (R167): a zero element under an infinite S gives +0, a NaN S gives +0, an overflow saturates. A code
that encodes no finite element or FP16 scale has a free value. -/
def elemTimes (fmt code scale : Nat) : Nat × Bool :=
  match elemValue fmt code, scaleValue fmt scale with
  | .fin s m e, .inf t => if fmt = 4 then (finiteCode (Config.nanElement fmt code scale), false)
      else if m = 0 then (0, false) else (Fp.mul (.fin s m e) (.inf t)).toSat
  | .fin s m e, .fin t n f => (Fp.mul (.fin s m e) (.fin t n f)).toSat
  | .fin _ _ _, .nan => if fmt = 4 then (finiteCode (Config.nanElement fmt code scale), false) else (0, false)
  | _, _ => (finiteCode (Config.nanElement fmt code scale), false)

end Sys2Proof.Machine
end

