-- ==== Sys2Proof/Machine/PoolOps.lean ====
section
/-! DEFINITION. Channel HBM as the regions of R101 divide it, the frame pool with its slabs and cullet list (R103 to R106), and the tier quotas (R344, R345). -/
namespace Sys2Proof.Machine
open Sys2Proof

/-! ### Regions of HBM (R101, R102) -/

/-- One MiB. -/
def mib : Nat := 1048576

/-- PGT_POOL_MIB as it acts: 64 to 8,192, even, 512 by default. -/
def Chan.pgtMib (c : Chan) : Nat :=
  let v := c.fget Reg.PG_RESERVE 15 0
  if v = 0 then 512 else max 64 (min 8192 v) / 2 * 2

/-- FRAG_GIB as it acts. -/
def Chan.fragGib (c : Chan) : Nat := min 256 (c.fget Reg.PG_RESERVE 47 32)

/-- The start of the profile area. -/
def profileBase : Nat := 0x50800000

/-- The start of the context maps (PG_MAP_BASE). -/
def mapBase : Nat := 0x50C00000

/-- PGT_PTR of a slot (R99): its context map. -/
def mapOf (slot : Nat) : Nat := mapBase + slot * 36864

/-- The start of the page-group-table pool. -/
def pgtBase : Nat := 1868 * mib

/-- The start of the fragment area. -/
def Chan.fragBase (c : Chan) : Nat := (2124 + c.pgtMib) * mib

/-- The start of the frame pool. -/
def Chan.poolBase (c : Chan) : Nat := (2124 + c.pgtMib + c.fragGib * 1024) * mib

/-- MiB of HBM of one channel. -/
def Chan.hbmMib (c : Chan) : Nat := if c.g8x then 196608 else 393216

/-- N, the pseudo-channels of the channel (R103). -/
def Chan.pchs (c : Chan) : Nat := if c.g8x then 128 else 256

/-- Slabs in the frame pool. -/
def Chan.slabTotal (c : Chan) : Nat := (c.hbmMib - (2124 + c.pgtMib + c.fragGib * 1024)) / 2

/-- The address of a slab. -/
def Chan.slabAddr (c : Chan) (s : Nat) : Nat := c.poolBase + s * (2 * mib)

/-- The pseudo-channel that holds an address: slab s of the pool lies in s mod N (R103), and every other 2 MiB block in the pseudo-channel that the
same interleave gives it. -/
def Chan.pchOf (c : Chan) (addr : Nat) : Nat :=
  let n := c.pchs
  (addr / (2 * mib) + n * 8192 - c.poolBase / (2 * mib)) % n

/-! ### Slabs and frames (R103, R104) -/

/-- Frames in a slab of frames of `gran` granules. -/
def framesPer (gran : Nat) : Nat := 512 / gran

/-- The lowest of n bits that is clear. -/
def lowestClear (used n : Nat) : Option Nat := (List.range n).find? (fun i => !used.testBit i)

/-- Bits set among the low n. -/
def countSet (used n : Nat) : Nat := (List.range n).countP (fun i => used.testBit i)

/-- Is a pseudo-channel degraded, so that the frame pool gives nothing of it (R444)? -/
def Chan.pchOut (c : Chan) (pc : Nat) : Bool := c.rel.degraded.contains pc

/-- Is a slab unassigned: neither of frames nor taken nor withdrawn? -/
def Chan.unassigned (c : Chan) (s : Nat) : Bool := (c.pool.slabs.find s).isNone && (c.pool.taken.find s).isNone && !c.pchOut (s % c.pchs)

/-- The lowest unassigned slab from s in steps of `step`, among `fuel` of them. -/
def Chan.findSlab (c : Chan) (step : Nat) : Nat → Nat → Option Nat
  | 0, _ => none
  | fuel + 1, s =>
    if c.slabTotal ≤ s then none else if c.unassigned s then some s else Chan.findSlab c step fuel (s + step)

/-- A frame of `gran` granules from pseudo-channel pc: from an assigned slab first, then from a new one (R104). -/
def Chan.frameIn (c : Chan) (pc gran : Nat) : Option Nat :=
  if c.pchOut pc then none
  else match c.pool.slabs.findSome? (fun e =>
      if e.1 % c.pchs = pc ∧ e.2.gran = gran then (lowestClear e.2.used (framesPer gran)).map (fun i => e.1 * 256 + i) else none) with
  | some f => some f
  | none => (c.findSlab c.pchs (c.slabTotal / c.pchs + 1) pc).map (fun s => s * 256)

/-- A free frame, tried from pseudo-channel `pref` upwards, wrapping (R104). -/
def Chan.findFrame (c : Chan) (pref gran : Nat) : Option Nat :=
  (List.range c.pchs).findSome? (fun i => c.frameIn ((pref + i) % c.pchs) gran)

/-- Granules in free frames and unassigned slabs (PG_POOL_STATUS.FREE_GRAN). -/
def Chan.freeGran (c : Chan) : Nat :=
  let n := c.pchs
  let lost := (c.rel.degraded.map (fun pc => (c.slabTotal + n - 1 - pc) / n - c.pool.slabs.countP (fun e => e.1 % n == pc) -
    c.pool.taken.countP (fun e => e.1 % n == pc))).sum
  512 * (c.slabTotal - c.pool.slabs.length - c.pool.taken.length - lost) +
  ((c.pool.slabs.filter (fun e => !c.pchOut (e.1 % n))).map (fun e => (framesPer e.2.gran - countSet e.2.used (framesPer e.2.gran)) * e.2.gran)).sum

/-- The granules of a frame. -/
def Chan.granOf (c : Chan) (frame : Nat) : Nat := (c.pool.slabs.getD (frame / 256) ⟨0, 0⟩).gran

/-- Granules on the cullet list. -/
def Chan.culletGran (c : Chan) : Nat := (c.pool.cullet.map c.granOf).sum

/-- The frame-pool-low event, at most once per 10 ms (PG_POOL_CFG). -/
def Chan.checkLow (c : Chan) : Chan :=
  let n := c.freeGran + c.culletGran
  if n < c.fget Reg.PG_POOL_CFG 31 0 then c.eventEvery (10 * ms) 0x2003 0 none 0 (fun _ => n) else c

/-- A frame marked as in use. -/
def Chan.useFrame (c : Chan) (frame gran : Nat) : Chan :=
  let s := frame / 256
  let sl := c.pool.slabs.getD s ⟨gran, 0⟩
  { c with pool := { c.pool with slabs := c.pool.slabs.put s { sl with used := sl.used ||| 2 ^ (frame % 256) } } }

/-- A frame free again; a slab whose frames are all free returns to unassigned. -/
def Chan.freeFrame (c : Chan) (frame : Nat) : Chan :=
  let s := frame / 256
  match c.pool.slabs.find s with
  | none => c
  | some sl =>
    let used := sl.used &&& (2 ^ 512 - 1 - 2 ^ (frame % 256))
    { c with pool := { c.pool with slabs := if used = 0 then c.pool.slabs.del s else c.pool.slabs.put s { sl with used := used } } }

/-- The address of a page frame (R103). -/
def Chan.frameAddr (c : Chan) (frame : Nat) : Nat := c.slabAddr (frame / 256) + frame % 256 * c.granOf frame * 4096

/-- Does an accepted job read a frame? -/
def Chan.frameRead (c : Chan) (f : Nat) : Bool := c.cru.jobs.anyOf (fun _ j => decide (j.status = 0) && j.frames.anyOf (fun _ g => g == f))

/-- Frames enter the cullet list (R105); a frame that a job reads waits for the job's end (R121). -/
def Chan.cullFrames (c : Chan) (frames : List Nat) : Chan :=
  { c with pool := { c.pool with readHeld := c.pool.readHeld ++ frames.filter c.frameRead,
                                 cullet := c.pool.cullet ++ frames.filter (fun f => !c.frameRead f) } }

/-- The frames that waited for a job that has ended enter the cullet list. -/
def Chan.unholdFrames (c : Chan) : Chan := { c with pool := { c.pool with readHeld := [] } }.cullFrames c.pool.readHeld

/-- n unassigned slabs, the lowest first (R155, R279). -/
def Chan.findSlabs (c : Chan) : Nat → Nat → Nat → Option (List Nat)
  | 0, _, _ => some []
  | _, _, 0 => none
  | n + 1, s, fuel + 1 =>
    if c.slabTotal ≤ s then none
    else if c.unassigned s then (Chan.findSlabs c n (s + 1) fuel).map (fun l => s :: l)
    else Chan.findSlabs c (n + 1) (s + 1) fuel

/-- n whole unassigned slabs taken from the frame pool for a use that `kind` names. -/
def Chan.takeSlabs (c : Chan) (n kind : Nat) : Option (List Nat × Chan) :=
  (c.findSlabs n 0 (n + c.pool.slabs.length + c.pool.taken.length + c.rel.degraded.length * (c.slabTotal / c.pchs + 1))).map
    (fun l => (l, { c with pool := { c.pool with taken := l.foldl (fun m s => m.put s kind) c.pool.taken } }))

/-- Slabs returned to the frame pool. Their bytes read as zero from then on, since the channel never allocates a frame that is not clear (R105). -/
def Chan.giveSlabs (c : Chan) (l : List Nat) : Chan :=
  { c with pool := { c.pool with taken := c.pool.taken.keep (fun s _ => !l.contains s) },
           hbm := l.foldl (fun m s => Memory.clear m (c.slabAddr s) (2 * mib)) c.hbm }

/-! ### Tier quotas (R344, R345) -/

/-- The granules charged against tier r of slot t (TIER_TEN_QUOTA.IN_USE). -/
def Chan.tierInUse (c : Chan) (t r : Nat) : Nat :=
  let ctxs := (c.ctx.entries.map (fun e => if e.2.tslot = t then (match r with | 0 => e.2.ch0 | 1 => e.2.ch1 | _ => e.2.ch2) else 0)).sum
  if r = 0 then ctxs + 512 * ((c.cru.queues.map (fun e => if e.2.tenant = t then e.2.slabs.length else 0)).sum +
      (c.fab.regions.map (fun e => if e.2.tenant = t ∧ e.2.kind = .slabs then e.2.slabs.length else 0)).sum)
  else ctxs

/-- Would a charge of n granules stay within the quota? -/
def Chan.quotaAllows (c : Chan) (t r n : Nat) : Bool := decide (c.tierInUse t r + n ≤ c.fget (Reg.TIER_TEN_QUOTA t r) 63 32)

/-- The tier-quota event (R345, R360): at most once per 1 ms per slot. -/
def Chan.tierQuotaEvent (c : Chan) (t r : Nat) : Chan := c.eventEvery ms 0xA003 t (some t) (0x30 + t) (fun _ => r)

end Sys2Proof.Machine
end

