-- ==== Sys2Proof/Machine/EccOps.lean ====
section
/-! DEFINITION. The HBM code (R436 to R439): what a read that meets an error brings about, and what a write does to the code of the bytes it covers. Codewords
are numbered by address over 64, rows by address over 1,024. -/
namespace Sys2Proof.Machine
open Sys2Proof

/-- Erroneous bytes that the decoder corrects in its mode (R437). -/
def Chan.eccLimit (c : Chan) : Nat := if c.flag Reg.REL_ECC_CFG 63 then 3 else 4

/-- Events of row errors within 24 hours of local time. -/
def Chan.noteRow (c : Chan) (row : Nat) : Chan :=
  let day := 86400000000000
  { c with rel := { c.rel with rowCe := c.rel.rowCe.put row (c.time :: (c.rel.rowCe.getD row []).filter (fun t => decide (c.time < t + day))) } }

/-- An uncorrectable codeword (R438): counted, its address recorded with the consumer's code, rewritten poisoned, and reported. -/
def Chan.uncorrectable (c : Chan) (k consumer : Nat) : Chan :=
  let c := (c.bump Reg.REL_ECC_CNT 31 0 1).wr Reg.REL_LAST_UE (consumer * 2 ^ 56 + 64 * k)
  let c := { c with rel := { c.rel with cw := c.rel.cw.put k .poison, rowUe := if c.rel.rowUe.contains (k / 16) then c.rel.rowUe else k / 16 :: c.rel.rowUe } }
  c.eventEvery ms 0xE001 (c.pchOf (64 * k)) none (64 * k) (fun n => consumer + n % 2 ^ 32 * 2 ^ 32)

/-- A page-group table that cannot be read (R439): counted and reported for consumer 0x03. The model keeps no bytes of such a block, so that its address is a free
value. -/
def Chan.tableUnreadable (c : Chan) : Chan :=
  let (v, c) := c.draw
  let a := 64 * (v % (c.hbmMib * 16384))
  ((c.bump Reg.REL_ECC_CNT 31 0 1).wr Reg.REL_LAST_UE (3 * 2 ^ 56 + a)).eventEvery ms 0xE001 (c.pchOf a) none a (fun n => 3 + n % 2 ^ 32 * 2 ^ 32)

/-- One codeword read for a consumer (R438): whether its data may be used, and what the read leaves. -/
def Chan.readCw (c : Chan) (k consumer : Nat) : Bool × Chan :=
  match c.rel.cw.find k with
  | none => (true, c)
  | some .poison => (false, c.uncorrectable k consumer)
  | some (.err b) =>
    if b ≤ c.eccLimit then
      let c := (c.bump Reg.REL_ECC_CNT 63 32 1).noteRow (k / 16)
      (true, { c with rel := { c.rel with cw := c.rel.cw.del k } })
    else (false, c.uncorrectable k consumer)

/-- n bytes at an address read for a consumer: may all of them be used? -/
def Chan.eccRead (c : Chan) (addr n consumer : Nat) : Bool × Chan :=
  if n = 0 then (true, c)
  else (c.rel.cw.keysWhere (fun k _ => decide (addr / 64 ≤ k ∧ k ≤ (addr + n - 1) / 64))).foldl
    (fun acc k => let (ok, c) := acc.2.readCw k consumer; (acc.1 && ok, c)) (true, c)

/-- Ranges of bytes read for a consumer, in order. -/
def Chan.eccReads (c : Chan) (rs : List (Nat × Nat)) (consumer : Nat) : Bool × Chan :=
  rs.foldl (fun acc r => let (ok, c) := acc.2.eccRead r.1 r.2 consumer; (acc.1 && ok, c)) (true, c)

/-- n bytes at an address have been written: the code of every codeword whose 64 bytes they cover holds again (R438). -/
def Chan.eccWrote (c : Chan) (addr n : Nat) : Chan :=
  if c.rel.cw.isEmpty then c
  else { c with rel := { c.rel with cw := c.rel.cw.keep (fun k _ => !decide (addr ≤ 64 * k ∧ 64 * k + 64 ≤ addr + n)) } }

end Sys2Proof.Machine
end

