-- ==== Sys2Proof/Machine/Regions.lean ====
section
/-! DEFINITION. Registered regions (R279 to R282, R294): registration, the two phases of a revocation, and where the bytes of a region lie. -/
namespace Sys2Proof.Machine
open Sys2Proof

/-- A region number. -/
def Chan.region (c : Chan) (r : Nat) : Region := c.fab.regions.getD r Region.init

/-- A region number's record replaced. -/
def Chan.setRegion (c : Chan) (r : Nat) (x : Region) : Chan := { c with fab := { c.fab with regions := c.fab.regions.set Region.init r x } }

/-- The lowest FREE region number. -/
def Chan.freeRegion (c : Chan) : Option Nat :=
  match (List.range (c.fab.regions.length + 1)).find? (fun r => decide ((c.region r).st = .free)) with
  | some r => if r < 65536 then some r else none
  | none => none

/-- A nonzero 32-bit key that differs from `prev`, from a free value (R279). -/
def freshKey (v prev : Nat) : Nat :=
  if prev = 0 then v % (2 ^ 32 - 1) + 1
  else
    let k := v % (2 ^ 32 - 2) + 1
    if prev ≤ k then k + 1 else k

/-- A generation incremented, wrapping from 0xFFFF to 0x0001 (R279). -/
def nextGen (g : Nat) : Nat := if g = 65535 then 1 else g + 1

/-- A registration (R279): a free number with a fresh key and the next generation. -/
def Chan.register (c : Chan) (x : Region) : Option (Nat × Chan) :=
  match c.freeRegion with
  | none => none
  | some r =>
    let old := c.region r
    let (v, c) := c.draw
    some (r, c.setRegion r { x with st := .valid, key := freshKey v old.key, gen := nextGen old.gen, admitted := 0, after := 0, cmd := none, endAt := 0 })

/-- The revoke point (R294): every packet judged from here on is refused with reason 0x12. -/
def Chan.revokePoint (c : Chan) (r : Nat) (cmd : Option Src) : Chan :=
  let x := c.region r
  if x.st = .valid then c.setRegion r { x with st := .revoking, cmd := cmd } else c

/-- The tenant slot that a region concerns. -/
def Region.concerns (x : Region) : Option Nat := if x.pd = 0 then none else some x.tenant

/-- Are operations admitted before the revoke point still under way: units of the slot in staging, for an append window? -/
def Chan.regionBusy (c : Chan) (r : Nat) : Bool :=
  let x := c.region r
  decide (0 < x.admitted) || (match x.kind with
    | .append slot => !(c.maps.getD slot PageMap.init).staged.isEmpty
    | _ => false)

/-- The end of a revocation (R294): the generation counts up, the key is destroyed as far as any check goes, the slabs return, the number rests for 100 ms,
the command completes and the event is raised. The last key stays in the record so that the next one differs from it (R279). -/
def Chan.revokeEnd (c : Chan) (r : Nat) : Chan :=
  let x := c.region r
  let gen := nextGen x.gen
  let c := c.giveSlabs x.slabs
  let c := match x.kind with
    | .append slot =>
      let m := c.maps.getD slot PageMap.init
      if m.region = some r then { c with maps := c.maps.set PageMap.init slot { m with region := none } } else c
    | _ => c
  let c := c.setRegion r { Region.init with st := .quarantined, key := x.key, gen := gen, endAt := c.time + 100 * ms }
  let c := c.completeOpt x.cmd 0 0
  c.event 0x7006 x.concerns r (gen % 65536 + x.after * 2 ^ 32)

/-- A region revoked from inside the channel, with both phases at once where nothing admitted remains. -/
def Chan.dropRegion (c : Chan) (r : Nat) : Chan :=
  let c := c.revokePoint r none
  if (c.region r).st = .revoking ∧ !c.regionBusy r then c.revokeEnd r else c

/-- The fabric address of a region of space 0b00. -/
def Chan.regionAddr (c : Chan) (r : Nat) : Nat := c.fget Reg.CHN_EID 17 0 * 2 ^ 46 + r * 2 ^ 28

/-- The HBM address of byte b of a region: slab by slab, or a run of HBM from `base`. -/
def Chan.regionByte (c : Chan) (x : Region) (b : Nat) : Nat :=
  if x.slabs.isEmpty then x.base + b else c.slabAddr (x.slabs.getD (b / (2 * mib)) 0) + b % (2 * mib)

/-- The HBM ranges of n bytes of a region, slab by slab. -/
def Chan.regionRanges (c : Chan) (x : Region) (b n : Nat) : List (Nat × Nat) :=
  if n = 0 then []
  else if x.slabs.isEmpty then [(x.base + b, n)]
  else (List.range ((b + n - 1) / (2 * mib) + 1 - b / (2 * mib))).map (fun i =>
    let lo := max b ((b / (2 * mib) + i) * (2 * mib))
    (c.regionByte x lo, min (b + n) ((b / (2 * mib) + i + 1) * (2 * mib)) - lo))

/-- Bytes of a region read. -/
def Chan.regionRead (c : Chan) (x : Region) (b n : Nat) : List Byte := (List.range n).map (fun i => Memory.get c.hbm (c.regionByte x (b + i)))

/-- Bytes of a region written. -/
def Chan.regionWrite (c : Chan) (x : Region) (b : Nat) (data : List Byte) : Chan :=
  (c.regionRanges x b data.length).foldl (fun c r => c.eccWrote r.1 r.2) { c with hbm := (data.mapIdx (fun i v => (c.regionByte x (b + i), v))).reverse ++ c.hbm }

end Sys2Proof.Machine
end

