-- ==== Sys2Proof/Machine/TierMsgs.lean ====
section
/-! DEFINITION. Tier and fragment messages (R354), and what follows when no object is left in a lease or in the T2 pool (R347, R349). -/
namespace Sys2Proof.Machine
open Sys2Proof

/-! ### Tier messages (R354) -/

/-- The 64 bytes of a tier message. -/
def tierBytes (ty : Nat) (m : TierMsg) : List Byte :=
  beBytes 1 ty ++ beBytes 1 m.reason ++ beBytes 1 m.index ++ beBytes 1 m.red ++ beBytes 4 0 ++ beBytes 8 m.reqNum ++ beBytes 8 m.req ++ beBytes 4 m.tag ++
  beBytes 4 m.epoch ++ beBytes 8 m.region ++ beBytes 8 m.length ++ beBytes 16 m.check

/-- A message with nothing in it. -/
def TierMsg.blank : TierMsg :=
  { reason := 0, index := 0, red := 0, reqNum := 0, req := 0, tag := 0, epoch := 0, region := 0, length := 0, check := 0 }

/-- A tier message to mailbox 0x3000 of a peer. -/
def Chan.sendTier (c : Chan) (peer ty : Nat) (m : TierMsg) : Chan :=
  (c.emit (.fmt peer "tier" [ty, m.reason, m.index, m.red, m.reqNum, m.req, m.tag, m.epoch, m.region, m.length, m.check] [])).sendBase peer 0x3000 (tierBytes ty m)

/-- A tier message that asks for an answer: sent now, and every 1 ms until answered. -/
def Chan.tierRequest (c : Chan) (peer ty : Nat) (m : TierMsg) (what : TierFor) : Chan :=
  let q := c.tiers.nextReq
  let m := { m with reqNum := q }
  let c := { c with tiers := { c.tiers with nextReq := q + 1, reqs := c.tiers.reqs.put q { ty := ty, peer := peer, msg := m, what := what, tries := 1, due := c.time + ms } } }
  c.sendTier peer ty m

/-- An unanswered message is done with. -/
def Chan.dropTierReq (c : Chan) (q : Nat) : Chan := { c with tiers := { c.tiers with reqs := c.tiers.reqs.del q } }

/-- REGION of R129 and R354: number, key and generation. -/
def regionWord (number key gen : Nat) : Nat := number * 2 ^ 48 + key * 2 ^ 16 + gen

/-- The parts of a REGION field. -/
def regionOfWord (w : Nat) : Nat × Nat × Nat := (bits w 63 48, bits w 47 16, bits w 15 0)

/-- Does an object lie in lease i? -/
def TierObj.inLease (o : TierObj) (i : Nat) : Bool := o.t1 && decide (o.lease = i)

/-- A borrowed lease that is being recalled and holds no object any more (R347): RECALL_DONE, and the entry is free. -/
def Chan.leaseDrained (c : Chan) (i : Nat) : Chan :=
  match c.tiers.leases.find i with
  | none => c
  | some l =>
    if l.lent ∨ !l.recalling ∨ c.tiers.objs.anyOf (fun _ o => o.inLease i) then c
    else
      let m := { TierMsg.blank with reqNum := l.reqNum, region := l.region, length := l.slabs * (2 * mib) }
      let c := { c with tiers := { c.tiers with leases := c.tiers.leases.del i,
                                                answered := ⟨l.peer, l.reqNum, 4, m, c.time + 100 * ms⟩ :: c.tiers.answered.filter (fun a => decide (c.time < a.until_)) } }
      c.sendTier l.peer 4 m

/-- A REMOVE of the T2 pool that waits, once no object lies in the range (R349): the pool is gone, and the command completes. -/
def Chan.poolDrained (c : Chan) : Chan :=
  match c.tiers.t2Removing with
  | none => c
  | some src =>
    if c.tiers.objs.anyOf (fun _ o => !o.t1) then c
    else { c with tiers := { c.tiers with t2Base := 0, t2Units := 0, t2Removing := none } }.complete src 0 0

end Sys2Proof.Machine
end

