-- ==== Sys2Proof/Machine/PageOps.lean ====
section
/-! DEFINITION. Profiles, page frames, append admission, commit and release (chapter 4), as operations that several command families share. -/
namespace Sys2Proof.Machine
open Sys2Proof

/-! ### Model profiles (R93, R95) -/

/-- The geometry of a profile. -/
structure Geom where
  layers : Nat
  kvHeads : Nat
  qHeads : Nat
  dim : Nat
  format : Nat
  fp16 : Bool
  redun : Nat
  id : Nat
  deriving DecidableEq, Repr

/-- HEAD_DIM of its code; the undefined codes give none. -/
def headDim : Nat → Nat
  | 0 => 64
  | 1 => 96
  | 2 => 128
  | 3 => 192
  | 4 => 256
  | _ => 0

/-- The fields of profile p. -/
def Chan.geom (c : Chan) (p : Nat) : Geom :=
  let v := c.rd (Reg.PG_PROF_GEOM p)
  { layers := bits v 55 47, kvHeads := bits v 46 40, qHeads := bits v 39 31, dim := headDim (bits v 30 28), format := bits v 27 24, fp16 := v.testBit 23,
    redun := bits v 18 16, id := c.fget (Reg.PG_PROF_ID p) 31 0 }

/-- The ranges of R93. -/
def Geom.ok (g : Geom) : Bool :=
  decide (1 ≤ g.layers ∧ g.layers ≤ 256 ∧ 1 ≤ g.kvHeads ∧ g.kvHeads ≤ 64 ∧ 1 ≤ g.qHeads ∧ g.qHeads ≤ 256 ∧ g.qHeads % g.kvHeads = 0 ∧ 0 < g.dim ∧ g.format ≤ 4)

/-- Is profile p VALID with fields that meet R93? -/
def Chan.profOk (c : Chan) (p : Nat) : Bool := c.flag (Reg.PG_PROF_GEOM p) 63 && (c.geom p).ok

/-- Does a profile permit a redundancy scheme other than none (REDUN_OK)? -/
def Geom.redunOk (g : Geom) (r : Nat) : Bool := decide (r = 0) || (decide (r ≤ 3) && g.redun.testBit (r - 1))

/-- Tile data bytes (R95). -/
def Geom.tileData (g : Geom) : Nat := if fourBit g.format then 8 * g.dim else 16 * g.dim

/-- Tile scale bytes. -/
def Geom.tileScale (g : Geom) : Nat := g.dim / 2 * scaleWidth g.format

/-- Page stored bytes, S. -/
def Geom.stored (g : Geom) : Nat := 2 * g.kvHeads * (g.tileData + g.tileScale)

/-- Parts, P. -/
def Geom.parts (g : Geom) : Nat :=
  ((List.range (g.kvHeads + 1)).find? (fun p => decide (0 < p ∧ g.kvHeads % p = 0 ∧ g.stored / p ≤ 65536))).getD 1

/-- Part bytes. -/
def Geom.partBytes (g : Geom) : Nat := g.stored / g.parts

/-- Frame size in 4 KiB granules. -/
def Geom.gran (g : Geom) : Nat := max 2 ((g.partBytes + 4095) / 4096)

/-- INREC. -/
def Geom.inrec (g : Geom) : Nat := 4 * g.kvHeads * g.dim

/-- log2 R. -/
def Geom.recLog2 (g : Geom) : Nat := if 2 ^ g.inrec.log2 = g.inrec then g.inrec.log2 else g.inrec.log2 + 1

/-- log2 W: the largest power of two up to 4,096 with L × 2W × R ≤ 2^30. -/
def Geom.winLog2 (g : Geom) : Nat :=
  ((List.range 13).reverse.find? (fun w => decide (g.layers * 2 ^ (w + 1 + g.recLog2) ≤ 2 ^ 30))).getD 0

/-- Window tokens, W. -/
def Geom.window (g : Geom) : Nat := 2 ^ g.winLog2

/-- Units of 64 bytes in an input record. -/
def Geom.units (g : Geom) : Nat := g.inrec / 64

/-- Bytes of one data row of a tile (R97). -/
def Geom.rowBytes (g : Geom) : Nat := if fourBit g.format then g.dim / 2 else g.dim

/-- The part that holds KV head h, and the tile's index in it: K and V of each head in turn (R96). -/
def Geom.tileOf (g : Geom) (h kv : Nat) : Nat × Nat :=
  let per := g.kvHeads / g.parts
  (h / per, 2 * (h % per) + kv)

/-- Offsets in the frame of row r of a tile: its data and its scales (R96, R97). -/
def Geom.rowAt (g : Geom) (tile r : Nat) : Nat × Nat :=
  (tile * g.tileData + r * g.rowBytes,
   2 * (g.kvHeads / g.parts) * g.tileData + tile * g.tileScale + r * (g.dim / 32 * scaleWidth g.format))

/-- KV head, K or V, and block within the row of unit u of an input record (R111). -/
def Geom.unitAt (g : Geom) (u : Nat) : Nat × Nat × Nat :=
  let e := 32 * u
  let half := g.kvHeads * g.dim
  (e % half / g.dim, e / half, e % g.dim / 32)

/-! ### Static scales (R114) -/

/-- S and SINV of an entry of profile p's scale table; an entry not loaded holds 1.0 twice. -/
def Chan.staticScale (c : Chan) (p l h kv : Nat) : Nat × Nat :=
  let g := c.geom p
  let e := (l * g.kvHeads + h) * 2 + kv
  if e < c.pool.scaleLoaded.getD p 0 then
    let a := profileBase + p * 262144 + 8 * e
    (leVal (Memory.read c.hbm a 4), leVal (Memory.read c.hbm (a + 4) 4))
  else (0x3F800000, 0x3F800000)

/-! ### Context maps (R99, R100) -/

/-- The context map of a slot. -/
def Chan.map (c : Chan) (slot : Nat) : PageMap := c.maps.getD slot PageMap.init

/-- The context map of a slot replaced. -/
def Chan.setMap (c : Chan) (slot : Nat) (m : PageMap) : Chan := { c with maps := c.maps.set PageMap.init slot m }

/-- The record of page-group g. -/
def PageMap.grp (m : PageMap) (g : Nat) : PgRec := m.recs.getD g PgRec.init

/-- The record of page-group g replaced. -/
def PageMap.setRec (m : PageMap) (g : Nat) (r : PgRec) : PageMap := { m with recs := m.recs.put g r }

/-- FULL of a record (R100). -/
def PgRec.full (r : PgRec) : Bool := decide (r.rows = 16)

/-- F[l] of a slot (R119). -/
def PageMap.fillOf (m : PageMap) (l : Nat) : Nat := m.fill.getD l 0

/-- The minimum of F[l] over the layers. -/
def PageMap.minFill (m : PageMap) (layers : Nat) : Nat := (List.range layers).foldl (fun a l => min a (m.fillOf l)) (m.fillOf 0)

/-- Every F[l] set to n. -/
def PageMap.setFill (m : PageMap) (layers n : Nat) : PageMap :=
  { m with fill := if n = 0 then [] else (List.range layers).map (fun l => (l, n)), placed := [] }

/-- Bytes of one block: 64 records padded to 64 bytes (R99, R100). -/
def Geom.blockBytes (g : Geom) : Nat := 64 * ((32 + 4 * g.layers * g.parts + 63) / 64 * 64)

/-- The lowest address of the page-group-table pool at which `n` bytes are free. -/
def Chan.findBlock (c : Chan) (n : Nat) : Option Nat :=
  let cands := pgtBase :: c.pool.blocks.map (fun e => e.1 + e.2)
  cands.find? (fun a => decide (a + n ≤ pgtBase + c.pgtMib * mib) && !c.pool.blocks.any (fun e => decide (e.1 < a + n ∧ a < e.1 + e.2)))

/-- The block of records that holds group g, allocated where it is missing (R99). -/
def Chan.needBlock (c : Chan) (slot g : Nat) : Option Chan :=
  let m := c.map slot
  if (m.dir.find (g / 64)).isSome then some c
  else
    let n := (c.geom (c.entry slot).profile).blockBytes
    (c.findBlock n).map (fun a =>
      { (c.setMap slot { m with dir := m.dir.put (g / 64) a }) with pool := { c.pool with blocks := c.pool.blocks.put a n } })

/-! ### Frames of a context (R104) -/

/-- The frame of (g, l, j), where one is allocated. -/
def Chan.frameOf (c : Chan) (slot g l j : Nat) : Option Nat :=
  let r := (c.map slot).grp g
  if r.loc = .t0 then r.frames.find (l * (c.geom (c.entry slot).profile).parts + j) else none

/-- Frame (g, l, j) allocated where it is missing, and charged to CHARGE_T0; none where no frame is free (R104). The charge is journalled by the caller. -/
def Chan.takeFrame (c : Chan) (slot g l j : Nat) : Option Chan :=
  if (c.frameOf slot g l j).isSome then some c
  else
    let geo := c.geom (c.entry slot).profile
    (c.findFrame ((g + l * geo.parts + j) % c.pchs) geo.gran).map (fun f =>
      let c := c.useFrame f geo.gran
      let m := c.map slot
      let r := m.grp g
      let c := c.setMap slot (m.setRec g { r with frames := r.frames.put (l * geo.parts + j) f })
      c.touch slot (fun e => { e with ch0 := e.ch0 + geo.gran }))

/-- A frame allocated, with its charge journalled (R104, R86). -/
def Chan.needFrame (c : Chan) (slot g l j : Nat) : Option Chan :=
  if (c.frameOf slot g l j).isSome then some c
  else (c.takeFrame slot g l j).map (fun c => (c.update slot 4 id).checkLow)

/-- The HBM address of byte `off` of frame (g, l, j). -/
def Chan.pageAddr (c : Chan) (slot g l j off : Nat) : Option Nat := (c.frameOf slot g l j).map (fun f => c.frameAddr f + off)

/-- Bytes of a page frame; a frame that is missing reads as zeros. -/
def Chan.pageRead (c : Chan) (slot g l j off n : Nat) : List Byte :=
  match c.pageAddr slot g l j off with
  | some a => Memory.read c.hbm a n
  | none => List.replicate n 0

/-- Bytes stored in a page frame. -/
def Chan.pageWrite (c : Chan) (slot g l j off : Nat) (data : List Byte) : Chan :=
  match c.pageAddr slot g l j off with
  | some a => { c with hbm := Memory.write c.hbm a data }.eccWrote a data.length
  | none => c

/-- The stored elements and scales of token t in one tile row: KV head h, K (0) or V (1) of layer l. -/
def Chan.rowRead (c : Chan) (slot t l h kv : Nat) : List Byte × List Byte :=
  let geo := c.geom (c.entry slot).profile
  let (j, tile) := geo.tileOf h kv
  let (d, s) := geo.rowAt tile (t % 16)
  (c.pageRead slot (t / 16) l j d geo.rowBytes, c.pageRead slot (t / 16) l j s (geo.dim / 32 * scaleWidth geo.format))

/-- One tile row stored. -/
def Chan.rowWrite (c : Chan) (slot t l h kv : Nat) (x : List Byte × List Byte) : Chan :=
  let geo := c.geom (c.entry slot).profile
  let (j, tile) := geo.tileOf h kv
  let (d, s) := geo.rowAt tile (t % 16)
  (c.pageWrite slot (t / 16) l j d x.1).pageWrite slot (t / 16) l j s x.2

/-! ### Chain keys (R328) -/

/-- The key under which pfx.chain's token ids of a group are kept. -/
def tokenKey (slot g : Nat) : Nat := slot * 2 ^ 18 + g

/-- CHAIN_KEY of a group from the previous group's and its 16 token ids (R328), as a number in little-endian byte order. -/
def chainKey (profile tag prev : Nat) (toks : List Nat) : Nat :=
  leVal ((sha512 (leBytes 4 profile ++ leBytes 4 tag ++ leBytes 16 prev ++ toks.flatMap (leBytes 4))).take 16)

/-- As many page groups as a context has. -/
def chainFuel : Nat := 262144

/-- CHAIN_KEYs written from group g on, while groups are FULL, have token ids, and follow a group with a key. -/
def Chan.chainFrom (c : Chan) (slot : Nat) : Nat → Nat → Chan
  | 0, _ => c
  | n + 1, g =>
    let m := c.map slot
    let r := m.grp g
    let prev := if g = 0 then 0 else (m.grp (g - 1)).chain
    if !r.full || decide (0 < g ∧ prev = 0) then c
    else if r.chain ≠ 0 then Chan.chainFrom c slot n (g + 1)
    else match c.pfx.tokens.find (tokenKey slot g) with
      | none => c
      | some toks =>
        let e := c.entry slot
        let k := chainKey (c.geom e.profile).id e.tag prev toks
        Chan.chainFrom (c.setMap slot (m.setRec g { r with chain := k })) slot n (g + 1)

/-! ### Commit (R119, R201, R413) -/

/-- ROWS of every group up to the committed length n, from the old length (R100). -/
def PageMap.setRows (m : PageMap) (old n : Nat) : PageMap :=
  (List.range (n / 16 + 1 - old / 16)).foldl (fun m i =>
    let g := old / 16 + i
    let rows := min 16 (n - 16 * g)
    if rows = 0 then m else m.setRec g { m.grp g with rows := rows }) m

/-- The fields of GOVERNOR (R198). -/
def govLimit (v : Nat) : Nat := bits v 31 25

/-- UP_THRESH as it acts. -/
def Chan.upThresh (c : Chan) : Nat := min 256 (c.fget Reg.SPC_GOV_CFG 47 39)

/-- HOLD counts down at page-group boundaries while drafting is disabled, and drafting is re-enabled at zero (R201). -/
def Chan.holdDown (c : Chan) (slot old new : Nat) : Chan :=
  let e := c.entry slot
  let v := e.governor
  let hold := bits v 7 0
  let k := new / 16 - old / 16
  if govLimit v ≠ 0 ∨ hold = 0 ∨ k = 0 then c
  else if k < hold then c.touch slot (fun e => { e with governor := setBits v 7 0 (hold - k) })
  else (c.touch slot (fun e => { e with governor := setBits (setBits (setBits (setBits v 31 25 1) 24 16 c.upThresh) 15 8 0) 7 0 0 })).event
    0x5003 (some e.tslot) (c.handle slot) (new * 2 ^ 32)

/-- COMMITTED_LEN advances to n (R119, R190): rows, the journal with cause 0x02, EVC0, the meter, chain keys and the governor's hold. -/
def Chan.commitTo (c : Chan) (slot n : Nat) (upd : Entry → Entry) : Chan :=
  let e := c.entry slot
  let old := e.committed
  let c := c.setMap slot ((c.map slot).setRows old n)
  let c := c.update slot 2 (fun e => { upd e with committed := n })
  let c := if old < n then c.addCtr (.bound slot 0) (n - old) else c
  let c := c.bill slot (if e.state = .prefilling then .prompt else .output) (n - old)
  (c.chainFrom slot chainFuel (old / 16)).holdDown slot old n

/-- More rows than an append commit can complete at once. -/
def advanceFuel : Nat := 8192

/-- F[l] advanced over the run of complete records (R119). -/
def PageMap.advance (m : PageMap) (l units : Nat) : Nat → PageMap
  | 0 => m
  | n + 1 =>
    let f := m.fillOf l
    let k := l * 2 ^ 22 + f
    if m.placed.getD k 0 = 2 ^ units - 1 then
      PageMap.advance { m with fill := m.fill.set 0 l (f + 1), placed := m.placed.del k } l units n
    else m

/-- Is the context in a state whose placed tokens commit at once (R119)? -/
def Entry.commits (e : Entry) : Bool := decide (e.state = .prefilling ∨ (e.state = .decoding ∧ e.sub = 0))

/-- F[l] advances and the context commits what every layer holds. -/
def Chan.advance (c : Chan) (slot l : Nat) : Chan :=
  let e := c.entry slot
  let geo := c.geom e.profile
  let m := (c.map slot).advance l geo.units advanceFuel
  let c := c.setMap slot m
  let n := m.minFill geo.layers
  if e.commits ∧ e.committed < n then c.commitTo slot n id else c

/-! ### Append admission (R109 to R114) -/

/-- Is an append accepted for the state under the role (R26)? -/
def Chan.appends (c : Chan) (s : CtxState) : Bool :=
  match c.actingRole with
  | .prompt => decide (s = .prefilling)
  | .generation => decide (s = .decoding)
  | _ => false

/-- Token and layer of one unit of an append write (R110, R187), or the reason that refuses it. -/
def Chan.decodeUnit (c : Chan) (slot w : Nat) : Except Nat (Nat × Nat × Nat) :=
  let e := c.entry slot
  let geo := c.geom e.profile
  let m := c.map slot
  let r := geo.recLog2
  let win := geo.window
  let rec_ := w / 2 ^ r
  let b := w % 2 ^ r
  let l := rec_ / (2 * win)
  let p := rec_ % (2 * win)
  if geo.layers ≤ l ∨ geo.inrec ≤ b then .error 3
  else
    let drafting := decide (e.state = .decoding ∧ e.sub ≠ 0)
    let base := if drafting then e.committed else m.fillOf l
    let t := base + (p + 2 * win - base % (2 * win)) % (2 * win)
    if base + win ≤ t ∨ (drafting ∧ e.committed + e.provisional ≤ t) then .error 4
    else if 2 ^ 22 ≤ t then .error 5
    else .ok (l, t, b / 64)

/-- Every unit of a packet decoded, or the first reason among the shape refusals, then among the window refusals. -/
def Chan.decodePacket (c : Chan) (slot w n : Nat) : Except Nat (List (Nat × Nat × Nat)) :=
  let rs := (List.range n).map (fun i => c.decodeUnit slot (w + 64 * i))
  if rs.any (fun r => match r with | .error 3 => true | _ => false) then .error 3
  else rs.foldr (fun r acc => match r, acc with
    | .error e, _ => .error e
    | _, .error e => .error e
    | .ok u, .ok l => .ok (u :: l)) (.ok [])

/-- Units in staging across the channel; the staging area of 256 MiB holds one input unit of 64 bytes for each. -/
def Chan.stagedUnits (c : Chan) : Nat := (c.maps.map (fun e => e.2.staged.length)).sum

/-- Blocks and frames for the units of a packet: the reason that refuses it, or the channel with what could be allocated at once; what is missing waits for
the cullet list (R106). -/
def Chan.reserve (c : Chan) (slot : Nat) (us : List (Nat × Nat × Nat)) : Except Nat Chan :=
  us.foldl (fun acc u => match acc with
    | .error e => .error e
    | .ok c =>
      let geo := c.geom (c.entry slot).profile
      let (h, kv, _) := geo.unitAt u.2.2
      match c.needBlock slot (u.2.1 / 16) with
      | none => .error 6
      | some c =>
        match c.needFrame slot (u.2.1 / 16) u.1 (geo.tileOf h kv).1 with
        | some c => .ok c
        | none => if c.pool.cullet.isEmpty then .error 6 else .ok c) (.ok c)

/-- The frames that the units of a packet need and that are not allocated. -/
def Chan.missing (c : Chan) (slot : Nat) (us : List (Nat × Nat × Nat)) : List (Nat × Nat × Nat) :=
  let geo := c.geom (c.entry slot).profile
  (us.foldl (fun acc u =>
    let (h, kv, _) := geo.unitAt u.2.2
    let f := (u.2.1 / 16, u.1, (geo.tileOf h kv).1)
    if (c.frameOf slot f.1 f.2.1 f.2.2).isSome || acc.contains f then acc else f :: acc) [])

/-- An append refusal (R112): its counter and its event, at most once per 1 ms per context; exhaustion is reported once per 1 ms per channel. -/
def Chan.appendRefused (c : Chan) (slot : Option Nat) (addr reason : Nat) : Chan :=
  let c := if reason = 4 ∨ reason = 5 then c.bump Reg.PG_REFUSE_CNT 63 48 1
    else if reason = 1 ∨ reason = 2 then c.bump Reg.PG_REFUSE_CNT 47 32 1
    else if reason = 3 then c.bump Reg.PG_REFUSE_CNT 31 16 1
    else if reason = 6 ∨ reason = 7 then c.bump Reg.PG_REFUSE_CNT 15 0 1 else c
  match slot with
  | some s =>
    let e := c.entry s
    let c := c.eventEvery ms 0x2001 s (some e.tslot) (c.handle s) (fun n => reason + n * 256)
    let c := if reason = 6 then c.eventEvery ms 0x2004 0 none (c.handle s) (fun n => n) else c
    if reason = 7 then c.tierQuotaEvent e.tslot 0 else c
  | none => c.eventEvery ms 0x2001 16384 none addr (fun n => reason + n * 256)

/-- One unit quantised by the marver stage (R113, R114): what is staged, and the counts of zeroed and saturated elements. -/
def Chan.marver (c : Chan) (slot : Nat) (u : Nat × Nat × Nat) (data : List Byte) (conn psn : Nat) : Staged × Quantised :=
  let e := c.entry slot
  let geo := c.geom e.profile
  let (h, kv, _) := geo.unitAt u.2.2
  let q := quantiseBlock geo.format (c.staticScale e.profile u.1 h kv).2 ((piecesOf 2 data).map (fun b => ofInput geo.fp16 (leVal b)))
  (⟨u.1, u.2.1, u.2.2, packElems geo.format q.codes, leBytes (scaleWidth geo.format) q.scale, conn, psn⟩, q)

/-- The bytes that a mirror message carries for one quantised block: stored bytes as VQNT writes them, and the scale (R246, R449). -/
def quantBytes (fmt : Nat) (q : Quantised) : List Byte := packElems fmt q.codes ++ leBytes (scaleWidth fmt) q.scale

/-- An append packet to the window of a slot (R112): `off` is the byte within the window. Either the reason that refuses it, or the channel with its units
in staging. -/
def Chan.appendPacket (c : Chan) (slot off : Nat) (data : List Byte) (conn psn : Nat) : Except Nat Chan :=
  let e := c.entry slot
  let geo := c.geom e.profile
  let n := data.length / 64
  if c.rel.mode = .shadow ∨ !c.appends e.state ∨ (c.ctx.sealing.find slot).isSome ∨ (e.state = .decoding ∧ e.sub = 2) then .error 2
  else if off % 64 ≠ 0 ∨ data.length % 64 ≠ 0 ∨ n = 0 then .error 3
  else match c.decodePacket slot off n with
    | .error r => .error r
    | .ok us =>
      if c.paused e.tslot then .error 8
      else if 4194304 < c.stagedUnits + n then .error 6
      else match c.reserve slot us with
        | .error r => .error r
        | .ok c' =>
          if (c.missing slot us).length ≠ 0 ∧ !c.quotaAllows e.tslot 0 ((c.missing slot us).length * geo.gran) then .error 7
          else
            let xs := List.zipWith (fun u b => (u.1, c'.marver slot u b conn psn)) us (piecesOf 64 data)
            let bad := (xs.map (fun x => x.2.2.nonfinite)).sum
            let sat := (xs.map (fun x => x.2.2.saturated)).sum
            let m := c'.map slot
            let c' := c'.setMap slot { m with staged := m.staged ++ xs.map (fun x => x.2.1) }
            let c' := (c'.bump Reg.PG_MARVER_CNT 63 32 bad).bump Reg.PG_MARVER_CNT 31 0 sat
            let last := ((xs.filter (fun x => decide (0 < x.2.2.nonfinite))).getLast?.map (fun x => x.1)).getD 0
            let c' := if bad = 0 then c'
              else c'.eventEvery ms 0x2002 slot (some e.tslot) (c'.handle slot) (fun n => min n (2 ^ 32 - 1) + last * 2 ^ 32) bad
            .ok (c'.mirror 1 (leBytes 1 geo.format ++ leBytes 1 (b2n geo.fp16) ++ leBytes 2 0 ++
                beBytes 4 (match us with | u :: _ => let (h, kv, _) := geo.unitAt u.2.2; if geo.format < 2 then (c'.staticScale e.profile u.1 h kv).2 else 0 | [] => 0))
              (data.take (127 * 64)) ((xs.take 127).flatMap (fun x => quantBytes geo.format x.2.2)))

/-- One staged unit placed (R118): its bytes go to its frame, which is allocated now where it had to wait; the packet is acknowledged with its last unit,
and F[l] and the commit advance. No effect while no frame is free. -/
def Chan.placeUnit (c : Chan) (slot : Nat) (u : Staged) : Chan :=
  let geo := c.geom (c.entry slot).profile
  let (h, kv, b) := geo.unitAt u.unit
  let (j, tile) := geo.tileOf h kv
  let g := u.token / 16
  match c.needFrame slot g u.layer j with
  | none => c
  | some c =>
    let (d, s) := geo.rowAt tile (u.token % 16)
    let c := c.pageWrite slot g u.layer j (d + b * u.elems.length) u.elems
    let c := c.pageWrite slot g u.layer j (s + b * u.scale.length) u.scale
    let m := c.map slot
    let k := u.layer * 2 ^ 22 + u.token
    let placed := if u.token < m.fillOf u.layer then m.placed else m.placed.put k (m.placed.getD k 0 ||| 2 ^ u.unit)
    let rest := m.staged.erase u
    let c := c.setMap slot { m with staged := rest, placed := placed }
    let c := match m.region with
      | some r => if (c.region r).st = RegionState.revoking ∧ !rest.any (fun v => decide (v.conn = u.conn ∧ v.psn = u.psn)) then
          c.setRegion r { c.region r with after := (c.region r).after + 1 } else c
      | none => c
    (c.advance slot u.layer).unitDone u.conn u.psn

/-! ### Release of pages (R65, R105) -/

/-- The charge of a tier object (R344): LENGTH and the tag, in granules. -/
def TierObj.charge (o : TierObj) : Nat := (o.length + 16 + 4095) / 4096

/-- Object blocks in which no record is left return to the page-group-table pool (R339). -/
def Chan.trimObjBlocks (c : Chan) : Chan :=
  let empty := c.tiers.objBlocks.filter (fun b => !c.tiers.objs.anyOf (fun n _ => n / 64 == b.1))
  { c with tiers := { c.tiers with objBlocks := c.tiers.objBlocks.keep (fun k _ => !empty.any (fun b => b.1 == k)) },
           pool := { c.pool with blocks := c.pool.blocks.keep (fun a _ => !empty.any (fun b => b.2 == a)) } }

/-- A tier object freed, with its charge, and what waited for it. -/
def Chan.freeObj (c : Chan) (slot n : Nat) : Chan :=
  match c.tiers.objs.find n with
  | none => c
  | some o =>
    let c := { c with tiers := { c.tiers with objs := c.tiers.objs.del n } }.trimObjBlocks
    let c := c.touch slot (fun e => if o.t1 then { e with ch1 := e.ch1 - o.charge } else { e with ch2 := e.ch2 - o.charge })
    if o.t1 then c.leaseDrained o.lease else c.poolDrained

/-- The context's own pages of a group returned: frames to the cullet list, a tier object freed; a SHARED group holds none. -/
def Chan.freeGroup (c : Chan) (slot g : Nat) : Chan :=
  let m := c.map slot
  let r := m.grp g
  let frames := r.frames.map Prod.snd
  let c := c.setMap slot { m with recs := m.recs.del g }
  if r.shared then c
  else match r.loc with
    | .t0 =>
      let gran := (frames.map c.granOf).sum
      (c.cullFrames frames).touch slot (fun e => { e with ch0 := e.ch0 - gran })
    | .remote => c
    | _ => c.freeObj slot (r.frames.getD 0 0)

/-- Every group from `first` on returned, in ascending order. -/
def Chan.freeGroups (c : Chan) (slot first : Nat) : Chan :=
  (((c.map slot).recs.map Prod.fst).filter (fun g => decide (first ≤ g))).foldl (fun c g => c.freeGroup slot g) c

/-- The page-group-table blocks returned, and the map empty, when the context enters RETIRED (R99). -/
def Chan.freeMap (c : Chan) (slot : Nat) : Chan :=
  let m := c.map slot
  let c := { c with pool := { c.pool with blocks := c.pool.blocks.keep (fun a _ => !(m.dir.any (fun e => decide (e.2 = a)))) },
                    pfx := { c.pfx with tokens := c.pfx.tokens.keep (fun k _ => decide (k / 2 ^ 18 ≠ slot)) } }
  c.setMap slot { PageMap.init with region := m.region, pd := m.pd }

/-! ### Leaving states -/

/-- Every prefix-cache entry that names a slot of this channel invalidated (R329): segments of USE 1 hold them. -/
def Chan.unpublish (c : Chan) (slot : Nat) : Chan :=
  let res := c.fget Reg.CHN_EID 17 0 * 2 ^ 14 + slot
  { c with pfx := { c.pfx with entries := c.pfx.entries.keep (fun i x =>
      !(decide (c.fget (Reg.PFX_SEG_CFG (i / 512)) 63 62 = 1 ∧ x.result = res ∧ x.mask = 2 ^ 128 - 1))) } }

/-- What follows when a context has left a state (R109, R329): its append window is revoked on leaving PREFILLING and DECODING, and its published prefixes
are invalidated on leaving SEALED and PARKED. -/
def Chan.left (c : Chan) (slot : Nat) (was : CtxState) : Chan :=
  let now := (c.entry slot).state
  let c := if decide (was = .prefilling ∨ was = .decoding) && !decide (now = .prefilling ∨ now = .decoding) then
      (match (c.map slot).region with | some r => c.dropRegion r | none => c) else c
  if decide (was = .sealed ∨ was = .parked) && !decide (now = .sealed ∨ now = .parked) then c.unpublish slot else c

/-- A transition of R65 with what follows it. -/
def Chan.enter (c : Chan) (slot : Nat) (st : CtxState) (sub : Nat) (upd : Entry → Entry) : Chan :=
  let was := (c.entry slot).state
  (c.moveTo slot st sub upd).left slot was

end Sys2Proof.Machine
end

