-- ==== Sys2Proof/Machine/AttachOps.lean ====
section
/-! DEFINITION. Attachments to a prefix owner (R122, R330 to R332): the messages, the references of an owner, and the detach of an attacher. -/
namespace Sys2Proof.Machine
open Sys2Proof

/-- The 64 bytes of an attachment message (R330). -/
def attachBytes (ty : Nat) (m : AttachMsg) : List Byte :=
  beBytes 1 ty ++ beBytes 1 m.reason ++ beBytes 6 0 ++ beBytes 8 m.reqNum ++ beBytes 6 m.owner ++ beBytes 6 m.attacher ++ beBytes 4 m.tag ++
  beBytes 4 m.profileId ++ beBytes 4 m.n ++ beBytes 16 m.chain ++ beBytes 8 0

/-- An attachment message to mailbox 0x2000 of a peer. -/
def Chan.sendAttach (c : Chan) (peer ty : Nat) (m : AttachMsg) : Chan :=
  (c.emit (.fmt peer "attachment" [ty, m.reason, m.reqNum, m.owner, m.attacher, m.n] [])).sendBase peer 0x2000 (attachBytes ty m)

/-- An ATTACH or DETACH sent for the first time, to be repeated every 1 ms until it is answered (R331). -/
def Chan.attachRequest (c : Chan) (peer : Nat) (isDetach : Bool) (m : AttachMsg) (cmd : Option Src) : Chan :=
  let q := c.pfx.nextReq
  let m := { m with reqNum := q }
  let c := { c with pfx := { c.pfx with nextReq := q + 1,
                                        reqs := c.pfx.reqs.put q { isDetach := isDetach, msg := m, peer := peer, cmd := cmd, tries := 1, due := c.time + ms } } }
  c.sendAttach peer (if isDetach then 4 else 1) m

/-- PREFIX_REFS of an owner lowered by n, never below zero; at zero the context is no longer a prefix owner. -/
def Chan.lowerRefs (c : Chan) (slot n : Nat) : Chan :=
  c.update slot 3 (fun e =>
    let refs := e.refs - n
    if refs = 0 then { e with refs := 0, prefixOwner := false, span := 0 } else { e with refs := refs })

/-- PREFIX_REFS raised by one for an attachment of n groups (R122). -/
def Chan.raiseRefs (c : Chan) (slot n : Nat) : Chan :=
  c.update slot 3 (fun e => { e with refs := e.refs + 1, prefixOwner := true, span := max e.span n })

/-- The slot of a prefix owner that the channel holds and a handle names (R332); any other handle is not counted. -/
def Chan.ownerSlot (c : Chan) (h : Nat) : Option Nat :=
  match c.checkHandle h with
  | .ok slot => if (c.entry slot).prefixOwner ∧ (c.entry slot).state ≠ .retired then some slot else none
  | .error _ => none

/-- The prefix owner of an attached context, and how many groups it attaches. -/
def PageMap.attachment (m : PageMap) : Nat × Nat :=
  let shared := m.recs.filter (fun e => e.2.shared)
  ((shared.head?.map (fun e => e.2.owner)).getD 0, shared.length)

/-- A detach is complete (R331, R332): the context is attached to no owner. -/
def Chan.detached (c : Chan) (slot : Nat) : Chan := c.update slot 3 (fun e => { e with prefixAttached := false, peer := 0 })

/-- The context detaches from its prefix owner (R65, R331, R332): at once on the same channel, and on another by DETACH, which completes with its answer. -/
def Chan.detach (c : Chan) (slot : Nat) : Chan :=
  let e := c.entry slot
  if !e.prefixAttached then c
  else
    let (owner, n) := (c.map slot).attachment
    let peer := bits owner 47 30
    if peer = c.fget Reg.CHN_EID 17 0 then
      let c := c.detached slot
      match c.ownerSlot owner with
      | some o => c.lowerRefs o 1
      | none => c
    else c.attachRequest peer true
      { reason := 0, reqNum := 0, owner := owner, attacher := c.handle slot, tag := e.tag, profileId := (c.geom e.profile).id, n := n, chain := 0 } none

/-! ### Attaching (R122) -/

/-- The conditions of R122 on the attaching context itself: PREFILLING, or DECODING opened with OPEN_DECODING (its epoch is still 1), nothing committed and no
unit placed. -/
def Chan.attachable (c : Chan) (slot : Nat) : Bool :=
  let e := c.entry slot
  let m := c.map slot
  decide ((e.state = .prefilling ∨ (e.state = .decoding ∧ e.sub = 0 ∧ e.epoch = 1)) ∧ e.committed = 0 ∧ m.fill = [] ∧ m.placed = [] ∧
    (c.ctx.sealing.find slot).isNone)

/-- The conditions on an owner that this channel holds: SEALED or PARKED, the same tenant tag, profile and geometry, and long enough. -/
def Chan.ownerFits (c : Chan) (slot o n : Nat) : Bool :=
  let e := c.entry slot
  let f := c.entry o
  decide ((f.state = .sealed ∨ f.state = .parked) ∧ f.tag = e.tag ∧ { c.geom f.profile with redun := 0 } = { c.geom e.profile with redun := 0 } ∧
    16 * n ≤ f.committed)

/-- The blocks for records 0 to n − 1. -/
def Chan.needBlocks (c : Chan) (slot n : Nat) : Option Chan :=
  (List.range ((n + 63) / 64)).foldl (fun acc b => acc.bind (fun c => c.needBlock slot (64 * b))) (some c)

/-- CHAIN_KEY of group n − 1 of the attaching context: from the token ids that pfx.chain supplied (R328), or zero where they are missing. -/
def Chan.chainFor (c : Chan) (slot n : Nat) : Nat :=
  let e := c.entry slot
  (List.range n).foldl (fun prev g => match prev, c.pfx.tokens.find (tokenKey slot g) with
    | some k, some toks => some (chainKey (c.geom e.profile).id e.tag k toks)
    | _, _ => none) (some 0) |>.getD 0

/-- What appends have brought of the first n groups and not yet placed is given up for the attached groups: the units, and their frames. -/
def Chan.clearFirst (c : Chan) (slot n : Nat) : Chan :=
  let m := c.map slot
  let gone := m.staged.filter (fun u => decide (u.token < 16 * n))
  let c := c.setMap slot { m with staged := m.staged.filter (fun u => decide (16 * n ≤ u.token)) }
  let c := gone.foldl (fun c u => c.unitDone u.conn u.psn) c
  ((m.recs.map Prod.fst).filter (fun g => decide (g < n))).foldl (fun c g => c.freeGroup slot g) c

/-- The attachment made (R122, R81, R413): records, flags and length, and the ATTACHED count. `o` is the owner's slot where it lies here. -/
def Chan.attachTo (c : Chan) (slot owner n : Nat) (o : Option Nat) : Chan :=
  let c := c.clearFirst slot n
  let geo := c.geom (c.entry slot).profile
  let recs := (List.range n).map (fun g => (g, match o with
    | some o => let r := (c.map o).grp g; { loc := r.loc, shared := true, rows := 16, owner := owner, chain := r.chain, frames := r.frames : PgRec }
    | none => { loc := .remote, shared := true, rows := 16, owner := owner, chain := 0, frames := [] }))
  let m := c.map slot
  let c := c.setMap slot ({ m with recs := recs ++ m.recs }.setFill geo.layers (16 * n))
  let c := c.update slot 2 (fun e => { e with prefixAttached := true, peer := owner, committed := 16 * n })
  (c.chainFrom slot chainFuel 0).bill slot .attached (16 * n)

end Sys2Proof.Machine
end

