-- ==== Sys2Proof/Machine/BodyOps.lean ====
section
/-! DEFINITION. Group bodies, manifests and digests (R133, R134), and the layout of a transfer or inbound region (R135). -/
namespace Sys2Proof.Machine
open Sys2Proof

/-! ### Bodies (R134, R340) -/

/-- Tiles of one part. -/
def Geom.tiles (g : Geom) : Nat := 2 * (g.kvHeads / g.parts)

/-- Bytes of the body of one page-group. -/
def Geom.bodyBytes (g : Geom) : Nat := g.layers * g.parts * g.partBytes

/-- Bytes of scales in one row of a tile. -/
def Geom.rowScale (g : Geom) : Nat := g.dim / 32 * scaleWidth g.format

/-- The row of a tile to which byte i of a part belongs (R96, R97). -/
def Geom.rowOfByte (g : Geom) (i : Nat) : Nat :=
  let data := g.tiles * g.tileData
  if i < data then i % g.tileData / g.rowBytes else (i - data) % g.tileScale / g.rowScale

/-- Part bytes with the rows at or beyond `rows` zero (R98, R107, R134). -/
def Geom.maskPart (g : Geom) (rows : Nat) (b : List Byte) : List Byte := b.mapIdx (fun i v => if g.rowOfByte i < rows then v else 0)

/-- Part bytes in the tile-packed order of R340: each tile's data, then its scales. -/
def Geom.packPart (g : Geom) (b : List Byte) : List Byte :=
  (List.range g.tiles).flatMap (fun t =>
    (b.drop (t * g.tileData)).take g.tileData ++ (b.drop (g.tiles * g.tileData + t * g.tileScale)).take g.tileScale)

/-- Tile-packed bytes of one part in the order of a frame (R96). -/
def Geom.unpackPart (g : Geom) (b : List Byte) : List Byte :=
  let t := g.tileData + g.tileScale
  (List.range g.tiles).flatMap (fun i => (b.drop (i * t)).take g.tileData) ++
  (List.range g.tiles).flatMap (fun i => (b.drop (i * t + g.tileData)).take g.tileScale)

/-- A body in tile-packed order. -/
def Geom.pack (g : Geom) (b : List Byte) : List Byte := (piecesOf g.partBytes b).flatMap g.packPart

/-- A tile-packed body in frame order. -/
def Geom.unpack (g : Geom) (b : List Byte) : List Byte := (piecesOf g.partBytes b).flatMap g.unpackPart

/-- Committed rows of group g at length n. -/
def rowsOf (g n : Nat) : Nat := min 16 (n - 16 * g)

/-- Page-groups of a context of n tokens (R133). -/
def groupsOf (n : Nat) : Nat := (n + 15) / 16

/-- The body of group g of the context in a slot, at a length of n tokens; a group in T1 or T2 is read through its tier. A SHARED group has none. -/
def Chan.groupBody (c : Chan) (slot g n : Nat) : List Byte :=
  let geo := c.geom (c.entry slot).profile
  let r := (c.map slot).grp g
  let mask := fun b => geo.maskPart (rowsOf g n) b
  if r.shared then []
  else match r.loc with
    | .t1 | .t2 =>
      let b := ((c.tiers.objs.find (r.frames.getD 0 0)).map (fun o => o.body)).getD []
      (piecesOf geo.partBytes (geo.unpack b)).flatMap mask
    | _ => (List.range geo.layers).flatMap (fun l => (List.range geo.parts).flatMap (fun j => mask (c.pageRead slot g l j 0 geo.partBytes)))

/-- The HBM ranges that the body of a group in T0 is read from. -/
def Chan.groupRanges (c : Chan) (slot g : Nat) : List (Nat × Nat) :=
  let geo := c.geom (c.entry slot).profile
  let r := (c.map slot).grp g
  if r.shared ∨ r.loc ≠ .t0 then [] else r.frames.map (fun e => (c.frameAddr e.2, geo.partBytes))

/-- Bytes of a body stored from byte b on, part by part. -/
def Chan.writeBody (c : Chan) (slot g : Nat) : Nat → Nat → List Byte → Chan
  | 0, _, _ => c
  | n + 1, b, data =>
    let geo := c.geom (c.entry slot).profile
    let p := max 1 geo.partBytes
    let room := p - b % p
    let c := c.pageWrite slot g (b / p / geo.parts) (b / p % geo.parts) (b % p) (data.take room)
    if data.length ≤ room then c else Chan.writeBody c slot g n (b + room) (data.drop room)

/-- A whole body stored in the frames of a group. -/
def Chan.storeBody (c : Chan) (slot g : Nat) (body : List Byte) : Chan :=
  let geo := c.geom (c.entry slot).profile
  c.writeBody slot g (geo.layers * geo.parts + 1) 0 body

/-- GROUP_DIGEST (R134): SHA-512/256 over the body, zero for a SHARED group. -/
def Chan.groupDigest (c : Chan) (slot g n : Nat) : List Byte :=
  if ((c.map slot).grp g).shared then List.replicate 32 0 else sha512t256 (c.groupBody slot g n)

/-! ### Manifests (R133) -/

/-- Bytes of a manifest of G groups. -/
def manifestLen (groups : Nat) : Nat := 64 + 64 * groups

/-- The manifest header. -/
def Chan.manifestHeader (c : Chan) (slot epoch h : Nat) : List Byte :=
  let e := c.entry slot
  let geo := c.geom e.profile
  leBytes 8 e.req ++ leBytes 4 epoch ++ leBytes 4 e.tag ++ leBytes 4 geo.id ++ leBytes 1 e.format ++ leBytes 1 geo.parts ++ leBytes 1 (geo.layers - 1) ++
  leBytes 1 (geo.kvHeads - 1) ++ leBytes 4 geo.partBytes ++ leBytes 4 e.committed ++ leBytes 4 (groupsOf e.committed) ++ leBytes 6 h ++ leBytes 22 0

/-- The entry of group g, with its digest. -/
def Chan.manifestEntry (c : Chan) (slot g : Nat) (digest : List Byte) : List Byte :=
  let n := (c.entry slot).committed
  let r := (c.map slot).grp g
  leBytes 1 (b2n r.shared + 2 * b2n (decide (rowsOf g n = 16))) ++ leBytes 1 (rowsOf g n) ++ leBytes 6 r.owner ++ leBytes 16 r.chain ++ leBytes 8 0 ++ digest

/-- The manifest of the context in a slot, with the GROUP_DIGESTs of the groups below `done` filled in; a digest not yet computed is zero. -/
def Chan.manifestOf (c : Chan) (slot epoch h done : Nat) : List Byte :=
  let n := (c.entry slot).committed
  c.manifestHeader slot epoch h ++
    (List.range (groupsOf n)).flatMap (fun g => c.manifestEntry slot g (if g < done then c.groupDigest slot g n else List.replicate 32 0))

/-- The manifest digest of a context of this channel (R134). -/
def Chan.manifestDigest (c : Chan) (slot epoch h : Nat) : List Byte := sha512 (c.manifestOf slot epoch h (groupsOf (c.entry slot).committed))

/-- Entry g of a manifest: SHARED, ROWS, OWNER and CHAIN_KEY. -/
def manShared (m : List Byte) (g : Nat) : Bool := (m.getD (64 + 64 * g) 0).toNat.testBit 0

/-- OWNER of entry g. -/
def manOwner (m : List Byte) (g : Nat) : Nat := leVal ((m.drop (64 + 64 * g + 2)).take 6)

/-- CHAIN_KEY of entry g. -/
def manChain (m : List Byte) (g : Nat) : Nat := leVal ((m.drop (64 + 64 * g + 8)).take 16)

/-- The digest over a manifest as received, with the GROUP_DIGESTs computed over the bodies received (R134). -/
def Chan.receivedDigest (c : Chan) (slot n : Nat) (m : List Byte) : List Byte :=
  sha512 (m.take 64 ++ (List.range (groupsOf n)).flatMap (fun g =>
    (m.drop (64 + 64 * g)).take 32 ++ (if manShared m g then List.replicate 32 0 else sha512t256 (c.groupBody slot g n))))

/-- The group digests of a manifest against the bodies that the channel holds. -/
def Chan.digestsHold (c : Chan) (slot n : Nat) (m : List Byte) : Bool :=
  (List.range (groupsOf n)).all (fun g => manShared m g || decide ((m.drop (64 + 64 * g + 32)).take 32 = sha512t256 (c.groupBody slot g n)))

/-! ### The region's layout (R135) -/

/-- Where the bodies start. -/
def bodyBase : Nat := 0x2000000

/-- A region offset as a position in what a transfer moves: the manifest, then the bodies. -/
def linOf (mlen off : Nat) : Nat := if off < bodyBase then min off mlen else mlen + (off - bodyBase)

/-- The region offset of a position. -/
def offOf (mlen lin : Nat) : Nat := if lin < mlen then lin else bodyBase + (lin - mlen)

/-- A position moved past the empty bodies of SHARED groups. -/
def skipShared (mlen body groups : Nat) (shared : Nat → Bool) : Nat → Nat → Nat
  | 0, p => p
  | n + 1, p =>
    if p < mlen then p
    else
      let g := (p - mlen) / max 1 body
      if (p - mlen) % max 1 body = 0 ∧ g < groups ∧ shared g then skipShared mlen body groups shared n (p + body) else p

/-- Bytes of the source's transfer region from an offset (R135): the manifest with the digests of the bodies already moved, and the bodies. -/
def Chan.transferBytes (c : Chan) (slot h moved off n : Nat) : List Byte :=
  let e := c.entry slot
  let geo := c.geom e.profile
  let groups := groupsOf e.committed
  let mlen := manifestLen groups
  let b := max 1 geo.bodyBytes
  if off < bodyBase then
    let m := c.manifestOf slot e.epoch h ((moved - mlen) / b)
    let part := (m.drop off).take n
    part ++ List.replicate (n - part.length) 0
  else
    let p := off - bodyBase
    let pad := fun l : List Byte => l ++ List.replicate (b - l.length) 0
    (((List.range ((p + n - 1) / b + 1 - p / b)).flatMap (fun i => pad (c.groupBody slot (p / b + i) e.committed))).drop (p % b)).take n

end Sys2Proof.Machine
end

