-- ==== Sys2Proof/Machine/KeyOps.lean ====
section
/-! DEFINITION. The keys that the channel derives (R385, R390, R393), the identity of a peer's module (R389), and the tenant keys of a slot (R395). -/
namespace Sys2Proof.Machine
open Sys2Proof

/-- OWNER_ID (R390): bytes [15:0] of SHA-512 over the owner's key; zero on an unowned channel. -/
def ownerIdOf (owner : Option (List Byte)) : List Byte :=
  match owner with
  | some k => (sha512 k).take 16
  | none => List.replicate 16 0

/-- HKDF-Expand (RFC 5869) of n bytes, at most 64. -/
def expand (key : List Byte) (info : List Byte) (n : Nat) : List Byte := hkdfExpand key info n

/-- The alias seed (R385), from the image and the owner that the last loader run found. -/
def Chan.aliasSeed (c : Chan) : List Byte := expand (Config.deviceSeed c.num) (ascii "VXF-ALIAS" ++ c.sec.fwDigest ++ c.sec.aliasOwner) 32

/-- The alias key's seed, and the alias exchange key (R385). -/
def Chan.aliasKey (c : Chan) : List Byte := expand c.aliasSeed (ascii "ED") 32

/-- The X25519 alias exchange key. -/
def Chan.aliasExchange (c : Chan) : List Byte := expand c.aliasSeed (ascii "X") 32

/-- The device identity key's seed (R385). -/
def Chan.deviceKey (c : Chan) : List Byte := expand (Config.deviceSeed c.num) (ascii "VXF-DEV-ID") 32

/-- The channel device KEY_ID of R388. -/
def Chan.deviceKeyId (c : Chan) : List Byte := (sha512 (edPublic c.deviceKey)).take 16

/-- A peer's certificate: device CA (0), channel device (1) or alias (2) of the chain that the peer table holds. -/
def Chan.peerCert (c : Chan) (eid i : Nat) : List Byte :=
  match c.sec.peers.find eid with
  | some p => (p.chain.drop (256 * i)).take 256
  | none => []

/-- MODULE_SERIAL of a certificate (R388). -/
def certSerial (cert : List Byte) : Nat := leVal ((cert.drop 8).take 16)

/-- The module of a peer (R389). -/
def Chan.peerModule (c : Chan) (eid : Nat) : Nat := certSerial (c.peerCert eid 1)

/-- Is a peer on another module than this channel's? -/
def Chan.offModule (c : Chan) (eid : Nat) : Bool := decide (c.peerModule eid ≠ Config.moduleSerial)

/-- A key of the session with a peer (R393, R449): "FMT-S", "HANDOFF" or "SHADOW". -/
def Chan.pairKey (c : Chan) (peer : Nat) (label : String) : List Byte :=
  let me := c.fget Reg.CHN_EID 17 0
  let xkey := ((c.peerCert peer 2).drop 64).take 32
  expand (hkdfExtract [] (x25519 c.aliasExchange xkey)) (ascii label ++ leBytes 4 (min me peer) ++ leBytes 4 (max me peer)) 32

/-- A 96-bit IV (R394): an EID and a counter, most significant byte first. -/
def ivOf (eid ctr : Nat) : List Byte := beBytes 4 eid ++ beBytes 8 ctr

/-- The keys of tenant slot t (R395). -/
def Chan.keysOf (c : Chan) (t : Nat) : TenKeys := c.sec.keys.getD t TenKeys.init

/-- The storage key of tenant slot t. -/
def Chan.storageKey (c : Chan) (t : Nat) : Option (List Byte) := (c.keysOf t).storage

/-- The slot that holds a tag for arrivals (R80, R397): one with a storage key. -/
def Chan.slotForTag (c : Chan) (tag : Nat) : Option Nat :=
  (c.slotOfTag tag).bind (fun t => if (c.storageKey t).isSome then some t else none)

end Sys2Proof.Machine
end

