-- ==== Sys2Proof/Machine/MoveOps.lean ====
section
/-! DEFINITION. Descriptor moves (R248, R249): the spaces, the descriptor's checks, and the bytes that a move writes unit by unit. A unit is one tile of a TILE move, one
page of an EXTENT move, and 64 bytes of a BYTES move. -/
namespace Sys2Proof.Machine
open Sys2Proof

/-! ### Cores and programs -/

/-- What core k holds. -/
def Chan.core (c : Chan) (k : Nat) : GCore := c.gaf.cores.getD k GCore.init

/-- Core k replaced. -/
def Chan.setCore (c : Chan) (k : Nat) (g : GCore) : Chan := { c with gaf := { c.gaf with cores := c.gaf.cores.set GCore.init k g } }

/-- The program in a slot. -/
def Chan.prog (c : Chan) (p : Nat) : Option Prog := c.gaf.progs.find p

/-- Is it a tenant program? -/
def Prog.isTenant (p : Prog) : Bool := decide (p.kind = .tenant)

/-- The program that core k runs. -/
def Chan.coreProg (c : Chan) (k : Nat) : Option Prog := (c.core k).inv.bind (fun i => c.prog i.prog)

/-! ### Spaces (R207, R248) -/

/-- Does an address space hold the frame of a context of tenant slot t? -/
def Chan.ownsFrame (c : Chan) (t f : Nat) : Bool :=
  c.ctx.entries.any (fun e => decide (e.2.tslot = t ∧ e.2.state ≠ .free) &&
    (c.map e.1).recs.any (fun r => decide (r.2.loc = .t0) && r.2.frames.any (fun x => x.2 == f)))

/-- May a tenant program of slot t read, or write, the 4 KiB of HBM that hold address a (R207)? -/
def Chan.tenantHbm (c : Chan) (t a : Nat) (write : Bool) : Bool :=
  decide (c.poolBase ≤ a) &&
    (let s := (a - c.poolBase) / (2 * mib)
     (c.fab.regions.any (fun r => decide (r.2.st = .valid ∧ r.2.kind = .slabs ∧ r.2.pd ≠ 0 ∧ r.2.tenant = t) && r.2.slabs.contains s)) ||
     (!write && (match c.pool.slabs.find s with
        | some x => c.ownsFrame t (256 * s + (a - c.poolBase) % (2 * mib) / (max 1 x.gran * 4096))
        | none => false)))

/-- The granules of 4 KiB that n bytes at a reach. -/
def granules (a n : Nat) : List Nat := if n = 0 then [] else (List.range ((a + n - 1) / 4096 + 1 - a / 4096)).map (fun i => (a / 4096 + i) * 4096)

/-- The HBM ranges of n bytes of a space: none for scratch. -/
def Chan.spaceRanges (c : Chan) (space a n : Nat) : List (Nat × Nat) :=
  match space with
  | 1 => [(a, n)]
  | 2 => c.regionRanges (c.region (a / 2 ^ 48 % 65536)) (a % 2 ^ 48) n
  | _ => []

/-- Bytes read from a space. -/
def Chan.spaceRead (c : Chan) (k space a n : Nat) : List Byte :=
  match space with
  | 1 => Memory.read c.hbm a n
  | 2 => c.regionRead (c.region (a / 2 ^ 48 % 65536)) (a % 2 ^ 48) n
  | _ => Memory.read (c.core k).scratch a n

/-- Bytes stored in a space. -/
def Chan.spaceWrite (c : Chan) (k space a : Nat) (data : List Byte) : Chan :=
  match space with
  | 1 => { c with hbm := Memory.write c.hbm a data }.eccWrote a data.length
  | 2 => c.regionWrite (c.region (a / 2 ^ 48 % 65536)) (a % 2 ^ 48) data
  | _ => let g := c.core k; c.setCore k { g with scratch := Memory.write g.scratch a data }

/-- Is the row at an address context-owned (R180)? -/
def Chan.ctxOwned (c : Chan) (a : Nat) : Bool :=
  let jrnl := c.fget Reg.CTX_JRNL_BASE 39 21 * 2 ^ 21
  decide (jrnl ≤ a ∧ a < jrnl + 264 * mib) || decide (mapBase ≤ a ∧ a < mapBase + 16384 * 36864) ||
  c.pool.blocks.any (fun b => decide (b.1 < a + 1024 ∧ a < b.1 + b.2)) ||
  decide (c.fragBase ≤ a ∧ a < c.poolBase) ||
  (decide (c.poolBase ≤ a) &&
    (let s := (a - c.poolBase) / (2 * mib)
     (match c.pool.slabs.find s with
      | some x =>
        let i := a % (2 * mib) / (x.gran * 4096)
        x.used.testBit i && !c.pool.cullet.contains (256 * s + i) && !c.pool.withdrawn.contains (256 * s + i)
      | none => false) ||
     decide (c.pool.taken.find s = some 2 ∨ c.pool.taken.find s = some 3)))

/-- Does a range of HBM meet the text of an installed program (R209)? -/
def Chan.inText (c : Chan) (a n : Nat) : Bool :=
  c.gaf.progs.any (fun p => decide (0 < p.2.imgLen ∧ a < p.2.imgAt + p.2.imgLen ∧ p.2.imgAt < a + n))

/-- May a program use n bytes of a space as the source or the destination of a move (R207, R249)? -/
def Chan.spaceOk (c : Chan) (p : Prog) (space a n : Nat) (write : Bool) : Bool :=
  match space with
  | 0 => decide (a + n ≤ p.scratch)
  | 1 => decide (a + n ≤ c.hbmMib * mib) && (!p.isTenant || (granules a n).all (fun g => c.tenantHbm p.tenant g write)) &&
      (!write || (!c.inText a n && (!p.isTenant || (List.range ((a + n - 1) / 1024 + 1 - a / 1024)).all (fun i => !c.ctxOwned ((a / 1024 + i) * 1024)))))
  | 2 =>
    let x := c.region (a / 2 ^ 48 % 65536)
    decide (x.st = .valid ∧ a % 2 ^ 48 + n ≤ x.size) && (match x.kind with | .append _ => false | _ => true) &&
      (!p.isTenant || decide (x.kind = .slabs ∧ x.pd ≠ 0 ∧ x.tenant = p.tenant))
  | _ => false

/-! ### The units of a move (R249) -/

/-- The row of a tile: its data and its scales, zero from the length read at acceptance on (R98). -/
def Chan.moveRow (c : Chan) (d : DmovDesc) (t h kv : Nat) : List Byte × List Byte :=
  let (x, y) := c.rowRead d.slot t d.layer h kv
  if t < d.limit then (x, y) else (List.replicate x.length 0, List.replicate y.length 0)

/-- The bytes of tile i of a TILE move: its data rows, then its scales (R95, R97). -/
def Chan.moveTile (c : Chan) (d : DmovDesc) (i : Nat) : List Byte :=
  let rows := (List.range 16).map (fun r => c.moveRow d (d.first + 16 * i + r) d.head (b2n d.vTiles))
  rows.flatMap Prod.fst ++ rows.flatMap Prod.snd

/-- The bytes of page i of an EXTENT move: part by part (R107). -/
def Chan.movePage (c : Chan) (d : DmovDesc) (i : Nat) : List Byte :=
  let geo := c.geom (c.entry d.slot).profile
  let g := d.first / 16 + i
  (List.range geo.parts).flatMap (fun j => geo.maskPart (rowsOf g d.limit) (c.pageRead d.slot g d.layer j 0 geo.partBytes))

/-- The header fields of an extent page before its CRC (R107). -/
def extentHead (g : Geom) (first layer log2 h valid : Nat) : List Byte :=
  leBytes 4 g.id ++ leBytes 4 first ++ leBytes 2 layer ++ leBytes 1 log2 ++ leBytes 1 g.format ++ leBytes 4 g.partBytes ++ leBytes 1 g.parts ++ leBytes 7 0 ++
  leBytes 6 h ++ leBytes 2 0 ++ leBytes 4 valid ++ leBytes 24 0

/-- Units of a move. -/
def DmovDesc.units (d : DmovDesc) : Nat :=
  match d.kind with
  | 1 => d.count
  | 2 => 2 ^ d.log2 / 16
  | _ => d.count / 64

/-- Bytes of one tile with its scales. -/
def Geom.tileBytes (g : Geom) : Nat := g.tileData + g.tileScale

/-- The source ranges in HBM of unit i. -/
def Chan.unitSource (c : Chan) (d : DmovDesc) (i : Nat) : List (Nat × Nat) :=
  let geo := c.geom (c.entry d.slot).profile
  match d.kind with
  | 1 =>
    let (j, tile) := geo.tileOf d.head (b2n d.vTiles)
    let (x, y) := geo.rowAt tile 0
    match c.pageAddr d.slot (d.first / 16 + i) d.layer j 0 with
    | some a => [(a + x, geo.tileData), (a + y, geo.tileScale)]
    | none => []
  | 2 => (List.range geo.parts).filterMap (fun j => (c.pageAddr d.slot (d.first / 16 + i) d.layer j 0).map (fun a => (a, geo.partBytes)))
  | _ => if d.sspace = 0 then [] else c.spaceRanges d.sspace (d.src + 64 * i) 64

/-- Where unit i of a move goes, and its bytes. -/
def Chan.unitBytes (c : Chan) (k : Nat) (d : DmovDesc) (i : Nat) : Nat × List Byte :=
  let geo := c.geom (c.entry d.slot).profile
  match d.kind with
  | 1 => (d.dst + i * (if d.stride = 0 then geo.tileBytes else d.stride), c.moveTile d i)
  | 2 => (d.dst + 64 + i * (geo.parts * geo.partBytes), c.movePage d i)
  | _ => (d.dst + 64 * i, if d.sspace = 0 then (d.data.drop (64 * i)).take 64 else c.spaceRead k d.sspace (d.src + 64 * i) 64)

/-- Units i to i + n − 1 of a move, until one has an uncorrectable error in its source (R249, R439): the units moved. -/
def Chan.moveUnits (c : Chan) (k : Nat) (d : DmovDesc) : Nat → Nat → Nat × Chan
  | 0, i => (i, c)
  | n + 1, i =>
    let (ok, c) := c.eccReads (c.unitSource d i) 7
    if ok then
      let (a, b) := c.unitBytes k d i
      Chan.moveUnits (c.spaceWrite k d.dspace a b) k d n (i + 1)
    else (i, c)

/-- A move of at most n units; the header of an extent page follows its last page, since it carries the CRC of all of them. The flag says that the move is whole. -/
def Chan.runMove (c : Chan) (k : Nat) (d : DmovDesc) (n : Nat) : Bool × Chan :=
  let (m, c') := c.moveUnits k d (min n d.units) 0
  if m < d.units then (false, c')
  else if d.kind = 2 then
    let geo := c.geom (c.entry d.slot).profile
    let head := extentHead geo d.first d.layer d.log2 (c.handle d.slot) (min (2 ^ d.log2) (d.limit - d.first))
    let body := (List.range d.units).flatMap (c.movePage d)
    (true, c'.spaceWrite k d.dspace d.dst (head ++ leBytes 4 (crc32c (head ++ body))))
  else (true, c')

/-- Bytes that a move reaches at its destination: pairs of an address and a length. -/
def Chan.moveDest (c : Chan) (d : DmovDesc) : List (Nat × Nat) :=
  let geo := c.geom (c.entry d.slot).profile
  match d.kind with
  | 1 => if d.stride = 0 then [(d.dst, d.count * geo.tileBytes)] else (List.range d.count).map (fun i => (d.dst + i * d.stride, geo.tileBytes))
  | 2 => [(d.dst, 64 + d.units * (geo.parts * geo.partBytes))]
  | _ => [(d.dst, d.count)]

/-! ### Acceptance (R248, R249) -/

/-- The fields of a descriptor in scratch. -/
def dmovFields (b : List Byte) : DmovDesc :=
  let f := fun (off n : Nat) => leVal ((b.drop off).take n)
  { kind := f 0 1, dspace := f 1 1, sspace := f 2 1, vTiles := (f 3 1).testBit 0, count := f 4 4, slot := 0, layer := f 14 2, head := f 16 1,
    log2 := f 17 1, first := f 24 4, src := f 32 8, dst := f 40 8, stride := f 48 4, limit := 0, data := [] }

/-- Is the descriptor valid in itself? -/
def DmovDesc.ok (d : DmovDesc) (geo : Geom) : Bool :=
  decide (d.dst % 64 = 0 ∧ d.dspace ≤ 2) &&
  (match d.kind with
   | 1 => decide (d.sspace = 0 ∧ 1 ≤ d.count ∧ d.count ≤ 4096 ∧ d.first % 16 = 0 ∧ d.layer < geo.layers ∧ d.head < geo.kvHeads ∧ d.first + 16 * d.count ≤ 2 ^ 22)
   | 2 => decide (d.sspace = 0 ∧ d.count = 1 ∧ 5 ≤ d.log2 ∧ d.log2 ≤ 12 ∧ d.first % 2 ^ d.log2 = 0 ∧ d.layer < geo.layers ∧ d.first + 2 ^ d.log2 ≤ 2 ^ 22)
   | 3 => decide (d.sspace ≤ 2 ∧ 64 ≤ d.count ∧ d.count ≤ 16 * mib ∧ d.count % 64 = 0 ∧ d.src % 64 = 0)
   | _ => false)

/-- The page-groups that a move reads. -/
def DmovDesc.groups (d : DmovDesc) : List Nat :=
  match d.kind with
  | 1 => (List.range d.count).map (fun i => d.first / 16 + i)
  | 2 => (List.range (2 ^ d.log2 / 16)).map (fun i => d.first / 16 + i)
  | _ => []

/-- A descriptor judged for a program on core k (R249): the accepted move, none where a check fails. -/
def Chan.judgeMove (c : Chan) (k : Nat) (p : Prog) (b : List Byte) : Option DmovDesc × Chan :=
  let d := dmovFields b
  if d.kind = 3 then
    if d.ok (c.geom 0) && c.spaceOk p d.sspace d.src d.count false && c.spaceOk p d.dspace d.dst d.count true then
      (some { d with data := if d.sspace = 0 then c.spaceRead k 0 d.src d.count else [] }, c)
    else (none, c)
  else
    let h := leVal ((b.drop 8).take 6)
    match c.checkHandle h with
    | .error st => (none, c.badHandle st h false)
    | .ok slot =>
      let e := c.entry slot
      let d := { d with slot := slot, limit := e.committed + e.provisional }
      if d.ok (c.geom e.profile) && (!p.isTenant || decide (e.tslot = p.tenant)) && d.groups.all (fun g => decide (((c.map slot).grp g).loc = .t0)) &&
          (c.moveDest d).all (fun r => c.spaceOk p d.dspace r.1 r.2 true) then (some d, c)
      else (none, c)

end Sys2Proof.Machine
end

