-- ==== Sys2Proof/Machine/PfxOps.lean ====
section
/-! DEFINITION. The prefix array (R321 to R327): segments, matching, entry writes, and lookups with their cascade. -/
namespace Sys2Proof.Machine
open Sys2Proof

/-- USE of a segment (R322). -/
def Chan.segUse (c : Chan) (s : Nat) : Nat := c.fget (Reg.PFX_SEG_CFG s) 63 62

/-- OWNER of a segment: a tenant slot, or 0x10 for the base programs. -/
def Chan.segOwner (c : Chan) (s : Nat) : Nat := c.fget (Reg.PFX_SEG_CFG s) 52 48

/-- The tenant tag of a segment's OWNER, zero for the base programs. -/
def Chan.segTag (c : Chan) (s : Nat) : Nat := if c.segOwner s < 16 then c.tag (c.segOwner s) else 0

/-- Can a lookup in the segment hit: in use and RUNNING (R322, R48)? -/
def Chan.segLive (c : Chan) (s : Nat) : Bool := decide (c.segUse s ≠ 0) && c.running (0x100 + s)

/-- The RESULT of the lowest-numbered VALID entry of a segment that matches a key (R321). -/
def Chan.pfxSearch (c : Chan) (s key : Nat) : Option Nat :=
  if c.segLive s then
    (c.pfx.entries.find? (fun e => decide (e.1 / 512 = s ∧ (key ^^^ e.2.key) &&& e.2.mask = 0))).map (fun e => e.2.result)
  else none

/-- Entry e written (R324): valid with its contents, or invalid. -/
def Chan.pfxPut (c : Chan) (e : Nat) (x : Option PfxEntry) : Chan :=
  { c with pfx := { c.pfx with entries := match x with | some v => c.pfx.entries.put e v | none => c.pfx.entries.del e } }

/-- The 64-bit value of a lookup's result: bit 63 hit, bits [31:0] RESULT. -/
def lookupWord : Option Nat → Nat
  | some r => 2 ^ 63 + r % 2 ^ 32
  | none => 0

/-- A lookup counted (PFX_CNT). -/
def Chan.countLookup (c : Chan) (r : Option Nat) : Chan :=
  if r.isSome then c.bump Reg.PFX_CNT 63 32 1 else c.bump Reg.PFX_CNT 31 0 1

/-- POS of the channel in the ring. -/
def Chan.cascPos (c : Chan) : Nat := c.fget Reg.PFX_CASC_CFG 6 4

/-- CASC_STATE: 0 off, 1 up, 2 down. -/
def Chan.cascState (c : Chan) : Nat := if c.flag Reg.PFX_CASC_CFG 63 then (if c.pfx.casc = 2 then 2 else 1) else 0

/-- The 40 bytes of a cascade frame (R326). -/
def cascBytes (f : CascFrame) : List Byte :=
  let b := leBytes 1 (if f.probe then 2 else 1) ++ leBytes 1 (f.pos % 8 + f.hitPos % 8 * 8 + b2n f.hit * 64 + f.use % 2 * 128) ++ leBytes 1 f.seg ++
    leBytes 1 (f.seq % 128 * 2 + f.use / 2 % 2) ++ leBytes 4 f.tag ++ leBytes 16 f.key ++ leBytes 4 f.result ++ leBytes 8 0
  b ++ leBytes 4 (crc32c b)

/-- How long a frame may take to return, in ns (R327). -/
def cascTimeout : Nat := 10000

/-- A frame sent round the ring with the next sequence number, and its wait. -/
def Chan.cascSend (c : Chan) (who : LookupFor) (seg key : Nat) (local_ : Option Nat) (probe : Bool) : Chan :=
  let q := c.pfx.seq
  let f : CascFrame := { probe := probe, pos := c.cascPos, hitPos := if local_.isSome then c.cascPos else 0, hit := local_.isSome, use := if probe then 0 else c.segUse seg,
                         seg := seg, seq := q, tag := if probe then 0 else c.segTag seg, key := key, result := local_.getD 0, crcOk := true }
  ({ c with pfx := { c.pfx with seq := (q + 1) % 128, waits := c.pfx.waits ++ [({ seq := q, who := who, seg := seg, local_ := local_, due := c.time + cascTimeout, probe := probe } : CascWait)] } }).emit (.matchOut (cascBytes f))

/-- Does a lookup in the segment go round the ring (R326, R333)? -/
def Chan.cascades (c : Chan) (seg : Nat) : Bool :=
  c.segLive seg && c.flag (Reg.PFX_SEG_CFG seg) 61 && decide (c.segUse seg ≠ 2 ∧ c.cascState = 1)

/-- A lookup (R321, R326): its result at once, or none while its frame is on the ring. -/
def Chan.lookup (c : Chan) (seg key : Nat) (who : LookupFor) : Option (Option Nat) × Chan :=
  let r := c.pfxSearch seg key
  if c.cascades seg then (none, c.cascSend who seg key r false) else (some r, c.countLookup r)

end Sys2Proof.Machine
end

