-- ==== Sys2Proof/Machine/RelOps.lean ====
section
/-! DEFINITION. Isolation (R446). -/
namespace Sys2Proof.Machine
open Sys2Proof

/-- The channel isolates itself (R446): the cause, the time, and the event on its PF ring and on the PF0 ring. An isolated channel stays as it is. -/
def Chan.isolate (c : Chan) (cause : Nat) : Chan :=
  if c.rel.mode = .isolated then c
  else
    let hour := 3600000000000
    let c := { c with rel := { c.rel with mode := .isolated, isoAt := some c.time,
                                          isoTimes := c.time :: c.rel.isoTimes.filter (fun t => decide (c.time < t + hour)) } }
    let c := c.fset Reg.REL_STATE 15 8 cause
    (c.event 0xE007 none c.num cause).tellHub 0xE007 c.num cause

end Sys2Proof.Machine
end

