-- ==== Sys2Proof/Machine/GafOps.lean ====
section
/-! DEFINITION. The gaffer cores as a resource (chapter 8): the schedule, the invocations that wait, exceptions, ends, and preemption. -/
namespace Sys2Proof.Machine
open Sys2Proof

/-! ### The schedule (R224 to R226) -/

/-- The cores outside the schedule: BASE_CORES of the running schedule, within its range of 4 to 32. -/
def Chan.baseCores (c : Chan) : Nat := max 4 (min 32 c.gaf.runBase)

/-- Slot i of table A or B. -/
def schedRow (b : Bool) (i : Nat) : Nat := if b then Reg.GAF_SCHED_B i else Reg.GAF_SCHED_A i

/-- Does table B run (ACTIVE)? -/
def Chan.tableB (c : Chan) : Bool := c.flag Reg.GAF_SCHED_CTRL 61

/-- LENGTH of slot i of a table, in µs. -/
def Chan.slotLen (c : Chan) (b : Bool) (i : Nat) : Nat := c.fget (schedRow b i) 13 0

/-- The used slots of a table, ascending. -/
def Chan.usedSlots (c : Chan) (b : Bool) : List Nat := (List.range 64).filter (fun i => decide (0 < c.slotLen b i))

/-- The length of a table's frame in µs. -/
def Chan.frameLen (c : Chan) (b : Bool) : Nat := ((List.range 64).map (c.slotLen b)).sum

/-- CORES of the current slot; none while no schedule runs. -/
def Chan.slotCores (c : Chan) : Nat := if c.frameLen c.tableB = 0 then 0 else c.fget (schedRow c.tableB c.gaf.curSlot) 45 40

/-- Whom core k serves: 16 the base functions, a tenant slot that holds its reservation, 17 the pool. -/
def Chan.coreOwner (c : Chan) (k : Nat) : Nat :=
  if k < c.baseCores then 16
  else if k - c.baseCores < c.slotCores then
    let o := c.fget (schedRow c.tableB c.gaf.curSlot) 39 32
    if o ≤ 16 then o else 17
  else 17

/-- LAT of the current slot. -/
def Chan.slotLat (c : Chan) : Bool := c.flag (schedRow c.tableB c.gaf.curSlot) 63

/-- Is core k schedulable? -/
def Chan.schedulable (c : Chan) (k : Nat) : Bool := decide (c.baseCores ≤ k)

/-- QUANTUM in ns. -/
def Chan.quantum (c : Chan) : Nat := max 10 (c.fget Reg.GAF_SCHED_CTRL 31 16) * 1000

/-! ### Invocations that can run -/

/-- The owner of an invocation: its program's tenant slot, or 16 for a base or role program. -/
def Chan.ownerOf (c : Chan) (i : Invocation) : Nat :=
  match c.prog i.prog with
  | some p => if p.isTenant then p.tenant else 16
  | none => 16

/-- Invocations of program p that have started and not ended: on a core, or saved. -/
def Chan.started (c : Chan) (p : Nat) : Nat :=
  c.gaf.cores.countP (fun g => match g.2.inv with | some i => i.prog == p | none => false) +
  c.gaf.saved.countP (fun g => match g.1.inv with | some i => i.prog == p | none => false)

/-- May an invocation that waits for a core start (R215)? -/
def Chan.mayRun (c : Chan) (i : Invocation) : Bool :=
  match c.prog i.prog with
  | some p => !p.faulted && decide (c.started i.prog < max 1 p.coresMax)
  | none => false

/-- Has the wait of a saved invocation ended (R230)? -/
def Chan.waitOver (c : Chan) (g : GCore) : Bool :=
  match g.wait with
  | some (.counter k h target endAt _) =>
    decide (target ≤ c.ctrVal k) && (decide (h = 0) || c.named k h) || (match endAt with | some t => decide (t ≤ c.time) | none => false)
  | _ => true

/-- The runnable invocations, new and saved: each by its number, with its owner and whether it is a resident one. -/
def Chan.runnable (c : Chan) : List (Nat × Nat × Bool) :=
  (c.gaf.saved.filterMap (fun g => match g.1.inv with
    | some i => if c.waitOver g.1 then some (i.number, c.ownerOf i, i.resident) else none
    | none => none)) ++
  ((c.gaf.queue.filter c.mayRun).map (fun i => (i.number, c.ownerOf i, i.resident)))

/-- The lowest number among some. -/
def lowest : List (Nat × Nat × Bool) → Option Nat
  | [] => none
  | x :: t => some (t.foldl (fun m y => min m y.1) x.1)

/-- The invocation that the pool serves next: round-robin by tenant slot; a resident one keeps to its tenant's reservation (R216, R226). -/
def Chan.poolPick (c : Chan) : Option Nat :=
  let r := c.runnable.filter (fun x => decide (x.2.1 < 16) && !x.2.2)
  (List.range 16).findSome? (fun i => let t := (c.gaf.poolLast + 1 + i) % 16; lowest (r.filter (fun x => decide (x.2.1 = t))))

/-- The invocation that core k runs next (R226), by its number. -/
def Chan.pick (c : Chan) (k : Nat) : Option Nat :=
  let o := c.coreOwner k
  if o = 17 then c.poolPick
  else
    match lowest (c.runnable.filter (fun x => decide (x.2.1 = o))) with
    | some n => some n
    | none => if o < 16 ∧ !c.slotLat then c.poolPick else none

/-- The state in which an invocation starts (R214, R208). -/
def Chan.startState (c : Chan) (i : Invocation) (p : Prog) : GCore :=
  let ps : AMap W64 := (List.range 6).foldl (fun m j => m.set 0 (j + 1) (i.params.getD j 0)) []
  let s := (ps.set 0 7 (w64 (i.tslot + b2n i.pf * 2 ^ 63))).set 0 8 (w64 i.number)
  let pc := ((p.entries.find? (fun e => e.id == i.entry)).map (fun e => e.offset)).getD 0
  { GCore.init with st := .running, inv := some i, s := s, pc := pc, scratch := Memory.write [] 0 p.data, since := c.time, started := c.time }

/-- A saved invocation resumed (R222, R230): a wait whose target has been reached, or whose time is over, ends. -/
def Chan.resumed (c : Chan) (g : GCore) : GCore :=
  let g := { g with preempt := none, deferred := none, since := c.time, started := c.time, st := .running }
  match g.wait with
  | some (.counter k h target endAt rd) =>
    if target ≤ c.ctrVal k ∧ (h = 0 ∨ c.named k h) then g.endWait rd true c.time
    else match endAt with
      | some t => if t ≤ c.time then g.endWait rd false c.time else { g with st := .waiting }
      | none => { g with st := .waiting }
  | _ => g

/-- The invocation with a number placed on core k: a saved one is restored, a new one starts. -/
def Chan.place (c : Chan) (k number : Nat) : Chan :=
  let isIt := fun (i : Option Invocation) => match i with | some i => i.number == number | none => false
  let served := fun (c : Chan) (i : Invocation) =>
    if c.coreOwner k = c.ownerOf i then c else { c with gaf := { c.gaf with poolLast := c.ownerOf i } }
  match c.gaf.saved.find? (fun g => isIt g.1.inv) with
  | some g =>
    let c' := { c with gaf := { c.gaf with saved := c.gaf.saved.filter (fun g => !isIt g.1.inv) } }.setCore k (c.resumed g.1)
    match g.1.inv with
    | some i => served c' i
    | none => c'
  | none =>
    match c.gaf.queue.find? (fun i => i.number == number) with
    | none => c
    | some i =>
      match c.prog i.prog with
      | none => c
      | some p => served ({ c with gaf := { c.gaf with queue := c.gaf.queue.filter (fun i => !(i.number == number)) } }.setCore k (c.startState i p)) i

/-- Does an invocation start on core k now: the channel runs its cores, and ride-through does not hold the schedulable ones (R464)? -/
def Chan.coreOpen (c : Chan) (k : Nat) : Bool := c.serves && decide (k < 64) && !(c.riding && c.schedulable k)

/-- An idle core takes the invocation that it runs next. -/
def Chan.fillCore (c : Chan) (k : Nat) : Chan :=
  if (c.core k).inv.isNone && c.coreOpen k then
    match c.pick k with
    | some n => c.place k n
    | none => c
  else c

/-! ### The ends of an invocation -/

/-- The moves that an invocation has outstanding stop at a unit boundary that the spec does not fix, and what they have written stands (R220, R262). -/
def Chan.stopMoves (c : Chan) (k : Nat) : Chan :=
  (c.core k).asyncs.foldl (fun c a => match a with
    | .dmov _ d => let (n, c) := c.draw; (c.runMove k d (n % (d.units + 1))).2
    | .crypt _ _ => c) c

/-- A program becomes faulted (R221): the event, the end of the invocations that wait to start, and the isolation that a base or role program brings. -/
def Chan.progFault (c : Chan) (p code : Nat) : Chan :=
  match c.prog p with
  | none => c
  | some x =>
    let c := { c with gaf := { c.gaf with progs := c.gaf.progs.put p { x with faulted := true, excCode := code } } }
    let d := eventDef 0x6008
    let c := if x.isTenant then c.eventAs { d with sev := 2 } (some x.tenant) p code else c.eventAs d none p code
    let waiting := c.gaf.queue.filter (fun i => i.prog == p)
    let c := { c with gaf := { c.gaf with queue := c.gaf.queue.filter (fun i => !(i.prog == p)) } }
    let c := waiting.foldl (fun c i => c.completeOpt i.src 0x7A 0) c
    if x.isTenant then c else c.isolate 1

/-- A resident invocation has taken an exception (R221): a tenant program becomes faulted, a base or role entry is to be invoked again. -/
def Chan.residentExc (c : Chan) (i : Invocation) (p : Prog) (code : Nat) : Chan :=
  if p.isTenant then c.progFault i.prog code
  else
    let second := match p.lastExc with | some t => decide (c.time ≤ t + 1000 * ms) | none => false
    { c with gaf := { c.gaf with progs := c.gaf.progs.put i.prog { p with lastExc := some c.time },
                                 restarts := c.gaf.restarts.put (i.prog * 65536 + i.entry) (code + 256 * b2n second) } }

/-- The invocation on core k takes an exception (R220): it ends, with the completion, the counts and the event. -/
def Chan.exception (c : Chan) (k code off : Nat) : Chan :=
  match (c.core k).inv with
  | none => c
  | some i =>
    let c := (c.stopMoves k).setCore k GCore.init
    match c.prog i.prog with
    | none => c
    | some p =>
      let detail := code + off % 2 ^ 32 * 2 ^ 32
      let c := if i.resident then c else c.completeOpt i.src 0x70 detail
      let c := if p.isTenant then c.bump Reg.GAF_EXC_CNT 63 32 1 else c.bump Reg.GAF_EXC_CNT 31 0 1
      let c := if code = 8 then c.bump Reg.GAF_PREEMPT 31 0 1 else c
      let c := c.eventEvery ms 0x6003 i.prog (if p.isTenant then some p.tenant else none) (k + i.prog * 65536 + i.entry * 2 ^ 32) (fun _ => detail)
      if i.resident then c.residentExc i p code else c

/-- END takes effect (R214): the completion carries s1 and s2, and the core is released. -/
def Chan.finish (c : Chan) (k : Nat) : Chan :=
  let g := c.core k
  match g.inv with
  | none => c
  | some i =>
    let c := c.setCore k GCore.init
    if i.resident then c else c.completeOpt i.src ((g.s.getD 1 0).toNat % 256) (g.s.getD 2 0).toNat

/-! ### Preemption (R222, R223, R226, R228) -/

/-- Save areas in use, those that a requested preemption will fill included. -/
def Chan.areasUsed (c : Chan) : Nat := c.gaf.saved.length + c.gaf.cores.countP (fun g => g.2.preempt.isSome)

/-- The live state alone: registers, vectors and predicates that the masks name, and scratch below a number of 4 KiB units (R222, R259). -/
def GCore.live (g : GCore) (scr pmask vmask smask : Nat) : GCore :=
  { g with s := g.s.keep (fun n _ => smask.testBit (n - 1)), v := g.v.keep (fun n _ => vmask.testBit n), p := g.p &&& (2 * pmask),
           scratch := Memory.clear g.scratch (scr * 4096) 262144, lines := [] }

/-- The longest preemption (GAF_PREEMPT_MAX). -/
def Chan.markPreempt (c : Chan) (ns : Nat) : Chan :=
  let v := min ns (2 ^ 32 - 1)
  if c.fget Reg.GAF_PREEMPT_MAX 31 0 < v then c.fset Reg.GAF_PREEMPT_MAX 31 0 v else c

/-- The invocation on core k is saved with the state `g`, the core released, and the incoming invocation placed (R222). -/
def Chan.saveCore (c : Chan) (k : Nat) (g : GCore) : Chan :=
  let asked := g.preempt.getD c.time
  let g := { g with preempt := none, deferred := none, st := if g.wait.isSome then .waiting else .running, ran := if g.wait.isSome then g.ran else g.ran + (c.time - g.since) }
  let c := (c.setCore k GCore.init).bump Reg.GAF_PREEMPT 63 32 1
  let c := { c with gaf := { c.gaf with saved := c.gaf.saved ++ [(g, c.time)] } }
  let c' := c.fillCore k
  if (c'.core k).inv.isSome then c'.markPreempt (c.time - asked) else c'

/-- The deferred exception that is earliest in program order is taken (R238). -/
def Chan.takeDeferred (c : Chan) (k : Nat) : Option Chan :=
  match (c.core k).excs with
  | [] => none
  | (off, code) :: _ => some (c.exception k code off)

/-- A preemption requested of a core whose invocation waits for a counter begins, once its asynchronous work has completed (R222, R260); ride-through holds the
invocation on its core instead (R464). -/
def Chan.trySave (c : Chan) (k : Nat) : Chan :=
  let g := c.core k
  if g.preempt.isSome && decide (g.st = .waiting) && g.asyncs.isEmpty && !g.held then
    match c.takeDeferred k with
    | some c' => c'
    | none => c.saveCore k g
  else c

/-- A preemption of core k falls due (R223, R228): requested where a save area may be taken, else deferred, counted and reported. `kept`: it may take one of
the 64 areas kept for slot boundaries and LAT owners. -/
def Chan.requestPreempt (c : Chan) (k : Nat) (kept : Bool) : Chan :=
  let g := c.core k
  if g.inv.isNone || g.preempt.isSome then c
  else
    let free := 256 - c.areasUsed
    if (if kept then decide (0 < free) else decide (64 < free)) then (c.setCore k { g with preempt := some c.time, deferred := none }).trySave k
    else if g.deferred.isSome then c
    else
      let used := c.areasUsed
      ((c.setCore k { g with deferred := some (c.time, kept) }).bump Reg.GAF_PREEMPT_DEFER 63 32 1).eventEvery ms 0x600A 0 none k
        (fun n => used + n % 2 ^ 32 * 2 ^ 32)

/-- Every core whose owner differs from what it was is preempted, and an idle one serves its new owner (R226). -/
def Chan.reassign (c : Chan) (old : Nat → Nat) : Chan :=
  (List.range 64).foldl (fun c k => if c.coreOwner k = old k then c else if (c.core k).inv.isSome then c.requestPreempt k true else c) c

/-- Work of owner o waits: a core of its reservation that runs something else is reclaimed where none stands idle (R226). -/
def Chan.reclaim (c : Chan) (o : Nat) : Chan :=
  let mine := (List.range 64).filter (fun k => decide (c.baseCores ≤ k ∧ c.coreOwner k = o))
  if o ≥ 16 ∨ mine.any (fun k => (c.core k).inv.isNone) then c
  else
    match mine.find? (fun k => (c.core k).preempt.isNone && (c.core k).deferred.isNone &&
        (match (c.core k).inv with | some i => decide (c.ownerOf i ≠ o) | none => false)) with
    | some k => c.requestPreempt k c.slotLat
    | none => c

/-- A new invocation waits for a core, with the next number (R214, R215). -/
def Chan.invoke (c : Chan) (prog entry : Nat) (resident pf : Bool) (tslot : Nat) (src : Option Src) (params : List W64) : Chan :=
  let i : Invocation := ⟨prog, entry, resident, pf, tslot, c.gaf.nextInv, src, params⟩
  let c := { c with gaf := { c.gaf with queue := c.gaf.queue ++ [i], nextInv := c.gaf.nextInv + 1 } }
  c.reclaim (c.ownerOf i)

/-- The resident entries of a program are invoked (R216). -/
def Chan.invokeResidents (c : Chan) (prog : Nat) (p : Prog) : Chan :=
  (p.entries.filter (fun e => e.resident)).foldl (fun c e => c.invoke prog e.id true (!p.isTenant) p.tenant none []) c

/-! ### Triggers and programs -/

/-- A trigger fires (R218): it is released, and the armed entry invoked with the counter's reference in s1 and its value in s2. -/
def Chan.fire (c : Chan) (t : Trigger) : Chan :=
  match c.prog t.prog with
  | none => c
  | some p => if p.faulted then c else c.invoke t.prog t.entry false (!p.isTenant) p.tenant none [w64 t.ref, w64 (c.ctrVal t.ctr)]

/-- A tenant program removed (R213): its counters are released for another load to zero, its triggers disarmed, the receive counters that
queue pairs named in it forgotten (R299), and the event raised; `ten` says that a tenant reset did it. -/
def Chan.dropProg (c : Chan) (n : Nat) (byReset : Bool) : Chan :=
  match c.prog n with
  | none => c
  | some p =>
    let c := { c with gaf := { c.gaf with progs := c.gaf.progs.del n, triggers := c.gaf.triggers.keep (fun _ t => t.prog != n),
                                          restarts := c.gaf.restarts.keep (fun key _ => decide (key / 65536 ≠ n)) } }
    let c := { c with fab := { c.fab with conns := c.fab.conns.mapVals (fun _ x => match x.roce with
      | some q => if q.prog = n ∧ q.counter.isSome then { x with roce := some { q with counter := none } } else x
      | none => x) } }
    c.event 0x6009 (some p.tenant) n (b2n byReset)

/-- Does a program have an invocation waiting to start, running, waiting or saved? -/
def Chan.progBusy (c : Chan) (n : Nat) : Bool := decide (0 < c.started n) || c.gaf.queue.any (fun i => i.prog == n)

/-- The programs and invocations of a tenant slot end without completions (R213, R380, R398); `byReset` says that a tenant reset does it. -/
def Chan.dropTenantProgs (c : Chan) (t : Nat) (byReset : Bool) : Chan :=
  let mine := c.gaf.progs.keysWhere (fun _ p => p.isTenant && p.tenant == t)
  let isMine := fun (i : Option Invocation) => match i with | some i => mine.contains i.prog | none => false
  let c := (c.gaf.cores.keysWhere (fun _ g => isMine g.inv)).foldl (fun c k => (c.stopMoves k).setCore k GCore.init) c
  let c := { c with gaf := { c.gaf with queue := c.gaf.queue.filter (fun i => !mine.contains i.prog),
                                        saved := c.gaf.saved.filter (fun g => !isMine g.1.inv) } }
  mine.foldl (fun c n => c.dropProg n byReset) c

end Sys2Proof.Machine
end

