-- ==== Sys2Proof/Machine/Flags.lean ====
section
/-! DEFINITION. Predicates (R206, R236, R240): Bamfel has no condition flags, and comparisons write predicates. -/
namespace Sys2Proof.Machine
open Sys2Proof

/-- Predicate n of a core; p0 reads 1 (R206). -/
def GCore.pred (g : GCore) (n : Nat) : Bool := decide (n = 0) || g.p.testBit n

/-- Predicate d written; a write to p0 is discarded. -/
def GCore.setP (g : GCore) (d : Nat) (b : Bool) : GCore := { g with p := setPred g.p d b }

/-- Does an instruction with this guard execute (R236)? -/
def GCore.guard (g : GCore) (f : IFields) : Bool := g.pred f.gp != f.gn

/-- The condition codes of CMP and CMPI: EQ, NE, LTU, GEU, LTS, GES (R240). -/
def condHolds (code : Nat) (a b : W64) : Bool :=
  match code with
  | 0 => decide (a = b)
  | 1 => decide (a ≠ b)
  | 2 => decide (a.toNat < b.toNat)
  | 3 => decide (b.toNat ≤ a.toNat)
  | 4 => decide (a.toInt < b.toInt)
  | _ => decide (b.toInt ≤ a.toInt)

/-- The operations of PLOG: AND, OR, XOR, ANDN, NOT (R240). -/
def plog (code : Nat) (a b : Bool) : Bool :=
  match code with
  | 0 => a && b
  | 1 => a || b
  | 2 => a != b
  | 3 => a && !b
  | _ => !a

/-- p7 to p0 as a byte, with bit 0 reading 1 (PRD). -/
def GCore.predByte (g : GCore) : Nat := ((List.range 8).map (fun n => b2n (g.pred n) * 2 ^ n)).sum

end Sys2Proof.Machine
end

