-- ==== Sys2Proof/Machine/Operands.lean ====
section
/-! DEFINITION. The instruction word (R234, R259), the operand forms of every OP with the checks of R235, the registers that the operands name, and how an instruction
issues. -/
namespace Sys2Proof

/-- The fields of a word lie in their widths (R234). -/
def IFields.fits (f : IFields) : Bool := decide (f.gp < 8 ∧ f.d < 32 ∧ f.a < 32 ∧ f.b < 32 ∧ f.x < 32 ∧ f.i < 2 ^ 32)

/-- The instruction word of an OP and its fields (R234). -/
def wordOf (op : Nat) (f : IFields) : W64 :=
  w64 (op * 2 ^ 56 + b2n f.gn * 2 ^ 55 + f.gp * 2 ^ 52 + f.d * 2 ^ 47 + f.a * 2 ^ 42 + f.b * 2 ^ 37 + f.x * 2 ^ 32 + f.i)

/-- OP of a word. -/
def opOf (w : W64) : Nat := bits w.toNat 63 56

/-- The fields of a word below OP. -/
def fieldsOf (w : W64) : IFields :=
  { gn := w.toNat.testBit 55, gp := bits w.toNat 54 52, d := bits w.toNat 51 47, a := bits w.toNat 46 42, b := bits w.toNat 41 37, x := bits w.toNat 36 32,
    i := bits w.toNat 31 0 }

/-- The word of a YIELD (R259). -/
def yieldWord (scr pmask vmask smask : Nat) : W64 := w64 (7 * 2 ^ 61 + scr * 2 ^ 54 + pmask * 2 ^ 47 + vmask * 2 ^ 31 + smask)

/-- SCR, PMASK, VMASK and SMASK of a YIELD word. -/
def yieldOf (w : W64) : Nat × Nat × Nat × Nat := (bits w.toNat 60 54, bits w.toNat 53 47, bits w.toNat 46 31, bits w.toNat 30 0)

end Sys2Proof

namespace Sys2Proof.Machine
open Sys2Proof

/-! ### Operand forms (R235) -/

/-- What a register field of an instruction holds: nothing, a scalar, a vector, a predicate, or a code up to `last`. -/
inductive Use where
  | none_
  | s
  | v
  | p
  | code (last : Nat)
  deriving DecidableEq, Repr

/-- Is the field's value one that its use defines? -/
def Use.ok : Use → Nat → Bool
  | .none_, n => decide (n = 0)
  | .s, n => decide (n < 32)
  | .v, n => decide (n < 16)
  | .p, n => decide (n < 8)
  | .code m, n => decide (n ≤ m)

/-- The operand form of an OP: the use of D, A, B and X, and the bits of I that may be set. -/
structure Form where
  d : Use
  a : Use
  b : Use
  x : Use
  imm : Nat
  deriving DecidableEq, Repr

/-- All of I. -/
def immAll : Nat := 0xFFFFFFFF

/-- The forms of the scalar, predicate and branch instructions (R240, R241). -/
def scalarForms : List (Nat × Form) :=
  ((List.range 15).map (fun i => (i + 1, (⟨.s, .s, .s, .none_, 0⟩ : Form)))) ++
  [(0x00, ⟨.none_, .none_, .none_, .none_, 0⟩), (0x10, ⟨.s, .s, .none_, .none_, immAll⟩), (0x11, ⟨.s, .s, .none_, .none_, immAll⟩),
   (0x12, ⟨.s, .s, .none_, .none_, immAll⟩), (0x13, ⟨.s, .s, .none_, .none_, immAll⟩), (0x14, ⟨.s, .s, .none_, .none_, 0x3F⟩),
   (0x15, ⟨.s, .s, .none_, .none_, 0x3F⟩), (0x16, ⟨.s, .s, .none_, .none_, 0x3F⟩), (0x17, ⟨.s, .none_, .none_, .none_, immAll⟩),
   (0x18, ⟨.s, .none_, .none_, .none_, immAll⟩), (0x19, ⟨.s, .s, .none_, .none_, 0x3F3F⟩), (0x1A, ⟨.s, .s, .none_, .none_, 0x3F3F⟩),
   (0x1B, ⟨.s, .s, .none_, .none_, 0⟩), (0x1C, ⟨.s, .s, .none_, .none_, 0⟩), (0x1D, ⟨.s, .s, .s, .p, 0⟩), (0x1E, ⟨.s, .none_, .none_, .none_, 0⟩),
   (0x1F, ⟨.s, .none_, .none_, .none_, immAll⟩), (0x20, ⟨.p, .s, .s, .code 5, 0⟩), (0x21, ⟨.p, .s, .none_, .code 5, immAll⟩),
   (0x22, ⟨.p, .p, .p, .code 4, 0⟩), (0x23, ⟨.s, .none_, .none_, .none_, 0⟩), (0x40, ⟨.none_, .none_, .none_, .none_, immAll⟩),
   (0x41, ⟨.s, .none_, .none_, .none_, immAll⟩), (0x42, ⟨.none_, .s, .none_, .none_, 0⟩), (0x43, ⟨.s, .none_, .none_, .none_, immAll⟩),
   (0x44, ⟨.none_, .none_, .none_, .none_, 0⟩)]

/-- The forms of the scratch and vector instructions (R243 to R247). -/
def vectorForms : List (Nat × Form) :=
  [(0x50, ⟨.s, .s, .none_, .code 7, immAll⟩), (0x51, ⟨.none_, .s, .s, .code 3, immAll⟩), (0x52, ⟨.v, .s, .none_, .none_, immAll⟩),
   (0x53, ⟨.none_, .s, .v, .none_, immAll⟩), (0x60, ⟨.v, .v, .v, .code 3, 0⟩), (0x61, ⟨.v, .v, .v, .code 3, 0⟩), (0x62, ⟨.v, .v, .v, .code 3, 0⟩),
   (0x63, ⟨.v, .v, .v, .none_, 0⟩), (0x64, ⟨.v, .v, .v, .none_, 0⟩), (0x65, ⟨.v, .v, .v, .none_, 0⟩), (0x66, ⟨.v, .v, .none_, .code 3, 0x3F⟩),
   (0x67, ⟨.v, .v, .none_, .code 3, 0x3F⟩), (0x68, ⟨.v, .s, .none_, .code 3, 0⟩), (0x69, ⟨.s, .v, .none_, .code 3, immAll⟩),
   (0x6A, ⟨.v, .s, .none_, .code 3, immAll⟩), (0x6B, ⟨.v, .v, .v, .none_, 0⟩), (0x6C, ⟨.v, .v, .v, .none_, 0⟩), (0x6D, ⟨.v, .v, .v, .none_, 0⟩),
   (0x6E, ⟨.v, .v, .v, .none_, 0⟩), (0x6F, ⟨.v, .v, .v, .none_, 0⟩), (0x70, ⟨.s, .v, .none_, .none_, 0⟩), (0x71, ⟨.v, .v, .s, .s, 0x1F⟩),
   (0x72, ⟨.v, .v, .s, .none_, 0xF⟩), (0x73, ⟨.v, .v, .v, .none_, 0⟩), (0x74, ⟨.v, .v, .none_, .none_, 0xFF⟩)]

/-- OP of DMOV, which the spec does not give (PRESUMED from the numbering of the classes). -/
def opDmov : Nat := 0x80

/-- OP of CRYPT, which the spec does not give (PRESUMED likewise). -/
def opCrypt : Nat := 0xC0

/-- The forms of the move, table, event, search, crypto and packet instructions (R249 to R256). -/
def systemForms : List (Nat × Form) :=
  [(opDmov, ⟨.none_, .s, .none_, .none_, 0⟩), (0x90, ⟨.s, .s, .none_, .p, 0xF⟩), (0x91, ⟨.s, .s, .s, .s, 0xF⟩), (0x92, ⟨.s, .s, .none_, .none_, immAll⟩),
   (0x93, ⟨.none_, .s, .s, .none_, immAll⟩), (0x94, ⟨.s, .s, .s, .s, 0⟩), (0x95, ⟨.s, .s, .s, .none_, 0⟩), (0xA0, ⟨.none_, .s, .s, .none_, 0⟩),
   (0xA1, ⟨.none_, .s, .none_, .none_, immAll⟩), (0xA2, ⟨.p, .s, .s, .s, 0⟩), (0xA3, ⟨.s, .s, .s, .none_, 0xFFFF⟩), (0xA4, ⟨.none_, .s, .none_, .none_, 0⟩),
   (0xA5, ⟨.none_, .none_, .none_, .none_, 0⟩), (0xA6, ⟨.s, .s, .none_, .none_, 0⟩), (0xB0, ⟨.s, .v, .s, .none_, 0⟩), (0xB1, ⟨.p, .s, .v, .s, 0⟩),
   (opCrypt, ⟨.none_, .s, .none_, .none_, 0⟩), (0xD0, ⟨.s, .none_, .none_, .none_, 0⟩), (0xD1, ⟨.none_, .s, .none_, .none_, 0⟩), (0xD2, ⟨.s, .s, .none_, .none_, 0⟩),
   (0xD3, ⟨.s, .s, .s, .code 3, immAll⟩), (0xD4, ⟨.code 3, .s, .s, .s, immAll⟩), (0xD5, ⟨.v, .s, .s, .none_, immAll⟩), (0xD6, ⟨.none_, .s, .s, .v, immAll⟩),
   (0xD7, ⟨.v, .s, .none_, .none_, 0⟩), (0xD8, ⟨.s, .s, .v, .s, 0⟩), (0xD9, ⟨.none_, .s, .s, .none_, 0⟩)]

/-- The operand form of an OP; none where the OP is not listed. -/
def formOf (op : Nat) : Option Form := ((scalarForms ++ vectorForms ++ systemForms).find? (fun e => e.1 == op)).map (fun e => e.2)

/-- Do the fields hold what the form defines, with every unused field zero (R235)? -/
def Form.ok (m : Form) (f : IFields) : Bool :=
  m.d.ok f.d && m.a.ok f.a && m.b.ok f.b && m.x.ok f.x && decide (f.i &&& m.imm = f.i)

/-- The lanes of a width code (R244). -/
def laneCount (w : Nat) : Nat := 64 / 2 ^ w

/-- What R235 checks of some words beyond the form: the selector of RDID, B of PLOG NOT, the lane of VEXT and VINS, the formats of VQNT and VDQNT, B of VQNT for a
format without a static scale, and an even D of VDQNT. -/
def codedOk (op : Nat) (f : IFields) : Bool :=
  match op with
  | 0x1F => decide (f.i ≤ 4)
  | 0x22 => decide (f.x = 4 → f.b = 0)
  | 0x69 => decide (f.i < laneCount f.x)
  | 0x6A => decide (f.i < laneCount f.x)
  | 0x71 => decide (f.i % 16 ≤ 4 ∧ (2 ≤ f.i % 16 → f.b = 0))
  | 0x72 => decide (f.i ≤ 4 ∧ f.d % 2 = 0)
  | _ => true

/-- Does a word of this OP and fields pass R235? -/
def wordOk (op : Nat) (f : IFields) : Bool :=
  match formOf op with
  | some m => m.ok f && codedOk op f
  | none => false

/-! ### Registers (R206) -/

/-- Scalar register n; s0 reads zero. -/
def GCore.sreg (g : GCore) (n : Nat) : W64 := if n = 0 then 0 else g.s.getD n 0

/-- Scalar register d written; a write to s0 is discarded. -/
def GCore.setS (g : GCore) (d : Nat) (v : W64) : GCore := if d = 0 then g else { g with s := g.s.set 0 d v }

/-- Vector register n. -/
def GCore.vreg (g : GCore) (n : Nat) : BitVec 512 := g.v.getD n 0

/-- Vector register d written. -/
def GCore.setV (g : GCore) (d : Nat) (v : BitVec 512) : GCore := { g with v := g.v.set 0 d v }

/-- I sign-extended to 64 bits (R240). -/
def sext (i : Nat) : W64 := (BitVec.ofNat 32 i).signExtend 64

/-- I zero-extended to 64 bits. -/
def zext (i : Nat) : W64 := w64 (i % 2 ^ 32)

/-- The next instruction follows in the text. -/
def GCore.next (g : GCore) : GCore := { g with pc := g.pc + 8 }

/-! ### Issue (R206, R209, R235, R236, R242) -/

/-- TEXT_BYTES of a program; the base programs' text is not given, and any 32-bit offset lies in it. -/
def Prog.textEnd (p : Prog) : Nat := if p.text.isEmpty then 2 ^ 32 else p.text.length

/-- Where the text of a program lies in HBM. -/
def Prog.textAt (p : Prog) : Nat := p.imgAt + 128 + 16 * p.entries.length

/-- The line of text that the core needs next is in its instruction cache, or is filled from HBM, which may meet an uncorrectable error (R209): the flag says
that the instruction can execute. The cache keeps the 256 lines filled last. -/
def Chan.fetchLine (c : Chan) (k : Nat) (p : Prog) : Bool × Chan :=
  let g := c.core k
  let line := p.textAt + g.pc / 256 * 256
  if p.imgLen = 0 ∨ g.lines.contains line then (true, c)
  else
    let (ok, c) := c.eccRead line (min 256 (p.text.length - g.pc / 256 * 256)) 8
    (ok, if ok then c.setCore k { g with lines := (line :: g.lines).take 256 } else c)

/-- Core k issues an instruction of the invocation that it runs, if it can issue one now. -/
def Chan.onCore (c : Chan) (k : Nat) (body : Chan → GCore → Prog → Chan) : Chan :=
  let g := c.core k
  match g.inv.bind (fun i => c.prog i.prog) with
  | none => c
  | some p =>
    if !(c.serves && decide (k < 64 ∧ g.st = .running) && g.wait.isNone && !g.held) then c
    else if p.textEnd ≤ g.pc then c.exception k 1 g.pc
    else
      let (ok, c) := c.fetchLine k p
      if ok then body c (c.core k) p else c.exception k 0x0A g.pc

/-- Core k replaced, with the offset of the next instruction. -/
def Chan.stepCore (c : Chan) (k : Nat) (g : GCore) : Chan := c.setCore k g.next

/-- An instruction of OP with its fields: exception 0x01 where R235 says so; nothing where its guard does not hold; else its effect. Fields too wide for a word
are no instruction. -/
def Chan.instr (c : Chan) (k op : Nat) (f : IFields) (body : Chan → GCore → Prog → Chan) : Chan :=
  if !f.fits then c
  else c.onCore k (fun c g p =>
    if !wordOk op f then c.exception k 1 g.pc
    else if g.guard f then body c g p
    else c.stepCore k g)

/-- An instruction whose whole effect is on the registers of its core. -/
def Chan.regInstr (c : Chan) (k op : Nat) (f : IFields) (h : GCore → GCore) : Chan := c.instr k op f (fun c g _ => c.stepCore k (h g))

end Sys2Proof.Machine
end

