-- ==== Sys2Proof/Machine/Scalar.lean ====
section
/-! DEFINITION. The meanings of the scalar, predicate and branch instructions (R240 to R242). -/
namespace Sys2Proof.Machine
open Sys2Proof

/-- sD = h a b. -/
def Chan.alu (c : Chan) (k op : Nat) (f : IFields) (h : W64 → W64 → W64) : Chan :=
  c.regInstr k op f (fun g => g.setS f.d (h (g.sreg f.a) (g.sreg f.b)))

/-- sD = h a. -/
def Chan.alu1 (c : Chan) (k op : Nat) (f : IFields) (h : W64 → W64) : Chan :=
  c.regInstr k op f (fun g => g.setS f.d (h (g.sreg f.a)))

/-- The unsigned division of DIVU. -/
def divU (a b : W64) : W64 := if b = 0 then BitVec.allOnes 64 else w64 (a.toNat / b.toNat)

/-- The unsigned remainder of REMU. -/
def remU (a b : W64) : W64 := if b = 0 then a else w64 (a.toNat % b.toNat)

/-- High 64 bits of the unsigned product. -/
def mulHU (a b : W64) : W64 := w64 (a.toNat * b.toNat / 2 ^ 64)

/-- High 64 bits of the signed product. -/
def mulHS (a b : W64) : W64 := BitVec.ofInt 64 (a.toInt * b.toInt / 2 ^ 64)

/-- Leading zero bits. -/
def clz (a : W64) : Nat := if a.toNat = 0 then 64 else 63 - a.toNat.log2

/-- One bits. -/
def popc (a : W64) : Nat := (List.range 64).countP (fun i => a.toNat.testBit i)

/-- The width of EXTR and INSR: 0 stands for 64. -/
def fieldWidth (i : Nat) : Nat := if bits i 13 8 = 0 then 64 else bits i 13 8

/-- EXTR: w bits of a from bit I[5:0]. -/
def extr (i : Nat) (a : W64) : W64 := w64 (a.toNat / 2 ^ (i % 64) % 2 ^ fieldWidth i)

/-- INSR: the low w bits of a in d from bit I[5:0], with bits above 63 dropped. -/
def insr (i : Nat) (a d : W64) : W64 :=
  let mask := w64 ((2 ^ fieldWidth i - 1) * 2 ^ (i % 64))
  (d &&& ~~~mask) ||| (w64 (a.toNat * 2 ^ (i % 64)) &&& mask)

/-- NOP; and a word whose OP is not listed, which raises exception 0x01 (R235). A word of another listed OP is that instruction's own command. -/
def execNop (c : ChId) (k op : Nat) (f : IFields) (s : State) : Host.Outcome State Fault Refusal :=
  onCh c (fun x =>
    if op = 0 ∨ (op < 0xE0 ∧ (formOf op).isNone) then x.regInstr k op f id else x) s

/-- ADD. -/
def execIAdd (c : ChId) (k : Nat) (f : IFields) (s : State) : Host.Outcome State Fault Refusal := onCh c (fun x => x.alu k 0x01 f (fun a b => a + b)) s

/-- SUB. -/
def execISub (c : ChId) (k : Nat) (f : IFields) (s : State) : Host.Outcome State Fault Refusal := onCh c (fun x => x.alu k 0x02 f (fun a b => a - b)) s

/-- MUL. -/
def execIMul (c : ChId) (k : Nat) (f : IFields) (s : State) : Host.Outcome State Fault Refusal := onCh c (fun x => x.alu k 0x03 f (fun a b => a * b)) s

/-- MULHU. -/
def execIMulhu (c : ChId) (k : Nat) (f : IFields) (s : State) : Host.Outcome State Fault Refusal := onCh c (fun x => x.alu k 0x04 f mulHU) s

/-- MULHS. -/
def execIMulhs (c : ChId) (k : Nat) (f : IFields) (s : State) : Host.Outcome State Fault Refusal := onCh c (fun x => x.alu k 0x05 f mulHS) s

/-- DIVU. -/
def execIDivu (c : ChId) (k : Nat) (f : IFields) (s : State) : Host.Outcome State Fault Refusal := onCh c (fun x => x.alu k 0x06 f divU) s

/-- REMU. -/
def execIRemu (c : ChId) (k : Nat) (f : IFields) (s : State) : Host.Outcome State Fault Refusal := onCh c (fun x => x.alu k 0x07 f remU) s

/-- AND. -/
def execIAnd (c : ChId) (k : Nat) (f : IFields) (s : State) : Host.Outcome State Fault Refusal := onCh c (fun x => x.alu k 0x08 f (fun a b => a &&& b)) s

/-- OR. -/
def execIOr (c : ChId) (k : Nat) (f : IFields) (s : State) : Host.Outcome State Fault Refusal := onCh c (fun x => x.alu k 0x09 f (fun a b => a ||| b)) s

/-- XOR. -/
def execIXor (c : ChId) (k : Nat) (f : IFields) (s : State) : Host.Outcome State Fault Refusal := onCh c (fun x => x.alu k 0x0A f (fun a b => a ^^^ b)) s

/-- SHL. -/
def execIShl (c : ChId) (k : Nat) (f : IFields) (s : State) : Host.Outcome State Fault Refusal :=
  onCh c (fun x => x.alu k 0x0B f (fun a b => a <<< (b.toNat % 64))) s

/-- SHR. -/
def execIShr (c : ChId) (k : Nat) (f : IFields) (s : State) : Host.Outcome State Fault Refusal :=
  onCh c (fun x => x.alu k 0x0C f (fun a b => a >>> (b.toNat % 64))) s

/-- SAR. -/
def execISar (c : ChId) (k : Nat) (f : IFields) (s : State) : Host.Outcome State Fault Refusal :=
  onCh c (fun x => x.alu k 0x0D f (fun a b => a.sshiftRight (b.toNat % 64))) s

/-- MINU. -/
def execIMinu (c : ChId) (k : Nat) (f : IFields) (s : State) : Host.Outcome State Fault Refusal :=
  onCh c (fun x => x.alu k 0x0E f (fun a b => if a.toNat ≤ b.toNat then a else b)) s

/-- MAXU. -/
def execIMaxu (c : ChId) (k : Nat) (f : IFields) (s : State) : Host.Outcome State Fault Refusal :=
  onCh c (fun x => x.alu k 0x0F f (fun a b => if a.toNat ≤ b.toNat then b else a)) s

/-- ADDI. -/
def execIAddi (c : ChId) (k : Nat) (f : IFields) (s : State) : Host.Outcome State Fault Refusal := onCh c (fun x => x.alu1 k 0x10 f (fun a => a + sext f.i)) s

/-- ANDI. -/
def execIAndi (c : ChId) (k : Nat) (f : IFields) (s : State) : Host.Outcome State Fault Refusal := onCh c (fun x => x.alu1 k 0x11 f (fun a => a &&& zext f.i)) s

/-- ORI. -/
def execIOri (c : ChId) (k : Nat) (f : IFields) (s : State) : Host.Outcome State Fault Refusal := onCh c (fun x => x.alu1 k 0x12 f (fun a => a ||| zext f.i)) s

/-- XORI. -/
def execIXori (c : ChId) (k : Nat) (f : IFields) (s : State) : Host.Outcome State Fault Refusal := onCh c (fun x => x.alu1 k 0x13 f (fun a => a ^^^ zext f.i)) s

/-- SHLI. -/
def execIShli (c : ChId) (k : Nat) (f : IFields) (s : State) : Host.Outcome State Fault Refusal := onCh c (fun x => x.alu1 k 0x14 f (fun a => a <<< (f.i % 64))) s

/-- SHRI. -/
def execIShri (c : ChId) (k : Nat) (f : IFields) (s : State) : Host.Outcome State Fault Refusal := onCh c (fun x => x.alu1 k 0x15 f (fun a => a >>> (f.i % 64))) s

/-- SARI. -/
def execISari (c : ChId) (k : Nat) (f : IFields) (s : State) : Host.Outcome State Fault Refusal :=
  onCh c (fun x => x.alu1 k 0x16 f (fun a => a.sshiftRight (f.i % 64))) s

/-- MOVI. -/
def execIMovi (c : ChId) (k : Nat) (f : IFields) (s : State) : Host.Outcome State Fault Refusal := onCh c (fun x => x.alu1 k 0x17 f (fun _ => zext f.i)) s

/-- MOVHI. -/
def execIMovhi (c : ChId) (k : Nat) (f : IFields) (s : State) : Host.Outcome State Fault Refusal :=
  onCh c (fun x => x.regInstr k 0x18 f (fun g => g.setS f.d (w64 ((g.sreg f.d).toNat % 2 ^ 32 + f.i * 2 ^ 32)))) s

/-- EXTR. -/
def execIExtr (c : ChId) (k : Nat) (f : IFields) (s : State) : Host.Outcome State Fault Refusal := onCh c (fun x => x.alu1 k 0x19 f (extr f.i)) s

/-- INSR. -/
def execIInsr (c : ChId) (k : Nat) (f : IFields) (s : State) : Host.Outcome State Fault Refusal :=
  onCh c (fun x => x.regInstr k 0x1A f (fun g => g.setS f.d (insr f.i (g.sreg f.a) (g.sreg f.d)))) s

/-- CLZ. -/
def execIClz (c : ChId) (k : Nat) (f : IFields) (s : State) : Host.Outcome State Fault Refusal := onCh c (fun x => x.alu1 k 0x1B f (fun a => w64 (clz a))) s

/-- POPC. -/
def execIPopc (c : ChId) (k : Nat) (f : IFields) (s : State) : Host.Outcome State Fault Refusal := onCh c (fun x => x.alu1 k 0x1C f (fun a => w64 (popc a))) s

/-- SEL. -/
def execISel (c : ChId) (k : Nat) (f : IFields) (s : State) : Host.Outcome State Fault Refusal :=
  onCh c (fun x => x.regInstr k 0x1D f (fun g => g.setS f.d (if g.pred f.x then g.sreg f.a else g.sreg f.b))) s

/-- RDTIME. -/
def execIRdtime (c : ChId) (k : Nat) (f : IFields) (s : State) : Host.Outcome State Fault Refusal :=
  onCh c (fun x => x.instr k 0x1E f (fun x g _ => x.stepCore k (g.setS f.d (w64 x.time)))) s

/-- What RDID reads. -/
def Chan.idOf (c : Chan) (k : Nat) (g : GCore) : Nat → W64
  | 0 => w64 k
  | 1 => w64 (c.rd Reg.CHN_EID)
  | 2 => w64 c.num
  | 3 => w64 ((g.inv.map (fun i => i.prog)).getD 0)
  | _ => w64 ((g.inv.map (fun i => i.number)).getD 0)

/-- RDID. -/
def execIRdid (c : ChId) (k : Nat) (f : IFields) (s : State) : Host.Outcome State Fault Refusal :=
  onCh c (fun x => x.instr k 0x1F f (fun x g _ => x.stepCore k (g.setS f.d (x.idOf k g f.i)))) s

/-- CMP. -/
def execICmp (c : ChId) (k : Nat) (f : IFields) (s : State) : Host.Outcome State Fault Refusal :=
  onCh c (fun x => x.regInstr k 0x20 f (fun g => g.setP f.d (condHolds f.x (g.sreg f.a) (g.sreg f.b)))) s

/-- CMPI. -/
def execICmpi (c : ChId) (k : Nat) (f : IFields) (s : State) : Host.Outcome State Fault Refusal :=
  onCh c (fun x => x.regInstr k 0x21 f (fun g => g.setP f.d (condHolds f.x (g.sreg f.a) (sext f.i)))) s

/-- PLOG. -/
def execIPlog (c : ChId) (k : Nat) (f : IFields) (s : State) : Host.Outcome State Fault Refusal :=
  onCh c (fun x => x.regInstr k 0x22 f (fun g => g.setP f.d (plog f.x (g.pred f.a) (g.pred f.b)))) s

/-- PRD. -/
def execIPrd (c : ChId) (k : Nat) (f : IFields) (s : State) : Host.Outcome State Fault Refusal :=
  onCh c (fun x => x.regInstr k 0x23 f (fun g => g.setS f.d (w64 g.predByte))) s

/-! ### Branches (R241, R242) -/

/-- A branch to an offset: exception 0x01, and no effect, where it is not an instruction of the text. -/
def Chan.branchTo (c : Chan) (k : Nat) (g : GCore) (p : Prog) (target : Int) (h : GCore → GCore) : Chan :=
  if 0 ≤ target ∧ target % 8 = 0 ∧ target < p.textEnd then c.setCore k { h g with pc := target.toNat } else c.exception k 1 g.pc

/-- pc + sext(I) × 8. -/
def relTarget (g : GCore) (i : Nat) : Int := g.pc + (BitVec.ofNat 32 i).toInt * 8

/-- BR. -/
def execIBr (c : ChId) (k : Nat) (f : IFields) (s : State) : Host.Outcome State Fault Refusal :=
  onCh c (fun x => x.instr k 0x40 f (fun x g p => x.branchTo k g p (relTarget g f.i) id)) s

/-- CALL. -/
def execICall (c : ChId) (k : Nat) (f : IFields) (s : State) : Host.Outcome State Fault Refusal :=
  onCh c (fun x => x.instr k 0x41 f (fun x g p => x.branchTo k g p (relTarget g f.i) (fun h => h.setS f.d (w64 (g.pc + 8))))) s

/-- JMP. -/
def execIJmp (c : ChId) (k : Nat) (f : IFields) (s : State) : Host.Outcome State Fault Refusal :=
  onCh c (fun x => x.instr k 0x42 f (fun x g p => x.branchTo k g p (g.sreg f.a).toNat id)) s

/-- LOOP. -/
def execILoop (c : ChId) (k : Nat) (f : IFields) (s : State) : Host.Outcome State Fault Refusal :=
  onCh c (fun x => x.instr k 0x43 f (fun x g p =>
    let d := g.sreg f.d - 1
    if d = 0 then x.stepCore k (g.setS f.d d) else x.branchTo k g p (relTarget g f.i) (fun h => h.setS f.d d))) s

end Sys2Proof.Machine
end

