-- ==== Sys2Proof/Machine/TierOps.lean ====
section
/-! DEFINITION. Tier objects, tier messages and coded fragments (chapter 13), as operations that several command families share. -/
namespace Sys2Proof.Machine
open Sys2Proof

/-! ### Tier objects (R339, R341, R344) -/

/-- AAD of an object's seal (R341): REQUEST_ID, TENANT_TAG, EPOCH, GROUP and TIER. -/
def objectAad (req tag epoch group tier : Nat) : List Byte := leBytes 8 req ++ leBytes 4 tag ++ leBytes 4 epoch ++ leBytes 4 group ++ leBytes 1 tier

/-- The shadow key (R449). -/
def Chan.shadowKey (c : Chan) : List Byte := c.pairKey c.rel.peer "SHADOW"

/-- A seal as the mirrored operation SEAL (R449): the plaintext, of which a message holds 8,000 bytes, under the shadow key and a counter of its own. -/
def Chan.mirrorSeal (c : Chan) (text : List Byte) : Chan :=
  if c.rel.part ≠ 2 ∨ c.rel.ops ≤ c.rel.count then c
  else if (c.rel.seenOps + 1) % max 1 c.rel.sample ≠ 0 then c.mirror 4 [] [] []
  else
    let (v, c) := c.nextSeal
    let t := text.take 8000
    let (ct, tag) := gcmSeal c.shadowKey (ivOf (c.fget Reg.CHN_EID 17 0) v) [] t
    c.mirror 4 (beBytes 4 t.length) (leBytes 8 v ++ t) (ct ++ tag)

/-- A body sealed under the tenant's storage key (R341): the IV, the ciphertext and the tag. -/
def Chan.sealWith (c : Chan) (key aad text : List Byte) : (List Byte × List Byte × List Byte) × Chan :=
  let (v, c) := c.nextSeal
  let iv := ivOf (c.fget Reg.CHN_EID 17 0) v
  let (ct, tag) := gcmSeal key iv aad text
  ((iv, ct, tag), c.mirrorSeal text)

/-- Bytes that an object takes in its tier: the object and its tag, in 4 KiB granules. -/
def TierObj.room (o : TierObj) : Nat := o.charge * 4096

/-- The lowest offset, in steps of 4 KiB, at which `n` bytes are free below `top`, among the ranges in use. -/
def freeRange (used : List (Nat × Nat)) (n top : Nat) : Option Nat :=
  (sortBy (fun a b => decide (a ≤ b)) (0 :: used.map (fun e => e.1 + e.2))).find? (fun a => decide (a + n ≤ top) && !used.any (fun e => decide (e.1 < a + n ∧ a < e.1 + e.2)))

/-- Room for an object in lease i. -/
def Chan.leaseRoom (c : Chan) (i n : Nat) : Option Nat :=
  match c.tiers.leases.find i with
  | none => none
  | some l => freeRange ((c.tiers.objs.filter (fun e => e.2.t1 && decide (e.2.lease = i))).map (fun e => (e.2.addr, e.2.room))) n (l.slabs * (2 * mib))

/-- Room for an object in the T2 pool, as a host bus address. -/
def Chan.t2Room (c : Chan) (n : Nat) : Option Nat :=
  (freeRange ((c.tiers.objs.filter (fun e => !e.2.t1)).map (fun e => (e.2.addr - c.tiers.t2Base, e.2.room))) n (c.tiers.t2Units * (2 * mib))).map
    (fun a => c.tiers.t2Base + a)

/-- A free object number, with the block of 64 records that holds it drawn from the page-group-table pool where it is missing (R339). -/
def Chan.newObj (c : Chan) : Option (Nat × Chan) :=
  match (List.range (c.tiers.objs.length + 1)).find? (fun n => (c.tiers.objs.find n).isNone) with
  | none => none
  | some n =>
    if 1048576 ≤ n then none
    else if (c.tiers.objBlocks.find (n / 64)).isSome then some (n, c)
    else (c.findBlock 4096).map (fun a => (n, { c with tiers := { c.tiers with objBlocks := c.tiers.objBlocks.put (n / 64) a },
                                                       pool := { c.pool with blocks := c.pool.blocks.put a 4096 } }))

/-- A load or store of base-domain region memory of a peer (R282): the region's REGION field and the byte within it. -/
def baseOp (work : Work) (opcode peer word byte : Nat) (data : List Byte) : TxOp :=
  let (n, k, g) := regionOfWord word
  TxOp.of (.work work) opcode (peer * 2 ^ 46 + 3 * 2 ^ 44 + 2 * 2 ^ 42 + byte) k g n data

/-- A load of n bytes. -/
def baseLoad (work : Work) (peer word byte n : Nat) : TxOp := { baseOp work 3 peer word byte [] with len := n }

/-! ### Schemes and shares (R350, R351) -/

/-- k of a scheme. -/
def schemeK (red : Nat) : Nat := if red = 1 then 1 else if red = 2 then 4 else if red = 3 then 8 else 0

/-- m of a scheme. -/
def schemeM (red : Nat) : Nat := if red = 2 ∨ red = 3 then 2 else 0

/-- Holders of a scheme. -/
def schemeN (red : Nat) : Nat := schemeK red + schemeM red

/-- gf of R247. -/
def gf (a b : Nat) : Nat := gfMul 0x11D a b

/-- 2 to the power i in the field. -/
def gfPow : Nat → Nat
  | 0 => 1
  | n + 1 => gf 2 (gfPow n)

/-- The inverse in the field: the 254th power; 0 has none, and gives 0. -/
def gfInv (a : Nat) : Nat := (List.range 253).foldl (fun p _ => gf p a) a

/-- Every byte multiplied by a. -/
def gfScale (a : Nat) (l : List Byte) : List Byte := l.map (fun b => BitVec.ofNat 8 (gf a b.toNat))

/-- The XOR of a list of bodies of n bytes. -/
def xorAll (n : Nat) (ls : List (List Byte)) : List Byte := ls.foldl xorBytes (List.replicate n 0)

/-- Stripes of a set of G groups. -/
def stripesOf (groups red : Nat) : Nat := (groups + schemeK red - 1) / max 1 (schemeK red)

/-- Share i of stripe s, from the data shares (R351). -/
def shareOf (k n i : Nat) (d : Nat → List Byte) : List Byte :=
  if i < k then d i
  else if i = k then xorAll n ((List.range k).map d)
  else xorAll n ((List.range k).map (fun j => gfScale (gfPow j) (d j)))

/-- The data shares of a stripe, from any k shares of n bytes, listed by index (R351): P and Q stand in for one or two that are missing. -/
def decodeShares (k n : Nat) (have_ : AMap (List Byte)) : List (List Byte) :=
  let missing := (List.range k).filter (fun i => (have_.find i).isNone)
  let known := (List.range k).filterMap (fun i => (have_.find i).map (fun b => (i, b)))
  let p := have_.getD k []
  let q := have_.getD (k + 1) []
  let pRest := xorAll n (p :: known.map Prod.snd)
  let qRest := xorAll n (q :: known.map (fun e => gfScale (gfPow e.1) e.2))
  let solved : AMap (List Byte) := match missing with
    | [i] => if (have_.find k).isSome then [(i, pRest)] else [(i, gfScale (gfInv (gfPow i)) qRest)]
    | [i, j] =>
      let dj := gfScale (gfInv ((gfPow i) ^^^ (gfPow j))) (xorBytes (gfScale (gfPow i) pRest) qRest)
      [(i, xorBytes pRest dj), (j, dj)]
    | _ => []
  (List.range k).map (fun i => match have_.find i with | some b => b | none => solved.getD i (List.replicate n 0))

/-! ### Fragments (R352) -/

/-- A length rounded up to 4 KiB. -/
def up4k (n : Nat) : Nat := (n + 4095) / 4096 * 4096

/-- Bytes of a fragment: header, sealed manifest, and one sealed unit a stripe. -/
def fragLen (groups red body : Nat) : Nat := 4096 + up4k (manifestLen groups + 16) + stripesOf groups red * (body + 16)

/-- The offset of unit u of a fragment, and its bytes with the tag. -/
def unitSpan (groups body u : Nat) : Nat × Nat :=
  if u = 0 then (4096, manifestLen groups + 16) else (4096 + up4k (manifestLen groups + 16) + (u - 1) * (body + 16), body + 16)

/-- The fragment header of INDEX for the set of a slot, written at an epoch under a scheme. -/
def Chan.fragHeader (c : Chan) (slot epoch red index sealBase : Nat) : List Byte :=
  let e := c.entry slot
  let geo := c.geom e.profile
  let groups := groupsOf e.committed
  let b := leBytes 8 e.req ++ leBytes 4 e.tag ++ leBytes 4 epoch ++ leBytes 4 geo.id ++ leBytes 1 red ++ leBytes 1 index ++ leBytes 1 (schemeK red) ++
    leBytes 1 (schemeN red) ++ leBytes 4 groups ++ leBytes 4 e.committed ++ leBytes 4 (stripesOf groups red) ++ leBytes 4 geo.bodyBytes ++
    leBytes 4 (c.fget Reg.CHN_EID 17 0) ++ leBytes 4 0 ++ leBytes 8 sealBase ++ leBytes 8 0 ++ c.manifestDigest slot epoch (c.handle slot) ++
    List.replicate 124 0
  b ++ leBytes 4 (crc32c b)

/-- The data share of a group: its tile-packed body, zero for a SHARED group or past the end (R351). -/
def Chan.dataShare (c : Chan) (slot g : Nat) : List Byte :=
  let e := c.entry slot
  let geo := c.geom e.profile
  let zero := List.replicate geo.bodyBytes (0 : Byte)
  if groupsOf e.committed ≤ g then zero
  else match c.groupBody slot g e.committed with
    | [] => zero
    | b => geo.pack b

/-- A fragment whole: what the home stores in the region of holder INDEX. -/
def Chan.fragBytes (c : Chan) (slot epoch red index sealBase : Nat) (key : List Byte) : List Byte :=
  let e := c.entry slot
  let geo := c.geom e.profile
  let groups := groupsOf e.committed
  let k := schemeK red
  let head := c.fragHeader slot epoch red index sealBase
  let eid := c.fget Reg.CHN_EID 17 0
  let unit := fun (u : Nat) (text : List Byte) =>
    let (ct, tag) := gcmSeal key (ivOf eid (sealBase + u)) (head.take 64 ++ leBytes 4 u) text
    ct ++ tag
  let man := unit 0 (c.manifestOf slot epoch (c.handle slot) groups)
  head ++ List.replicate (4096 - 256) 0 ++ man ++ List.replicate (up4k man.length - man.length) 0 ++
    (List.range (stripesOf groups red)).flatMap (fun s => unit (s + 1) (shareOf k geo.bodyBytes index (fun i => c.dataShare slot (s * k + i))))

/-- A fragment's units as the mirrored operations CODE, at the first parity holder of each stripe, and SEAL (R449): of a share a CODE message holds at most 1,024 bytes, and
so many that k of them fit. -/
def Chan.mirrorFrag (c : Chan) (slot epoch red index : Nat) : Chan :=
  if c.rel.part ≠ 2 then c
  else
    let e := c.entry slot
    let geo := c.geom e.profile
    let groups := groupsOf e.committed
    let k := schemeK red
    let n := min geo.bodyBytes (min 1024 (8128 / max 1 k))
    let c := c.mirrorSeal (c.manifestOf slot epoch (c.handle slot) groups)
    (List.range (stripesOf groups red)).foldl (fun c s =>
      let d := fun i => c.dataShare slot (s * k + i)
      let cut := fun i => (d i).take n
      let c := if index = k then
          c.mirror 3 (beBytes 1 k ++ beBytes 1 0 ++ beBytes 2 n) ((List.range k).flatMap cut) (shareOf k n k cut ++ shareOf k n (k + 1) cut)
        else c
      c.mirrorSeal (shareOf k geo.bodyBytes index d)) c

/-- n counters drawn together from the sequence of TIER_SEAL: the first of them. -/
def Chan.sealRun (c : Chan) : Nat → Nat × Chan
  | 0 => c.nextSeal
  | n + 1 => let (v, c) := c.nextSeal; (v, (Chan.sealRun c n).2)

/-- FRAG_FREE of a set to a holder (R353). -/
def Chan.sendFragFree (c : Chan) (eid req tag epoch index red : Nat) : Chan :=
  c.tierRequest eid 9 { TierMsg.blank with index := index, red := red, req := req, tag := tag, epoch := epoch } .free

/-- The set of a home released: FRAG_FREE to each holder that `gone` names; one that holds a newer set of the same epoch has replaced this one. -/
def Chan.freeSet (c : Chan) (slot : Nat) (gone : HomeSet → Holder → Bool := fun _ _ => true) : Chan :=
  match c.tiers.homes.find slot with
  | none => c
  | some h =>
    let e := c.entry slot
    let c := { c with tiers := { c.tiers with homes := c.tiers.homes.del slot } }
    (h.holders.filter (gone h)).foldl (fun c x => c.sendFragFree x.eid e.req e.tag h.epoch x.index h.red) c

end Sys2Proof.Machine
end

