-- ==== Sys2Proof/Machine/Vector.lean ====
section
/-! DEFINITION. The meanings of the scratch instructions (R243) and of the vector instructions (R244 to R247). -/
namespace Sys2Proof.Machine
open Sys2Proof

/-! ### Scratch loads and stores (R208, R243) -/

/-- A scratch access of n bytes at a + sext(I): exception 0x03 out of range, 0x04 misaligned (R208, R239). -/
def Chan.scratchInstr (c : Chan) (k op : Nat) (f : IFields) (n : Nat) (h : GCore → Nat → GCore) : Chan :=
  c.instr k op f (fun c g p =>
    let a := (g.sreg f.a + sext f.i).toNat
    if p.scratch ≤ a then c.exception k 3 g.pc
    else if a % n ≠ 0 then c.exception k 4 g.pc
    else c.stepCore k (h g a))

/-- The value that LD reads: n bytes, zero-extended, or sign-extended where X[2] is 1. -/
def ldValue (x : Nat) (b : List Byte) : W64 :=
  let n := 2 ^ (x % 4)
  let v := leVal b
  if x.testBit 2 && v.testBit (8 * n - 1) then w64 (v + (2 ^ 64 - 2 ^ (8 * n))) else w64 v

/-- Bytes of a vector register, byte k from bits [8k + 7:8k]. -/
def vecBytes (v : BitVec 512) : List Byte := leBytes 64 v.toNat

/-- A vector register of 64 bytes. -/
def bytesVec (b : List Byte) : BitVec 512 := BitVec.ofNat 512 (leVal b)

/-- LD. -/
def execILd (c : ChId) (k : Nat) (f : IFields) (s : State) : Host.Outcome State Fault Refusal :=
  onCh c (fun x => x.scratchInstr k 0x50 f (2 ^ (f.x % 4)) (fun g a => g.setS f.d (ldValue f.x (Memory.read g.scratch a (2 ^ (f.x % 4)))))) s

/-- ST. -/
def execISt (c : ChId) (k : Nat) (f : IFields) (s : State) : Host.Outcome State Fault Refusal :=
  onCh c (fun x => x.scratchInstr k 0x51 f (2 ^ (f.x % 4)) (fun g a =>
    { g with scratch := Memory.write g.scratch a (leBytes (2 ^ (f.x % 4)) (g.sreg f.b).toNat) })) s

/-- VLD. -/
def execIVld (c : ChId) (k : Nat) (f : IFields) (s : State) : Host.Outcome State Fault Refusal :=
  onCh c (fun x => x.scratchInstr k 0x52 f 64 (fun g a => g.setV f.d (bytesVec (Memory.read g.scratch a 64)))) s

/-- VST. -/
def execIVst (c : ChId) (k : Nat) (f : IFields) (s : State) : Host.Outcome State Fault Refusal :=
  onCh c (fun x => x.scratchInstr k 0x53 f 64 (fun g a => { g with scratch := Memory.write g.scratch a (vecBytes (g.vreg f.b)) })) s

/-! ### Lanes (R244) -/

/-- Bits of a lane of width code w. -/
def laneBits (w : Nat) : Nat := 8 * 2 ^ w

/-- Lane i of a vector. -/
def lane (w : Nat) (v : BitVec 512) (i : Nat) : Nat := v.toNat / 2 ^ (laneBits w * i) % 2 ^ laneBits w

/-- A vector whose lane i holds the low bits of h i. -/
def ofLanes (w : Nat) (h : Nat → Nat) : BitVec 512 :=
  BitVec.ofNat 512 ((List.range (laneCount w)).map (fun i => h i % 2 ^ laneBits w * 2 ^ (laneBits w * i))).sum

/-- vD = h vA vB. -/
def Chan.vec2 (c : Chan) (k op : Nat) (f : IFields) (h : BitVec 512 → BitVec 512 → BitVec 512) : Chan :=
  c.regInstr k op f (fun g => g.setV f.d (h (g.vreg f.a) (g.vreg f.b)))

/-- Lane by lane, with the width code in X. -/
def Chan.lanes2 (c : Chan) (k op : Nat) (f : IFields) (h : Nat → Nat → Nat) : Chan :=
  c.vec2 k op f (fun a b => ofLanes f.x (fun i => h (lane f.x a i) (lane f.x b i)))

/-- VADD. -/
def execIVadd (c : ChId) (k : Nat) (f : IFields) (s : State) : Host.Outcome State Fault Refusal := onCh c (fun x => x.lanes2 k 0x60 f (fun a b => a + b)) s

/-- VSUB. -/
def execIVsub (c : ChId) (k : Nat) (f : IFields) (s : State) : Host.Outcome State Fault Refusal :=
  onCh c (fun x => x.lanes2 k 0x61 f (fun a b => a + 2 ^ laneBits f.x - b)) s

/-- VMUL. -/
def execIVmul (c : ChId) (k : Nat) (f : IFields) (s : State) : Host.Outcome State Fault Refusal := onCh c (fun x => x.lanes2 k 0x62 f (fun a b => a * b)) s

/-- VAND. -/
def execIVand (c : ChId) (k : Nat) (f : IFields) (s : State) : Host.Outcome State Fault Refusal := onCh c (fun x => x.vec2 k 0x63 f (fun a b => a &&& b)) s

/-- VOR. -/
def execIVor (c : ChId) (k : Nat) (f : IFields) (s : State) : Host.Outcome State Fault Refusal := onCh c (fun x => x.vec2 k 0x64 f (fun a b => a ||| b)) s

/-- VXOR. -/
def execIVxor (c : ChId) (k : Nat) (f : IFields) (s : State) : Host.Outcome State Fault Refusal := onCh c (fun x => x.vec2 k 0x65 f (fun a b => a ^^^ b)) s

/-- vD = h vA, lane by lane. -/
def Chan.lanes1 (c : Chan) (k op : Nat) (f : IFields) (h : Nat → Nat) : Chan :=
  c.regInstr k op f (fun g => g.setV f.d (ofLanes f.x (fun i => h (lane f.x (g.vreg f.a) i))))

/-- VSHL: a shift of at least the lane width gives 0. -/
def execIVshl (c : ChId) (k : Nat) (f : IFields) (s : State) : Host.Outcome State Fault Refusal := onCh c (fun x => x.lanes1 k 0x66 f (fun a => a <<< (f.i % 64))) s

/-- VSHR. -/
def execIVshr (c : ChId) (k : Nat) (f : IFields) (s : State) : Host.Outcome State Fault Refusal := onCh c (fun x => x.lanes1 k 0x67 f (fun a => a >>> (f.i % 64))) s

/-- VBCAST. -/
def execIVbcast (c : ChId) (k : Nat) (f : IFields) (s : State) : Host.Outcome State Fault Refusal :=
  onCh c (fun x => x.regInstr k 0x68 f (fun g => g.setV f.d (ofLanes f.x (fun _ => (g.sreg f.a).toNat)))) s

/-- VEXT. -/
def execIVext (c : ChId) (k : Nat) (f : IFields) (s : State) : Host.Outcome State Fault Refusal :=
  onCh c (fun x => x.regInstr k 0x69 f (fun g => g.setS f.d (w64 (lane f.x (g.vreg f.a) f.i)))) s

/-- VINS. -/
def execIVins (c : ChId) (k : Nat) (f : IFields) (s : State) : Host.Outcome State Fault Refusal :=
  onCh c (fun x => x.regInstr k 0x6A f (fun g =>
    g.setV f.d (ofLanes f.x (fun i => if i = f.i then (g.sreg f.a).toNat else lane f.x (g.vreg f.d) i)))) s

/-- VPERM: byte k of d is the byte of a that byte k of b selects. -/
def execIVperm (c : ChId) (k : Nat) (f : IFields) (s : State) : Host.Outcome State Fault Refusal :=
  onCh c (fun x => x.vec2 k 0x6B f (fun a b => ofLanes 0 (fun i => lane 0 a (lane 0 b i % 64)))) s

/-! ### Floating point (R244, R245) -/

/-- VFADD. -/
def execIVfadd (c : ChId) (k : Nat) (f : IFields) (s : State) : Host.Outcome State Fault Refusal :=
  onCh c (fun x => x.vec2 k 0x6C f (fun a b => ofLanes 2 (fun i => fp32Add (lane 2 a i) (lane 2 b i)))) s

/-- VFMUL. -/
def execIVfmul (c : ChId) (k : Nat) (f : IFields) (s : State) : Host.Outcome State Fault Refusal :=
  onCh c (fun x => x.vec2 k 0x6D f (fun a b => ofLanes 2 (fun i => fp32Mul (lane 2 a i) (lane 2 b i)))) s

/-- VFMA. -/
def execIVfma (c : ChId) (k : Nat) (f : IFields) (s : State) : Host.Outcome State Fault Refusal :=
  onCh c (fun x => x.regInstr k 0x6E f (fun g =>
    g.setV f.d (ofLanes 2 (fun i => fp32Fma (lane 2 (g.vreg f.a) i) (lane 2 (g.vreg f.b) i) (lane 2 (g.vreg f.d) i))))) s

/-- VFMAX. -/
def execIVfmax (c : ChId) (k : Nat) (f : IFields) (s : State) : Host.Outcome State Fault Refusal :=
  onCh c (fun x => x.vec2 k 0x6F f (fun a b => ofLanes 2 (fun i => fp32Max (lane 2 a i) (lane 2 b i)))) s

/-- The tree of VFSUM over 8 lanes from lane n. -/
def sumTree (a : BitVec 512) (n : Nat) : Nat :=
  let l := fun i => lane 2 a (n + i)
  fp32Add (fp32Add (fp32Add (l 0) (l 1)) (fp32Add (l 2) (l 3))) (fp32Add (fp32Add (l 4) (l 5)) (fp32Add (l 6) (l 7)))

/-- VFSUM. -/
def execIVfsum (c : ChId) (k : Nat) (f : IFields) (s : State) : Host.Outcome State Fault Refusal :=
  onCh c (fun x => x.regInstr k 0x70 f (fun g => g.setS f.d (w64 (fp32Add (sumTree (g.vreg f.a) 0) (sumTree (g.vreg f.a) 8))))) s

/-! ### Quantisation (R246) -/

/-- What VQNT gives for one block: the stored elements, and the word of scale and counts. -/
def quantVec (i : Nat) (a : BitVec 512) (b : W64) : BitVec 512 × W64 :=
  let fmt := i % 16
  let q := quantiseBlock fmt (b.toNat % 2 ^ 32) ((List.range 32).map (fun n => ofInput (i.testBit 4) (lane 1 a n)))
  (bytesVec (packElems fmt q.codes), w64 (q.scale % 2 ^ 16 + q.nonfinite * 2 ^ 16 + q.saturated * 2 ^ 24))

/-- VQNT. -/
def execIVqnt (c : ChId) (k : Nat) (f : IFields) (s : State) : Host.Outcome State Fault Refusal :=
  onCh c (fun x => x.regInstr k 0x71 f (fun g =>
    let (v, w) := quantVec f.i (g.vreg f.a) (g.sreg f.b)
    (g.setV f.d v).setS f.x w)) s

/-- The scale that VDQNT takes from b: the E8M0 code, the FP16 scale, or S. -/
def dqScale (fmt : Nat) (b : W64) : Nat := b.toNat % 2 ^ (if fmt = 4 then 16 else if fmt = 2 ∨ fmt = 3 then 8 else 32)

/-- The FP32 value of stored element n of a block. -/
def dqElem (fmt : Nat) (a : BitVec 512) (b : W64) (n : Nat) : Nat :=
  (elemTimes fmt (if fourBit fmt then lane 0 a (n / 2) / 16 ^ (n % 2) % 16 else lane 0 a n) (dqScale fmt b)).1

/-- VDQNT: elements 0 to 15 go to v[D], 16 to 31 to v[D + 1]. -/
def execIVdqnt (c : ChId) (k : Nat) (f : IFields) (s : State) : Host.Outcome State Fault Refusal :=
  onCh c (fun x => x.regInstr k 0x72 f (fun g =>
    (g.setV f.d (ofLanes 2 (dqElem f.i (g.vreg f.a) (g.sreg f.b)))).setV (f.d + 1) (ofLanes 2 (fun n => dqElem f.i (g.vreg f.a) (g.sreg f.b) (n + 16))))) s

/-! ### GF(2^8) (R247) -/

/-- VGFMUL. -/
def execIVgfmul (c : ChId) (k : Nat) (f : IFields) (s : State) : Host.Outcome State Fault Refusal :=
  onCh c (fun x => x.vec2 k 0x73 f (fun a b => ofLanes 0 (fun i => gf (lane 0 a i) (lane 0 b i)))) s

/-- VGFMAC. -/
def execIVgfmac (c : ChId) (k : Nat) (f : IFields) (s : State) : Host.Outcome State Fault Refusal :=
  onCh c (fun x => x.regInstr k 0x74 f (fun g =>
    g.setV f.d (ofLanes 0 (fun i => lane 0 (g.vreg f.d) i ^^^ gf (lane 0 (g.vreg f.a) i) (f.i % 256))))) s

end Sys2Proof.Machine
end

