-- ==== Sys2Proof/Machine/Async.lean ====
section
/-! DEFINITION. The asynchronous instructions and what waits for them (R237, R238, R248 to R250, R255), END, YIELD, and the meanings of the event instructions (R252, R253). -/
namespace Sys2Proof.Machine
open Sys2Proof

/-! ### Counter references (R252) -/

/-- The counter that a reference names for a program, with the handle in it (zero for a numbered counter): none where it is malformed, not owned, or names a context
that fails R70. `signal` asks for the counters that the program may signal (R218). -/
def Chan.ctrRef (c : Chan) (p : Prog) (ref : Nat) (signal : Bool) : Option (Ctr × Nat) × Chan :=
  if ref.testBit 63 then
    let h := bits ref 47 0
    let j := bits ref 49 48
    if bits ref 62 50 ≠ 0 then (none, c)
    else match c.checkHandle h with
      | .error st => (none, c.badHandle st h false)
      | .ok slot =>
        if p.isTenant && (decide ((c.entry slot).tslot ≠ p.tenant) || (signal && decide (j ≠ 3))) then (none, c) else (some (.bound slot j, h), c)
  else
    let n := bits ref 15 0
    if ref ≠ n then (none, c)
    else if p.isTenant then (if n < p.evcCount then (some (.num (p.evcBase + n), 0), c) else (none, c))
    else if n < 16384 then (some (.num n, 0), c) else (none, c)

/-! ### Issue of DMOV and CRYPT (R249, R250, R255) -/

/-- The key that a handle names for a program (R395): none where it may not use it or the key is absent. A handle from 0x8000_0000 up, of a base program, names
a key whose numbering the spec does not give: a free value. -/
def Chan.keyFor (c : Chan) (p : Prog) (h : Nat) : Option (List Byte) × Chan :=
  if p.isTenant then
    if h = 1 then (c.storageKey p.tenant, c)
    else if 0x10 ≤ h ∧ h < 0x20 then ((c.keysOf p.tenant).data.find (h - 0x10), c)
    else (none, c)
  else if 0x80000000 ≤ h then let (b, c) := c.drawBytes 32; (some b, c)
  else if 0x100 ≤ h ∧ h < 0x110 then (c.storageKey (h - 0x100), c)
  else if 0x10000 ≤ h ∧ h < 0x10100 then ((c.keysOf ((h - 0x10000) / 16)).data.find (h % 16), c)
  else (none, c)

/-- The scratch ranges of a CRYPT descriptor: AAD, IN, OUT and TAG. -/
def cryptRanges (f : Nat → Nat → Nat) : List (Nat × Nat) := [(f 28 4, f 20 4), (f 32 4, f 24 4), (f 36 4, f 24 4), (f 40 4, 16)]

/-- CRYPT judged (R255, R239): the accepted operation, or the exception. -/
def Chan.judgeCrypt (c : Chan) (p : Prog) (g : GCore) (a : Nat) : Except Nat CryptDesc × Chan :=
  let b := Memory.read g.scratch a 64
  let f := fun (off n : Nat) => leVal ((b.drop off).take n)
  let op := f 0 1
  let rd := fun (off n : Nat) => Memory.read g.scratch (f off 4) n
  if op = 0 ∨ 3 < op ∨ 65536 < f 20 4 ∨ 65536 < f 24 4 ∨ (op = 3 ∧ f 24 4 ≠ 0) then (.error 1, c)
  else match c.keyFor p (f 4 4) with
    | (none, c) => (.error 2, c)
    | (some key, c) =>
      if (cryptRanges f).any (fun r => decide (p.scratch < r.1 + r.2)) then (.error 3, c)
      else
        let n := f 24 4
        let overlap := decide (f 32 4 ≠ f 36 4 ∧ f 32 4 < f 36 4 + n ∧ f 36 4 < f 32 4 + n)
        let (text, c) := if overlap then c.drawBytes n else (rd 32 n, c)
        (.ok { op := op, at_ := a, key := f 4 4, iv := (b.drop 8).take 12, aad := rd 28 (f 20 4), text := text, tag := rd 40 16, out := f 36 4, tagAt := f 40 4,
               keyBytes := key }, c)

/-- DMOV or CRYPT takes effect at its issue, once fewer than sixteen are outstanding (R250). -/
def Chan.issueAsync (c : Chan) (k op : Nat) (f : IFields) (p : Prog) : Chan :=
  let g := c.core k
  let a := (g.sreg f.a).toNat
  if 16 ≤ g.asyncs.length then c.setCore k { g with wait := some (.async (.issue op f)) }
  else if !p.grants.testBit (if op = opDmov then 0 else 3) then c.exception k 2 g.pc
  else if p.scratch ≤ a then c.exception k 3 g.pc
  else if a % 64 ≠ 0 then c.exception k 4 g.pc
  else if op = opDmov then
    match c.judgeMove k p (Memory.read g.scratch a 64) with
    | (none, c) => c.exception k 5 g.pc
    | (some d, c) => c.stepCore k { g with asyncs := g.asyncs ++ [.dmov g.pc d] }
  else
    match c.judgeCrypt p g a with
    | (.error e, c) => c.exception k e g.pc
    | (.ok d, c) => c.stepCore k { g with asyncs := g.asyncs ++ [.crypt g.pc d] }

/-! ### What waits for asynchronous work (R237, R238) -/

/-- A signal takes effect (R218): the counter is checked and the amount added. -/
def Chan.signalNow (c : Chan) (k ref amount : Nat) (p : Prog) : Chan :=
  let g := c.core k
  match c.ctrRef p ref true with
  | (none, c) => c.exception k 7 g.pc
  | (some (ctr, _), c) => (if amount = 0 then c else c.addCtr ctr amount).stepCore k g

/-- YIELD takes effect where a preemption is pending and nothing is outstanding: the named state is saved (R222, R259). -/
def Chan.yieldSave (c : Chan) (k scr pmask vmask smask : Nat) : Chan :=
  let g := c.core k
  c.saveCore k { (g.live scr pmask vmask smask) with pc := g.pc + 8 }

/-- An instruction that waited for asynchronous work goes on: the exception that fell due meanwhile comes first (R262), then a deferred one (R238). -/
def Chan.goOn (c : Chan) (k : Nat) (h : Held) : Chan :=
  let g := c.core k
  match h with
  | .issue op f =>
    if 16 ≤ g.asyncs.length then c
    else
      let c := c.setCore k { g with wait := none, dueExc := none }
      match g.dueExc, c.coreProg k with
      | some e, _ => c.exception k e g.pc
      | none, some p => c.issueAsync k op f p
      | none, none => c
  | _ =>
    if !g.asyncs.isEmpty then c
    else
      let c := c.setCore k { g with wait := none, dueExc := none }
      match g.dueExc, c.takeDeferred k with
      | some e, _ => c.exception k e g.pc
      | none, some c' => c'
      | none, none =>
        match h with
        | .fence => c.stepCore k { g with wait := none, dueExc := none }
        | .ending => c.finish k
        | .save scr pm vm sm => c.yieldSave k scr pm vm sm
        | .signal amount ref => match c.coreProg k with
          | some p => c.signalNow k ref amount p
          | none => c
        | .issue _ _ => c

/-- An instruction that waits for asynchronous work begins its wait, and goes on at once where nothing is outstanding. -/
def Chan.awaitAsync (c : Chan) (k : Nat) (h : Held) : Chan :=
  (c.setCore k { c.core k with wait := some (.async h) }).goOn k h

/-- An asynchronous operation of core k has left its list: what waits for that goes on. -/
def Chan.asyncLeft (c : Chan) (k : Nat) : Chan :=
  match (c.core k).wait with
  | some (.async h) => c.goOn k h
  | _ => c.trySave k

/-! ### DMOV and CRYPT -/

/-- DMOV. -/
def execIDmov (c : ChId) (k : Nat) (f : IFields) (s : State) : Host.Outcome State Fault Refusal :=
  onCh c (fun x => x.instr k opDmov f (fun x _ p => x.issueAsync k opDmov f p)) s

/-- CRYPT. -/
def execICrypt (c : ChId) (k : Nat) (f : IFields) (s : State) : Host.Outcome State Fault Refusal :=
  onCh c (fun x => x.instr k opCrypt f (fun x _ p => x.issueAsync k opCrypt f p)) s

/-- DMOV_DONE: the oldest move outstanding finishes, or stops after the `stop`-th unit or at a unit whose source has an uncorrectable error (R249). -/
def execDmovDone (c : ChId) (k : Nat) (stop : Option Nat) (s : State) : Host.Outcome State Fault Refusal :=
  onCh c (fun x =>
    let g := x.core k
    match g.asyncs.find? (fun a => match a with | .dmov _ _ => true | _ => false) with
    | some (.dmov off d) =>
      if !x.serves then x
      else
        let (ok, x) := x.runMove k d (match stop with | some n => n | none => d.units)
        let g := x.core k
        (x.setCore k { g with asyncs := g.asyncs.erase (.dmov off d), excs := if ok then g.excs else g.excs ++ [(off, 5)] }).asyncLeft k
    | _ => x) s

/-- What a CRYPT operation leaves in scratch (R255): the output text, the tag, and STATUS. -/
def cryptResult (d : CryptDesc) : List (Nat × List Byte) :=
  match d.op with
  | 1 =>
    let r := gcmSeal d.keyBytes d.iv d.aad d.text
    [(d.out, r.1), (d.tagAt, r.2), (d.at_ + 1, [1])]
  | 2 =>
    (match gcmOpen d.keyBytes d.iv d.aad d.text d.tag with
     | some t => [(d.out, t), (d.at_ + 1, [1])]
     | none => [(d.out, List.replicate d.text.length 0), (d.at_ + 1, [2])])
  | _ => [(d.tagAt, (gcmSeal d.keyBytes d.iv d.aad []).2), (d.at_ + 1, [1])]

/-- CRYPT_DONE: the oldest CRYPT outstanding completes. -/
def execCryptDone (c : ChId) (k : Nat) (s : State) : Host.Outcome State Fault Refusal :=
  onCh c (fun x =>
    let g := x.core k
    match g.asyncs.find? (fun a => match a with | .crypt _ _ => true | _ => false) with
    | some (.crypt off d) =>
      if !x.serves then x
      else
        let scratch := (cryptResult d).foldl (fun m e => Memory.write m e.1 e.2) g.scratch
        (x.setCore k { g with asyncs := g.asyncs.erase (.crypt off d), scratch := scratch }).asyncLeft k
    | _ => x) s

/-! ### END, FENCE, YIELD -/

/-- END. -/
def execIEnd (c : ChId) (k : Nat) (f : IFields) (s : State) : Host.Outcome State Fault Refusal :=
  onCh c (fun x => x.instr k 0x44 f (fun x _ _ => x.awaitAsync k .ending)) s

/-- FENCE. -/
def execIFence (c : ChId) (k : Nat) (f : IFields) (s : State) : Host.Outcome State Fault Refusal :=
  onCh c (fun x => x.instr k 0xA5 f (fun x _ _ => x.awaitAsync k .fence)) s

/-- YIELD (R259): a deferred exception first; ride-through holds an invocation of a schedulable core here; a pending preemption saves it. -/
def Chan.yieldNow (c : Chan) (k : Nat) (g : GCore) (scr pmask vmask smask : Nat) : Chan :=
  match c.takeDeferred k with
  | some c' => c'
  | none =>
    if c.riding && c.schedulable k then c.stepCore k { g with held := true, ran := g.ran + (c.time - g.since), since := c.time }
    else if g.preempt.isSome then c.awaitAsync k (.save scr pmask vmask smask)
    else c.stepCore k g

/-- YIELD. Masks too wide for the word are no instruction. -/
def execYieldI (c : ChId) (k scr pmask vmask smask : Nat) (s : State) : Host.Outcome State Fault Refusal :=
  onCh c (fun x =>
    if 128 ≤ scr ∨ 128 ≤ pmask ∨ 65536 ≤ vmask ∨ 2 ^ 31 ≤ smask then x
    else x.onCore k (fun x g _ => if 64 < scr then x.exception k 1 g.pc else x.yieldNow k g scr pmask vmask smask)) s

/-! ### Event instructions (R218, R253) -/

/-- SIG. -/
def execISig (c : ChId) (k : Nat) (f : IFields) (s : State) : Host.Outcome State Fault Refusal :=
  onCh c (fun x => x.instr k 0xA0 f (fun x g _ => x.awaitAsync k (.signal ((g.sreg f.b).toNat % 2 ^ 32) (g.sreg f.a).toNat))) s

/-- SIGI. -/
def execISigi (c : ChId) (k : Nat) (f : IFields) (s : State) : Host.Outcome State Fault Refusal :=
  onCh c (fun x => x.instr k 0xA1 f (fun x g _ => x.awaitAsync k (.signal f.i (g.sreg f.a).toNat))) s

/-- A wait begins (R218): it ends at once where the target has been reached; else the core waits, which is a cheap point. -/
def Chan.beginWait (c : Chan) (k : Nat) (g : GCore) (d : Nat) (ctr : Ctr) (h target timeout : Nat) : Chan :=
  if target ≤ c.ctrVal ctr then c.setCore k ({ g with ran := g.ran + (c.time - g.since) }.endWait d true c.time)
  else
    let endAt := if timeout = 0 then none else some (c.time + timeout)
    (c.setCore k { g with st := .waiting, wait := some (.counter ctr h target endAt d), ran := g.ran + (c.time - g.since),
                          held := c.riding && c.schedulable k }).trySave k

/-- WAIT. -/
def execIWait (c : ChId) (k : Nat) (f : IFields) (s : State) : Host.Outcome State Fault Refusal :=
  onCh c (fun x => x.instr k 0xA2 f (fun x g p =>
    match x.takeDeferred k with
    | some x' => x'
    | none =>
      match x.ctrRef p (g.sreg f.a).toNat false with
      | (none, x) => x.exception k 7 g.pc
      | (some (ctr, h), x) => x.beginWait k g f.d ctr h (g.sreg f.b).toNat (g.sreg f.x).toNat)) s

/-- The lowest free trigger number. -/
def Chan.freeTrigger (c : Chan) : Option Nat := (List.range (min 4096 (c.gaf.triggers.length + 1))).find? (fun n => (c.gaf.triggers.find n).isNone)

/-- ARM: a target already reached fires at once. -/
def Chan.arm (c : Chan) (k : Nat) (g : GCore) (p : Prog) (d ref target entry : Nat) : Chan :=
  match c.ctrRef p ref false, c.freeTrigger, g.inv with
  | (some (ctr, h), c), some n, some i =>
    if p.entries.any (fun e => e.id == entry && e.armable) then
      let t : Trigger := ⟨ctr, ref, h, target, i.prog, entry⟩
      let c := if target ≤ c.ctrVal ctr then c.fire t else { c with gaf := { c.gaf with triggers := c.gaf.triggers.put n t } }
      c.stepCore k ((c.core k).setS d (w64 n))
    else c.exception k 7 g.pc
  | (_, c), _, _ => c.exception k 7 g.pc

/-- ARM. -/
def execIArm (c : ChId) (k : Nat) (f : IFields) (s : State) : Host.Outcome State Fault Refusal :=
  onCh c (fun x => x.instr k 0xA3 f (fun x g p => x.arm k g p f.d (g.sreg f.a).toNat (g.sreg f.b).toNat f.i)) s

/-- DISARM. -/
def execIDisarm (c : ChId) (k : Nat) (f : IFields) (s : State) : Host.Outcome State Fault Refusal :=
  onCh c (fun x => x.instr k 0xA4 f (fun x g _ =>
    let n := (g.sreg f.a).toNat
    let x := match x.gaf.triggers.find n, g.inv with
      | some t, some i => if t.prog = i.prog then { x with gaf := { x.gaf with triggers := x.gaf.triggers.del n } } else x
      | _, _ => x
    x.stepCore k g)) s

/-- CTRRD. -/
def execICtrrd (c : ChId) (k : Nat) (f : IFields) (s : State) : Host.Outcome State Fault Refusal :=
  onCh c (fun x => x.instr k 0xA6 f (fun x g p =>
    match x.ctrRef p (g.sreg f.a).toNat false with
    | (none, x) => x.exception k 7 g.pc
    | (some (ctr, _), x) => x.stepCore k (g.setS f.d (w64 (x.ctrVal ctr))))) s

end Sys2Proof.Machine
end

