-- ==== Sys2Proof/Machine/SpecOps.lean ====
section
/-! DEFINITION. Replies to attention jobs and speculation records (R174, R197), and the fault condition of a context outside a handoff (R65, R502). -/
namespace Sys2Proof

/-- The connection a message came on. -/
def Via.link : Via → Nat
  | .fmt k _ => k
  | .roce k _ => k

end Sys2Proof

namespace Sys2Proof.Machine
open Sys2Proof

/-- A reply (R174): the rows first, 32 bytes past REPLY_ADDR, and the trailer last, over the connection on which the request arrived. `id` tells one reply from another; `sub` and `tag` are what
the reply-undeliverable event names. -/
def Chan.reply (c : Chan) (via : Via) (spec : Bool) (id tenant addr key gen sub tag : Nat) (rows trailer : List Byte) : Chan :=
  let k := via.link
  let x := c.conn k
  let iss := Issuer.reply spec id tenant addr sub (tag % 2 ^ 32)
  if x.st ≠ .open_ then c.replyLost spec tenant addr sub (tag % 2 ^ 32)
  else match x.roce with
    | none =>
      if x.peer ≠ bits addr 63 46 then c.replyLost spec tenant addr sub (tag % 2 ^ 32)
      else
        let c := if rows.isEmpty then c else c.issue k (TxOp.of iss 1 (addr + 32) key gen 0 rows)
        c.issue k (TxOp.of iss 2 addr key gen 0 trailer)
    | some _ =>
      let c := if rows.isEmpty then c else c.issue k (TxOp.of iss 0x102 (addr + 32) key 0 0 rows)
      c.issue k (TxOp.of iss 0x103 addr key (tag % 2 ^ 32) 0 trailer)

/-- The speculation reply of R197. -/
def specReplyBytes (tag status limit accepted committed epoch truncated : Nat) : List Byte :=
  leBytes 8 tag ++ leBytes 1 status ++ leBytes 1 limit ++ leBytes 2 accepted ++ leBytes 4 committed ++ leBytes 4 epoch ++ leBytes 4 truncated ++ leBytes 8 0

/-- A speculation record ends (R196, R197): the reply carries the entry's fields as they stand, and a nonzero status is counted and reported (R205). -/
def Chan.specEnd (c : Chan) (dest : ReplyTo) (slot : Option Nat) (op tag status accepted truncated : Nat) : Chan :=
  let e := (slot.map c.entry).getD Entry.free
  let rep := specReplyBytes tag status (govLimit e.governor) accepted e.committed e.epoch truncated
  let c := if status = 0 then c
    else (c.bump Reg.SPC_REFUSE_CNT 31 0 1).eventEvery ms 0x5001 (slot.getD 16384) (slot.map (fun _ => e.tslot)) ((slot.map c.handle).getD 0)
      (fun n => status + n * 2 ^ 32)
  match dest with
  | .host src => c.completeX src status rep
  | .peer via addr key gen => c.reply via true c.fab.order e.tslot addr key gen op tag [] rep

/-- A VERIFY under way ends with a status, where one is. -/
def Chan.endVerify (c : Chan) (slot status : Nat) : Chan :=
  match (c.drafts.find slot).bind (fun d => d.verify) with
  | none => c
  | some (_, dest, tag) =>
    let d := c.drafts.modify slot (fun d => { d with verify := none })
    { c with drafts := d }.specEnd dest (some slot) 2 tag status 0 0

/-- A later happening stops a tier move of the context with a status, once the group in hand is done (R343). -/
def Chan.stopMove (c : Chan) (slot status : Nat) : Chan :=
  { c with tiers := { c.tiers with moves := c.tiers.moves.modify slot (fun m => { m with stop := some (m.stop.getD status) }) } }

/-- A tier move ends: what was taken for the group in hand is given back with its charge, and the command completes with the groups moved. -/
def Chan.endMove (c : Chan) (slot status : Nat) : Chan :=
  match c.tiers.moves.find slot with
  | none => c
  | some m =>
    let c := { c with tiers := { c.tiers with moves := c.tiers.moves.del slot } }
    let c := match m.obj with | some n => c.freeObj slot n | none => c
    let frames := m.frames.map Prod.snd
    let gran := (frames.map c.granOf).sum
    let c := (c.cullFrames frames).touch slot (fun e => { e with ch0 := e.ch0 - gran })
    c.complete m.cmd status m.moved

/-- A ctx.seal that waits ends with a status. -/
def Chan.endSeal (c : Chan) (slot status : Nat) : Chan :=
  match c.ctx.sealing.find slot with
  | some src => { c with ctx := { c.ctx with sealing := c.ctx.sealing.del slot } }.complete src status 0
  | none => c

/-- A fault condition in a state that R65 lets become FAULTED, with what leaving the state brings: the window revoked, publications invalidated, a VERIFY under way
and a ctx.seal that waits answered, and a tier move stopped. -/
def Chan.faultNow (c : Chan) (slot code : Nat) : Chan :=
  let was := (c.entry slot).state
  ((((c.endVerify slot 0x22).endSeal slot 0x22).toFaulted slot code).stopMove slot 0x22).left slot was

end Sys2Proof.Machine
end

