-- ==== Sys2Proof/Machine/HandoffOps.lean ====
section
/-! DEFINITION. The punty handoff (chapter 5), as operations that its commands, messages and timers share: messages, reservation, transfer, return, abort and
arrival. -/
namespace Sys2Proof.Machine
open Sys2Proof

/-! ### Timers and limits (HO_TIMERS, HO_TIMERS2, HO_LIMIT) -/

/-- OFFER_TRIES. -/
def Chan.offerTries (c : Chan) : Nat := max 1 (c.fget Reg.HO_TIMERS 63 56)

/-- OFFER_RETRY in ns. -/
def Chan.offerRetry (c : Chan) : Nat := max 100 (c.fget Reg.HO_TIMERS 55 40) * 1000

/-- ACCEPT_RETRY in ns. -/
def Chan.acceptRetry (c : Chan) : Nat := max 100 (c.fget Reg.HO_TIMERS 31 16) * 1000

/-- ACCEPT_TRIES, with the product that R139 limits to 80 ms. -/
def Chan.acceptTries (c : Chan) : Nat := max 1 (min (c.fget Reg.HO_TIMERS 39 32) (80 * ms / c.acceptRetry))

/-- TRANSFER_IDLE in ns. -/
def Chan.transferIdle (c : Chan) : Nat := c.orD Reg.HO_TIMERS 15 0 100 * 100000

/-- STUCK_TIME in ns. -/
def Chan.stuckTime (c : Chan) : Nat := c.orD Reg.HO_TIMERS2 31 16 1000 * ms

/-- FENCE_TIME in ns. -/
def Chan.fenceTime (c : Chan) : Nat := max 100 (c.fget Reg.HO_TIMERS2 15 0) * ms

/-- A limit of HO_LIMIT as it acts. -/
def Chan.hoLimit (c : Chan) (hi lo : Nat) : Nat := max 1 (min 4096 (c.fget Reg.HO_LIMIT hi lo))

/-! ### Messages (R129, R130) -/

/-- A message with nothing in it. -/
def hoBlank : HoMsg :=
  { version := 1, reason := 0, push := false, repeated := false, overrun := false, isPrivate := false, ctr := 0, req := 0, epoch := 0, srcH := 0, dstH := 0,
    tag := 0, profileId := 0, len := 0, budget := 0, stripe := 0, member := 0, format := 0, red := 0, prio := 0, region := 0, groups := 0,
    digest := List.replicate 64 0 }

/-- Bytes [143:0] of a control message. -/
def hoBytes (ty : Nat) (m : HoMsg) : List Byte :=
  beBytes 1 m.version ++ beBytes 1 ty ++ beBytes 1 m.reason ++ beBytes 1 (b2n m.push + 2 * b2n m.repeated + 4 * b2n m.overrun + 8 * b2n m.isPrivate) ++
  beBytes 8 m.ctr ++ beBytes 8 m.req ++ beBytes 4 m.epoch ++ beBytes 6 m.srcH ++ beBytes 6 m.dstH ++ beBytes 4 m.tag ++ beBytes 4 m.profileId ++
  beBytes 4 m.len ++ beBytes 8 m.budget ++ beBytes 4 m.stripe ++ beBytes 1 m.member ++ beBytes 1 (m.format + 16 * m.red) ++ beBytes 1 m.prio ++ beBytes 1 0 ++
  beBytes 8 m.region ++ beBytes 4 m.groups ++ beBytes 4 0 ++ m.digest

/-- A control message sent to a peer (R130): MSG_CTR is the next value of the seal sequence, and TAG the GMAC tag under the handoff key. Without a session
nothing is sent. -/
def Chan.sendHo (c : Chan) (peer ty : Nat) (m : HoMsg) : Chan :=
  if !c.session peer then c
  else
    let (ctr, c) := c.nextSeal
    let m := { m with version := 1, ctr := ctr }
    let b := hoBytes ty m
    let (_, tag) := gcmSeal (c.pairKey peer "HANDOFF") (ivOf (c.fget Reg.CHN_EID 17 0) ctr) b []
    (c.emit (.fmt peer "handoff" [ty, m.reason, b2n m.repeated, m.req, m.epoch, m.srcH, m.dstH, m.tag] m.digest)).sendBase peer 0x1000 (b ++ tag)

/-- A message about the handoff that an OFFER began: the request, the offered epoch, both handles and the tenant tag. -/
def HoMsg_about (o : HoMsg) (reason dstH : Nat) : HoMsg :=
  { hoBlank with reason := reason, req := o.req, epoch := o.epoch, srcH := o.srcH, dstH := dstH, tag := o.tag }

/-- What the channel keeps of the handoff of a slot. -/
def Chan.hand (c : Chan) (slot : Nat) : Option Handoff := c.ho.of.find slot

/-- What it keeps replaced. -/
def Chan.setHand (c : Chan) (slot : Nat) (h : Handoff) : Chan := { c with ho := { c.ho with of := c.ho.of.put slot h } }

/-- Nothing kept any more. -/
def Chan.noHand (c : Chan) (slot : Nat) : Chan := { c with ho := { c.ho with of := c.ho.of.del slot } }

/-- A handoff just begun with an OFFER sent or taken. -/
def Handoff_start (o : HoMsg) (cmd : Option Src) : Handoff :=
  { offer := o, cmd := cmd, cancel := [], tries := 1, due := 0, idleDue := 0, cancelDue := 0, stuck := false, region := none, manifest := [], moved := 0,
    peerRegion := 0, digestIn := [], fragsDone := false, reason := 0, rebuild := none }

/-- The OFFER of a slot sent, or sent again. -/
def Chan.sendOffer (c : Chan) (slot : Nat) (again : Bool) : Chan :=
  match c.hand slot with
  | none => c
  | some h => c.sendHo (bits (c.entry slot).peer 47 30) 1 { h.offer with repeated := again }

/-- A transfer or inbound region registered in the base domain (R135). -/
def Chan.baseRegion (c : Chan) (kind : RegionKind) (rights size owner : Nat) (check : Bool) : Option (Nat × Chan) :=
  c.register { Region.init with kind := kind, pd := 0, rights := rights, ownerCheck := check, ownerEid := owner, size := size }

/-- The REGION field of a region of this channel. -/
def Chan.regionField (c : Chan) (r : Nat) : Nat := let x := c.region r; regionWord r x.key x.gen

/-- A handoff's region revoked. -/
def Chan.dropHandRegion (c : Chan) (slot : Nat) : Chan :=
  match (c.hand slot).bind (fun h => h.region) with
  | some r => c.dropRegion r
  | none => c

/-! ### The governor's initial values (R199) -/

/-- MAX_DEPTH. -/
def Chan.maxDepth (c : Chan) : Nat := max 1 (min 64 (c.fget Reg.SPC_GOV_CFG 29 23))

/-- GOVERNOR as R199 sets it. -/
def Chan.govStart (c : Chan) : Nat := min c.maxDepth (c.fget Reg.SPC_GOV_CFG 22 16) * 2 ^ 25 + c.upThresh * 2 ^ 16

/-! ### Retirement -/

/-- The entry enters RETIRED: its pages, its page-group table and its charges go, its quota with its state, and every ctx.retire that waits completes. -/
def Chan.toRetired (c : Chan) (slot sub : Nat) (upd : Entry → Entry) : Chan :=
  let c := (c.freeGroups slot 0).freeMap slot
  let c := c.enter slot .retired sub (fun e => { upd e with ch0 := 0, ch1 := 0, ch2 := 0 })
  let waiting := c.ctx.retiring.getD slot []
  let c := { c with ctx := { c.ctx with retiring := c.ctx.retiring.del slot } }
  waiting.foldl (fun c src => c.complete src 0 0) c.trimObjBlocks

/-! ### The source (R137) -/

/-- The result of ho.offer (R150): status, reason, destination CTXH and final EPOCH. -/
def offerResult (status reason dst epoch : Nat) : List Byte := leBytes 1 status ++ leBytes 1 reason ++ leBytes 6 0 ++ leBytes 8 dst ++ leBytes 4 epoch

/-- ho.offer completes. -/
def Chan.offerEnds (c : Chan) (slot status reason : Nat) : Chan :=
  match (c.hand slot).bind (fun h => h.cmd) with
  | none => c
  | some src =>
    let e := c.entry slot
    c.completeX src status (offerResult status reason (if bits e.peer 15 0 = 0 then 0 else e.peer) e.epoch)

/-- Every pending ho.cancel completes. -/
def Chan.cancelEnds (c : Chan) (slot status : Nat) : Chan :=
  match c.hand slot with
  | none => c
  | some h => (h.cancel.foldl (fun c src => c.complete src status 0) c).setHand slot { h with cancel := [] }

/-- Tokens that every layer holds are committed in a state that commits (R119). -/
def Chan.catchUp (c : Chan) (slot : Nat) : Chan :=
  let e := c.entry slot
  let n := (c.map slot).minFill (c.geom e.profile).layers
  if e.commits ∧ e.committed < n then c.commitTo slot n id else c

/-- The context returns to RETURN_STATE (R65, R137): the region is revoked, ho.offer completes, and a fault recorded during the handoff, or one named here, makes it
FAULTED in the same step. -/
def Chan.returnOffer (c : Chan) (slot status reason : Nat) (fault : Option Nat := none) : Chan :=
  let e := c.entry slot
  let code := fault.getD e.fault
  let c := (c.dropHandRegion slot).offerEnds slot status reason
  let c := c.noHand slot
  let c := c.moveTo slot (retState e.ret) 0 (fun e => { e with peer := if e.prefixAttached then (c.map slot).attachment.1 else 0 })
  let c := (c.bump Reg.HO_FAIL_CNT 63 48 1).event 0x3003 (some e.tslot) (c.handle slot) (reason + status * 256)
  if code = 0 then c.catchUp slot else c.faultNow slot code

/-- The release is complete (R137): the frames and tier objects go, RELEASE is sent, the tombstone is HANDED_OFF, and what waits completes. -/
def Chan.released (c : Chan) (slot : Nat) (h : Handoff) : Chan :=
  let e := c.entry slot
  let c := (c.dropHandRegion slot).freeSet slot
  let c := c.toRetired slot 1 id
  let c := c.sendHo (bits e.peer 47 30) 6 { HoMsg_about h.offer 0 e.peer with epoch := e.epoch }
  let c := (c.cancelEnds slot 0x46).offerEnds slot 0 0
  ((c.noHand slot).bump Reg.HO_CNT 63 32 1).event 0x3001 (some e.tslot) (c.handle slot) e.peer

/-! ### The destination (R138, R140) -/

/-- Frames for every group of an inbound context, with the blocks of their records; none where they cannot all be had. -/
def Chan.reserveGroups (c : Chan) (slot groups : Nat) : Option Chan :=
  let geo := c.geom (c.entry slot).profile
  (List.range groups).foldl (fun acc g => (acc.bind (fun c => c.needBlock slot g)).bind (fun c =>
    (List.range geo.layers).foldl (fun acc l => (List.range geo.parts).foldl (fun acc j => acc.bind (fun c => c.takeFrame slot g l j)) acc) (some c))) (some c)

/-- The group entries of a manifest are held (R138, R140): every group takes its CHAIN_KEY, and a SHARED group gives back its reserved frames and points at its
owner, with the owner's home and frames where the owner lies here. -/
def Chan.markGroups (c : Chan) (slot groups : Nat) (man : List Byte) : Chan :=
  (List.range groups).foldl (fun c g =>
    if manShared man g then
      let h := manOwner man g
      let c := if ((c.map slot).grp g).shared then c else c.freeGroup slot g
      let (loc, frames) := match c.ownerSlot h with
        | some o => (((c.map o).grp g).loc, ((c.map o).grp g).frames)
        | none => (Loc.remote, [])
      (c.setMap slot ((c.map slot).setRec g { loc := loc, shared := true, rows := 0, owner := h, chain := manChain man g, frames := frames })).touch slot
        (fun e => { e with prefixAttached := true })
    else c.setMap slot ((c.map slot).setRec g { (c.map slot).grp g with chain := manChain man g })) c

/-- A fragment set being written is given up (R352): FRAG_FREE goes to the holders that have acknowledged. -/
def Chan.dropWriting (c : Chan) (slot : Nat) : Chan :=
  match c.tiers.writing.find slot with
  | none => c
  | some s =>
    let e := c.entry slot
    let c := { c with tiers := { c.tiers with writing := c.tiers.writing.del slot,
                                              reqs := c.tiers.reqs.keep (fun _ r => match r.what with | .home k _ => decide (k ≠ slot) | _ => true) } }
    s.holders.foldl (fun c x => if x.step = 3 then c.sendFragFree x.eid e.req e.tag s.epoch x.index s.red else c) c

/-- A read of shares is given up. -/
def Chan.dropRead (c : Chan) (slot : Nat) : Chan :=
  { c with tiers := { c.tiers with reads := c.tiers.reads.del slot,
                                   reqs := c.tiers.reqs.keep (fun _ r => match r.what with | .share k _ => decide (k ≠ slot) | _ => true) } }

/-- An inbound handoff before ACCEPT_SENT is aborted (R138): ABORT with the reason, pages and charges returned, and the tombstone that remembers the reason. A rebuild
sends no message, and completes its command with the status (R146). -/
def Chan.abortInbound (c : Chan) (slot reason status : Nat) : Chan :=
  match c.hand slot with
  | none => c
  | some h =>
    let e := c.entry slot
    let me := c.handle slot
    let c := ((c.dropHandRegion slot).dropWriting slot).dropRead slot
    match h.rebuild with
    | none =>
      let c := c.sendHo (bits e.peer 47 30) 7 (HoMsg_about h.offer reason me)
      let c := c.toRetired slot 2 id
      let c := c.setHand slot { Handoff_start h.offer none with reason := reason }
      (c.bump Reg.HO_FAIL_CNT 47 32 1).event 0x3004 (some e.tslot) me (reason + e.peer % 2 ^ 48 * 65536)
    | some _ =>
      let c := c.toRetired slot 2 (fun e => { e with peer := 0 })
      let c := c.noHand slot
      let c := (c.bump Reg.HO_REBUILD_CNT 31 0 1).event 0x300D (some e.tslot) e.req status
      match h.cmd with
      | some src => c.completeX src status (leBytes 8 me ++ leBytes 4 e.epoch)
      | none => c

/-- The peer-lost event (R152). -/
def Chan.peerLost (c : Chan) (slot reason : Nat) : Chan :=
  let e := c.entry slot
  c.event 0x3008 (some e.tslot) e.req (e.peer % 2 ^ 48 + reason * 2 ^ 48)

/-- An inbound context reaches its arrival state at epoch e + 1 (R25, R140): rows, F[l] and the governor as at arrival. A fault recorded in ACCEPT_SENT makes it
FAULTED in the same step. -/
def Chan.arrive (c : Chan) (slot : Nat) (epoch : Nat) : Chan :=
  let e := c.entry slot
  let geo := c.geom e.profile
  let st := if c.role.cur = .cache then CtxState.parked else .decoding
  let m := ((c.map slot).setRows 0 e.committed).setFill geo.layers e.committed
  let c := c.setMap slot m
  let c := c.moveTo slot st 0 (fun e => { e with epoch := epoch, peer := if e.prefixAttached then m.attachment.1 else 0, governor := c.govStart })
  let c := c.noHand slot
  if e.fault = 0 then c else c.faultNow slot e.fault

/-- An inbound handoff is over: it arrives, and is counted (R138). `code` is the event raised, handoff-arrived or release-unconfirmed. -/
def Chan.arrived (c : Chan) (slot code : Nat) : Chan :=
  let e := c.entry slot
  let c := c.dropHandRegion slot
  let c := c.bump Reg.HO_CNT 31 0 1
  let c := c.event code (some e.tslot) (c.handle slot) (e.peer % 2 ^ 48)
  c.arrive slot (e.epoch + 1)

/-! ### The transfer (R135, R136) -/

/-- Sizes of a slot's transfer: manifest, one body, groups, and all of it. -/
def Chan.transferSizes (c : Chan) (slot : Nat) : Nat × Nat × Nat × Nat :=
  let e := c.entry slot
  let body := (c.geom e.profile).bodyBytes
  let groups := groupsOf e.committed
  (manifestLen groups, body, groups, manifestLen groups + groups * body)

/-- A position moved past what SHARED groups leave empty. -/
def Chan.skipTo (c : Chan) (slot p : Nat) : Nat :=
  let (mlen, body, groups, _) := c.transferSizes slot
  skipShared mlen body groups (fun g => ((c.map slot).grp g).shared) (groups + 1) p

/-- Has the whole of a transfer been moved? -/
def Chan.allMoved (c : Chan) (slot : Nat) : Bool :=
  match c.hand slot with
  | none => false
  | some h => decide ((c.transferSizes slot).2.2.2 ≤ h.moved)

/-- Has every byte of every body been served or acknowledged (R136)? In push mode the manifest goes first. -/
def Chan.bodiesMoved (c : Chan) (slot : Nat) : Bool :=
  match c.hand slot with
  | none => false
  | some h =>
    let (mlen, _, _, total) := c.transferSizes slot
    decide (total ≤ c.skipTo slot (if h.offer.push then h.moved else max mlen h.moved))

/-- Bytes of one read of a pull, and of one write of a push. -/
def pullChunk : Nat := 8192

/-- Bytes of one write of a push. -/
def pushChunk : Nat := 1048576

/-- The next piece of a transfer: its position and length, within the manifest or one body. -/
def Chan.nextPiece (c : Chan) (slot moved chunk : Nat) : Nat × Nat :=
  let (mlen, body, _, _) := c.transferSizes slot
  if moved < mlen then (moved, min chunk (mlen - moved))
  else (moved, min chunk (body - (moved - mlen) % max 1 body))

/-- The destination reads the next piece (R135). -/
def Chan.pullNext (c : Chan) (slot : Nat) : Chan :=
  match c.hand slot with
  | none => c
  | some h =>
    if c.allMoved slot then c
    else
      let (p, n) := c.nextPiece slot h.moved pullChunk
      c.issueWork (bits (c.entry slot).peer 47 30)
        (baseLoad (.pull slot) (bits (c.entry slot).peer 47 30) h.peerRegion (offOf (c.transferSizes slot).1 p) n)

/-- The source writes the next piece (R135). -/
def Chan.pushNext (c : Chan) (slot : Nat) : Chan :=
  match c.hand slot with
  | none => c
  | some h =>
    if c.allMoved slot then c
    else
      let (p, n) := c.nextPiece slot h.moved pushChunk
      let off := offOf (c.transferSizes slot).1 p
      let peer := bits (c.entry slot).peer 47 30
      c.issueWork peer (baseOp (.push slot) 1 peer h.peerRegion off (c.transferBytes slot (c.handle slot) h.moved off n))

/-- Progress: TRANSFER_IDLE starts afresh. -/
def Chan.progress (c : Chan) (slot moved : Nat) : Chan :=
  match c.hand slot with
  | none => c
  | some h => c.setHand slot { h with moved := c.skipTo slot moved, idleDue := c.time + c.transferIdle }

/-- Does a manifest header agree with the offer and the profile (R133, R138)? -/
def Chan.headerAgrees (c : Chan) (slot : Nat) (h : Handoff) (man : List Byte) : Bool :=
  let e := c.entry slot
  let f := fun (off n : Nat) => leVal ((man.drop off).take n)
  let geo := c.geom e.profile
  decide (f 0 8 = h.offer.req ∧ f 8 4 = h.offer.epoch ∧ f 12 4 = h.offer.tag ∧ f 16 4 = h.offer.profileId ∧ f 20 1 = e.format ∧ f 21 1 = geo.parts ∧
    f 22 1 = geo.layers - 1 ∧ f 23 1 = geo.kvHeads - 1 ∧ f 24 4 = geo.partBytes ∧ f 28 4 = h.offer.len ∧ f 32 4 = groupsOf h.offer.len ∧ f 36 6 = h.offer.srcH)

/-- The destination enters VERIFYING once it holds MANIFEST and every body (R138). -/
def Chan.verifyIf (c : Chan) (slot : Nat) : Chan :=
  match c.hand slot with
  | none => c
  | some h => if (c.entry slot).state = .inbound ∧ (c.entry slot).sub = 1 ∧ !h.digestIn.isEmpty ∧ c.allMoved slot then c.moveTo slot .inbound 2 id else c

/-- Bytes of a transfer received from position p on, in order: the manifest, whose header is checked and moves the context to TRANSFERRING, then the bodies. -/
def Chan.received (c : Chan) (slot p : Nat) (data : List Byte) : Chan :=
  match c.hand slot with
  | none => c
  | some h =>
    let (mlen, body, groups, _) := c.transferSizes slot
    if h.moved ≠ p then c
    else if p < mlen then
      let man := h.manifest ++ data
      let c := (c.setHand slot { h with manifest := man }).progress slot (p + data.length)
      let c := if mlen ≤ man.length then (c.markGroups slot groups man).update slot 4 id else c
      let c := c.progress slot (p + data.length)
      if (c.entry slot).sub = 0 ∧ 64 ≤ man.length ∧ (!h.offer.push ∨ mlen ≤ man.length) then
        if c.headerAgrees slot h man then (c.moveTo slot .inbound 1 id).verifyIf slot else c.abortInbound slot 6 0
      else c
    else
      let b := (p - mlen) % max 1 body
      ((c.writeBody slot ((p - mlen) / max 1 body) 20000 b data).progress slot (p + data.length)).verifyIf slot

/-- An operation of a handoff's transfer has ended. -/
def Chan.transferEnded (c : Chan) (w : Ended) : Chan :=
  match w.work with
  | .pull slot =>
    let e := c.entry slot
    match c.hand slot with
    | none => c
    | some h =>
      let mlen := (c.transferSizes slot).1
      if e.state ≠ .inbound ∨ 1 < e.sub ∨ w.addr % 2 ^ 42 ≠ offOf mlen h.moved then c
      else if w.status ≠ 0 then (c.peerLost slot 0x0A).abortInbound slot 0x0A 0
      else (c.received slot h.moved w.data).pullNext slot
  | .push slot =>
    let e := c.entry slot
    match c.hand slot with
    | none => c
    | some h =>
      let mlen := (c.transferSizes slot).1
      if e.state ≠ .offered ∨ e.sub ≠ 1 ∨ w.addr % 2 ^ 42 ≠ offOf mlen h.moved ∨ w.status ≠ 0 then c
      else (c.progress slot (h.moved + w.len)).pushNext slot
  | _ => c

/-- MANIFEST sent (R133, R136): the digest over the manifest with every group digest. -/
def Chan.sendManifest (c : Chan) (slot : Nat) : Chan :=
  match c.hand slot with
  | none => c
  | some h =>
    let e := c.entry slot
    c.sendHo (bits e.peer 47 30) 4 { HoMsg_about h.offer 0 e.peer with groups := groupsOf e.committed, digest := c.manifestDigest slot e.epoch (c.handle slot) }

/-- ACCEPT sent (R138), with the stripe of the offer (R149). -/
def Chan.sendAccept (c : Chan) (peer : Nat) (o : HoMsg) (dstH : Nat) : Chan :=
  c.sendHo peer 5 { HoMsg_about o 0 dstH with epoch := o.epoch + 1, stripe := o.stripe, member := o.member }

/-! ### Faults in a handoff (R502) -/

/-- A fault condition on a context, in whatever state it is (R65, R137, R138, R502). -/
def Chan.fault (c : Chan) (slot code : Nat) : Chan :=
  let e := c.entry slot
  match e.state with
  | .prefilling | .sealed | .decoding | .parked => c.faultNow slot code
  | .offered =>
    if e.sub < 2 then
      let c := match c.hand slot with
        | some h => c.sendHo (bits e.peer 47 30) 8 (HoMsg_about h.offer 0 (if bits e.peer 15 0 = 0 then 0 else e.peer))
        | none => c
      c.returnOffer slot 0x22 0 (some code)
    else c.update slot 3 (fun e => { e with fault := code })
  | .inbound => if e.sub = 3 then c.update slot 3 (fun e => { e with fault := code }) else c.abortInbound slot 0x11 0x22
  | .draining | .faulted => c.update slot 3 (fun e => { e with fault := code })
  | .retired | .free => c

/-- The channel's EID changes or is withdrawn (R145): every context is faulted, returned and faulted, or aborted, in one step; the number that was. -/
def Chan.eidFault (c : Chan) : Chan :=
  let old := c.fget Reg.CHN_EID 17 0
  let slots := c.ctx.entries.keysWhere (fun _ e => e.state.resident || decide (e.state = .inbound))
  let c := slots.foldl (fun c slot =>
    let e := c.entry slot
    match e.state with
    | .prefilling | .sealed | .decoding | .parked => c.faultNow slot 6
    | .offered => (c.cancelEnds slot 0x22).returnOffer slot 0x22 0 (some 6)
    | .inbound =>
      if e.sub = 3 then
        let c := ((c.dropHandRegion slot).bump Reg.HO_CNT 31 0 1).arrive slot (e.epoch + 1)
        if (c.entry slot).state = .faulted then c.update slot 3 (fun e => { e with fault := 6 }) else c.faultNow slot 6
      else c.abortInbound slot 0x0B 0x22
    | _ => c) c
  c.event 0x300E none old slots.length

end Sys2Proof.Machine
end

