-- ==== Sys2Proof/Machine/SetOps.lean ====
section
/-! DEFINITION. Fragment sets (R352, R353): how a home writes one to its holders, and how a reader fetches shares and decodes them (R355, R357); and what the end of an
operation of the base programs' own work brings. -/
namespace Sys2Proof.Machine
open Sys2Proof

/-! ### Writing a set (R352) -/

/-- The set that a slot's home is writing, replaced. -/
def Chan.setWriting (c : Chan) (slot : Nat) (s : HomeSet) : Chan := { c with tiers := { c.tiers with writing := c.tiers.writing.put slot s } }

/-- What waits for a set that cannot be written (R352): the event, and the abort of the inbound handoff or rebuild, or the end of the ctx.set. -/
def Chan.setFailed (c : Chan) (slot : Nat) : Chan :=
  match c.tiers.writing.find slot with
  | none => c
  | some s =>
    let e := c.entry slot
    let c := c.event 0xA007 (some e.tslot) (c.handle slot) (s.lastReason + s.lastEid * 256)
    let c := c.dropWriting slot
    match s.cmd with
    | some (src, _, _, _) => c.complete src 0xA3 0
    | none => if e.state = .inbound then c.abortInbound slot 0x0E 0xA3 else c

/-- The settings of a ctx.set applied (R82): mask, priority, deadline and redundancy. -/
def Entry.settings (e : Entry) (mask prio deadline red : Nat) : Entry :=
  { e with prio := if mask.testBit 0 then prio else e.prio,
           deadline := if mask.testBit 1 then deadline else e.deadline,
           overrun := if mask.testBit 1 && decide (deadline ≠ 0) then false else e.overrun,
           red := if mask.testBit 2 then red else e.red }

/-- Every holder has acknowledged: the set is written, the old one is released, and what waited for it goes on. -/
def Chan.setDone (c : Chan) (slot : Nat) : Chan :=
  match c.tiers.writing.find slot with
  | none => c
  | some s =>
    let e := c.entry slot
    let c := c.freeSet slot (fun h x => !decide (h.epoch = s.epoch ∧ s.holders.any (fun y => y.eid == x.eid)))
    let c := { c with tiers := { c.tiers with writing := c.tiers.writing.del slot, homes := c.tiers.homes.put slot { s with cmd := none } } }
    let c := c.event 0xA006 (some e.tslot) (c.handle slot) (schemeN s.red + s.epoch * 2 ^ 32)
    match s.cmd with
    | some (src, mask, prio, deadline) =>
      (c.update slot 3 (fun e => e.settings mask prio deadline s.red)).complete src 0 0
    | none => match c.hand slot with
      | some h => c.setHand slot { h with fragsDone := true }
      | none => c

/-- The lowest INDEX that no holder has. -/
def HomeSet.freeIndex (s : HomeSet) : Nat := ((List.range (schemeN s.red)).find? (fun i => s.holders.all (fun x => decide (x.index ≠ i)))).getD 0

/-- May a channel hold a fragment of the set (R350, R352): reachable, on another module than the home and than every other holder? -/
def Chan.mayHold (c : Chan) (s : HomeSet) (eid : Nat) : Bool :=
  c.session eid && c.offModule eid && s.holders.all (fun x => decide (c.peerModule x.eid ≠ c.peerModule eid))

/-- Holders asked in the order of TIER_HOLDER until the scheme has as many as it needs; where the entries run out the set fails. -/
def Chan.fillHolders (c : Chan) (slot : Nat) : Nat → Chan
  | 0 => c
  | n + 1 =>
    match c.tiers.writing.find slot with
    | none => c
    | some s =>
      let e := c.entry slot
      if schemeN s.red ≤ s.holders.length then c
      else if 16 ≤ s.nextHolder then c.setFailed slot
      else
        let r := c.rd (Reg.TIER_HOLDER s.nextHolder)
        let eid := bits r 17 0
        if r.testBit 63 && c.mayHold s eid then
          let i := s.freeIndex
          let groups := groupsOf e.committed
          let (base, c) := c.sealRun (stripesOf groups s.red)
          let c := c.setWriting slot { s with nextHolder := s.nextHolder + 1, holders := s.holders ++ [⟨eid, i, 0, 0, base, 0⟩] }
          (c.tierRequest eid 5 { TierMsg.blank with index := i, red := s.red, req := e.req, tag := e.tag, epoch := s.epoch,
                                                    length := fragLen groups s.red (c.geom e.profile).bodyBytes } (.home slot i)).fillHolders slot n
        else (c.setWriting slot { s with nextHolder := s.nextHolder + 1 }).fillHolders slot n

/-- A home begins to write its fragment set at an epoch under a scheme. -/
def Chan.startSet (c : Chan) (slot epoch red : Nat) (cmd : Option (Src × Nat × Nat × Nat)) : Chan :=
  (c.setWriting slot { epoch := epoch, red := red, holders := [], nextHolder := 0, cmd := cmd, lastReason := 6, lastEid := 0 }).fillHolders slot 17

/-- Holder i of the set being written is dropped, with the reason, and the next one is asked. -/
def Chan.holderLost (c : Chan) (slot i reason : Nat) : Chan :=
  match c.tiers.writing.find slot with
  | none => c
  | some s =>
    let eid := ((s.holders.find? (fun x => decide (x.index = i))).map (fun x => x.eid)).getD 0
    (c.setWriting slot { s with holders := s.holders.filter (fun x => decide (x.index ≠ i)), lastReason := reason, lastEid := eid }).fillHolders slot 17

/-- Holder i changed. -/
def Chan.setHolder (c : Chan) (slot i : Nat) (f : Holder → Holder) : Chan :=
  match c.tiers.writing.find slot with
  | none => c
  | some s => c.setWriting slot { s with holders := s.holders.map (fun x => if x.index = i then f x else x) }

/-- The fragment that holder i receives. -/
def Chan.fragFor (c : Chan) (slot : Nat) (s : HomeSet) (x : Holder) : List Byte :=
  c.fragBytes slot s.epoch s.red x.index x.sealBase ((c.storageKey (c.entry slot).tslot).getD [])

/-- The next piece of a fragment stored, or FRAG_SEAL once all of it is acknowledged; an uncorrectable error in what is encoded ends the set and faults the context
(R439). -/
def Chan.storeFrag (c : Chan) (slot i : Nat) : Chan :=
  match c.tiers.writing.find slot with
  | none => c
  | some s =>
    match s.holders.find? (fun x => decide (x.index = i ∧ x.step = 1)) with
    | none => c
    | some x =>
      let e := c.entry slot
      let (ok, c) := if x.stored = 0 then c.eccReads ((List.range (groupsOf e.committed)).flatMap (fun g => c.groupRanges slot g)) 4 else (true, c)
      let c := if x.stored = 0 && ok then c.mirrorFrag slot s.epoch s.red i else c
      let data := c.fragFor slot s x
      if !ok then
        let c := c.dropWriting slot
        (match s.cmd with | some (src, _, _, _) => c.complete src 0x22 0 | none => c).fault slot 2
      else if data.length ≤ x.stored then
        (c.setHolder slot i (fun x => { x with step := 2 })).tierRequest x.eid 7
          { TierMsg.blank with index := i, red := s.red, req := e.req, tag := e.tag, epoch := s.epoch, check := beVal ((sha512t256 data).take 16) } (.home slot i)
      else c.issueWork x.eid (baseOp (.frag slot i) 1 x.eid x.region x.stored ((data.drop x.stored).take pushChunk))

/-! ### Reading shares (R355, R357) -/

/-- A read of shares replaced. -/
def Chan.setRead (c : Chan) (slot : Nat) (r : ShareRead) : Chan := { c with tiers := { c.tiers with reads := c.tiers.reads.put slot r } }

/-- Shares that the unit in hand needs: one for the manifest, k for a stripe. -/
def ShareRead.need (r : ShareRead) : Nat := if r.unit = 0 then 1 else schemeK r.red

/-- Bytes of the unit in hand with its tag, and where it lies in a fragment. -/
def ShareRead.span (r : ShareRead) : Nat × Nat := unitSpan (groupsOf r.len) r.bodyBytes r.unit

/-- The holders the reader fetches from: the first it needs that are in use, those past a deadline last. -/
def ShareRead.chosen (r : ShareRead) : List Share :=
  (r.shares.filter (fun x => !x.dead && !x.late) ++ r.shares.filter (fun x => !x.dead && x.late)).take r.need

/-- Has a share of the unit in hand come whole? -/
def ShareRead.whole (r : ShareRead) (x : Share) : Bool := x.seq.isNone && decide (x.buf.length = r.span.2)

/-- HEDGE_FRAG in ns. -/
def Chan.hedgeFrag (c : Chan) : Nat := c.orD Reg.TIER_HEDGE 31 16 2000 * 1000

/-- Share i changed. -/
def ShareRead.upd (r : ShareRead) (i : Nat) (f : Share → Share) : ShareRead :=
  { r with shares := r.shares.map (fun x => if x.index = i then f x else x) }

/-- What the reader asks for next of holder x: its region, its header, or the next bytes of its share under a new FETCH_SEQ. -/
def Chan.askShare (c : Chan) (slot : Nat) (x : Share) : Chan :=
  match c.tiers.reads.find slot with
  | none => c
  | some r =>
    if x.seq.isSome || (!x.head.isEmpty && r.whole x) then c
    else if x.region = 0 then
      if x.asked then c
      else (c.setRead slot (r.upd x.index (fun x => { x with asked := true }))).tierRequest x.eid 0x0C
        { TierMsg.blank with index := x.index, red := r.red, req := r.req, tag := r.tag, epoch := r.epoch } (.share slot x.index)
    else
      let q := c.tiers.fetchSeq
      let c := { c with tiers := { c.tiers with fetchSeq := (q + 1) % 2 ^ 32 } }
      let c := c.setRead slot (r.upd x.index (fun x => { x with seq := some q }))
      let (off, n) := if x.head.isEmpty then (0, 256) else (r.span.1 + x.buf.length, min pushChunk (r.span.2 - x.buf.length))
      c.issueWork x.eid (baseLoad (.share slot q) x.eid x.region off n)

/-- The reader asks every holder it has chosen. -/
def Chan.askShares (c : Chan) (slot : Nat) : Chan :=
  match c.tiers.reads.find slot with
  | none => c
  | some r => r.chosen.foldl (fun c x => c.askShare slot x) c

/-- The plaintext of a share's unit (R341, R352): none where the tag fails. -/
def Share.text (x : Share) (key : List Byte) (unit : Nat) : Option (List Byte) :=
  let n := x.buf.length - 16
  let home := leVal ((x.head.drop 40).take 4)
  let base := leVal ((x.head.drop 48).take 8)
  gcmOpen key (ivOf home (base + unit)) (x.head.take 64 ++ leBytes 4 unit) (x.buf.take n) (x.buf.drop n)

/-- The tier object of a group cannot be had (R348): counted where it is lost, reported, and the context FAULTED with 0x04 for a failed tag or 0x05 for a lost object. -/
def Chan.objectFault (c : Chan) (slot g code : Nat) : Chan :=
  let e := c.entry slot
  let c := if code = 4 then c else c.bump Reg.TIER_FAIL_CNT 47 32 1
  (c.event 0xA001 (some e.tslot) (c.handle slot) (g + code * 2 ^ 32)).fault slot code

/-- A read of shares cannot come to enough of them: the rebuild fails, or the group that it stood in for is lost. -/
def Chan.readFailed (c : Chan) (slot status : Nat) : Chan :=
  let c := c.dropRead slot
  if (c.entry slot).state = .inbound then c.abortInbound slot 0 status
  else match c.tiers.moves.find slot with
    | none => c
    | some m => (c.endMove slot 0xA6).objectFault slot m.next 5

/-- Share i is out of use, for good or for the unit in hand; another takes its place, and a hedged fetch is counted (R355). -/
def Chan.hedge (c : Chan) (slot i : Nat) (forGood : Bool) : Chan :=
  match c.tiers.reads.find slot with
  | none => c
  | some r =>
    let r := r.upd i (fun x => { x with seq := none, buf := [], late := true, dead := x.dead || forGood })
    let c := c.setRead slot r
    if r.chosen.length < r.need then c.readFailed slot 0xA9 else (c.bump Reg.TIER_FAIL_CNT 31 16 1).askShares slot

/-- A stripe is decoded: the groups of a rebuild go to T0, or the group that a move reads is at hand. -/
def Chan.stripeDone (c : Chan) (slot : Nat) (r : ShareRead) (d : List (List Byte)) : Chan :=
  let k := schemeK r.red
  let s := r.unit - 1
  let geo := c.geom (c.entry slot).profile
  if (c.entry slot).state = .inbound then
    (List.range k).foldl (fun c i =>
      let g := s * k + i
      if g < groupsOf r.len ∧ !((c.map slot).grp g).shared then c.storeBody slot g (geo.unpack (d.getD i [])) else c) c
  else { c with tiers := { c.tiers with moves := c.tiers.moves.modify slot (fun m => { m with plain := some (d.getD (m.next % max 1 k) []), left := 0 }) } }

/-- The unit in hand has all the shares it needs: it is opened, decoded and used, and the reader goes on to the next one. -/
def Chan.unitRead (c : Chan) (slot : Nat) : Chan :=
  match c.tiers.reads.find slot with
  | none => c
  | some r =>
    let whole := r.shares.filter (fun x => !x.head.isEmpty && r.whole x)
    if whole.length < r.need then c
    else
      let key := (c.storageKey (c.entry slot).tslot).getD []
      let use := whole.take r.need
      match use.find? (fun x => (x.text key r.unit).isNone) with
      | some x => (c.bump Reg.TIER_FAIL_CNT 63 48 1).hedge slot x.index true
      | none =>
        let texts : AMap (List Byte) := use.foldl (fun m x => m.put x.index ((x.text key r.unit).getD [])) []
        let c := if r.unit = 0 then
            let man := (texts.head?.map Prod.snd).getD []
            (c.setRead slot { r with man := man }).markGroups slot (groupsOf r.len) man
          else c.stripeDone slot r (decodeShares (schemeK r.red) r.bodyBytes texts)
        match c.tiers.reads.find slot with
        | none => c
        | some r =>
          let r := { r with unit := r.unit + 1, due := c.time + c.hedgeFrag,
                            shares := r.shares.map (fun x => { x with buf := [], seq := none }) }
          let c := c.setRead slot r
          if r.last < r.unit then c
          else (c.bump Reg.TIER_FAIL_CNT 31 16 (r.chosen.countP (fun x => decide (schemeK r.red ≤ x.index)))).askShares slot

/-- Do a holder's header and the reader's set agree (R357)? -/
def ShareRead.headerOk (r : ShareRead) (i : Nat) (h : List Byte) : Bool :=
  let f := fun (off n : Nat) => leVal ((h.drop off).take n)
  decide (f 0 8 = r.req ∧ f 8 4 = r.tag ∧ f 12 4 = r.epoch ∧ f 20 1 = r.red ∧ f 21 1 = i ∧ f 24 4 = groupsOf r.len ∧ f 28 4 = r.len ∧
    f 252 4 = crc32c (h.take 252))

/-- A fetch under a FETCH_SEQ has ended; one that is not open is discarded and counted as late (R355). -/
def Chan.shareEnded (c : Chan) (slot q : Nat) (w : Ended) : Chan :=
  let late := c.bump Reg.TIER_FAIL_CNT 15 0 1
  match c.tiers.reads.find slot with
  | none => late
  | some r =>
    match r.shares.find? (fun x => decide (x.seq = some q)) with
    | none => late
    | some x =>
      if w.status ≠ 0 then c.hedge slot x.index true
      else if x.head.isEmpty then
        if r.headerOk x.index w.data then (c.setRead slot (r.upd x.index (fun x => { x with head := w.data.take 128, seq := none }))).askShares slot
        else c.readFailed slot 0xA9
      else ((c.setRead slot (r.upd x.index (fun x => { x with buf := x.buf ++ w.data, seq := none }))).unitRead slot).askShares slot

/-- The shares of a set as its holders are known, none read yet. -/
def sharesOf (hs : List (Nat × Nat × Nat)) : List Share :=
  hs.map (fun e => ⟨e.1, e.2.1, e.2.2, decide (e.2.2 ≠ 0), [], [], none, false, false⟩)

/-- The hedged read of the group in hand of a move (R355): the shares of its stripe are fetched. -/
def Chan.hedgeMove (c : Chan) (slot g : Nat) (h : HomeSet) : Chan :=
  let e := c.entry slot
  let u := g / max 1 (schemeK h.red) + 1
  let c := c.setRead slot { req := e.req, tag := e.tag, epoch := h.epoch, red := h.red, len := e.committed,
                            bodyBytes := (c.geom e.profile).bodyBytes, shares := sharesOf (h.holders.map (fun x => (x.eid, x.index, x.region))),
                            unit := u, last := u, due := c.time + c.hedgeFrag, man := [] }
  (c.bump Reg.TIER_FAIL_CNT 31 16 1).askShares slot

/-- May a hedged read stand in for a tier object of the context: PARKED, with a fragment set (R348)? -/
def Chan.mayHedge (c : Chan) (slot : Nat) : Option HomeSet := if (c.entry slot).state = .parked then c.tiers.homes.find slot else none

/-- A read of a T1 or T2 object for a move has failed (R348): the hedged read of R355 for a PARKED context with a fragment set, else the context is FAULTED. -/
def Chan.tierReadFailed (c : Chan) (slot code : Nat) : Chan :=
  let c := if code = 4 then c.bump Reg.TIER_FAIL_CNT 63 48 1 else c
  match c.tiers.moves.find slot with
  | none => c
  | some m => match c.mayHedge slot with
    | some h => if (c.tiers.reads.find slot).isSome then c else c.hedgeMove slot m.next h
    | none => (c.endMove slot (if code = 4 then 0xA5 else 0xA6)).objectFault slot m.next code

/-- Objects are lost with the memory that held them (R348): every context with one of them becomes FAULTED, but for a PARKED one with a fragment set, whose reads are
hedged. How many contexts are faulted. -/
def Chan.loseObjects (c : Chan) (lost : TierObj → Bool) : Nat × Chan :=
  let hit := c.tiers.objs.filter (fun e => lost e.2)
  let slots := (hit.map (fun e => e.2.slot)).eraseDups.filter (fun s => (c.mayHedge s).isNone)
  (slots.length, slots.foldl (fun c s =>
    let g := ((hit.filter (fun e => decide (e.2.slot = s))).map (fun e => e.2.group)).foldl min (2 ^ 18)
    (c.endMove s 0xA6).objectFault s g 5) c)

/-- A borrowed lease has ended by revocation, as a refused access shows (R348, R360). -/
def Chan.leaseEnded (c : Chan) (i : Nat) : Chan :=
  match c.tiers.leases.find i with
  | none => c
  | some l =>
    if l.lent then c
    else
      let had := c.tiers.objs.anyOf (fun _ o => o.inLease i)
      let c := { c with tiers := { c.tiers with leases := c.tiers.leases.del i } }
      let (n, c) := c.loseObjects (fun o => o.inLease i)
      if had then c.event 0xA005 none i n else c

/-! ### The end of the base programs' operations -/

/-- The object that the group in hand of a move is read from, or written to. -/
def Chan.moveObj (c : Chan) (slot : Nat) (m : TierMove) : Option TierObj :=
  if m.reading then c.tiers.objs.find (((c.map slot).grp m.next).frames.getD 0 0) else m.obj.bind c.tiers.objs.find

/-- An operation of a tier move has ended; one under a FETCH_SEQ that is not open is discarded, and counted as late where it brings data (R355). A refused access
shows that the lease is gone. -/
def Chan.tierEnded (c : Chan) (slot q : Nat) (w : Ended) : Chan :=
  let late := if w.data.isEmpty then c else c.bump Reg.TIER_FAIL_CNT 15 0 1
  match c.tiers.moves.find slot with
  | none => late
  | some m =>
    if m.seq ≠ q then late
    else
      let bad := decide (w.status ≠ 0)
      let m' := { m with left := m.left - 1, data := if bad then m.data else m.data.put (w.addr % 2 ^ 42) w.data, failed := m.failed || bad }
      let lease := (c.moveObj slot m).map (fun o => o.lease)
      let c := { c with tiers := { c.tiers with moves := c.tiers.moves.put slot m' } }
      if bad ∧ !m.failed ∧ w.status = 0x84 ∧ !m.reading then (c.endMove slot 0xA2).leaseEnded (lease.getD 256)
      else if bad ∧ !m.failed ∧ m.reading then
        let c := c.tierReadFailed slot 5
        if w.status = 0x84 then c.leaseEnded (lease.getD 256) else c
      else if m'.failed ∧ m'.left = 0 ∧ !m.reading then c.endMove slot 0xA2
      else c

/-- A store of a fragment has ended: the next piece goes, or the holder is lost. -/
def Chan.fragEnded (c : Chan) (slot i : Nat) (w : Ended) : Chan :=
  if w.status ≠ 0 then c.holderLost slot i 6
  else (c.setHolder slot i (fun x => { x with stored := x.stored + w.len })).storeFrag slot i

/-- Every operation of the base programs' own work that has ended is served, until none is left. -/
def Chan.serveEnded (c : Chan) : Nat → Chan
  | 0 => c
  | n + 1 =>
    match c.fab.ended with
    | [] => c
    | w :: rest =>
      let c := { c with fab := { c.fab with ended := rest } }
      (match w.work with
        | .pull _ => c.transferEnded w
        | .push _ => c.transferEnded w
        | .tier slot q => c.tierEnded slot q w
        | .frag slot i => c.fragEnded slot i w
        | .share slot q => c.shareEnded slot q w).serveEnded n

/-- How many ended operations one command can bring about at most. -/
def serveFuel : Nat := 4096

/-- A command of one channel that may end operations of the base programs. -/
def onChS (c : ChId) (f : Chan → Chan) (s : State) : Host.Outcome State Fault Refusal := onCh c (fun x => (f x).serveEnded serveFuel) s

end Sys2Proof.Machine
end

