-- ==== Sys2Proof/Machine/Context.lean ====
section
/-! DEFINITION. The meanings of the context commands (chapter 3): open, seal, retire, query, find, set and signal, and the table's timers. -/
namespace Sys2Proof.Machine
open Sys2Proof

/-! ### CTX_OPEN (R84, R65, R68) -/

/-- Does the role accept a context-open with this OPEN_DECODING (R26)? -/
def Chan.roleOpens (c : Chan) (decoding : Bool) : Bool :=
  match c.actingRole with
  | .prompt => !decoding
  | .generation => decoding
  | _ => false

/-- The entries of a tenant slot that hold a request id, FREE ones left out. -/
def Chan.entriesOf (c : Chan) (t req : Nat) : List (Nat × Entry) :=
  c.ctx.entries.filter (fun e => decide (e.2.tslot = t ∧ e.2.req = req ∧ e.2.state ≠ .free))

/-- The result record of ctx.open: CTXH and EPOCH. -/
def openRecord (h epoch : Nat) : List Byte := leBytes 8 h ++ leBytes 4 epoch

/-- The entry that a ctx.open fills (R65, R75, R400). -/
def Chan.openEntry (c : Chan) (t slot gen req prio deadline profile red flags : Nat) : Entry :=
  { Entry.free with
      gen := gen, epoch := 1, req := req, tag := c.tag t, tslot := t, prio := prio, profile := profile, format := (c.geom profile).format, red := red,
      deadline := deadline, pgt := mapOf slot, governor := c.govStart,
      isPrivate := flags.testBit 1 || c.flag (Reg.SEC_TEN_CFG t) 63 }

/-- A slot allocated and entered, with the four bound counters at zero before the transition (R68, R77). -/
def Chan.openSlot (c : Chan) (slot : Nat) (e : Entry) (st : CtxState) : Chan :=
  let c := (c.setMap slot PageMap.init).noHand slot
  let c := { c with ctx := { c.ctx with deadlineDone := c.ctx.deadlineDone.del slot } }
  (c.setEntry slot { e with state := .free }).moveTo slot st 0 id

/-- ctx.open (R84): the checks in their order, then the slot at the head of the free queue. -/
def Chan.ctxOpen (c : Chan) (src : Src) (req prio budget profile red flags : Nat) : Chan :=
  let t := src.slot
  let geo := c.geom profile
  let live := (c.entriesOf t req).filter (fun e => decide (e.2.state ≠ .retired))
  if c.eid.isNone then c.complete src 0x2A 0
  else if !c.roleOpens (flags.testBit 0) then c.complete src 0x2E 0
  else if c.fnState 0 = .stopping then c.complete src 0x2F 0
  else if 7 < prio ∨ 3 < flags ∨ 15 < profile ∨ !c.profOk profile ∨ !geo.redunOk red then c.complete src 0x28 0
  else match live with
    | (slot, e) :: _ => c.completeX src 0x25 (openRecord (c.handle slot) e.epoch)
    | [] =>
      if !(c.entriesOf t req).isEmpty then c.complete src 0x26 0
      else if c.quotaFull t then (c.quotaEvent t).complete src 0x24 0
      else if c.noSlot then c.noSlotEvent.complete src 0x23 0
      else if c.paused t then c.complete src 0xD0 0
      else match c.nextSlot with
        | none => c.noSlotEvent.complete src 0x23 0
        | some (slot, gen, c) =>
          let (dl, c) := c.deadlineOf budget
          let c := c.openSlot slot (c.openEntry t slot gen req prio dl profile red flags) (if flags.testBit 0 then .decoding else .prefilling)
          c.completeX src 0 (openRecord (c.handle slot) 1)

/-- CTX_OPEN. -/
def execCtxOpen (c : ChId) (src : Src) (req prio budget profile red flags : Nat) (s : State) : Host.Outcome State Fault Refusal :=
  onCh c (fun x => x.ctxCommand src ⟨false, false, true⟩ (fun x => x.ctxOpen src req prio budget profile red flags)) s

/-! ### CTX_SEAL and SEAL_COMPLETE (R65, R67, R121) -/

/-- CTX_SEAL: later appends are refused, and the command waits for the placement of those admitted before it. -/
def execCtxSeal (c : ChId) (src : Src) (h : Nat) (s : State) : Host.Outcome State Fault Refusal :=
  onCh c (fun x => x.ctxCommand src ⟨false, false, false⟩ (fun x => x.withCtx src h (fun slot =>
    if (x.entry slot).state ≠ .prefilling ∨ (x.ctx.sealing.find slot).isSome then x.complete src 0x22 0
    else { x with ctx := { x.ctx with sealing := x.ctx.sealing.put slot src } }))) s

/-- Token positions at or beyond n of which at least one unit has been placed (R121): complete records of a layer, and the incomplete ones. -/
def PageMap.beyond (m : PageMap) (layers n : Nat) : List Nat :=
  let top := (List.range layers).foldl (fun a l => max a (m.fillOf l)) 0
  let full := (List.range (top - n)).map (fun i => n + i)
  full ++ ((m.placed.filter (fun e => decide (top ≤ e.1 % 2 ^ 22 ∧ n ≤ e.1 % 2 ^ 22))).map (fun e => e.1 % 2 ^ 22)).eraseDups

/-- The seal (R121): the length and every F[l] at the minimum fill, tokens beyond it discarded, frames with no committed row to the cullet list. -/
def Chan.sealNow (c : Chan) (slot : Nat) (src : Src) : Chan :=
  let e := c.entry slot
  let geo := c.geom e.profile
  let m := c.map slot
  let n := m.minFill geo.layers
  let gone := (m.beyond geo.layers n).length
  let c := { c with ctx := { c.ctx with sealing := c.ctx.sealing.del slot } }
  let c := if e.committed < n then c.commitTo slot n id else c
  let c := c.setMap slot ((c.map slot).setFill geo.layers n)
  let c := c.freeGroups slot (groupsOf n)
  let c := c.enter slot .sealed 0 id
  let c := if gone = 0 then c
    else (c.bump Reg.PG_DISCARD_CNT 31 0 gone).event 0x2005 (some e.tslot) (c.handle slot) (gone + n * 2 ^ 32)
  c.complete src 0 n

/-- SEAL_COMPLETE: nothing admitted before the seal is left to place. -/
def execSealComplete (c : ChId) (slot : Nat) (s : State) : Host.Outcome State Fault Refusal :=
  onCh c (fun x => match x.ctx.sealing.find slot with
    | some src => if (x.entry slot).state = .prefilling ∧ (x.map slot).staged.isEmpty then x.sealNow slot src else x
    | none => x) s

/-! ### CTX_RETIRE and DRAIN_COMPLETE (R65, R67, R202, R343) -/

/-- Units admitted and not yet placed are discarded, unmetered (R67); the transport is done with them. -/
def Chan.discardStaged (c : Chan) (slot : Nat) : Chan :=
  let m := c.map slot
  m.staged.foldl (fun c u => c.unitDone u.conn u.psn) (c.setMap slot { m with staged := [] })

/-- A draft truncated by ctx.retire (R202). -/
def Chan.dropDraft (c : Chan) (slot : Nat) : Chan :=
  let e := c.entry slot
  if (c.drafts.find slot).isNone then c
  else
    let c := { c.endVerify slot 0x22 with drafts := c.drafts.del slot }
    (c.bump Reg.SPC_TRUNC_CNT 63 0 e.provisional).event 0x5005 (some e.tslot) (c.handle slot) (e.provisional % 4096)

/-- Commands of the context that wait for something other than its end: ctx.seal, and a ctx.set whose fragment set is being written. -/
def Chan.endWaits (c : Chan) (slot : Nat) : Chan :=
  let c := c.endSeal slot 0x22
  let c := match (c.tiers.writing.find slot).bind (fun w => w.cmd) with
    | some (src, _) => c.complete src 0x22 0
    | none => c
  (c.dropWriting slot).dropRead slot

/-- ctx.retire accepted: new operations are refused, those admitted may finish, and the context detaches from its prefix owner. -/
def Chan.retire (c : Chan) (slot : Nat) (src : Src) : Chan :=
  let c := ((c.dropDraft slot).discardStaged slot).endWaits slot
  let c := (c.stopMove slot 0xAB).freeSet slot
  let c := { c with ctx := { c.ctx with retiring := c.ctx.retiring.put slot [src] } }
  (c.enter slot .draining 0 (fun e => { e with provisional := 0 })).detach slot

/-- CTX_RETIRE. -/
def execCtxRetire (c : ChId) (src : Src) (h : Nat) (s : State) : Host.Outcome State Fault Refusal :=
  onChS c (fun x => x.ctxCommand src ⟨false, true, false⟩ (fun x => x.withCtx src h (fun slot =>
    match (x.entry slot).state with
    | .retired => x.complete src 0 0
    | .offered | .inbound => x.complete src 0x27 0
    | .draining => { x with ctx := { x.ctx with retiring := x.ctx.retiring.put slot (x.ctx.retiring.getD slot [] ++ [src]) } }
    | _ => x.retire slot src))) s

/-- Have the operations admitted on a draining context finished: attention jobs, a tier move, and the detach from its prefix owner? -/
def Chan.drained (c : Chan) (slot : Nat) : Bool :=
  !(c.cru.jobs.anyOf (fun _ j => decide (j.slot = slot ∧ j.status = 0))) && (c.tiers.moves.find slot).isNone && !(c.entry slot).prefixAttached

/-- The final counts of a slot sent to the meter, where a credit is held; else the next TOTALS frame carries them (R65, R416). -/
def Chan.finalCounts (c : Chan) (t : Nat) : Chan :=
  if c.linkLive ∧ 0 < c.mtr.credits ∧ !c.mtr.absent ∧ c.tag t ≠ 0 then c.sendTotals t else c

/-- DRAIN_COMPLETE: the groups that attachers may read are kept until PREFIX_REFS is zero; else the context ends. -/
def execDrainComplete (c : ChId) (slot : Nat) (s : State) : Host.Outcome State Fault Refusal :=
  onCh c (fun x =>
    let e := x.entry slot
    if e.state ≠ .draining ∨ !x.drained slot then x
    else if e.refs = 0 then (x.finalCounts e.tslot).toRetired slot 0 id
    else if e.sub = 1 then x
    else (x.freeGroups slot e.span).enter slot .draining 1 id) s

/-! ### CTX_QUERY, CTX_FIND and CTX_SIGNAL (R82) -/

/-- CTX_QUERY: bytes [95:0] of the entry, then EVC0 to EVC3. -/
def execCtxQuery (c : ChId) (src : Src) (h : Nat) (s : State) : Host.Outcome State Fault Refusal :=
  onCh c (fun x => x.ctxCommand src ⟨false, true, false⟩ (fun x => x.withCtx src h (fun slot => x.completeX src 0 (x.entry slot).bytes))) s

/-- Of the RETIRED entries, one whose STATE_TIME is latest. -/
def latest : List (Nat × Entry) → Option (Nat × Entry)
  | [] => none
  | e :: t => match latest t with
    | none => some e
    | some f => if f.2.stateTime ≤ e.2.stateTime then some e else some f

/-- CTX_FIND. -/
def execCtxFind (c : ChId) (src : Src) (req : Nat) (s : State) : Host.Outcome State Fault Refusal :=
  onCh c (fun x => x.ctxCommand src ⟨false, true, true⟩ (fun x =>
    let es := x.entriesOf src.slot req
    match es.filter (fun e => decide (e.2.state ≠ .retired)), latest es with
    | (slot, _) :: _, _ => x.complete src 0 (x.handle slot)
    | [], some (slot, _) => x.complete src 0 (x.handle slot)
    | [], none => x.complete src 0x20 0)) s

/-- CTX_SIGNAL: EVC3 raised, in every state but those whose contexts refuse every operation (R71, R502) and the handoff's last step. -/
def execCtxSignal (c : ChId) (src : Src) (h amount : Nat) (s : State) : Host.Outcome State Fault Refusal :=
  onCh c (fun x => x.ctxCommand src ⟨false, false, false⟩ (fun x => x.withCtx src h (fun slot =>
    let e := x.entry slot
    if e.state = .retired ∨ e.state = .faulted ∨ (e.state = .inbound ∧ e.sub = 3) then x.complete src 0x22 0
    else
      let x := if amount % 2 ^ 32 = 0 then x else x.addCtr (.bound slot 3) (amount % 2 ^ 32)
      x.complete src 0 (x.entry slot).evc3))) s

/-! ### CTX_SET (R82, R75, R352) -/

/-- ctx.set on a context that its channel serves: a mask of zero has no effect; a redundancy raised while PARKED on a cache-role channel waits for its
fragment set. -/
def Chan.ctxSet (c : Chan) (src : Src) (slot mask prio budget red : Nat) : Chan :=
  let e := c.entry slot
  let mask := mask % 8
  if mask = 0 then c.complete src 0 0
  else if (mask.testBit 0 ∧ 7 < prio) ∨ (mask.testBit 2 ∧ !(c.geom e.profile).redunOk red) then c.complete src 0x28 0
  else if mask.testBit 2 ∧ (c.tiers.writing.find slot).isSome then c.complete src 0x22 0
  else
    let (dl, c) := if mask.testBit 1 then c.deadlineOf budget else (0, c)
    if mask.testBit 2 ∧ e.state = .parked ∧ c.role.cur = .cache ∧ e.red < red ∧ (c.tiers.homes.getD slot ⟨0, 0, [], 0, none, 0, 0⟩).red ≠ red then
      c.startSet slot e.epoch red (some (src, mask, prio, dl))
    else (c.update slot 3 (fun e => e.settings mask prio dl red)).complete src 0 0

/-- CTX_SET. -/
def execCtxSet (c : ChId) (src : Src) (h mask prio budget red : Nat) (s : State) : Host.Outcome State Fault Refusal :=
  onChS c (fun x => x.ctxCommand src ⟨false, false, false⟩ (fun x => x.withCtx src h (fun slot =>
    match (x.entry slot).state with
    | .offered | .inbound => x.complete src 0x27 0
    | .prefilling | .sealed | .decoding | .parked => x.ctxSet src slot mask prio budget red
    | _ => x.complete src 0x22 0))) s

/-! ### The table's timers (R69, R73, R76, R88) -/

/-- DEADLINE_REACHED: OVERRUN is set, and the deadline-overrun event is raised once for each DEADLINE value. -/
def execDeadlineReached (c : ChId) (slot : Nat) (s : State) : Host.Outcome State Fault Refusal :=
  onCh c (fun x =>
    let e := x.entry slot
    if e.deadline = 0 ∨ e.state = .free ∨ e.state = .retired ∨ x.ctx.deadlineDone.find slot = some e.deadline then x
    else
      let x := (x.reach e.deadline).update slot 3 (fun e => { e with overrun := true })
      let x := { x with ctx := { x.ctx with deadlineDone := x.ctx.deadlineDone.put slot e.deadline } }
      (x.bump Reg.CTX_EVENT_CNT 63 32 1).event 0x1003 (some e.tslot) (x.handle slot) e.deadline) s

/-- TOMBSTONE_END: 100 ms after it entered RETIRED, the slot is FREE and at the tail of the free queue. -/
def execTombstoneEnd (c : ChId) (slot : Nat) (s : State) : Host.Outcome State Fault Refusal :=
  onCh c (fun x =>
    let e := x.entry slot
    if e.state ≠ .retired then x
    else
      let x := ((x.reach (e.stateTime + 100 * ms)).moveTo slot .free 0 id).noHand slot
      { x with ctx := { x.ctx with freeQ := pushRun x.ctx.freeQ slot } }) s

/-- STARTUP_SLOT_HOLD_END. -/
def execStartupSlotHoldEnd (c : ChId) (s : State) : Host.Outcome State Fault Refusal :=
  onCh c (fun x => match x.ctx.holdUntil with
    | none => x
    | some t => let x := x.reach t; { x with ctx := { x.ctx with holdUntil := none } }) s

/-- JOURNAL_WRITE_FAIL: the newest record of a slot and cause was not acknowledged; its copy stands at the next ring position. -/
def execJournalWriteFail (c : ChId) (slot cause : Nat) (s : State) : Host.Outcome State Fault Refusal :=
  onCh c (fun x => match x.ctx.journal.recs.find? (fun r => decide (r.slot = slot ∧ r.cause = cause)) with
    | none => x
    | some r =>
      let j := x.ctx.journal
      { x with ctx := { x.ctx with journal := { j with degraded := true, ringPos := (j.ringPos + 1) % 1048576 } } }.event 0x1009 none r.seq j.ringPos) s

/-- SNAPSHOT_DUE: after SNAP_RECORDS records, or at the end of the interval. -/
def execSnapshotDue (c : ChId) (s : State) : Host.Outcome State Fault Refusal :=
  onCh c (fun x =>
    let j := x.ctx.journal
    (if x.snapRecords ≤ j.sinceSnap then x else x.reach (j.snapTime + x.snapInterval)).snapshot) s

end Sys2Proof.Machine
end

