-- ==== Sys2Proof/Machine/AttendMath.lean ====
section
/-! DEFINITION. The arithmetic of the crucibles (R167 to R170): exp and tanh within the limits that the spec sets, logits, the page update and the merge rule, on
FP32 codes. Every result comes with the number of saturations it counted. -/
namespace Sys2Proof.Machine
open Sys2Proof

/-! ### exp and tanh (R167, R168) -/

/-- The fixed point in which exp is worked out: 256 fraction bits. -/
def expOne : Nat := 2 ^ 256

/-- e^(−x) for x below 128, both in fixed point: the Taylor series of x / 256, and eight squarings. -/
def expFix (x : Nat) : Nat :=
  let y := x / 256
  let s := (List.range 80).foldl (fun (acc : Nat × Nat × Nat) i =>
    let (term, plus, minus) := acc
    let next := term * y / expOne / (i + 1)
    if i % 2 = 0 then (next, plus, minus + next) else (next, plus + next, minus)) (expOne, expOne, 0)
  (List.range 8).foldl (fun t _ => t * t / expOne) (s.2.1 - s.2.2)

/-- e^(−n / d) in fixed point, 0 where it is below every value that matters. -/
def expNegQ (n d : Nat) : Nat := if 128 * d ≤ n then 0 else expFix (n * expOne / d)

/-- |m × 2^e − n / d|, as numerator and denominator. -/
def distance (m : Nat) (e : Int) (n d : Nat) : Nat × Nat :=
  let (a, b) := scaleRat m 1 e
  ((max (a * d) (n * b)) - min (a * d) (n * b), b * d)

/-- A free FP32 code of at most one sign where it stands within `bound` of the value n / d, else the code nearest to the value. -/
def within (cand n d boundN boundD : Nat) : Nat :=
  let near := roundCode 23 (-126) n d 0
  match Fp.ofFp32 (cand % 2 ^ 31) with
  | .fin _ m e =>
    let (a, b) := distance m e n d
    if a * boundD ≤ boundN * b then cand % 2 ^ 31 else near
  | _ => near

/-- exp of the crucibles (R168): 1 at 0, +0 below 2^-126, else a value within 2^-22 of e^x, relative. -/
def crucExp (x : Nat) : Nat :=
  match Fp.ofFp32 x with
  | .nan => 0
  | .inf s => if s then 0 else 0x7F7FFFFF
  | .fin s m e =>
    if m = 0 then 0x3F800000
    else
      let (a, b) := scaleRat m 1 e
      if s then
        let n := expNegQ a b
        if n < 2 ^ 130 then 0 else within (Config.fp32Exp x) n expOne n (expOne * 2 ^ 22)
      else
        let n := expNegQ a b
        if n = 0 then 0x7F7FFFFF else min 0x7F7FFFFF (within (Config.fp32Exp x) expOne n expOne (n * 2 ^ 22))

/-- CAP × tanh(s / CAP), within 2^-22 × CAP (R167). -/
def crucCap (s cap : Nat) : Nat :=
  match Fp.ofFp32 s, Fp.ofFp32 cap with
  | .fin neg ms es, .fin _ mc ec =>
    let (a, b) := scaleRat (2 * ms) mc (es - ec)
    let n := expNegQ a b
    let (vn, vd) := scaleRat (mc * (expOne - n)) (expOne + n) ec
    let (bn, bd) := scaleRat mc (2 ^ 22) ec
    let cand := Config.fp32Tanh (s + cap * 2 ^ 32)
    if cand.testBit 31 ≠ neg ∧ cand % 2 ^ 31 ≠ 0 then
      -- a value on the other side of zero
      match Fp.ofFp32 (cand % 2 ^ 31) with
      | .fin _ m e =>
        let (x, y) := scaleRat m 1 e
        if (x * vd + vn * y) * bd ≤ bn * (y * vd) then cand % 2 ^ 32 else b2n neg * 2 ^ 31 + roundCode 23 (-126) vn vd 0
      | _ => b2n neg * 2 ^ 31 + roundCode 23 (-126) vn vd 0
    else b2n neg * 2 ^ 31 + within cand vn vd bn bd
  | _, _ => 0

/-! ### Saturating FP32 (R167) -/

/-- A product rounded once. -/
def satMul (a b : Nat) : Nat × Nat := let r := (Fp.mul (.ofFp32 a) (.ofFp32 b)).toSat; (r.1, b2n r.2)

/-- A sum rounded once. -/
def satSum (a b : Nat) : Nat × Nat := let r := (Fp.add (.ofFp32 a) (.ofFp32 b)).toSat; (r.1, b2n r.2)

/-- A fused multiply-add, rounded once. -/
def satFma (a b d : Nat) : Nat × Nat := let r := (Fp.add (Fp.mul (.ofFp32 a) (.ofFp32 b)) (.ofFp32 d)).toSat; (r.1, b2n r.2)

/-- −∞. -/
def negInf : Nat := 0xFF800000

/-- a − b of two logits, rounded and saturated; −∞ less a logit stays −∞ and is no overflow. -/
def logitGap (a b : Nat) : Nat × Nat :=
  if a = negInf then (negInf, 0) else let r := (Fp.add (.ofFp32 a) (Fp.neg (.ofFp32 b))).toSat; (r.1, b2n r.2)

/-- A block sum times its scale, rounded (R167): under an infinite static S a nonzero sum saturates and zero gives +0, a NaN S gives +0. The value of an INT4-G
scale that encodes no finite number is free. -/
def blockTimes (fmt : Nat) (b : Fp) (scale : Nat) : Nat × Nat :=
  match b, scaleValue fmt scale with
  | .fin s m e, .fin t n f => let r := (Fp.mul (.fin s m e) (.fin t n f)).toSat; (r.1, b2n r.2)
  | .fin s m _, .inf t =>
    if fmt = 4 then (finiteCode (Config.nanElement fmt 0 scale), 0)
    else if m = 0 then (0, 0) else (b2n (s != t) * 2 ^ 31 + 0x7F7FFFFF, 1)
  | _, _ => if fmt = 4 then (finiteCode (Config.nanElement fmt 0 scale), 0) else (0, 0)

/-- A stored element without its scale; one that encodes no finite value is free. -/
def elemFinite (fmt code : Nat) : Fp :=
  match elemValue fmt code with
  | .fin s m e => .fin s m e
  | _ => .ofFp32 (finiteCode (Config.nanElement fmt code 0))

/-- A query element (R167): NaN codes are replaced by +0. -/
def queryElem (code : Nat) : Fp :=
  match Fp.ofE4m3 code with
  | .nan => .fin false 0 0
  | x => x

/-- Query elements replaced among the codes of a row. -/
def queryNans (codes : List Byte) : Nat := codes.countP (fun b => b.toNat % 128 == 127)

/-- The logit of a query row and a key row (R167): block sums in ascending order, the scale, and the cap. -/
def logitOf (fmt : Nat) (q : List Fp) (codes scales : List Nat) (sc : Nat) (cap : Option Nat) : Nat × Nat :=
  let (acc, n) := (List.range scales.length).foldl (fun (acc : Nat × Nat) b =>
    let sum := (List.range 32).foldl (fun s i => Fp.add s (Fp.mul (q.getD (32 * b + i) (.fin false 0 0)) (elemFinite fmt (codes.getD (32 * b + i) 0))))
      (Fp.fin false 0 0)
    let (p, n1) := blockTimes fmt sum (scales.getD b 0)
    let (a, n2) := satSum acc.1 p
    (a, acc.2 + n1 + n2)) (0, 0)
  let (s, m) := satMul acc sc
  match cap with
  | none => (s, n + m)
  | some c => (crucCap s c, n + m)

/-! ### Partials (R169, R170) -/

/-- A running partial of one row: o, m and l. -/
structure Partial where
  o : List Nat
  m : Nat
  l : Nat
  deriving DecidableEq, Repr

/-- An empty partial. -/
def Partial.empty : Partial := ⟨[], negInf, 0⟩

/-- Element i of o. -/
def Partial.at_ (p : Partial) (i : Nat) : Nat := p.o.getD i 0

/-- page_update (R169) over the visible tokens of a page: the logit and the value row of each, in ascending order. -/
def pageUpdate (dim : Nat) (row : Partial) (toks : List (Nat × List Nat)) : Partial × Nat :=
  if toks.isEmpty then (row, 0)
  else
    let mn := toks.foldl (fun m t => fp32Max m t.1) row.m
    let gap := logitGap row.m mn
    let a := crucExp gap.1
    let l0 := satMul row.l a
    let o0 := (List.range dim).map (fun i => (satMul (row.at_ i) a).1)
    let r := toks.foldl (fun (acc : Partial × Nat) t =>
      let d := logitGap t.1 mn
      let p := crucExp d.1
      let (l, n1) := satSum acc.1.l p
      let os := (List.range dim).map (fun i => satFma p (t.2.getD i 0) (acc.1.at_ i))
      (⟨os.map Prod.fst, mn, l⟩, acc.2 + d.2 + n1 + (os.map Prod.snd).sum)) (⟨o0, mn, l0.1⟩, gap.2 + l0.2)
    r

/-- The merge rule (R170). -/
def mergePartial (dim : Nat) (a b : Partial) : Partial × Nat :=
  if b.l % 2 ^ 31 = 0 then (a, 0)
  else if a.l % 2 ^ 31 = 0 then (b, 0)
  else
    let (hi, lo) := if (Fp.ofFp32 a.m).lt (.ofFp32 b.m) then (b, a) else (a, b)
    let d := logitGap lo.m hi.m
    let e := crucExp d.1
    let (l, n) := satFma lo.l e hi.l
    let os := (List.range dim).map (fun i => satFma (lo.at_ i) e (hi.at_ i))
    (⟨os.map Prod.fst, hi.m, l⟩, d.2 + n + (os.map Prod.snd).sum)

/-- One level of the tree: adjacent pairs. -/
def mergeLevel (dim : Nat) : List Partial → List Partial × Nat
  | a :: b :: t =>
    let (x, n) := mergePartial dim a b
    let (r, k) := mergeLevel dim t
    (x :: r, n + k)
  | l => (l, 0)

/-- The balanced tree over the pseudo-channels (R170). -/
def mergeTree (dim : Nat) : Nat → List Partial → Partial × Nat
  | 0, l => (l.headD Partial.empty, 0)
  | n + 1, l =>
    let (x, k) := mergeLevel dim l
    let (r, j) := mergeTree dim n x
    (r, k + j)

/-- The bytes of a row of a reply (R173): an empty row holds zeros, −∞ and zero. -/
def Partial.bytes (dim : Nat) (p : Partial) : List Byte :=
  if p.l % 2 ^ 31 = 0 then List.replicate (4 * dim) 0 ++ leBytes 4 negInf ++ leBytes 4 0
  else (List.range dim).flatMap (fun i => leBytes 4 (p.at_ i)) ++ leBytes 4 p.m ++ leBytes 4 p.l

/-- The scales of a run of stored scale bytes; the static formats have one static S for each of n blocks. -/
def scalesOf (fmt static n : Nat) (data : List Byte) : List Nat :=
  match scaleWidth fmt with
  | 0 => List.replicate n static
  | 1 => data.map BitVec.toNat
  | _ => (List.range n).map (fun b => leVal ((data.drop (2 * b)).take 2))

/-- A value row formed as products e × σ (R167): the FP32 codes, and how many saturated. -/
def valueRow (fmt : Nat) (codes scales : List Nat) : List Nat × Nat :=
  let vs := codes.mapIdx (fun i x => elemTimes fmt x (scales.getD (i / 32) 0))
  (vs.map Prod.fst, vs.countP Prod.snd)

/-- Bytes of one tile row's elements and of its scales (R97). -/
def tileRow (fmt dim : Nat) : Nat × Nat := (if fourBit fmt then dim / 2 else dim, dim / 32 * scaleWidth fmt)

/-- ATTEND_PAGE of R449: each query row after page_update from an empty partial with all 16 tokens visible, over a K tile and a V tile whose data come before their
scales. The message holds no static scale; the static formats take S as 1. -/
def attendPage (fmt dim scale : Nat) (queries : List (List Byte)) (k v : List Byte) : List Byte :=
  let (d, w) := tileRow fmt dim
  let row := fun (t : List Byte) (r : Nat) =>
    (unpackElems fmt ((t.drop (r * d)).take d), scalesOf fmt 0x3F800000 (dim / 32) ((t.drop (16 * d + r * w)).take w))
  queries.flatMap (fun q =>
    let qe := q.map (fun b => queryElem b.toNat)
    let toks := (List.range 16).map (fun r =>
      let kr := row k r
      let vr := row v r
      ((logitOf fmt qe kr.1 kr.2 scale none).1, (valueRow fmt vr.1 vr.2).1))
    (pageUpdate dim Partial.empty toks).1.bytes dim)

end Sys2Proof.Machine
end

