-- ==== Sys2Proof/Machine/Crucible.lean ====
section
/-! DEFINITION. Attention near memory (chapter 6): queues, jobs, replies, row operations, and the meanings of the crucible commands and happenings. -/
namespace Sys2Proof.Machine
open Sys2Proof

/-! ### Queues (R155 to R160) -/

/-- Queue q. -/
def Chan.queue (c : Chan) (q : Nat) : AttnQueue := c.cru.queues.getD q AttnQueue.init

/-- Queue q replaced. -/
def Chan.setQueue (c : Chan) (q : Nat) (x : AttnQueue) : Chan := { c with cru := { c.cru with queues := c.cru.queues.set AttnQueue.init q x } }

/-- MAX_INFLIGHT as it acts. -/
def Chan.maxInflight (c : Chan) : Nat := max 64 (min 4096 (c.fget Reg.CRU_CFG 12 0))

/-- A queue's ring as a run of slabs. -/
def AttnQueue.ring (x : AttnQueue) : Region := { Region.init with slabs := x.slabs }

/-- The result record of cru.queue.create. -/
def queueRecord (q key base : Nat) : List Byte := leBytes 2 q ++ leBytes 2 0 ++ leBytes 4 key ++ leBytes 8 base

/-- The slabs of a ring of `slots` slots of `kib` KiB. -/
def ringSlabs (slots kib : Nat) : Nat := (slots * kib * 1024 + 2 * mib - 1) / (2 * mib)

/-- The base address of a queue's space. -/
def Chan.queueBase (c : Chan) (q : Nat) : Nat := c.fget Reg.CHN_EID 17 0 * 2 ^ 46 + 2 * 2 ^ 44 + q * 2 ^ 32

/-- A queue takes its slabs and a free key, and the command gives its record (R155). -/
def Chan.queueMake (c : Chan) (src : Src) (pd slots kib q : Nat) (slabs : List Nat) : Chan :=
  let key := c.draw.1 % 2 ^ 32
  let y := c.draw.2.setQueue q { AttnQueue.init with st := .active, tenant := src.slot, pd := pd, key := key, kib := kib, slots := slots, slabs := slabs }
  y.checkLow.completeX src 0 (queueRecord q key (y.queueBase q))

/-- cru.queue.create (R155): the lowest free queue number, the lowest unassigned slabs and a free key. -/
def Chan.queueCreate (c : Chan) (src : Src) (pd slots kib : Nat) : Chan :=
  let t := src.slot
  let n := ringSlabs slots kib
  if !decide (16 ≤ slots ∧ slots ≤ 4096 ∧ 2 ^ slots.log2 = slots ∧ 4 ≤ kib ∧ kib ≤ 64 ∧ kib % 4 = 0) then c.complete src 0x28 0
  else if c.pdSlot pd ≠ some t then c.complete src 0x5B 0
  else match (List.range 1024).find? (fun q => decide ((c.queue q).st = .free)) with
    | none => c.complete src 0x58 0
    | some q =>
      if !c.quotaAllows t 0 (512 * n) then (c.tierQuotaEvent t 0).complete src 0xA0 0
      else match c.takeSlabs n 2 with
        | none => c.complete src 0x58 0
        | some (slabs, c) =>
          c.queueMake src pd slots kib q slabs

/-- CRU_QUEUE_CREATE. -/
def execCruQueueCreate (c : ChId) (src : Src) (pd slots kib : Nat) (s : State) : Host.Outcome State Fault Refusal :=
  onCh c (fun x => x.command src ⟨false, false, true⟩ (fun x => x.queueCreate src pd slots kib)) s

/-- CRU_QUEUE_DELETE: the delete point. -/
def execCruQueueDelete (c : ChId) (src : Src) (q : Nat) (s : State) : Host.Outcome State Fault Refusal :=
  onCh c (fun x => x.command src ⟨false, false, false⟩ (fun x =>
    let y := x.queue q
    if y.st = .free ∨ (src.vf.isSome ∧ y.tenant ≠ src.slot) then x.complete src 0x28 0
    else if y.st = .deleting then x.complete src 0x57 0
    else x.setQueue q { y with st := .deleting, delSrc := some src, drained := 0 })) s

/-- Does a reply of queue q still wait to be written? -/
def Chan.replyPending (c : Chan) (q : Nat) : Bool :=
  c.fab.conns.anyOf (fun _ x => x.ops.any (fun o => match o.issuer with | .reply spec _ _ _ sub _ => !spec && decide (sub = q) | _ => false))

/-- QUEUE_DELETE_DONE: every job posted before the delete point has been replied. -/
def execQueueDeleteDone (c : ChId) (q : Nat) (s : State) : Host.Outcome State Fault Refusal :=
  onCh c (fun x =>
    let y := x.queue q
    if y.st ≠ .deleting ∨ y.pidx ≠ y.cidx ∨ x.cru.jobs.anyOf (fun _ j => decide (j.queue = some q)) ∨ x.replyPending q then x
    else
      let x := (x.giveSlabs y.slabs).setQueue q AttnQueue.init
      (x.completeOpt y.delSrc 0 0).event 0x4009 (some y.tenant) q y.drained) s

/-! ### Acceptance (R158, R161 to R166) -/

/-- The fields of a job descriptor (R161). -/
structure AttnDesc where
  version : Nat
  op : Nat
  flags : Nat
  qpos : Nat
  qkey : Nat
  h : Nat
  layer : Nat
  kvFirst : Nat
  kvCount : Nat
  spanFirst : Nat
  spanEnd : Nat
  scale : Nat
  cap : Nat
  window : Nat
  sinks : Nat
  replyGen : Nat
  replyKey : Nat
  tag : Nat
  replyAddr : Nat
  pos : List Nat
  deriving DecidableEq, Repr

/-- The descriptor at the start of a slot image. -/
def attnDesc (b : List Byte) : AttnDesc :=
  let f := fun (off n : Nat) => leVal ((b.drop off).take n)
  { version := f 0 1, op := f 1 1, flags := f 2 1, qpos := f 3 1, qkey := f 4 4, h := f 8 6, layer := f 14 1, kvFirst := f 15 1, kvCount := f 16 1,
    spanFirst := f 20 4, spanEnd := f 24 4, scale := f 28 4, cap := f 32 4, window := f 36 4, sinks := f 40 2, replyGen := f 42 2, replyKey := f 44 4,
    tag := f 48 8, replyAddr := f 56 8, pos := (List.range 16).map (fun j => f (64 + 4 * j) 4) }

/-- Does the role accept attention over a context in this state (R26)? A PARKED context is the cache role's own or a retained one, which attends under any role
(R33). -/
def Chan.roleAttends (c : Chan) (st : CtxState) : Bool :=
  match c.actingRole, st with
  | .prompt, .sealed => true
  | .generation, .decoding => true
  | _, .parked => true
  | _, _ => false

/-- Query rows of a job (R162). -/
def AttnDesc.rows (d : AttnDesc) (g : Geom) : Nat := d.qpos * d.kvCount * (g.qHeads / g.kvHeads)

/-- The descriptor check of R163. -/
def AttnDesc.ok (d : AttnDesc) (g : Geom) : Bool :=
  decide (d.version = 1 ∧ d.op = 1 ∧ 1 ≤ d.qpos ∧ d.qpos ≤ 16 ∧ d.layer < g.layers ∧ 1 ≤ d.kvCount ∧ d.kvCount ≤ 64 ∧ d.kvFirst + d.kvCount ≤ g.kvHeads ∧
    (Fp.ofFp32 d.scale).positive ∧ (d.flags.testBit 2 → (Fp.ofFp32 d.cap).positive) ∧ (d.flags.testBit 1 → 1 ≤ d.window ∧ d.window ≤ 2 ^ 22)) &&
  (!(d.flags.testBit 0 || d.flags.testBit 1) || (d.pos.take d.qpos).all (fun p => decide (p < 2 ^ 22)))

/-- Bytes of the descriptor and the query block. -/
def AttnDesc.size (d : AttnDesc) (g : Geom) : Nat := 128 + d.rows g * g.dim + (if d.flags.testBit 3 then 4 * d.rows g else 0)

/-- The page-groups of a span. -/
def spanGroups (first end_ : Nat) : List Nat := (List.range ((end_ + 15) / 16 - first / 16)).map (fun i => first / 16 + i)

/-- The frames that a job reads: those of the parts that hold its KV heads. -/
def Chan.spanFrames (c : Chan) (slot : Nat) (d : AttnDesc) (first end_ : Nat) : AMap Nat :=
  let geo := c.geom (c.entry slot).profile
  let per := geo.kvHeads / geo.parts
  (spanGroups first end_).flatMap (fun g =>
    (List.range ((d.kvFirst + d.kvCount - 1) / per + 1 - d.kvFirst / per)).filterMap (fun i =>
      let j := d.kvFirst / per + i
      (c.frameOf slot g d.layer j).map (fun f => (g * 64 + j, f))))

/-- Is the unit of a pseudo-channel offline (R444)? -/
def Chan.unitOff (c : Chan) (pc : Nat) : Bool := c.cru.offline.testBit pc

/-- The checks of R163 and what they resolve: a status, or the context's slot, the span's end, REMOTE_END, the first token that is not excluded, and whether a part
is (R166). `tenant` is the queue's tenant slot; `roce` says that the job came on a RoCE queue pair. -/
def Chan.resolveJob (c : Chan) (key tenant : Option Nat) (roce : Bool) (limit : Nat) (d : AttnDesc) : Except Nat (Nat × Nat × Nat × Nat × Bool) :=
  if c.rel.mode = .shadow ∨ !c.ctx.ready then .error 0x29
  else if key.isSome ∧ key ≠ some d.qkey then .error 0x53
  else match c.checkHandle d.h with
    | .error st => .error st
    | .ok slot =>
      let e := c.entry slot
      let geo := c.geom e.profile
      let end_ := if d.spanEnd = 0xFFFFFFFF then e.committed else d.spanEnd
      let m := c.map slot
      let n := m.attachment.2
      let span := spanGroups d.spanFirst end_
      if tenant.isSome ∧ tenant ≠ some e.tslot then .error 0x20
      else if !c.roleAttends e.state then .error 0x22
      else if e.isPrivate ∧ (roce ∨ tenant.isNone) then .error 0xC8
      else if !d.ok geo then .error 0x51
      else if limit < d.size geo then .error 0x52
      else if e.committed < end_ ∨ end_ < d.spanFirst then .error 0x54
      else if span.any (fun g => decide ((m.grp g).loc = .t1 ∨ (m.grp g).loc = .t2)) then .error 0x55
      else
        let far := span.any (fun g => decide ((m.grp g).loc = .remote))
        let rend := if far then min end_ (16 * n) else 0
        let first := max d.spanFirst rend
        if (c.spanFrames slot d first end_).any (fun f => c.unitOff (c.pchOf (c.frameAddr f.2))) then .error 0x56
        else .ok (slot, end_, rend, first, far)

/-- A job accepted: its slot copied, checked and resolved in one step (R158). -/
def Chan.acceptJob (c : Chan) (queue : Option Nat) (src : Option Src) (image : List Byte) (reply conn : Nat) (readable : Bool) : Chan :=
  let d := attnDesc image
  let q := (queue.map c.queue).getD AttnQueue.init
  let roce := queue.isSome && (c.conn conn).roce.isSome
  let blank := { queue := queue, src := src, image := image, slot := 16384, gen := 0, tenant := (match src with | some s => s.slot | none => q.tenant), profile := 0,
                 first := 0, spanEnd := 0, epoch := 0, remoteEnd := 0, owner := 0, status := 0, reply := reply, conn := conn, frames := [] : Job }
  let r := if !readable then .error 0x51
    else c.resolveJob (queue.map (fun _ => q.key)) (queue.map (fun _ => q.tenant)) roce (if queue.isSome then q.kib * 1024 else 65536) d
  let (job, c) := match r with
    | .ok (slot, end_, rend, first, far) =>
      let e := c.entry slot
      ({ blank with slot := slot, gen := e.gen, tenant := e.tslot, profile := e.profile, first := first, spanEnd := end_, epoch := e.epoch, remoteEnd := rend,
                    owner := if far then (c.map slot).attachment.1 else 0, frames := c.spanFrames slot d first end_ }, c)
    | .error st =>
      let c := if st = 0x20 ∨ st = 0x21 then c.badHandle st d.h queue.isSome
        else if st = 0xC8 then c.privateRefused (c.entry (bits d.h 29 16)).tslot d.h (if queue.isSome then 0 else 0x4003)
        else c
      ({ blank with status := st }, c)
  { c with cru := { c.cru with jobs := c.cru.jobs.put c.cru.nextJob job, nextJob := c.cru.nextJob + 1 } }

/-- May a job be accepted now (R159, R464)? -/
def Chan.jobRoom (c : Chan) : Bool := decide (c.cru.jobs.length < c.maxInflight) && !c.pwr.ride

/-- Host jobs that wait are accepted while there is room. -/
def Chan.pumpHost (c : Chan) : Nat → Chan
  | 0 => c
  | n + 1 =>
    match c.cru.waiting with
    | (src, image, reply) :: rest =>
      if c.jobRoom then ({ c with cru := { c.cru with waiting := rest } }.acceptJob none (some src) image reply 0 true).pumpHost n else c
    | [] => c

/-- The first of the doorbell connections of a queue's posted jobs, and the rest. -/
def popPost : List (Nat × Nat) → Nat × List (Nat × Nat)
  | [] => (0, [])
  | (k, 0) :: t => let (a, l) := popPost t; (if t.isEmpty then k else a, l)
  | (k, n + 1) :: t => (k, if n = 0 then t else (k, n) :: t)

/-- JOB_ACCEPT: the next posted job of a queue. -/
def execJobAccept (c : ChId) (q : Nat) (s : State) : Host.Outcome State Fault Refusal :=
  onCh c (fun x =>
    let y := x.queue q
    if !x.serves ∨ y.st = .free ∨ y.pidx = y.cidx ∨ !x.jobRoom then x
    else
      let b := y.cidx % y.slots * (y.kib * 1024)
      let (ok, x) := x.eccReads (x.regionRanges y.ring b (y.kib * 1024)) 1
      let image := if ok then x.regionRead y.ring b (y.kib * 1024) else []
      let (k, posts) := popPost y.posts
      (x.setQueue q { y with cidx := (y.cidx + 1) % 65536, posts := posts }).acceptJob (some q) none image 0 k ok) s

/-- CRU_JOB. -/
def execCruJob (c : ChId) (src : Src) (img : Fetched (List Byte)) (reply : Nat) (s : State) : Host.Outcome State Fault Refusal :=
  onCh c (fun x => x.ctxCommand src ⟨true, false, false⟩ (fun x => x.reading src img (fun image =>
    { x with cru := { x.cru with waiting := x.cru.waiting ++ [(src, image, reply)] } }.pumpHost 1))) s

/-! ### The computation (R164 to R170) -/

/-- A token of a job's span as one KV head has it: its position, its key codes and scales, its value row, and the saturations in forming it. -/
structure TokIn where
  t : Nat
  k : List Nat × List Nat
  v : List Nat
  vsat : Nat
  deriving DecidableEq, Repr

/-- The elements and scales of row r of a tile, from a frame or from none. -/
def Chan.tileRowOf (c : Chan) (geo : Geom) (static : Nat) (frame : Option Nat) (tile r : Nat) : List Nat × List Nat :=
  let (d, s) := geo.rowAt tile r
  let get := fun (off n : Nat) => match frame with
    | some f => Memory.read c.hbm (c.frameAddr f + off) n
    | none => List.replicate n 0
  (unpackElems geo.format (get d geo.rowBytes), scalesOf geo.format static (geo.dim / 32) (get s geo.rowScale))

/-- The HBM bytes that a job's units stream: the K and V tiles of its KV heads with their scales (R175). -/
def Chan.jobRanges (c : Chan) (j : Job) (d : AttnDesc) : List (Nat × Nat) :=
  let geo := c.geom j.profile
  let per := geo.kvHeads / geo.parts
  j.frames.flatMap (fun f =>
    (List.range d.kvCount).flatMap (fun k =>
      let h := d.kvFirst + k
      if h / per ≠ f.1 % 64 then []
      else [0, 1].flatMap (fun kv =>
        let tile := (geo.tileOf h kv).2
        let a := c.frameAddr f.2
        [(a + (geo.rowAt tile 0).1, geo.tileData), (a + (geo.rowAt tile 0).2, geo.tileScale)])))

/-- The pages that a KV head's rows attend over: the pseudo-channel of each and its tokens in the span (R169). -/
def Chan.headPages (c : Chan) (j : Job) (d : AttnDesc) (h : Nat) : List (Nat × List TokIn) :=
  let geo := c.geom j.profile
  let per := geo.kvHeads / geo.parts
  let sK := (c.staticScale j.profile d.layer h 0).1
  let sV := (c.staticScale j.profile d.layer h 1).1
  (spanGroups j.first j.spanEnd).map (fun g =>
    let f := j.frames.find (g * 64 + h / per)
    let pc := match f with | some f => c.pchOf (c.frameAddr f) | none => (g + d.layer * geo.parts + h / per) % c.pchs
    (pc, (List.range 16).filterMap (fun r =>
      let t := 16 * g + r
      if t < j.first ∨ j.spanEnd ≤ t then none
      else
        let k := c.tileRowOf geo sK f (geo.tileOf h 0).2 r
        let v := c.tileRowOf geo sV f (geo.tileOf h 1).2 r
        let (vs, n) := valueRow geo.format v.1 v.2
        some ⟨t, k, vs, n⟩)))

/-- Is token t visible to a row at position p (R164)? -/
def AttnDesc.sees (d : AttnDesc) (p t : Nat) : Bool :=
  (!d.flags.testBit 0 || decide (t ≤ p)) && (!d.flags.testBit 1 || decide (p < t + d.window) || decide (t < d.sinks))

/-- The logit scale of a row (R167): SCALE, or SCALE × row scale rounded; the value under a row scale that is a NaN is free. -/
def AttnDesc.rowScale (d : AttnDesc) (g : Geom) (image : List Byte) (r : Nat) : Nat × Nat :=
  if !d.flags.testBit 3 then (d.scale, 0)
  else
    let x := leVal ((image.drop (128 + d.rows g * g.dim + 4 * r)).take 4)
    match Fp.ofFp32 x with
    | .nan => (finiteCode (Config.nanElement 16 x 0), 0)
    | _ => satMul d.scale x

/-- One query row against its head's pages: each unit's running partial in ascending page order, then the tree (R169, R170). -/
def Chan.attendRow (c : Chan) (geo : Geom) (d : AttnDesc) (pages : List (Nat × List TokIn)) (q : List Fp) (p sc : Nat) : Partial × Nat :=
  let cap := if d.flags.testBit 2 then some d.cap else none
  let (units, n) := pages.foldl (fun (acc : AMap Partial × Nat) pg =>
    let ls := (pg.2.filter (fun t => d.sees p t.t)).map (fun t => (logitOf geo.format q t.k.1 t.k.2 sc cap, t.v))
    let (row, k) := pageUpdate geo.dim (acc.1.getD pg.1 Partial.empty) (ls.map (fun x => (x.1.1, x.2)))
    (acc.1.put pg.1 row, acc.2 + k + (ls.map (fun x => x.1.2)).sum)) ([], 0)
  let (r, k) := mergeTree geo.dim 8 ((List.range c.pchs).map (fun i => units.getD i Partial.empty))
  (r, n + k)

/-- What a job gives: its rows, whether one is empty, the query elements replaced, and the saturations. -/
structure Attended where
  rows : List Byte
  empty : Bool
  nans : Nat
  sats : Nat
  deriving DecidableEq, Repr

/-- Row r of a job's query block. -/
def queryRow (image : List Byte) (dim r : Nat) : List Byte :=
  let b := (image.drop (128 + r * dim)).take dim
  b ++ List.replicate (dim - b.length) 0

/-- Every query row of a job, in the order of R162. -/
def Chan.attend (c : Chan) (j : Job) (d : AttnDesc) : Attended :=
  let geo := c.geom j.profile
  let g := geo.qHeads / geo.kvHeads
  let heads := (List.range d.kvCount).map (fun k => c.headPages j d (d.kvFirst + k))
  let seen := fun t : Nat => (d.pos.take d.qpos).any (fun p => d.sees p t)
  let vsats := (heads.map (fun ps => (ps.map (fun pg => (pg.2.map (fun t => if seen t.t then t.vsat else 0)).sum)).sum)).sum
  (List.range (d.rows geo)).foldl (fun a r =>
    let q := queryRow j.image geo.dim r
    let (sc, n) := d.rowScale geo j.image r
    let (row, m) := c.attendRow geo d (heads.getD (r / g % d.kvCount) []) (q.map (fun b => queryElem b.toNat)) (d.pos.getD (r / g / d.kvCount) 0) sc
    { rows := a.rows ++ row.bytes geo.dim, empty := a.empty || decide (row.l % 2 ^ 31 = 0), nans := a.nans + queryNans q, sats := a.sats + n + m })
    ⟨[], false, 0, vsats⟩

/-- The page updates of a job as the mirrored operation ATTEND_PAGE (R449): the full pages of its first KV head, with as many of that head's first rows as fit. -/
def Chan.mirrorAttend (c : Chan) (j : Job) (d : AttnDesc) : Chan :=
  if c.rel.part ≠ 2 then c
  else
    let geo := c.geom j.profile
    let per := geo.kvHeads / geo.parts
    let tile := geo.tileData + geo.tileScale
    let rows := min 16 (min (geo.qHeads / geo.kvHeads) ((8128 - 2 * tile) / max 1 geo.dim))
    if rows = 0 then c
    else
      let qs := (List.range rows).map (fun r => queryRow j.image geo.dim r)
      (spanGroups j.first j.spanEnd).foldl (fun c g => match j.frames.find (g * 64 + d.kvFirst / per) with
        | some f =>
          if 16 * g < j.first ∨ j.spanEnd < 16 * g + 16 then c
          else
            let get := fun kv : Nat =>
              let (a, b) := geo.rowAt (geo.tileOf d.kvFirst kv).2 0
              Memory.read c.hbm (c.frameAddr f + a) geo.tileData ++ Memory.read c.hbm (c.frameAddr f + b) geo.tileScale
            let (k, v) := (get 0, get 1)
            c.mirror 2 (leBytes 1 geo.format ++ leBytes 1 ((List.range 5).find? (fun x => headDim x == geo.dim) |>.getD 0) ++ leBytes 1 rows ++ leBytes 1 0 ++
              beBytes 4 d.scale) (qs.flatten ++ k ++ v) (attendPage geo.format geo.dim d.scale qs k v)
        | none => c) c

/-! ### Replies (R173, R174) -/

/-- The reply trailer (R173). -/
def attnTrailer (tag status flags rows end_ epoch rend owner : Nat) : List Byte :=
  leBytes 8 tag ++ leBytes 1 status ++ leBytes 1 flags ++ leBytes 2 rows ++ leBytes 4 end_ ++ leBytes 4 epoch ++ leBytes 4 rend ++ leBytes 6 owner ++ leBytes 2 0

/-- The reply of a job leaves: to the host, or over the doorbell's connection; a refused job is counted and reported. -/
def Chan.replyJob (c : Chan) (id : Nat) (j : Job) (d : AttnDesc) (status : Nat) (rows trailer : List Byte) : Chan :=
  let done := decide (status = 0 ∨ status = 0x50)
  let c := if done then c else c.bump Reg.CRU_JOB_CNT 31 0 1
  match j.queue, j.src with
  | some q, _ =>
    let y := c.queue q
    let c := if done then c else c.eventEvery ms 0x4001 q (some j.tenant) d.h (fun n => status + q * 256 + n % 2 ^ 32 * 2 ^ 32)
    let c := c.setQueue q { y with drained := if y.st = .deleting then y.drained + 1 else y.drained }
    c.reply (.fmt j.conn true) false id j.tenant d.replyAddr d.replyKey d.replyGen q d.tag rows trailer
  | none, some src =>
    let (ok1, c1) := if rows.isEmpty then (true, c) else c.hostWrite src.fn (j.reply + 32) rows
    let (ok2, c2) := c1.hostWrite src.fn j.reply trailer
    if ok1 && ok2 then (if done then c2.bump Reg.CRU_JOB_CNT 63 32 1 else c2).complete src status 0
    else (c2.srcError src j.reply ((c.dmaFault src.fn).getD 7)).complete src 0xB2 0
  | none, none => c

/-- A job ends with a status and no rows. -/
def Chan.endRefused (c : Chan) (id : Nat) (j : Job) (d : AttnDesc) (status : Nat) : Chan :=
  c.replyJob id j d status [] (attnTrailer d.tag status 0 0 0 0 0 0)

/-- JOB_COMPLETE (R173, R174, R181, R439): the rows computed over the span resolved at acceptance, EVC1, and the reply. -/
def execJobComplete (c : ChId) (job : Nat) (s : State) : Host.Outcome State Fault Refusal :=
  onCh c (fun x => match x.cru.jobs.find job with
    | none => x
    | some j =>
      let d := attnDesc j.image
      let x := { x with cru := { x.cru with jobs := x.cru.jobs.del job } }
      let x := if j.status ≠ 0 then x.endRefused job j d j.status
        else if j.frames.any (fun f => x.unitOff (x.pchOf (x.frameAddr f.2))) then (x.endRefused job j d 0x56).unholdFrames
        else
          let live := decide ((x.entry j.slot).gen = j.gen ∧ (x.entry j.slot).state ≠ .free)
          let (ok, x) := x.eccReads (x.jobRanges j d) 1
          if !ok then ((if live then x.fault j.slot 2 else x).endRefused job j d 0x22).unholdFrames
          else
            let a := x.attend j d
            let status := if j.remoteEnd ≠ 0 then 0x50 else 0
            let x := x.mirrorAttend j d
            let x := if a.nans = 0 then x else x.bump Reg.CRU_ARITH_CNT 31 0 a.nans
            let x := if a.sats = 0 then x
              else (x.bump Reg.CRU_ARITH_CNT 63 32 a.sats).eventEvery ms 0x4004 (j.queue.getD 1024) (some j.tenant) d.h (fun n => n) a.sats
            let x := if live then x.addCtr (.bound j.slot 1) 1 else x
            let t := attnTrailer d.tag status (b2n a.empty + 2 * b2n (decide (0 < a.nans)) + 4 * b2n (decide (0 < a.sats))) (d.rows (x.geom j.profile)) j.spanEnd j.epoch
              j.remoteEnd j.owner
            (x.replyJob job j d status a.rows t).unholdFrames
      x.pumpHost 1) s

/-! ### Row operations (R176, R177, R180) -/

/-- Operand addresses that an OP uses. -/
def RowOp_sources (o : RowOp) : List Nat :=
  if o.op = 2 then [] else if o.op = 1 ∨ o.op = 6 then [o.src1] else [o.src1, o.src2]

/-- The operand conditions of R176. -/
def Chan.rowopOk (c : Chan) (o : RowOp) : Bool :=
  let n := o.rows * 1024
  let all := o.dst :: RowOp_sources o
  decide (1 ≤ o.op ∧ o.op ≤ 6 ∧ 1 ≤ o.rows ∧ o.rows ≤ 2048) &&
  all.all (fun a => decide (a % 1024 = 0 ∧ a + n ≤ c.hbmMib * mib ∧ a / (2 * mib) = (a + n - 1) / (2 * mib) ∧ c.pchOf a = c.pchOf o.dst)) &&
  (RowOp_sources o).all (fun a => decide (a + n ≤ o.dst ∨ o.dst + n ≤ a))

/-- CRU_ROWOP: the operands are checked, and the operation waits its turn at its unit. -/
def execCruRowop (c : ChId) (src : Src) (op : RowOp) (s : State) : Host.Outcome State Fault Refusal :=
  onCh c (fun x => x.command src ⟨true, false, false⟩ (fun x =>
    if !x.rowopOk op then x.complete src 0x59 0
    else if (List.range op.rows).any (fun n => x.ctxOwned (op.dst + n * 1024)) then x.complete src 0x5A 0
    else { x with cru := { x.cru with rowops := x.cru.rowops ++ [⟨op, some src⟩] } })) s

/-- The bytes of a destination row. -/
def rowBytes (o : RowOp) (a b : List Byte) : List Byte :=
  match o.op with
  | 1 => a
  | 2 => (List.replicate 128 (leBytes 8 o.pattern)).flatten
  | 3 => List.zipWith (fun x y => x &&& y) a b
  | 4 => List.zipWith (fun x y => x ||| y) a b
  | 5 => List.zipWith (fun x y => x ^^^ y) a b
  | _ => a.map (fun x => ~~~x)

/-- One row of a row operation. A row whose source is uncorrectable is written poisoned; the consumer code of such a read is free. -/
def Chan.rowopRow (c : Chan) (o : RowOp) (n : Nat) : Chan :=
  let at_ := fun a : Nat => a + n * 1024
  let bad := (RowOp_sources o).any (fun a => c.rel.cw.anyOf (fun k _ => decide (k / 16 = at_ a / 1024)))
  let (ok, c) := if bad then (let (v, c) := c.draw; c.eccReads ((RowOp_sources o).map (fun a => (at_ a, 1024))) (v % 256)) else (true, c)
  let data := rowBytes o (Memory.read c.hbm (at_ o.src1) 1024) (Memory.read c.hbm (at_ o.src2) 1024)
  let c := { c with hbm := Memory.write c.hbm (at_ o.dst) data }.eccWrote (at_ o.dst) 1024
  if ok then c
  else { c with rel := { c.rel with cw := (List.range 16).foldl (fun m i => m.put (at_ o.dst / 64 + i) .poison) c.rel.cw } }

/-- ROWOP_DONE: the operation at the front has written its rows. -/
def execRowopDone (c : ChId) (s : State) : Host.Outcome State Fault Refusal :=
  onCh c (fun x => match x.cru.rowops with
    | [] => x
    | r :: rest =>
      let x := (List.range r.op.rows).foldl (fun x n => x.rowopRow r.op n) { x with cru := { x.cru with rowops := rest } }
      (x.bump Reg.CRU_ROWOP_CNT 63 0 r.op.rows).completeOpt r.src 0 r.op.rows) s

/-! ### Refresh and the scoreboard (R178, R179) -/

/-- REFRESH_DUE: it is serviced at the next burst boundary. -/
def execRefreshDue (c : ChId) (pch : Nat) (s : State) : Host.Outcome State Fault Refusal :=
  onCh c (fun x => if pch < x.pchs then { x with cru := { x.cru with refreshes := x.cru.refreshes + 1 } } else x) s

/-- BASE_DIE_HOT: the refresh rate doubles above 85 °C, and returns to normal below 83 °C. -/
def execBaseDieHot (c : ChId) (stack temp : Nat) (s : State) : Host.Outcome State Fault Refusal :=
  onCh c (fun x =>
    let hot := x.cru.hot.testBit stack
    if x.pchs / 64 ≤ stack then x
    else if 85 < temp ∧ !hot then { x with cru := { x.cru with hot := setBits x.cru.hot stack stack 1 } }.event 0x4006 none stack (1 + temp % 256 * 256)
    else if temp < 83 ∧ hot then { x with cru := { x.cru with hot := setBits x.cru.hot stack stack 0 } }.event 0x4006 none stack (temp % 256 * 256)
    else x) s

/-- CRU_HOLD_MAX_CLEAR. -/
def execCruHoldMaxClear (c : ChId) (s : State) : Host.Outcome State Fault Refusal :=
  onCh c (fun x => if x.regsLive then x.fset Reg.CRU_HOLD_MAX 31 0 0 else x) s

end Sys2Proof.Machine
end

