-- ==== Sys2Proof/Machine/Packet.lean ====
section
/-! DEFINITION. The meanings of the packet instructions (R256 to R258). -/
namespace Sys2Proof.Machine
open Sys2Proof

/-! ### Buffers (R256) -/

/-- Bytes of a packet buffer. -/
def bufBytes : Nat := 10240

/-- The handle in a buffer reference. -/
def refHandle (r : Nat) : Nat := bits r 15 0

/-- The frame length in a buffer reference. -/
def refLen (r : Nat) : Nat := bits r 29 16

/-- A reference of a handle and a length. -/
def mkRef (h len : Nat) : W64 := w64 (h + len * 65536)

/-- The buffer that a reference names, where a program holds it. -/
def Chan.heldBuf (c : Chan) (h : Nat) : Option PktBuf := if (c.fab.bufOwner.find h).isSome then c.fab.bufs.find h else none

/-- Bytes of a buffer; zeros through a handle that no program holds and from byte 10,240 on. -/
def Chan.bufRead (c : Chan) (h off n : Nat) : List Byte :=
  match c.heldBuf h with
  | some b => (List.range n).map (fun i => if off + i < bufBytes then Memory.get b.data (off + i) else 0)
  | none => List.replicate n 0

/-- Bytes stored in a buffer; those from byte 10,240 on are discarded. -/
def Chan.bufWrite (c : Chan) (h off : Nat) (data : List Byte) : Chan :=
  match c.heldBuf h with
  | some b => { c with fab := { c.fab with bufs := c.fab.bufs.put h { b with data := Memory.write b.data off (data.take (bufBytes - off)) } } }
  | none => c

/-- A packet instruction, which GRANTS bit 4 permits. -/
def Chan.packetInstr (c : Chan) (k op : Nat) (f : IFields) (body : Chan → GCore → Prog → Chan) : Chan :=
  c.instr k op f (fun c g p => if p.grants.testBit 4 && !p.isTenant then body c g p else c.exception k 2 g.pc)

/-- The program slot that core k runs. -/
def GCore.progSlot (g : GCore) : Nat := (g.inv.map (fun i => i.prog)).getD 0

/-- A free packet buffer handle, the lowest; none where all 4,095 are in use (R256, R304). -/
def Chan.freeHandle (c : Chan) : Option Nat :=
  if c.bufsUsed < 4095 then ((List.range (c.fab.bufs.length + 1)).map (· + 1)).find? (fun h => (c.fab.bufs.find h).isNone) else none

/-- PALLOC. -/
def execIPalloc (c : ChId) (k : Nat) (f : IFields) (s : State) : Host.Outcome State Fault Refusal :=
  onCh c (fun x => x.packetInstr k 0xD0 f (fun x g _ =>
    match x.freeHandle with
    | some h =>
      { x with fab := { x.fab with bufs := x.fab.bufs.put h ⟨0, [], true, none⟩, bufOwner := x.fab.bufOwner.put h g.progSlot } }.stepCore k (g.setS f.d (mkRef h 0))
    | none => x.stepCore k (g.setS f.d 0))) s

/-- PFREE. -/
def execIPfree (c : ChId) (k : Nat) (f : IFields) (s : State) : Host.Outcome State Fault Refusal :=
  onCh c (fun x => x.packetInstr k 0xD1 f (fun x g _ =>
    let h := refHandle (g.sreg f.a).toNat
    (if (x.heldBuf h).isSome then x.freeBuf h else x).stepCore k g)) s

/-- PRX: the frame at the head of a receive ring leaves it (R270). -/
def Chan.prx (c : Chan) (k : Nat) (g : GCore) (d ring : Nat) : Chan :=
  let n := ring / 8
  let x := c.port n
  match (if n < c.ports then x.rings.getD (ring % 8) [] else []) with
  | [] => c.stepCore k (g.setS d 0)
  | h :: t =>
    let c := c.setPort n { x with rings := x.rings.set [] (ring % 8) t }
    let len := ((c.fab.bufs.find h).map (fun b => b.len)).getD 0
    { c with fab := { c.fab with bufOwner := c.fab.bufOwner.put h g.progSlot } }.stepCore k (g.setS d (mkRef h len))

/-- PRX. -/
def execIPrx (c : ChId) (k : Nat) (f : IFields) (s : State) : Host.Outcome State Fault Refusal :=
  onCh c (fun x => x.packetInstr k 0xD2 f (fun x g _ => x.prx k g f.d (g.sreg f.a).toNat)) s

/-- The offset b + sext(I) of a packet access. -/
def pktOff (g : GCore) (f : IFields) : Nat := (g.sreg f.b + sext f.i).toNat

/-- PLD: big-endian, zero-extended. -/
def execIPld (c : ChId) (k : Nat) (f : IFields) (s : State) : Host.Outcome State Fault Refusal :=
  onCh c (fun x => x.packetInstr k 0xD3 f (fun x g _ =>
    x.stepCore k (g.setS f.d (w64 (beVal (x.bufRead (refHandle (g.sreg f.a).toNat) (pktOff g f) (2 ^ f.x))))))) s

/-- PST: the low bytes of x, big-endian; D is the size code. -/
def execIPst (c : ChId) (k : Nat) (f : IFields) (s : State) : Host.Outcome State Fault Refusal :=
  onCh c (fun x => x.packetInstr k 0xD4 f (fun x g _ =>
    (x.bufWrite (refHandle (g.sreg f.a).toNat) (pktOff g f) (beBytes (2 ^ f.d) (g.sreg f.x).toNat)).stepCore k g)) s

/-- PVLD. -/
def execIPvld (c : ChId) (k : Nat) (f : IFields) (s : State) : Host.Outcome State Fault Refusal :=
  onCh c (fun x => x.packetInstr k 0xD5 f (fun x g _ =>
    x.stepCore k (g.setV f.d (bytesVec (x.bufRead (refHandle (g.sreg f.a).toNat) (pktOff g f) 64))))) s

/-- PVST. -/
def execIPvst (c : ChId) (k : Nat) (f : IFields) (s : State) : Host.Outcome State Fault Refusal :=
  onCh c (fun x => x.packetInstr k 0xD6 f (fun x g _ =>
    (x.bufWrite (refHandle (g.sreg f.a).toNat) (pktOff g f) (vecBytes (g.vreg f.x))).stepCore k g)) s

/-! ### PPARSE (R257) -/

/-- The one's-complement sum of a UDP datagram with its pseudo-header, folded; 0xFFFF where the checksum in it is right. -/
def udpSum (addrs udp : List Byte) : Nat := onesSum (addrs ++ beBytes 4 udp.length ++ beBytes 4 17 ++ udp) 0

/-- The fields of a frame that R257 names. -/
structure Parsed where
  ip : Nat
  udp : Nat
  pay : Nat
  etype : Nat
  proto : Nat
  v4 : Bool
  v6 : Bool
  tagged : Bool
  isUdp : Bool
  ipOk : Bool
  udpOk : Bool
  short : Bool
  dport : Nat
  sport : Nat
  pcp : Nat
  tos : Nat
  plen : Nat
  deriving DecidableEq, Repr

/-- A frame parsed: Ethernet with at most one tag, IPv4 without options or IPv6 without extension headers, and UDP. A header that does not lie whole in the
frame is absent. -/
def parseFrame (b : List Byte) : Parsed :=
  let at_ := fun (off n : Nat) => beVal ((b.drop off).take n)
  let len := b.length
  let tagged := decide (18 ≤ len ∧ at_ 12 2 = 0x8100)
  let ip := if tagged then 18 else 14
  let etype := if ip ≤ len then at_ (ip - 2) 2 else 0
  let v4 := decide (etype = 0x0800 ∧ ip + 20 ≤ len ∧ at_ ip 1 = 0x45)
  let v6 := decide (etype = 0x86DD ∧ ip + 40 ≤ len ∧ at_ ip 1 / 16 = 6)
  let proto := if v4 then at_ (ip + 9) 1 else if v6 then at_ (ip + 6) 1 else 0
  let udp := ip + (if v4 then 20 else 40)
  let isUdp := (v4 || v6) && decide (proto = 17 ∧ udp + 8 ≤ len)
  let ulen := at_ (udp + 4) 2
  let stated := if v4 then ip + at_ (ip + 2) 2 else if v6 then ip + 40 + at_ (ip + 4) 2 else 0
  let addrs := if v4 then (b.drop (ip + 12)).take 8 else (b.drop (ip + 8)).take 32
  { ip := if v4 || v6 then ip else 0, udp := if isUdp then udp else 0, pay := if isUdp then udp + 8 else 0, etype := etype, proto := proto, v4 := v4, v6 := v6,
    tagged := tagged, isUdp := isUdp, ipOk := v4 && decide (onesSum ((b.drop ip).take 20) 0 = 65535),
    udpOk := isUdp && ((v4 && decide (at_ (udp + 6) 2 = 0)) || (decide (at_ (udp + 6) 2 ≠ 0) && decide (udpSum addrs ((b.drop udp).take ulen) = 65535))),
    short := decide (len < stated) || (isUdp && decide (len < udp + ulen)) ||
      (decide (etype = 0x0800) && decide (len < ip + 20)) || (decide (etype = 0x86DD) && decide (len < ip + 40)) ||
      ((v4 || v6) && decide (proto = 17 ∧ len < udp + 8)),
    dport := if isUdp then at_ (udp + 2) 2 else 0, sport := if isUdp then at_ udp 2 else 0, pcp := if tagged then at_ 14 1 / 32 else 0,
    tos := if v4 then at_ (ip + 1) 1 else if v6 then at_ ip 2 / 16 % 256 else 0, plen := if isUdp then ulen - 8 else 0 }

/-- The parse summary (R257). -/
def Parsed.bytes (p : Parsed) (fcs : Bool) : List Byte :=
  leBytes 2 p.ip ++ leBytes 2 p.udp ++ leBytes 2 p.pay ++ leBytes 2 p.etype ++ leBytes 1 p.proto ++
  leBytes 1 (b2n p.v4 + 2 * b2n p.v6 + 4 * b2n p.tagged + 8 * b2n p.isUdp + 16 * b2n p.ipOk + 32 * b2n p.udpOk + 64 * b2n fcs + 128 * b2n p.short) ++
  leBytes 2 p.dport ++ leBytes 2 p.sport ++ leBytes 1 p.pcp ++ leBytes 1 p.tos ++ leBytes 2 p.plen

/-- PPARSE: a handle that no program holds parses as a frame of zeros. -/
def execIPparse (c : ChId) (k : Nat) (f : IFields) (s : State) : Host.Outcome State Fault Refusal :=
  onCh c (fun x => x.packetInstr k 0xD7 f (fun x g _ =>
    let r := (g.sreg f.a).toNat
    let b := x.bufRead (refHandle r) 0 (min bufBytes (refLen r))
    let fcs := ((x.heldBuf (refHandle r)).map (fun b => b.fcs)).getD false
    x.stepCore k (g.setV f.d (bytesVec ((parseFrame b).bytes fcs))))) s

/-! ### PBUILD (R258) -/

/-- The headers that a template gives for the payload bytes `pay`. A field of the template, an address too, is little-endian as R9 states of descriptors, and goes out
big-endian. -/
def buildHeaders (t pay : List Byte) : List Byte :=
  let v := fun (off n : Nat) => leVal ((t.drop off).take n)
  let f := fun (off n : Nat) => beBytes n (v off n)
  let tag := if v 12 2 = 0 then [] else beBytes 2 0x8100 ++ beBytes 2 (v 12 2)
  let v6 := (v 14 1).testBit 0
  let n := 8 + pay.length
  let udp := fun ck => beBytes 2 (v 18 2) ++ beBytes 2 (v 20 2) ++ beBytes 2 n ++ beBytes 2 ck
  let eth := f 0 6 ++ f 6 6 ++ tag
  if v6 then
    let s := 65535 - udpSum (f 24 16 ++ f 40 16) (udp 0 ++ pay)
    eth ++ beBytes 2 0x86DD ++ beBytes 4 (6 * 2 ^ 28 + v 15 1 * 2 ^ 20) ++ beBytes 2 n ++ beBytes 1 17 ++ f 16 1 ++ f 24 16 ++ f 40 16 ++
      udp (if s = 0 then 65535 else s)
  else
    let hd := fun ck => beBytes 1 0x45 ++ f 15 1 ++ beBytes 2 (20 + n) ++ beBytes 2 0 ++ beBytes 2 0x4000 ++ f 16 1 ++ beBytes 1 17 ++ beBytes 2 ck ++ f 24 4 ++ f 40 4
    eth ++ beBytes 2 0x0800 ++ hd (65535 - onesSum (hd 0) 0) ++ udp 0

/-- Bytes of the headers of a template. -/
def headerBytes (t : List Byte) : Nat :=
  14 + (if leVal ((t.drop 12).take 2) = 0 then 0 else 4) + (if (leVal ((t.drop 14).take 1)).testBit 0 then 40 else 20) + 8

/-- PBUILD: a result above 9,216 bytes discards the build and gives length 0; a handle that no program holds is left, and so is sD. -/
def Chan.pbuild (c : Chan) (k : Nat) (g : GCore) (d r : Nat) (t : List Byte) (x : Nat) : Chan :=
  let h := refHandle r
  match c.heldBuf h with
  | none => c.stepCore k g
  | some _ =>
    let hb := headerBytes t
    let ref := fun (len : Nat) => w64 (r - refLen r * 65536 + len * 65536)
    if 9216 < hb + x then c.stepCore k (g.setS d (ref 0))
    else
      let c := c.bufWrite h 0 (buildHeaders t (c.bufRead h hb x))
      { c with fab := { c.fab with bufs := c.fab.bufs.modify h (fun b => { b with len := hb + x }) } }.stepCore k (g.setS d (ref (hb + x)))

/-- PBUILD. -/
def execIPbuild (c : ChId) (k : Nat) (f : IFields) (s : State) : Host.Outcome State Fault Refusal :=
  onCh c (fun x => x.packetInstr k 0xD8 f (fun x g _ => x.pbuild k g f.d (g.sreg f.a).toNat (vecBytes (g.vreg f.b)) (g.sreg f.x).toNat)) s

/-! ### PTX (R256, R305) -/

/-- PTX: the frame waits in the queue that b names, and its buffer is freed when it is sent; a frame that cannot be queued is discarded, and its buffer freed. -/
def Chan.ptx (c : Chan) (r b : Nat) : Chan :=
  let h := refHandle r
  let n := bits b 4 0
  let q := bits b 11 8
  match c.heldBuf h with
  | none => c
  | some _ =>
    if b ≠ n + q * 256 ∨ 9216 < refLen r then c.freeBuf h
    else if !c.hasPort n then c.freeBuf h
    else if !c.running (0x10 + n) ∨ c.maxFrames n q ≤ (c.qframes n q).length then (c.freeBuf h).bump (Reg.FAB_PORT_DROP n) 15 0 1
    else
      let data := c.bufRead h 0 (refLen r)
      let c := { c with fab := { c.fab with bufOwner := c.fab.bufOwner.del h } }
      c.pushFrame n q { data := data, size := data.length + 4, conn := none, buf := some h, at_ := c.time }

/-- PTX. -/
def execIPtx (c : ChId) (k : Nat) (f : IFields) (s : State) : Host.Outcome State Fault Refusal :=
  onCh c (fun x => x.packetInstr k 0xD9 f (fun x g _ => (x.ptx (g.sreg f.a).toNat (g.sreg f.b).toNat).stepCore k g)) s

end Sys2Proof.Machine
end

