-- ==== Sys2Proof/Machine/RegOps.lean ====
section
/-! DEFINITION. A write to a register of the channel window, field by field (R16 to R19, R52). -/
namespace Sys2Proof.Machine
open Sys2Proof

/-- The functions that must be STOPPED before a field of this owner can be written (R17); i is the index of the register in its array. -/
def Chan.lockers (c : Chan) (o : LockOwner) (i : Nat) : List Nat :=
  match o with
  | .role => [0]
  | .allPorts => (List.range c.ports).map (fun n => 0x10 + n)
  | .port => [0x10 + i]
  | .sched => [0x40 + i]
  | .slot => [0x30 + i]
  | .segment => [0x100 + i]
  | .allSegments => (List.range 256).map (fun n => 0x100 + n)

/-- The first of those functions that is not STOPPED, with which the channel names the lock. -/
def Chan.lock (c : Chan) (o : LockOwner) (i : Nat) : Option Nat := (c.lockers o i).find? (fun n => decide (c.fnState n ≠ .stopped))

/-- The locked-write event (R17, R62) naming a register and the function that locks it. -/
def Chan.lockedWrite (c : Chan) (off fn : Nat) : Chan := c.event 0x0001 none off (fn + (c.fnState fn).code * 512)

/-- Does an access reach any bit of [hi:lo]? -/
def reaches (a : Access) (hi lo : Nat) : Bool :=
  match a.half with
  | .both => true
  | .low => decide (lo < 32)
  | .high => decide (32 ≤ hi)

/-- A write triggers a WO field only when it covers every WO field of the register (R16). -/
def triggers (d : RegDesc) (a : Access) : Bool :=
  d.fields.all (fun f => decide (f.acc ≠ .wo) || (match a.half with | .both => true | .low => decide (f.hi < 32) | .high => decide (32 ≤ f.lo)))

/-- One field written (R17): the register's bits, and the lock that a discarded part of the write met. -/
def Chan.writeField (c : Chan) (i : Nat) (a : Access) (acc : Nat × Option Nat) (f : FieldDesc) : Nat × Option Nat :=
  let new := fun v => setBits v f.hi f.lo (bits (a.apply v) f.hi f.lo)
  if !reaches a f.hi f.lo then acc
  else match f.acc with
    | .rw => (new acc.1, acc.2)
    | .w1c => (setBits acc.1 f.hi f.lo (bits acc.1 f.hi f.lo &&& (2 ^ (f.hi + 1 - f.lo) - 1 - bits (a.apply 0) f.hi f.lo)), acc.2)
    | .rwl o =>
      match c.lock o i with
      | none => (new acc.1, acc.2)
      | some n => (acc.1, some (acc.2.getD n))
    | .ro => acc
    | .wo => acc

/-- Does a register of the channel window belong to a port that the lane mode lacks (R52)? -/
def Chan.absentPortReg (c : Chan) (off i : Nat) : Bool :=
  (decide (0x704000 ≤ off ∧ off < 0x705000) || decide (0x800000 ≤ off ∧ off < 0x820000)) && !decide (i < c.ports)

/-- A write to the channel window (R16 to R19): no effect where no register is defined (R52). -/
def Chan.writeReg (c : Chan) (off : Nat) (a : Access) : Chan :=
  match findReg channelRegs off with
  | none => c
  | some (d, ix) =>
    let i := ix.headD 0
    if c.absentPortReg off i then c
    else
      let (v, locked) := d.fields.foldl (c.writeField i a) (c.rd off, none)
      let c' := c.wr off v
      match locked with
      | none => c'
      | some n => c'.lockedWrite off n

end Sys2Proof.Machine
end

