-- ==== Sys2Proof/Machine/PortOps.lean ====
section
/-! DEFINITION. Ports as the fabric, the functions and the resets share them: connections that move between ports (R286), the pauses of a port (R266, R267), and a
change of the channel's EID (R55, R145). -/
namespace Sys2Proof.Machine
open Sys2Proof

/-- Is a connection one that carries traffic, or asks to? -/
def Conn.live (x : Conn) : Bool := decide (x.st = .reqSent ∨ x.st = .open_ ∨ x.st = .closing)

/-- One connection moved, where its port can carry it no more and another can: it resends from its oldest unacknowledged PSN (R286). -/
def Chan.moveConn (c : Chan) (k : Nat) : Bool × Chan :=
  let x := c.conn k
  match c.portFor k with
  | some p => if p = x.port then (false, c) else (true, (c.setConn k { x with port := p }).resend k)
  | none => (false, c)

/-- Every live connection moved where it must; how many did. -/
def Chan.moveConns (c : Chan) : Nat × Chan :=
  (c.fab.conns.keysWhere (fun _ x => x.live)).foldl (fun acc k => let (m, c) := acc.2.moveConn k; (acc.1 + b2n m, c)) (0, c)

/-- Every connection with something to send does so. -/
def Chan.carryOn (c : Chan) : Chan :=
  (c.fab.conns.keysWhere (fun _ x => x.live && !x.ops.isEmpty)).foldl (fun c k => c.pump k pumpFuel) c

/-- The PD 0 connections to heartbeat peers (R452): one opened to every EID of a VALID entry that has none. -/
def Chan.keepHb (c : Chan) : Chan :=
  if c.serves then
    (List.range 16).foldl (fun c i =>
      let peer := c.fget (Reg.REL_HB_PEER i) 17 0
      if !c.flag (Reg.REL_HB_PEER i) 63 || c.eid.isNone || !c.session peer || (c.baseConn peer).isSome then c
      else match c.nextConn with
        | none => c
        | some (k, c) => c.startOpen k peer 0 0 6 (c.basePmtu (c.flag Reg.FAB_FMT_CFG 0)) none) c
  else c

/-! ### Pauses -/

/-- The pause time of a PFC frame, in ns: quanta × 512 bit times at the port rate. -/
def Chan.pauseNs (c : Chan) (quanta : Nat) : Nat := (quanta * 512 + c.portRate - 1) / c.portRate

/-- PAUSE_QUANTA of a port. -/
def Chan.quanta (c : Chan) (n : Nat) : Nat := c.fget (Reg.FAB_PFC_CFG n) 47 32

/-- Is priority p lossless on port n? -/
def Chan.lossless (c : Chan) (n p : Nat) : Bool := (c.fget (Reg.FAB_PFC_CFG n) 63 56).testBit p

/-- Priority p of port n paused toward the partner: sent now, and again at half the pause time. -/
def Chan.pausePartner (c : Chan) (n p : Nat) : Chan :=
  let c := c.sendPfc n p (c.quanta n)
  let x := c.port n
  c.setPort n { x with txPaused := x.txPaused.put p (c.time + c.pauseNs (c.quanta n) / 2) }

/-- The buffers of a lossless priority exceed XOFF (R266). -/
def Chan.xoff (c : Chan) (n p : Nat) : Chan :=
  let x := c.port n
  if c.lossless n p ∧ (x.txPaused.find p).isNone ∧ c.fget (Reg.FAB_PFC_CFG n) 31 20 < x.held.getD p 0 then c.pausePartner n p else c

/-- The partner's pause of a priority is over: the storm is, and dropping goes on for 10 ms (R267). -/
def Port.resumed (x : Port) (p now : Nat) : Port :=
  { x with rxPaused := x.rxPaused.del p, pausedSince := x.pausedSince.del p, stormed := x.stormed.erase p,
           dropping := if (x.dropping.find p).isSome then x.dropping.put p (now + 10 * ms) else x.dropping }

/-! ### The channel's EID -/

/-- CHN_EID changes (R55, R145): connections end, contexts are faulted, and the event is raised. -/
def Chan.setEid (c : Chan) (valid : Bool) (eid : Nat) : Chan :=
  let was := c.flag Reg.CHN_EID 63
  let old := c.fget Reg.CHN_EID 17 0
  if was = valid ∧ old = eid then c
  else
    let c := (c.fab.conns.keysWhere (fun _ x => x.live)).foldl (fun c k => c.connError k 3 false) c
    let c := if was then c.eidFault else c
    let c := (c.fset Reg.CHN_EID 17 0 eid).fset Reg.CHN_EID 63 63 (b2n valid)
    c.event 0x0003 none (eid + b2n valid * 2 ^ 63) (old + b2n was * 2 ^ 63)

/-- The lowest-numbered port function that is not STOPPED. -/
def Chan.portLock (c : Chan) : Option Nat := c.lock .allPorts 0

/-- An OPEN connection begins to close: nothing new is accepted, and CLOSE goes out once everything is acknowledged. -/
def Chan.startClose (c : Chan) (k : Nat) : Chan := (c.setConn k { c.conn k with st := .closing, due := none, tries := 0 }).closeIfIdle k

end Sys2Proof.Machine
end

