-- ==== Sys2Proof/Machine/Fabric.lean ====
section
/-! DEFINITION. The meanings of the transport commands (R278 to R283, R292 to R297, R301, R302). -/
namespace Sys2Proof.Machine
open Sys2Proof

/-! ### FAB_PD (R278) -/

/-- Does a connection, a region or an attention queue use a PD? -/
def Chan.pdUsed (c : Chan) (pd : Nat) : Bool :=
  c.fab.conns.anyOf (fun _ x => decide (x.pd = pd ∧ x.st ≠ .closed)) ||
  c.fab.regions.anyOf (fun _ x => decide (x.pd = pd ∧ (x.st = .valid ∨ x.st = .revoking))) ||
  c.cru.queues.anyOf (fun _ q => decide (q.pd = pd ∧ q.st ≠ .free))

/-- FAB_PD: assigned to a tenant slot, or unassigned by 0xFF. -/
def execFabPd (c : ChId) (src : Src) (pd slot : Nat) (acl : Bool) (s : State) : Host.Outcome State Fault Refusal :=
  onCh c (fun x => x.command src ⟨true, false, false⟩ (fun x =>
    if 15 < slot ∧ slot ≠ 0xFF then x.complete src 0x28 0
    else if pd = 0 ∨ 1023 < pd then x.complete src 0x87 0
    else if slot ≠ 0xFF ∧ x.tag slot = 0 then x.complete src 0xB0 0
    else if x.pdUsed pd then x.complete src 0x88 0
    else { x with fab := { x.fab with pds := if slot = 0xFF then x.fab.pds.del pd else x.fab.pds.put pd ⟨slot, acl⟩ } }.complete src 0 0)) s

/-! ### Regions (R279, R281, R294) -/

/-- The result record of fab.reg. -/
def regionRecord (r key gen base : Nat) : List Byte := leBytes 2 r ++ leBytes 2 0 ++ leBytes 4 key ++ leBytes 2 gen ++ leBytes 6 0 ++ leBytes 8 base

/-- fab.reg: unassigned slabs, charged to T0, under a fresh key and the next generation. -/
def Chan.fabReg (c : Chan) (src : Src) (pd units rights eid : Nat) (check : Bool) : Chan :=
  let t := src.slot
  if c.pdSlot pd ≠ some t then c.complete src 0x87 0
  else if units = 0 ∨ 128 < units ∨ 7 < rights ∨ 2 ^ 18 ≤ eid then c.complete src 0x28 0
  else if !c.quotaAllows t 0 (512 * units) then (c.tierQuotaEvent t 0).complete src 0xA0 0
  else match c.takeSlabs units 1 with
    | none => c.complete src 0x86 0
    | some (slabs, c') =>
      match c'.register { Region.init with kind := .slabs, pd := pd, rights := rights, ownerCheck := check, ownerEid := eid, slabs := slabs,
                                           size := units * (2 * mib), tenant := t, byVf := src.vf.isSome } with
      | none => c.complete src 0x86 0
      | some (r, c') => let x := c'.region r; c'.checkLow.completeX src 0 (regionRecord r x.key x.gen (c'.regionAddr r))

/-- FAB_REG. -/
def execFabReg (c : ChId) (src : Src) (pd units rights ownerEid : Nat) (ownerCheck : Bool) (s : State) : Host.Outcome State Fault Refusal :=
  onCh c (fun x => x.command src ⟨false, false, true⟩ (fun x => x.fabReg src pd units rights ownerEid ownerCheck)) s

/-- A command names a tenant's region: one that is registered, outside the base domain, and a VF's own. -/
def Chan.withRegion (c : Chan) (src : Src) (r : Nat) (k : Region → Chan) : Chan :=
  let x := c.region r
  if (x.st ≠ .valid ∧ x.st ≠ .revoking) ∨ x.pd = 0 ∨ (src.vf.isSome ∧ x.tenant ≠ src.slot) then c.complete src 0x28 0
  else if x.st = .revoking then c.complete src 0x8B 0
  else k x

/-- FAB_REVOKE: the revoke point; the command completes with the revocation. -/
def execFabRevoke (c : ChId) (src : Src) (r : Nat) (s : State) : Host.Outcome State Fault Refusal :=
  onCh c (fun x => x.command src ⟨false, false, false⟩ (fun x => x.withRegion src r (fun _ => x.revokePoint r (some src)))) s

/-- REVOKE_COMPLETE: no admitted operation remains. -/
def execRevokeComplete (c : ChId) (r : Nat) (s : State) : Host.Outcome State Fault Refusal :=
  onCh c (fun x => if (x.region r).st = .revoking ∧ !x.regionBusy r then x.revokeEnd r else x) s

/-- REGION_QUARANTINE_END: the number may be registered again; it keeps its generation, and the key that the next one must differ from. -/
def execRegionQuarantineEnd (c : ChId) (r : Nat) (s : State) : Host.Outcome State Fault Refusal :=
  onCh c (fun x =>
    let y := x.region r
    if y.st = .quarantined then (x.reach y.endAt).setRegion r { Region.init with key := y.key, gen := y.gen } else x) s

/-- FAB_OWNER. -/
def execFabOwner (c : ChId) (src : Src) (r ownerEid : Nat) (ownerCheck : Bool) (s : State) : Host.Outcome State Fault Refusal :=
  onCh c (fun x => x.command src ⟨false, false, false⟩ (fun x => x.withRegion src r (fun y =>
    if 2 ^ 18 ≤ ownerEid then x.complete src 0x28 0
    else (x.setRegion r { y with ownerEid := ownerEid, ownerCheck := ownerCheck }).complete src 0 0))) s

/-! ### Connections (R283) -/

/-- fab.conn.open: the open completes when the peer has answered. -/
def Chan.fabConnOpen (c : Chan) (src : Src) (peer pd target prio pmtu : Nat) : Chan :=
  if c.eid.isNone then c.complete src 0x8C 0
  else if c.pdSlot pd ≠ some src.slot then c.complete src 0x87 0
  else if 7 < prio ∨ 3 < pmtu ∨ 1023 < target ∨ 2 ^ 18 ≤ peer then c.complete src 0x28 0
  else if !c.session peer then c.complete src 0x8A 0
  else match c.nextConn with
    | none => c.complete src 0x83 0
    | some (k, c) => c.startOpen k peer pd target prio (min pmtu (c.basePmtu (c.flag Reg.FAB_FMT_CFG 0))) (some src)

/-- FAB_CONN_OPEN. -/
def execFabConnOpen (c : ChId) (src : Src) (peer pd target prio pmtu : Nat) (s : State) : Host.Outcome State Fault Refusal :=
  onCh c (fun x => x.command src ⟨false, false, true⟩ (fun x => x.fabConnOpen src peer pd target prio pmtu)) s

/-- May a command act on connection k: a number on a PD of the caller's slot; the PF acts on every tenant's. -/
def Chan.connFor (c : Chan) (src : Src) (k : Nat) : Bool :=
  match src.vf with
  | some t => decide (c.connSlot k = some t)
  | none => decide ((c.conn k).st = .closed ∨ (c.conn k).pd ≠ 0)

/-- fab.conn.close in each state of R283. -/
def Chan.fabConnClose (c : Chan) (src : Src) (k : Nat) : Chan :=
  if 8191 < k ∨ !c.connFor src k then c.complete src 0x87 0
  else
    let x := c.conn k
    match x.st with
    | .closed => c.complete src 0x82 0
    | .quarantine => c.complete src 0 0
    | .error => (c.connQuarantine k).complete src 0 0
    | .reqSent => (((c.completeOpt x.openCmd 0x82 0).failOps k 0x82).connQuarantine k).complete src 0 0
    | .open_ =>
      if x.roce.isSome then ((c.failOps k 0x82).connQuarantine k).complete src 0 0
      else (c.setConn k { x with closeCmd := [src] }).startClose k
    | .closing => c.setConn k { x with closeCmd := x.closeCmd ++ [src] }

/-- FAB_CONN_CLOSE. -/
def execFabConnClose (c : ChId) (src : Src) (conn : Nat) (s : State) : Host.Outcome State Fault Refusal :=
  onChS c (fun x => x.command src ⟨false, false, false⟩ (fun x => x.fabConnClose src conn)) s

/-! ### FAB_OP (R292, R293, R296) -/

/-- Is the operation valid on the connection: opcode, length, alignment and space? -/
def fabOpOk (o : FabOpIn) (x : Conn) : Bool :=
  if x.roce.isSome then decide (0x100 ≤ o.opcode ∧ o.opcode ≤ 0x103 ∧ 1 ≤ o.len ∧ o.len ≤ 16777216)
  else
    let aligned := decide (o.addr % 8 = 0 ∧ o.len % 8 = 0 ∧ 8 ≤ o.len)
    match o.opcode with
    | 1 => aligned && decide (o.len ≤ 16777216)
    | 2 => aligned && decide (o.len ≤ x.pmtu)
    | 3 => aligned && decide (o.len ≤ 1048576)
    | 5 | 6 | 7 => decide (o.addr % 8 = 0 ∧ bits o.addr 45 44 = 0)
    | _ => false

/-- The operation as the transport carries it: the bytes of a store, or the operands of an atomic; `data` is what the host buffer held. -/
def fabOpTx (o : FabOpIn) (src : Src) (data : List Byte) : TxOp :=
  let op := TxOp.of (.cmd src) o.opcode o.addr o.key o.gen o.region
    (match o.opcode with
      | 3 => []
      | 5 | 7 => beBytes 8 o.swap
      | 6 => beBytes 8 o.swap ++ beBytes 8 o.compare
      | _ => data.take o.len)
  { op with len := if op.isAtomic then 8 else o.len, host := o.host }

/-- fab.op. -/
def Chan.fabOp (c : Chan) (src : Src) (o : FabOpIn) : Chan :=
  let x := c.conn o.conn
  if c.eid.isNone then c.complete src 0x8C 0
  else if 8191 < o.conn ∨ !c.connFor src o.conn then c.complete src 0x87 0
  else if src.vf.isNone ∧ (c.connSlot o.conn).any (fun t => c.flag (Reg.SEC_TEN_CFG t) 63) then
    (c.privateRefused ((c.connSlot o.conn).getD 0) o.addr 0x7007).complete src 0xC8 0
  else if x.st ≠ .open_ then c.complete src 0x82 0
  else if !fabOpOk o x then c.complete src 0x89 0
  else if o.opcode = 3 ∨ o.opcode = 5 ∨ o.opcode = 6 ∨ o.opcode = 7 then (c.issue o.conn (fabOpTx o src [])).flush o.conn
  else c.reading src o.data (fun d => (c.issue o.conn (fabOpTx o src d)).flush o.conn)

/-- FAB_OP. -/
def execFabOp (c : ChId) (src : Src) (op : Fetched FabOpIn) (s : State) : Host.Outcome State Fault Refusal :=
  onChS c (fun x => x.command src ⟨false, false, false⟩ (fun x => x.reading src op (fun o => x.fabOp src o))) s

/-! ### FAB_ROCE (R297, R299) -/

/-- Does a receive ring fit a region of the PD? -/
def Chan.ringFits (c : Chan) (q : RoceIn) : Bool :=
  let r := c.region q.ringRegion
  decide (r.st = .valid ∧ r.kind = .slabs ∧ r.pd = q.pd ∧ 1 ≤ q.ringSlots ∧ 16 ≤ q.slotSize ∧ q.ringSlots * q.slotSize ≤ r.size)

/-- The receive counter named: none, or a counter of a tenant program of the slot. -/
def Chan.recvCounter (c : Chan) (q : RoceIn) (t : Nat) : Option (Option Nat) :=
  if q.prog = 0xFF then some none
  else match c.gaf.progs.find q.prog with
    | some p => if p.isTenant ∧ p.tenant = t ∧ q.counter < p.evcCount then some (some (p.evcBase + q.counter)) else none
    | none => none

/-- fab.roce: the queue pair is OPEN at once. -/
def Chan.fabRoce (c : Chan) (src : Src) (q : RoceIn) : Chan :=
  let t := src.slot
  if c.eid.isNone then c.complete src 0x8C 0
  else if c.pdSlot q.pd ≠ some t then c.complete src 0x87 0
  else if c.flag (Reg.SEC_TEN_CFG t) 63 then (c.privateRefused t q.pd 0x7008).complete src 0xC8 0
  else if !([1024, 2048, 4096].contains q.mtu) ∨ 31 < q.timeout ∨ 8191 < q.word ∨ !c.ringFits q then c.complete src 0x28 0
  else match c.recvCounter q t with
    | none => c.complete src 0x28 0
    | some ctr =>
      match c.nextConn with
      | none => c.complete src 0x83 0
      | some (k, c) =>
        let qp : RoceQp := { ip := q.ip, qpn := q.qpn, timeout := q.timeout, ringRegion := q.ringRegion, ringSlots := q.ringSlots, slotSize := q.slotSize,
                             word := q.word, counter := ctr, prog := q.prog, pidx := 0, msgKind := 0, msgLen := 0, got := 0, va := 0, rkey := 0, lastCnp := none, msn := 0 }
        let c := c.setConn k { Conn.init with st := .open_, roce := some qp, pd := q.pd, pmtu := q.mtu, initPsn := q.sendPsn % psnMod, nx := q.sendPsn % psnMod,
                                              una := q.sendPsn % psnMod, ep := q.recvPsn % psnMod, peerInit := q.recvPsn % psnMod, cwnd := c.winInit,
                                              peerWin := 65535, rto := 4096 * 2 ^ q.timeout, v6 := decide (q.ip / 2 ^ 32 ≠ 0xFFFF), ours := true, byVf := src.vf.isSome,
                                              port := (c.portFor k).getD 0, lastUse := c.time }
        c.completeX src 0 (leBytes 4 (0x100000 + k) ++ leBytes 2 k ++ leBytes 2 0)

/-- FAB_ROCE. -/
def execFabRoce (c : ChId) (src : Src) (q : Fetched RoceIn) (s : State) : Host.Outcome State Fault Refusal :=
  onCh c (fun x => x.command src ⟨false, false, true⟩ (fun x => x.reading src q (fun q => x.fabRoce src q))) s

/-! ### The views (R283, R279) -/

/-- FAB_CONN_VIEW0 of a connection. -/
def Conn.view0 (x : Conn) : Nat :=
  x.st.code * 2 ^ 61 + b2n x.roce.isSome * 2 ^ 60 + x.prio % 8 * 2 ^ 57 + x.port % 32 * 2 ^ 52 + x.pd % 1024 * 2 ^ 42 + x.cwnd % 2048 * 2 ^ 31 +
    (if x.roce.isSome then 0 else x.peer % 2 ^ 18 * 2 ^ 13 + x.peerConn % 2 ^ 13)

/-- FAB_CONN_VIEW1. -/
def Conn.view1 (x : Conn) : Nat := x.una % psnMod * 2 ^ 24 + x.ep % psnMod

/-- FAB_REGION_VIEW of a region. -/
def Region.view (x : Region) : Nat :=
  x.st.code * 2 ^ 62 + x.rights % 8 * 2 ^ 59 + b2n x.ownerCheck * 2 ^ 58 + x.ownerEid % 2 ^ 18 * 2 ^ 40 + x.pd % 1024 * 2 ^ 30 + x.slabs.length % 2 ^ 14 * 2 ^ 16 +
    x.gen % 65536

/-- FAB_CONN_SEL_WRITE. -/
def execFabConnSelWrite (c : ChId) (a : Access) (s : State) : Host.Outcome State Fault Refusal :=
  onCh c (fun x =>
    if !x.regsLive ∨ !reaches a 12 0 then x
    else
      let x := x.writeReg Reg.FAB_CONN_SEL a
      let y := x.conn (x.fget Reg.FAB_CONN_SEL 12 0)
      (x.wr Reg.FAB_CONN_VIEW0 y.view0).wr Reg.FAB_CONN_VIEW1 y.view1) s

/-- FAB_REGION_SEL_WRITE. -/
def execFabRegionSelWrite (c : ChId) (a : Access) (s : State) : Host.Outcome State Fault Refusal :=
  onCh c (fun x =>
    if !x.regsLive ∨ !reaches a 15 0 then x
    else
      let x := x.writeReg Reg.FAB_REGION_SEL a
      x.wr Reg.FAB_REGION_VIEW (x.region (x.fget Reg.FAB_REGION_SEL 15 0)).view) s

end Sys2Proof.Machine
end

