-- ==== Sys2Proof/Machine/FnOps.lean ====
section
/-! DEFINITION. Functions (R43 to R49): the validation of their settings, the configuration digest, starting, stopping and quiescing. -/
namespace Sys2Proof.Machine
open Sys2Proof

/-! ### The configuration digest (R451, R453) -/

/-- CFG_DIGEST recomputed, and compared with REL_SELF_EXPECT unless both of its registers are zero. -/
def Chan.recompute (c : Chan) : Chan :=
  let d := configDigest c.regs c.sec.roleDigest c.sec.fwDigest
  let c := { c with sec := { c.sec with cfgDigest := d } }
  let want := leBytes 8 (c.rd (Reg.REL_SELF_EXPECT 0)) ++ leBytes 8 (c.rd (Reg.REL_SELF_EXPECT 1))
  if leVal want = 0 ∨ want = d.take 16 then c.fset Reg.REL_HB_CFG 63 63 0
  else (c.fset Reg.REL_HB_CFG 63 63 1).event 0xE00A none 0 (c.fget Reg.CHN_CFG_EPOCH 31 0)

/-- The configuration epoch after a START (R44): it wraps from 0xFFFF_FFFF to 1. -/
def Chan.nextEpoch (c : Chan) : Chan :=
  let e := c.fget Reg.CHN_CFG_EPOCH 31 0
  c.fset Reg.CHN_CFG_EPOCH 31 0 (if e = 2 ^ 32 - 1 then 1 else e + 1)

/-! ### Validation (R44) -/

/-- Does profile p differ from the one under which a context that is not FREE was opened (R94)? GEOM, or else ID, is the register that offends. -/
def Chan.profileChanged (c : Chan) (p : Nat) : Option Nat :=
  if c.ctx.entries.anyOf (fun _ e => decide (e.state ≠ .free ∧ e.profile = p)) then
    if c.rd (Reg.PG_PROF_GEOM p) ≠ c.role.profiles.getD (2 * p) 0 then some (Reg.PG_PROF_GEOM p)
    else if c.rd (Reg.PG_PROF_ID p) ≠ c.role.profiles.getD (2 * p + 1) 0 then some (Reg.PG_PROF_ID p)
    else none
  else none

/-- The first register that makes a START of the role function fail (R94). -/
def Chan.badRole (c : Chan) : Option Nat :=
  (List.range 16).findSome? (fun p =>
    if !c.flag (Reg.PG_PROF_GEOM p) 63 then none
    else if (c.geom p).ok then c.profileChanged p else some (Reg.PG_PROF_GEOM p))

/-- The first register that makes a START of slot t's function fail (R365). -/
def Chan.badSlot (c : Chan) (t : Nat) : Option Nat :=
  let tag := c.tag t
  if (tag ≠ 0 ∧ (List.range 16).any (fun u => decide (u ≠ t ∧ c.tag u = tag))) ∨
      c.ctx.entries.anyOf (fun _ e => decide (e.tslot = t ∧ e.state ≠ .free ∧ e.state ≠ .retired ∧ e.tag ≠ tag)) then some (Reg.TEN_SLOT_CFG t)
  else none

/-- The first register that makes a START of the scheduler of port n fail (R305, R313): GCL_EN with no entry or a cycle above 10 s, a queue whose PRIO is not the priority
that QMAP sends to it, or an INTERVAL in use below 100 ns. -/
def Chan.badSched (c : Chan) (n : Nat) : Option Nat :=
  let len := c.fget (Reg.TM_PORT_SCHED n) 38 32
  let used := (List.range (min 64 len)).map (fun i => (i, c.fget (Reg.TM_GCL n i) 31 0))
  let on := c.flag (Reg.TM_PORT_SCHED n) 63
  if on ∧ (len = 0 ∨ 10000 * ms < (used.map Prod.snd).sum) then some (Reg.TM_PORT_SCHED n)
  else match (List.range 8).find? (fun p => decide (c.fget (Reg.TM_Q_CFG n (c.fget (Reg.TM_PORT_SCHED n) (4 * p + 3) (4 * p))) 58 56 ≠ p)) with
    | some p => some (Reg.TM_Q_CFG n (c.fget (Reg.TM_PORT_SCHED n) (4 * p + 3) (4 * p)))
    | none => if on then (used.find? (fun x => decide (x.2 < 100))).map (fun x => Reg.TM_GCL n x.1) else none

/-- The first register that makes a START of segment s fail (PFX_CASC_CFG, PFX_SEG_CFG). -/
def Chan.badSegment (c : Chan) (s : Nat) : Option Nat :=
  let len := c.fget Reg.PFX_CASC_CFG 3 0
  if len < 2 ∨ 8 < len then some Reg.PFX_CASC_CFG
  else if 16 < c.fget (Reg.PFX_SEG_CFG s) 52 48 then some (Reg.PFX_SEG_CFG s)
  else none

/-- The first offending register of function n; ports have no setting that START refuses. -/
def Chan.badReg (c : Chan) (n : Nat) : Option Nat :=
  if n = 0 then c.badRole
  else if 0x30 ≤ n ∧ n ≤ 0x3F then c.badSlot (n - 0x30)
  else if 0x40 ≤ n ∧ n < 0x60 then c.badSched (n - 0x40)
  else if 0x100 ≤ n ∧ n < 0x200 then c.badSegment (n - 0x100)
  else none

/-! ### Records and events of a function -/

/-- RESULT and BAD_REG of function n, where it has a register. -/
def Chan.fnResult (c : Chan) (n result bad : Nat) : Chan :=
  if n < 512 then c.setFn n { c.fn n with result := result, badReg := bad } else c

/-- A command on function n ends: RESULT, and its completion. -/
def Chan.fnEnd (c : Chan) (src : Option Src) (n result bad value : Nat) : Chan := (c.fnResult n result bad).completeOpt src result value

/-- The function-state event (R62). -/
def Chan.fnEvent (c : Chan) (n : Nat) (old new : FnState) : Chan :=
  let r := c.fn n
  c.event 0x0002 (if 0x30 ≤ n ∧ n ≤ 0x3F then some (n - 0x30) else none) n (new.code + old.code * 256 + r.result * 65536 + r.badReg * 2 ^ 32)

/-! ### Tags (R365, R398, R416, R433) -/

/-- The bits of the keys-destroyed event for the keys of `k` that `k'` no longer holds: storage, program, data, import. -/
def TenKeys.lost (k k' : TenKeys) : Nat :=
  b2n (k.storage.isSome && decide (k'.storage ≠ k.storage)) + 2 * b2n (k.prog.anyOf (fun i p => decide (k'.prog.find i ≠ some p))) +
    4 * b2n (k.data.anyOf (fun i p => decide (k'.data.find i ≠ some p))) + 8 * b2n (k.importKey.isSome && decide (k'.importKey ≠ k.importKey))

/-- The keys of slot t replaced; the event names those that this destroys (R398). -/
def Chan.setKeys (c : Chan) (t : Nat) (k : TenKeys) : Chan :=
  let gone := (c.keysOf t).lost k
  let c := { c with sec := { c.sec with keys := c.sec.keys.set TenKeys.init t k } }
  if gone = 0 then c else c.event 0xC008 (some t) (0x30 + t) gone

/-- A START of slot t's function with a changed TAG: a final TOTALS frame under the old tag and a new stream, every key destroyed, the slot's programs unloaded, and
the event. -/
def Chan.tagChanged (c : Chan) (t : Nat) : Chan :=
  let old := c.host.tags.getD t 0
  let new := c.tag t
  if old = new then c
  else
    let x := c.totals t
    let n := c.totalsNow t
    let c := if old ≠ 0 ∧ c.linkLive ∧ 0 < c.mtr.credits then
        c.sendLink 2 { c.blankFrame t x.stream with tag := old, prompt := x.prompt, output := x.output, attached := x.attached, t0 := n.2.2.2.1, out := n.2.2.2.2 }
      else c
    let c := (c.newSlotStream t).slotHello t
    let c := c.setKeys t TenKeys.init
    let c := c.dropTenantProgs t false
    let c := { c with host := { c.host with tags := c.host.tags.set 0 t new } }
    c.event 0xB004 none (0x30 + t) (old + new * 2 ^ 32)

/-! ### Starting -/

/-- The profile registers as they stand (R94). -/
def Chan.profileRegs (c : Chan) : AMap Nat :=
  (List.range 16).foldl (fun m p => (m.set 0 (2 * p) (c.rd (Reg.PG_PROF_GEOM p))).set 0 (2 * p + 1) (c.rd (Reg.PG_PROF_ID p))) []

/-- What a function does as it starts: the role takes its new program's role, a slot the tag it now holds, a scheduler its gate list, a port its connections. -/
def Chan.startEffect (c : Chan) (n : Nat) : Chan :=
  if n = 0 then { c with role := { c.role with cur := c.role.image.getD c.role.cur, profiles := c.profileRegs } }
  else if n < 0x30 then c.moveConns.2.carryOn.keepHb
  else if n < 0x40 then c.tagChanged (n - 0x30)
  else if n < 0x60 then c.gateStart (n - 0x40)
  else c

/-- STOP in RUNNING begins quiescing (R44, R48): a port pauses its partner on every enabled priority. The command completes when the function is STOPPED. -/
def Chan.beginStop (c : Chan) (src : Option Src) (n : Nat) : Chan :=
  let c := c.setFn n { c.fn n with st := .stopping, owner := src }
  if 0x10 ≤ n ∧ n < 0x30 then
    (List.range 8).foldl (fun c p => if c.lossless (n - 0x10) p then c.pausePartner (n - 0x10) p else c) c
  else c

/-- STOP of a function by its state (R44, R46). -/
def Chan.stopFn (c : Chan) (src : Option Src) (n : Nat) : Chan :=
  match c.fnState n with
  | .running => c.beginStop src n
  | .starting => c.setFn n { c.fn n with held := some src }
  | _ => c.fnEnd src n 0 0 0

/-- A STOP held during STARTING takes effect (R46): as a STOP in RUNNING, or with success and no other effect where the start failed. -/
def Chan.heldStop (c : Chan) (n : Nat) : Chan :=
  match (c.fn n).held with
  | none => c
  | some src =>
    let c := c.setFn n { c.fn n with held := none }
    if c.fnState n = .running then c.beginStop src n else c.completeOpt src 0 0

/-- START of a function by its state (R44, R46): STARTING is validated and left in the same step. -/
def Chan.startFn (c : Chan) (src : Option Src) (n : Nat) : Chan :=
  if c.fnState n ≠ .stopped then c.fnEnd src n 1 0 0
  else match c.badReg n with
    | some r =>
      ((c.fnEnd src n 4 r r).fnEvent n .starting .stopped).heldStop n
    | none =>
      let c := (c.startEffect n).recompute.nextEpoch
      let c := (c.setFn n { c.fn n with st := .running }).fnEnd src n 0 0 0
      (c.fnEvent n .starting .running).heldStop n

/-- A STOP or START of function n by a command or a register (R43, R47). -/
def Chan.fnCommand (c : Chan) (src : Option Src) (n : Nat) (start : Bool) : Chan :=
  if !c.fnPresent n then c.fnEnd src n 2 0 0
  else if n = 0 then c.fnEnd src n 3 0 0
  else if start then c.startFn src n
  else c.stopFn src n

/-! ### Quiescing -/

/-- Does function n still quiesce (R48): a slot owes completions for commands taken, or a segment has lookups on the ring? -/
def Chan.quiescing (c : Chan) (n : Nat) : Bool :=
  if 0x30 ≤ n ∧ n ≤ 0x3F then (List.range 16).any (fun i => !(c.ring (.vf (n - 0x30)) i).taken.isEmpty)
  else if 0x100 ≤ n ∧ n < 0x200 then c.pfx.waits.any (fun w => decide (w.seg = n - 0x100) && !w.probe)
  else false

/-- The function reaches STOPPED: the event and the stop completion. -/
def Chan.stopped (c : Chan) (n : Nat) : Chan :=
  let src := (c.fn n).owner
  let c := c.setFn n { c.fn n with st := .stopped, owner := none, result := 0, badReg := 0 }
  (c.completeOpt src 0 0).fnEvent n .stopping .stopped

/-- A stopped port: it pauses its partner no longer, and its connections move (R286). -/
def Chan.portStopped (c : Chan) (n : Nat) : Chan :=
  let c := c.setPort n { c.port n with txPaused := [] }
  c.moveConns.2.carryOn

/-! ### The role (R32 to R36) -/

/-- Does a state block STOPPED (R33)? -/
def CtxState.blocks (s : CtxState) : Bool := decide (s = .prefilling ∨ s = .offered ∨ s = .inbound ∨ s = .decoding ∨ s = .draining)

/-- Contexts that block STOPPED. -/
def Chan.blocking (c : Chan) : Nat := c.ctx.entries.countP (fun e => e.2.state.blocks)

/-- The role of ROLE in an image header (R211). -/
def roleOf : Nat → Role
  | 1 => .prompt
  | 2 => .generation
  | 3 => .cache
  | _ => .unassigned

/-- The role program of slot 3 replaced (R36, R216): invocations of the old one end, and the resident entries of the new one are invoked. -/
def Chan.putRole (c : Chan) (role : Role) (digest : List Byte) (p : Option Prog) : Chan :=
  let isIt := fun (i : Option Invocation) => match i with | some i => i.prog == 3 | none => false
  let c := (c.gaf.cores.keysWhere (fun _ g => isIt g.inv)).foldl (fun c k => (c.stopMoves k).setCore k GCore.init) c
  let c := { c with gaf := { c.gaf with queue := c.gaf.queue.filter (fun i => !(i.prog == 3)), saved := c.gaf.saved.filter (fun g => !isIt g.1.inv),
                                        restarts := c.gaf.restarts.keep (fun k _ => decide (k / 65536 ≠ 3)),
                                        progs := match p with | some p => c.gaf.progs.put 3 p | none => c.gaf.progs.del 3 },
                    role := { c.role with image := some role }, sec := { c.sec with roleDigest := digest } }
  match p with
  | some p => c.invokeResidents 3 p
  | none => c

end Sys2Proof.Machine
end

