-- ==== Sys2Proof/Machine/Gaffer.lean ====
section
/-! DEFINITION. The meanings of the gaffer commands and happenings (chapter 8): programs, invocations, triggers, the schedule and its registers. -/
namespace Sys2Proof.Machine
open Sys2Proof

/-! ### GAF_LOAD (R211, R212, R216, R397) -/

/-- The checks of step 1 that the header's fields and the entry table must pass (R211). -/
def imageFormed (m : ImageIn) : Bool :=
  decide (m.magic = 0xBAF10001 ∧ m.hdrVersion = 1 ∧ 1 ≤ m.kind ∧ m.kind ≤ 3 ∧ m.role ≤ 3 ∧ (m.role ≠ 0 → m.kind = 1) ∧
    (m.kind = 3 → m.grants.testBit 4 = false) ∧ 8 ≤ m.textBytes ∧ m.textBytes ≤ 16 * mib ∧ m.textBytes % 8 = 0 ∧ m.dataBytes ≤ 262144 ∧ m.dataBytes % 64 = 0 ∧
    m.dataBytes ≤ m.scratchBytes ∧ m.scratchBytes ≤ 262144 ∧ m.scratchBytes % 4096 = 0 ∧ 1 ≤ m.entries.length ∧ m.entries.length ≤ 1024 ∧
    m.evcCount ≤ 4096 ∧ 1 ≤ m.coresMax ∧ m.coresMax ≤ 64 ∧ (m.kind ≠ 3 → m.tenantTag = 0) ∧
    m.text.length = m.textBytes ∧ m.data.length = m.dataBytes ∧ 128 + 16 * m.entries.length + m.textBytes + m.dataBytes + 64 = m.size ∧
    (m.entries.map (fun e => e.id)).Nodup) &&
  m.entries.all (fun e => decide (e.offset % 8 = 0 ∧ e.offset < m.textBytes))

/-- Where tenant images lie (R102, R212): 256 MiB from 544 MiB. -/
def imgBase : Nat := 544 * mib

/-- The lowest address of a multiple of 4 KiB at which an image of n bytes fits among the installed ones. -/
def Chan.imageRoom (c : Chan) (n : Nat) : Option Nat :=
  let up := fun a => (a + 4095) / 4096 * 4096
  let held := c.gaf.progs.filter (fun p => decide (0 < p.2.imgLen))
  (imgBase :: held.map (fun p => up (p.2.imgAt + p.2.imgLen))).find? (fun a =>
    decide (a + n ≤ imgBase + 256 * mib) && held.all (fun p => decide (a + n ≤ p.2.imgAt ∨ p.2.imgAt + p.2.imgLen ≤ a)))

/-- The first of n contiguous counters, in blocks of 64, that no program holds (R217). -/
def Chan.counterRoom (c : Chan) (n : Nat) : Option Nat :=
  let up := fun a => (a + 63) / 64 * 64
  let held := c.gaf.progs.filter (fun p => decide (0 < p.2.evcCount))
  (16384 :: held.map (fun p => p.2.evcBase + up p.2.evcCount)).find? (fun a =>
    decide (a + up n ≤ 65536) && held.all (fun p => decide (a + up n ≤ p.2.evcBase ∨ p.2.evcBase + up p.2.evcCount ≤ a)))

/-- The program key of a slot that a KEY_ID names, with its index. -/
def Chan.progKey (c : Chan) (t keyId : Nat) : Option (Nat × ProgKey) := (c.keysOf t).prog.find? (fun k => k.2.keyId == keyId)

/-- The floor of a program key raised to a version (R397). -/
def Chan.raiseFloor (c : Chan) (t i : Nat) (version : Nat) : Chan :=
  let k := c.keysOf t
  { c with sec := { c.sec with keys := c.sec.keys.put t { k with prog := k.prog.modify i (fun x => { x with floor := max x.floor version }) } } }

/-- The program slots of tenant slot t. -/
def Chan.progsOf (c : Chan) (t : Nat) : List Nat := c.gaf.progs.keysWhere (fun _ p => p.isTenant && p.tenant == t)

/-- A load refused: the event (R233) and the status. -/
def Chan.loadRefused (c : Chan) (src : Src) (status : Nat) : Chan := (c.event 0x6002 (some src.slot) 0 status).complete src status 0

/-- An image that passed every check is installed in program slot n, with its counters at zero and its resident entries invoked (R212, R216, R217). -/
def Chan.install (c : Chan) (src : Src) (m : ImageIn) (n ki at_ evc : Nat) : Chan :=
  let t := src.slot
  let count := (m.evcCount + 63) / 64 * 64
  let p : Prog := { kind := .tenant, faulted := false, grants := m.grants, version := m.version, keyId := m.keyId, scratch := m.scratchBytes,
                    coresMax := m.coresMax, tenant := t, entries := m.entries, text := m.text, data := m.data, evcBase := if m.evcCount = 0 then 0 else evc,
                    evcCount := m.evcCount, imgAt := at_, imgLen := m.size, lastExc := none, excCode := 0 }
  let c := { c with gaf := { c.gaf with progs := c.gaf.progs.put n p, evc := c.gaf.evc.keep (fun i _ => !decide (evc ≤ i ∧ i < evc + count)) },
                    hbm := Memory.write c.hbm (at_ + 128 + 16 * m.entries.length) (m.text ++ m.data) }
  let c := (c.raiseFloor t ki m.version).event 0x6001 (some t) n (m.version % 2 ^ 32 + m.keyId * 2 ^ 32)
  (c.invokeResidents n p).completeX src 0 (leBytes 1 n ++ leBytes 1 0 ++ leBytes 2 p.evcBase)

/-- gaf.load (R212). -/
def Chan.gafLoad (c : Chan) (src : Src) (m : ImageIn) : Chan :=
  let t := src.slot
  if !imageFormed m then c.loadRefused src 0x73
  else if m.kind ≠ 3 ∨ m.tenantTag ≠ c.tag t then c.loadRefused src 0x75
  else match c.progKey t m.keyId with
    | none => c.loadRefused src 0x72
    | some (ki, key) =>
      if !m.sigOk then c.loadRefused src 0x71
      else if m.version < key.floor then c.loadRefused src 0x7B
      else match (List.range 28).find? (fun i => (c.prog (4 + i)).isNone), c.imageRoom m.size with
        | some i, some a =>
          if 4 ≤ (c.progsOf t).length then c.loadRefused src 0x74
          else match c.counterRoom m.evcCount with
            | none => c.loadRefused src 0x76
            | some evc => c.install src m (4 + i) ki a evc
        | _, _ => c.loadRefused src 0x74

/-- GAF_LOAD. -/
def execGafLoad (c : ChId) (src : Src) (img : Fetched ImageIn) (s : State) : Host.Outcome State Fault Refusal :=
  onCh c (fun x => x.command src ⟨false, false, true⟩ (fun x => x.reading src img (fun m => x.gafLoad src m))) s

/-! ### GAF_UNLOAD, GAF_INVOKE and GAF_QUERY (R213, R215, R231) -/

/-- The tenant program that a command names: a VF reaches only its own tenant slot's (R231). -/
def Chan.withProg (c : Chan) (src : Src) (n : Nat) (k : Prog → Chan) : Chan :=
  match c.prog n with
  | none => c.complete src 0x77 0
  | some p => if p.isTenant && (src.vf.isNone || decide (src.vf = some p.tenant)) then k p else c.complete src 0x77 0

/-- GAF_UNLOAD. -/
def execGafUnload (c : ChId) (src : Src) (prog : Nat) (s : State) : Host.Outcome State Fault Refusal :=
  onCh c (fun x => x.command src ⟨false, false, false⟩ (fun x => x.withProg src prog (fun _ =>
    if x.progBusy prog then x.complete src 0x79 0 else (x.dropProg prog false).complete src 0 0))) s

/-- gaf.invoke (R215, R221, R231): the invocation waits for a core, with the slot and the entry in s1 and the parameters in s2 to s6. -/
def Chan.gafInvoke (c : Chan) (src : Src) (n entry : Nat) (params : List W64) (p : Prog) : Chan :=
  if p.faulted then c.complete src 0x7A 0
  else match p.entries.find? (fun e => e.id == entry) with
    | none => c.complete src 0x77 0
    | some e =>
      if (if src.vf.isSome then e.vfCall else e.pfCall) then
        c.invoke n entry false src.vf.isNone src.slot (some src) (w64 (n + entry % 65536 * 65536) :: params.take 5)
      else c.complete src 0x78 0

/-- GAF_INVOKE. -/
def execGafInvoke (c : ChId) (src : Src) (prog entry : Nat) (params : List W64) (s : State) : Host.Outcome State Fault Refusal :=
  onCh c (fun x => x.command src ⟨false, false, false⟩ (fun x => x.withProg src prog (fun p => x.gafInvoke src prog entry params p))) s

/-- The code of a program kind (R211). -/
def ProgKind.code : ProgKind → Nat
  | .role => 1
  | .base => 2
  | .tenant => 3

/-- STATE of a program slot (GAF_PROG). -/
def Prog.stateCode (p : Prog) : Nat := if p.faulted then 3 else 1

/-- The record of gaf.query (R231): state, KIND, VERSION, KEY_ID, and the invocations running and saved. -/
def Chan.progRecord (c : Chan) (n : Nat) (p : Prog) : List Byte :=
  let isIt := fun (i : Option Invocation) => match i with | some i => i.prog == n | none => false
  leBytes 1 p.stateCode ++ leBytes 1 p.kind.code ++ leBytes 2 0 ++ leBytes 4 p.version ++ leBytes 4 p.keyId ++
  leBytes 1 (c.gaf.cores.countP (fun g => isIt g.2.inv)) ++ leBytes 1 (min 255 (c.gaf.saved.countP (fun g => isIt g.1.inv))) ++ leBytes 2 0

/-- GAF_QUERY: the PF queries any program slot, a VF those of its own programs. -/
def execGafQuery (c : ChId) (src : Src) (prog : Nat) (s : State) : Host.Outcome State Fault Refusal :=
  onCh c (fun x => x.command src ⟨false, false, false⟩ (fun x =>
    match x.prog prog with
    | none => x.complete src 0x77 0
    | some p =>
      if src.vf.isNone || (p.isTenant && decide (src.vf = some p.tenant)) then x.completeX src 0 (x.progRecord prog p) else x.complete src 0x77 0)) s

/-! ### Invocations and triggers -/

/-- INVOCATION_START: an idle core takes the invocation that it runs next. -/
def execInvocationStart (c : ChId) (core : Nat) (s : State) : Host.Outcome State Fault Refusal := onCh c (fun x => x.fillCore core) s

/-- TRIGGER_FIRE: an armed counter has reached its target (R218). -/
def execTriggerFire (c : ChId) (k : Nat) (s : State) : Host.Outcome State Fault Refusal :=
  onCh c (fun x =>
    match x.gaf.triggers.find k with
    | none => x
    | some t =>
      if x.serves && decide (t.target ≤ x.ctrVal t.ctr) && (decide (t.h = 0) || x.named t.ctr t.h) then
        { x with gaf := { x.gaf with triggers := x.gaf.triggers.del k } }.fire t
      else x) s

/-- WAIT_TIMEOUT: the timeout of a wait expires before its target is reached (R218). -/
def execWaitTimeout (c : ChId) (core : Nat) (s : State) : Host.Outcome State Fault Refusal :=
  onCh c (fun x =>
    let g := x.core core
    match g.st, g.wait with
    | .waiting, some (.counter _ _ _ (some t) rd) =>
      if x.serves then let x := x.reach t; x.setCore core (g.endWait rd false x.time) else x
    | _, _ => x) s

/-- An exception that is taken between instructions, or at the end of a wait for asynchronous work (R239, R262). -/
def Chan.betweenExc (c : Chan) (k code : Nat) : Chan :=
  let g := c.core k
  match g.wait with
  | some _ => c.setCore k { g with dueExc := some (g.dueExc.getD code) }
  | none => c.exception k code g.pc

/-- CHEAP_POINT_OVERDUE: 100 µs of running have passed since the preemption was requested (R223). -/
def execCheapPointOverdue (c : ChId) (core : Nat) (s : State) : Host.Outcome State Fault Refusal :=
  onCh c (fun x =>
    let g := x.core core
    match g.preempt with
    | some t => if x.serves && decide (g.st = .running) && !g.held then (x.reach (t + 100000)).betweenExc core 8 else x
    | none => x) s

/-- BUDGET of an invocation's entry in ns; zero for no limit (R211). -/
def Chan.budgetOf (c : Chan) (i : Invocation) : Nat :=
  (((c.prog i.prog).bind (fun p => p.entries.find? (fun e => e.id == i.entry))).map (fun e => e.budget)).getD 0 * 1000

/-- BUDGET_EXCEEDED: an invocation has run longer than its entry's BUDGET (R215). -/
def execBudgetExceeded (c : ChId) (core : Nat) (s : State) : Host.Outcome State Fault Refusal :=
  onCh c (fun x =>
    let g := x.core core
    match g.inv with
    | some i =>
      let b := x.budgetOf i
      if x.serves && decide (0 < b ∧ g.st = .running) && !g.held then (x.reach (g.since + (b - g.ran))).betweenExc core 9 else x
    | none => x) s

/-- RESIDENT_RESTART: a base or role resident entry that took an exception is invoked again, or the program becomes faulted (R221). -/
def execResidentRestart (c : ChId) (prog entry : Nat) (s : State) : Host.Outcome State Fault Refusal :=
  onCh c (fun x =>
    let key := prog * 65536 + entry
    match x.gaf.restarts.find key, x.prog prog with
    | some v, some p =>
      if x.serves && decide (entry < 65536) then
        let x := { x with gaf := { x.gaf with restarts := x.gaf.restarts.del key } }
        if 256 ≤ v then x.progFault prog (v % 256)
        else (x.event 0x6007 none prog (entry + v * 65536)).invoke prog entry true true p.tenant none []
      else x
    | _, _ => x) s

/-! ### The schedule (R225, R226, R228) -/

/-- The schedule enters slot i, whose end is set from the boundary at which it starts. -/
def Chan.enterSlot (c : Chan) (i start : Nat) : Chan :=
  { c with gaf := { c.gaf with curSlot := i, slotEnd := start + c.slotLen c.tableB i * 1000 } }

/-- What makes the inactive table invalid, with the first slot that offends (R225, R233). -/
def Chan.tableFault (c : Chan) (b : Bool) : Option (Nat × Nat) :=
  let frame := c.frameLen b
  let base := c.fget Reg.GAF_SCHED_CTRL 6 0
  if frame < 100 ∨ 10000 < frame then some (0, 1)
  else match (c.usedSlots b).find? (fun i => decide (64 - base < c.fget (schedRow b i) 45 40)) with
    | some i => some (i, 3)
    | none =>
      if base < 4 ∨ 32 < base then some (0, 4)
      else ((c.usedSlots b).find? (fun i => decide (16 < c.fget (schedRow b i) 39 32))).map (fun i => (i, 5))

/-- A frame ends (R225): a pending switch is judged, and the frame of the running table begins. -/
def Chan.frameEnd (c : Chan) : Chan :=
  let c := c.reach c.gaf.slotEnd
  let old := c.coreOwner
  let c :=
    if c.flag Reg.GAF_SCHED_CTRL 62 then
      let b := !c.tableB
      let fault := c.tableFault b
      let c := c.fset Reg.GAF_SCHED_CTRL 62 62 0
      match fault with
      | some (i, code) => c.event 0x6005 none (b2n b) (i + code * 256)
      | none =>
        let c := c.fset Reg.GAF_SCHED_CTRL 61 61 (b2n b)
        { c with gaf := { c.gaf with runBase := c.fget Reg.GAF_SCHED_CTRL 6 0 } }.event 0x6004 none (b2n b) (c.frameLen b)
    else c
  (c.enterSlot ((c.usedSlots c.tableB).headD 0) c.time).reassign old

/-- A slot ends (R226): the next used slot begins, or the frame ends. -/
def Chan.slotStep (c : Chan) : Chan :=
  match (c.usedSlots c.tableB).find? (fun i => decide (c.gaf.curSlot < i)) with
  | none => if (c.usedSlots c.tableB).isEmpty then c else c.frameEnd
  | some i =>
    let c := c.reach c.gaf.slotEnd
    let old := c.coreOwner
    (c.enterSlot i c.time).reassign old

/-- SLOT_BOUNDARY. -/
def execSlotBoundary (c : ChId) (s : State) : Host.Outcome State Fault Refusal := onCh c (fun x => if x.serves then x.slotStep else x) s

/-- FRAME_BOUNDARY. -/
def execFrameBoundary (c : ChId) (s : State) : Host.Outcome State Fault Refusal :=
  onCh c (fun x => if x.serves then
    let last := (x.usedSlots x.tableB).getLast?.getD x.gaf.curSlot
    let rest := ((x.usedSlots x.tableB).filter (fun i => decide (x.gaf.curSlot < i ∧ i ≤ last))).map (x.slotLen x.tableB)
    (x.reach (x.gaf.slotEnd + rest.sum * 1000)).frameEnd else x) s

/-- POOL_QUANTUM_EXPIRY: an invocation that the pool runs has run for QUANTUM, and another tenant slot has work (R226). -/
def execPoolQuantumExpiry (c : ChId) (core : Nat) (s : State) : Host.Outcome State Fault Refusal :=
  onCh c (fun x =>
    let g := x.core core
    match g.inv with
    | some i =>
      let o := x.ownerOf i
      if x.serves && decide (x.coreOwner core ≠ o ∧ o < 16) then
        let x := x.reach (g.started + x.quantum)
        if x.runnable.any (fun r => decide (r.2.1 < 16 ∧ r.2.1 ≠ o) && !r.2.2) then x.requestPreempt core false
        else x.setCore core { g with started := x.time }
      else x
    | none => x) s

/-- PREEMPTION_DEFERRED_RELEASE: a save area is free, and the deferred preemption is requested (R228). -/
def execPreemptionDeferredRelease (c : ChId) (core : Nat) (s : State) : Host.Outcome State Fault Refusal :=
  onCh c (fun x =>
    match (x.core core).deferred with
    | some (t, kept) =>
      let free := 256 - x.areasUsed
      if x.serves && (if kept then decide (0 < free) else decide (64 < free)) then
        let us := min ((x.time - t) / 1000) (2 ^ 32 - 1)
        let x := if x.fget Reg.GAF_PREEMPT_DEFER 31 0 < us then x.fset Reg.GAF_PREEMPT_DEFER 31 0 us else x
        x.requestPreempt core kept
      else x
    | none => x) s

/-! ### Registers -/

/-- GAF_SCHED_SWITCH: a write of 1 to SWITCH (R225). -/
def execGafSchedSwitch (c : ChId) (s : State) : Host.Outcome State Fault Refusal :=
  onCh c (fun x => if x.regsLive then x.fset Reg.GAF_SCHED_CTRL 62 62 1 else x) s

/-- GAF_PREEMPT_MAX_CLEAR: a write of 1 to CLEAR. -/
def execGafPreemptMaxClear (c : ChId) (s : State) : Host.Outcome State Fault Refusal :=
  onCh c (fun x => if x.regsLive then x.fset Reg.GAF_PREEMPT_MAX 31 0 0 else x) s

/-- GAF_EVC_ADD: a 64-bit write adds AMOUNT to counter INDEX (R219); a 32-bit write triggers nothing (R16). -/
def execGafEvcAdd (c : ChId) (a : Access) (s : State) : Host.Outcome State Fault Refusal :=
  onCh c (fun x =>
    if x.regsLive && decide (a.half = .both) && decide (bits a.val 31 0 ≠ 0) then x.addCtr (.num (bits a.val 63 48)) (bits a.val 31 0) else x) s

end Sys2Proof.Machine
end

