-- ==== Sys2Proof/Machine/HostRings.lean ====
section
/-! DEFINITION. The host port: ring pairs, event rings, vectors, configuration writes and bad completions (R361 to R379, R499). -/
namespace Sys2Proof.Machine
open Sys2Proof

/-- The PCIe function of a copy of the ring registers. -/
def winFn : RingWin → PciFn
  | .pf => .pf
  | .vf t => .vf t

/-- The configuration of a function of the channel. -/
def Chan.pci (c : Chan) (f : PciFn) : Pci := c.host.pci.getD f.index Pci.init

/-- A function's configuration replaced. -/
def Chan.setPci (c : Chan) (f : PciFn) (x : Pci) : Chan := { c with host := { c.host with pci := c.host.pci.set Pci.init f.index x } }

/-- Does the VF of a slot exist: NumVFs reaches it (R362)? The PF always does. -/
def Chan.fnExists (c : Chan) (f : PciFn) : Bool :=
  match f with
  | .pf => true
  | .vf t => decide (t < 16 ∧ t < (c.pci .pf).numVfs)

/-- Does a function's BAR answer: it exists, and is not in D3hot (R361, R387)? -/
def Chan.barLive (c : Chan) (f : PciFn) : Bool := c.regsLive && c.fnExists f && !(c.pci f).d3hot

/-! ### Ring pairs -/

/-- The values that TEN_RING_CFG[n] holds, as a register (R366). -/
def Ring.word (r : Ring) : Nat :=
  b2n r.en * 2 ^ 63 + b2n r.active * 2 ^ 62 + b2n r.err * 2 ^ 61 + r.cause * 2 ^ 48 + r.vector * 2 ^ 40 + r.coalTime * 2 ^ 24 + r.coalCount * 2 ^ 16 + r.cqLog2 * 32 +
    r.sqLog2

/-- TEN_SQ_DOORBELL: TAIL of an enabled pair, or error 0x01 where it is at or above the ring size. -/
def execTenSqDoorbell (c : ChId) (w : RingWin) (n tail : Nat) (s : State) : Host.Outcome State Fault Refusal :=
  onCh c (fun x =>
    let f := winFn w
    let r := x.ring f n
    let t := tail % 65536
    if !x.barLive f ∨ 16 ≤ n ∨ !r.en ∨ r.err then x
    else if 2 ^ r.lSqLog2 ≤ t then x.ringError f n 1 t
    else x.setRing f n { r with sqTail := t }) s

/-- TEN_CQ_DOORBELL: HEAD of an enabled pair, or error 0x02 where it does not lie between CQ_HEAD and CQ_TAIL. -/
def execTenCqDoorbell (c : ChId) (w : RingWin) (n head : Nat) (s : State) : Host.Outcome State Fault Refusal :=
  onCh c (fun x =>
    let f := winFn w
    let r := x.ring f n
    let h := head % 65536
    let size := 2 ^ r.lCqLog2
    if !x.barLive f ∨ 16 ≤ n ∨ !r.en ∨ r.err then x
    else if size ≤ h ∨ (r.cqTail + size - r.cqHead) % size < (h + size - r.cqHead) % size then x.ringError f n 2 h
    else x.setRing f n { r with cqHead := h }) s

/-- Does CODE name an entry point (R372, R375, and the codes of chapters 15 and 17)? -/
def knownCode (code : Nat) : Bool :=
  let upTo := fun (base n : Nat) => decide (base < code ∧ code ≤ base + n)
  upTo 0x0000 5 || upTo 0x1000 7 || upTo 0x2000 5 || upTo 0x3000 4 || upTo 0x4000 4 || upTo 0x5000 4 || upTo 0x6000 4 || upTo 0x7000 8 || upTo 0x9000 5 || upTo 0xA000 7 ||
    upTo 0xC000 9 || upTo 0xE000 5

/-- May the channel take the next entry of a pair (R368, R371, R378): enabled, no error, an entry posted, completion room for it and for every entry taken, and a slot
function that is RUNNING? -/
def Chan.mayTake (c : Chan) (f : PciFn) (n : Nat) : Bool :=
  let r := c.ring f n
  let size := 2 ^ r.lCqLog2
  r.en && !r.err && decide (r.sqHead ≠ r.sqTail ∧ r.taken.length + (r.cqTail + size - r.cqHead) % size + 1 < size) &&
    (match f with | .vf t => c.running (0x30 + t) && c.fnExists f | .pf => true)

/-- ENTRY_TAKE: SQ_HEAD advances; a CODE that names no entry completes with 0x77, and a failed read puts the pair in error. The command itself is the row that CODE names. -/
def execEntryTake (c : ChId) (w : RingWin) (n : Nat) (e : Fetched RingEntry) (s : State) : Host.Outcome State Fault Refusal :=
  onCh c (fun x =>
    let f := winFn w
    let r := x.ring f n
    if !x.serves ∨ 16 ≤ n ∨ !x.mayTake f n then x
    else if (x.dmaFault f).isSome then x.ringError f n 3 r.sqHead
    else match e with
      | .failed _ => x.ringError f n 3 r.sqHead
      | .ok e =>
        if e.fence ∧ !r.taken.isEmpty then x
        else
          let x := x.setRing f n { r with sqHead := (r.sqHead + 1) % 2 ^ r.lSqLog2, taken := r.taken ++ [⟨e.code, e.cid⟩] }
          if knownCode e.code then x
          else x.complete { vf := match f with | .vf t => some t | .pf => none, n := n, cid := e.cid, tslot := e.tslot, res := 0 } 0x77 0) s

/-- COAL_TIME_EXPIRY: the vector is raised for the completions not yet signalled. -/
def execCoalTimeExpiry (c : ChId) (w : RingWin) (n : Nat) (s : State) : Host.Outcome State Fault Refusal :=
  onCh c (fun x =>
    let f := winFn w
    let r := x.ring f n
    match r.oldest with
    | none => x
    | some t => ((x.reach (t + r.coalTime * 1000)).setRing f n { r with unsignalled := 0, oldest := none }).interrupt f r.vector) s

/-- TEN_RING_CFG after a write (R366, R378): ERR under its access type, the settings, the sizes while EN is 0, and EN: an enable takes what is then held, is discarded while the pair is ACTIVE, and a 0 stops the
pair, which clears its error once nothing taken is left. -/
def Chan.ringCfg (c : Chan) (f : PciFn) (n : Nat) (a : Access) : Chan :=
  let r := c.ring f n
  let v := a.apply r.word
  let clear := (a.apply 0).testBit 61
  let r1 := if clear then { r with err := false, cause := 0 } else r
  let r2 := { r1 with vector := bits v 44 40, coalTime := bits v 39 24, coalCount := bits v 23 16,
                      cqLog2 := if r.en then r.cqLog2 else bits v 9 5, sqLog2 := if r.en then r.sqLog2 else bits v 4 0 }
  if !reaches a 63 63 then c.setRing f n r2
  else if v.testBit 63 then
    if r.active then c.ringError f n 5 0
    else c.setRing f n { r2 with en := true, lSqBase := r.sqBase, lCqBase := r.cqBase, lSqLog2 := ringLog2 r2.sqLog2, lCqLog2 := ringLog2 r2.cqLog2,
                                 cqHead := 0, cqTail := 0, sqTail := 0, sqHead := 0, phase := true, unsignalled := 0, oldest := none }
  else if r.taken.isEmpty then c.setRing f n { r2 with en := false, err := false, cause := 0 }
  else c.setRing f n { r2 with en := false }

/-- TEN_RING_CFG_WRITE. -/
def execTenRingCfgWrite (c : ChId) (w : RingWin) (n : Nat) (a : Access) (s : State) : Host.Outcome State Fault Refusal :=
  onCh c (fun x => if !x.barLive (winFn w) ∨ 16 ≤ n then x else x.ringCfg (winFn w) n a) s

/-! ### Event rings (R499) -/

/-- TEN_EVQ_CFG of a ring, as a register. -/
def EvRing.word (r : EvRing) : Nat := b2n r.en * 2 ^ 63 + r.vector * 256 + r.log2

/-- TEN_EVQ_CFG after a write: a change of EN from 0 to 1 takes the base and the size, and restarts the indices. -/
def EvRing.cfg (r : EvRing) (a : Access) : EvRing :=
  let v := a.apply r.word
  let r' := { r with vector := bits v 12 8, log2 := bits v 4 0, en := v.testBit 63 }
  if !r.en ∧ r'.en then { r' with lBase := r.base, lLog2 := ringLog2 r'.log2, pidx := 0, cidx := 0, seq := 0, raised := false } else r'

/-- An event ring of the channel. -/
def Chan.evq (c : Chan) (f : PciFn) : EvRing := c.host.evqs.getD f.index EvRing.init

/-- An event ring replaced. -/
def Chan.setEvq (c : Chan) (f : PciFn) (r : EvRing) : Chan := { c with host := { c.host with evqs := c.host.evqs.set EvRing.init f.index r } }

/-- Does PF0's BAR answer? -/
def Hub.barLive (h : Hub) : Bool := decide (h.bus ≠ .lost) && !h.pci.d3hot

/-- TEN_EVQ_CFG_WRITE. -/
def execTenEvqCfgWrite (w : EvqWin) (a : Access) (s : State) : Host.Outcome State Fault Refusal :=
  match w with
  | .hub => onHub (fun h =>
      if !h.barLive then h
      else
        let r := h.evq.cfg a
        { h with evq := r, sevs := if !h.evq.en ∧ r.en then [] else h.sevs }) s
  | .pf c => onCh c (fun x => if x.barLive .pf then x.setEvq .pf ((x.evq .pf).cfg a) else x) s
  | .vf c t => onCh c (fun x => if x.barLive (.vf t) then x.setEvq (.vf t) ((x.evq (.vf t)).cfg a) else x) s

/-- CIDX after a write, and whether records remain. -/
def EvRing.consume (r : EvRing) (a : Access) : EvRing × Bool :=
  if !reaches a 31 0 then (r, false)
  else
    let r := { r with cidx := bits (a.apply r.cidx) 31 0 }
    ({ r with raised := decide (r.pidx ≠ r.cidx) }, decide (r.pidx ≠ r.cidx))

/-- A write to CIDX of a channel's event ring. -/
def Chan.evqConsume (c : Chan) (f : PciFn) (a : Access) : Chan :=
  if !c.barLive f then c
  else
    let (r, more) := (c.evq f).consume a
    let c := c.setEvq f r
    if more then c.interrupt f r.vector else c

/-- The hub raises its one vector. -/
def Hub.interrupt (h : Hub) : Hub :=
  if h.vec.masked then { h with vec := { h.vec with pending := true } }
  else if h.pci.bme then { h with out := .msix .pf 0 :: h.out } else h

/-- TEN_EVQ_CIDX_WRITE. -/
def execTenEvqCidxWrite (w : EvqWin) (a : Access) (s : State) : Host.Outcome State Fault Refusal :=
  match w with
  | .hub => onHub (fun h =>
      if !h.barLive then h
      else
        let (r, more) := h.evq.consume a
        let h := { h with evq := r, sevs := h.sevs.take ((r.pidx + 2 ^ 32 - r.cidx) % 2 ^ 32) }
        if more then h.interrupt else h) s
  | .pf c => onCh c (fun x => x.evqConsume .pf a) s
  | .vf c t => onCh c (fun x => x.evqConsume (.vf t) a) s

/-! ### Vectors and configuration -/

/-- A vector of the channel unmasked: an interrupt held pending is sent (R381). -/
def Chan.unmask (c : Chan) (f : PciFn) (v : Nat) : Chan :=
  let k := f.index * 32 + v
  let x := c.host.vecs.getD k Vec.init
  let c := { c with host := { c.host with vecs := c.host.vecs.set Vec.init k ⟨false, false⟩ } }
  if x.masked ∧ x.pending then c.interrupt f v else c

/-- VECTOR_UNMASK. -/
def execVectorUnmask (w : EvqWin) (v : Nat) (s : State) : Host.Outcome State Fault Refusal :=
  match w with
  | .hub => onHub (fun h => if !h.barLive ∨ v ≠ 0 then h else
      let was := h.vec
      let h := { h with vec := ⟨false, false⟩ }
      if was.masked ∧ was.pending then h.interrupt else h) s
  | .pf c => onCh c (fun x => if x.barLive .pf ∧ v ≤ 16 then x.unmask .pf v else x) s
  | .vf c t => onCh c (fun x => if x.barLive (.vf t) ∧ v ≤ 16 then x.unmask (.vf t) v else x) s

/-- The VFs from NumVFs on are gone: their configuration and vectors return to their defaults. -/
def Chan.dropVfs (c : Chan) (n : Nat) : Chan :=
  { c with host := { c.host with pci := c.host.pci.keep (fun k _ => decide (k < n ∨ k = 16)), vecs := c.host.vecs.keep (fun k _ => decide (k / 32 < n ∨ k / 32 = 16)) } }

/-- A configuration write to a function of a channel. -/
def Chan.configWrite (c : Chan) (f : PciFn) (x : ConfigSet) : Chan :=
  let p := c.pci f
  match x with
  | .bme on => c.setPci f { p with bme := on }
  | .d3hot on => c.setPci f { p with d3hot := on }
  | .vfs n => if f = .pf ∧ n ≤ 16 then (c.setPci f { p with numVfs := n }).dropVfs n else c

/-- PCIE_CONFIG_WRITE: configuration spaces are the hub's, and answer whatever the channel does. -/
def execPcieConfigWrite (w : EvqWin) (x : ConfigSet) (s : State) : Host.Outcome State Fault Refusal :=
  match w with
  | .hub => onHub (fun h =>
      if h.bus = .lost then h
      else match x with
        | .bme on => { h with pci := { h.pci with bme := on } }
        | .d3hot on => { h with pci := { h.pci with d3hot := on } }
        | .vfs _ => h) s
  | .pf c => onHubCh c (fun h y => (h, if h.bus = .lost then y else y.configWrite .pf x)) s
  | .vf c t => onHubCh c (fun h y => (h, if h.bus = .lost ∨ !y.fnExists (.vf t) then y else y.configWrite (.vf t) x)) s

/-! ### Bad completions (R379) -/

/-- A read that failed with a cause: the pair that took an entry is in error, or the command ends with 0xB1 (R376, R378); the AER report names the function. -/
def Chan.badRead (c : Chan) (r : ReadFor) (cause severity : Nat) : Chan :=
  match r with
  | .entry w n =>
    let f := winFn w
    if 16 ≤ n ∨ !c.mayTake f n then c else (c.emit (.aer f severity)).ringError f n 3 (c.ring f n).sqHead
  | .command src =>
    if (c.ring src.fn src.n).taken.any (fun e => decide (e.cid = src.cid)) then (c.emit (.aer src.fn severity)).readFailedFor src cause else c

/-- PCIE_CORRECTABLE_ERROR: reported on PF0; the link retries. -/
def execPcieCorrectableError (s : State) : Host.Outcome State Fault Refusal :=
  onHub (fun h => if h.bus = .lost then h else { h with out := .aer .pf 0 :: h.out }) s

/-- PCIE_COMPLETION_TIMEOUT. -/
def execPcieCompletionTimeout (c : ChId) (r : ReadFor) (s : State) : Host.Outcome State Fault Refusal :=
  onCh c (fun x => if x.serves then x.badRead r 1 2 else x) s

/-- PCIE_ERROR_COMPLETION: poisoned data is advisory. -/
def execPcieErrorCompletion (c : ChId) (r : ReadFor) (kind : BadCompletion) (s : State) : Host.Outcome State Fault Refusal :=
  onCh c (fun x => if x.serves then (match kind with
    | .ur => x.badRead r 2 2
    | .ca => x.badRead r 3 2
    | .poisoned => x.badRead r 4 1) else x) s

end Sys2Proof.Machine
end

