-- ==== Sys2Proof/Machine/JudgeOps.lean ====
section
/-! DEFINITION. How a packet is judged (R110, R112, R156, R280 to R282, R292): the spaces of the channel's offset range, for FMT and for RoCE alike. -/
namespace Sys2Proof.Machine
open Sys2Proof

/-- What a judged access asks for: the connection it came on, its offset in the channel's space, the header's region, key and generation (no generation under
RoCE), the sender, and whether it came under RoCE. -/
structure Acc where
  conn : Nat
  psn : Nat
  off : Nat
  region : Nat
  key : Nat
  gen : Option Nat
  eid : Nat
  flagged : Bool
  deriving DecidableEq, Repr

/-- A refusal: a syndrome of R289 and a reason. -/
abbrev Refuse := Nat × Nat

/-- A protection refusal (R282). -/
def prot (reason : Nat) : Refuse := (2, reason)

/-- Which right an access needs: bit 0 read, bit 1 write, bit 2 atomic (R279). -/
inductive Need where
  | read | write | atomic
  deriving DecidableEq, Repr

/-- The bit of RIGHTS. -/
def Need.bit : Need → Nat
  | .read => 0
  | .write => 1
  | .atomic => 2

/-- The checks of R280 in their order: the first reason that refuses n bytes from byte b of a region, if any. -/
def Chan.regionCheck (c : Chan) (a : Acc) (x : Region) (need : Need) (b n : Nat) : Option Nat :=
  if x.st ≠ .valid ∧ x.st ≠ .revoking then some 0x10
  else if x.key ≠ a.key ∨ a.gen.any (fun g => decide (g ≠ x.gen)) then some 0x11
  else if x.st = .revoking then some 0x12
  else if !x.rights.testBit need.bit then some 0x13
  else if x.size < b + n then some 0x14
  else if (c.conn a.conn).pd ≠ x.pd then some 0x15
  else if x.ownerCheck ∧ need ≠ .read ∧ a.eid ≠ x.ownerEid then some 0x16
  else if need = .atomic ∧ b % 8 ≠ 0 then some 0x18
  else none

/-- Is a region one of space 0b00: registered on slabs by fab.reg? -/
def Chan.openRegion (c : Chan) (r : Nat) : Region :=
  let x := c.region r
  if x.kind = .slabs then x else { Region.init with gen := x.gen }

/-- Is a region one of the base domain's: of a handoff, a lease or a fragment set (R282)? -/
def Chan.baseRegionOf (c : Chan) (r : Nat) : Region :=
  let x := c.region r
  match x.kind with
  | .slabs | .append _ => { Region.init with gen := x.gen }
  | _ => x

/-! ### Stores -/

/-- A doorbell value (R157): discarded where it overflows the ring, ignored where it is not ahead. -/
def Chan.doorbell (c : Chan) (k q v : Nat) : Chan :=
  let y := c.queue q
  let new := (v % 65536 + 65536 - y.cidx) % 65536
  let old := (y.pidx + 65536 - y.cidx) % 65536
  if y.slots < new then c.eventEvery ms 0x4003 q (some y.tenant) q (fun _ => v % 65536 + y.cidx * 65536)
  else if new ≤ old then c
  else c.setQueue q { y with pidx := v % 65536, posts := y.posts ++ [(k, new - old)] }

/-- A write to an attention queue (R156). -/
def Chan.queueWrite (c : Chan) (a : Acc) (data : List Byte) : Except Refuse Chan :=
  let q := bits a.off 41 32
  let b := bits a.off 31 0
  let y := c.queue q
  if bits a.off 43 42 ≠ 0 ∨ y.st ≠ .active ∨ (c.conn a.conn).pd ≠ y.pd then .error (prot 0x1A)
  else if b = 0xFFFFFF00 ∧ data.length = 8 then .ok (c.doorbell a.conn q (leVal data))
  else if y.slots * (y.kib * 1024) < b + data.length then .error (prot 0x1A)
  else .ok (c.regionWrite y.ring b data)

/-- The message bytes of a mailbox (R129, R330, R354, R449); a mirror message is as long as it is. -/
def mailboxOk (low n : Nat) : Bool :=
  decide ((low = 0x1000 ∧ n = 160) ∨ (low = 0x2000 ∧ n = 64) ∨ (low = 0x3000 ∧ n = 64) ∨ low = 0x4000)

/-- An append write (R109, R112): the reasons of R112, and units that wait for placement. -/
def Chan.appendWrite (c : Chan) (a : Acc) (data : List Byte) : Chan × Except Refuse Nat :=
  let slot := bits a.off 43 30
  let named := (c.map slot).region
  let no := fun (s : Option Nat) (r : Nat) => (c.appendRefused s a.off r, (.error (if r = 6 ∨ r = 7 ∨ r = 8 then (3, r) else prot r) : Except Refuse Nat))
  match named with
  | none => no none 1
  | some r =>
    let x := c.region r
    let s := some slot
    if (x.st ≠ .valid ∧ x.st ≠ .revoking) ∨ x.key ≠ a.key ∨ a.gen.any (fun g => decide (g ≠ x.gen)) ∨ (c.conn a.conn).pd ≠ x.pd then no s 1
    else if x.st = .revoking then no s 2
    else match c.appendPacket slot (bits a.off 29 0) data a.conn a.psn with
      | .error r => no s r
      | .ok c => (c, .ok (data.length / 64))

/-- A write to a base-domain region (R135, R282): an inbound handoff takes its bytes in order, a lease or a fragment set stores them. -/
def Chan.baseWrite (c : Chan) (a : Acc) (data : List Byte) : Except Refuse Chan :=
  let x := c.baseRegionOf a.region
  let b := bits a.off 41 0
  if (c.conn a.conn).pd ≠ 0 then .error (prot 0x17)
  else match c.regionCheck a x .write b data.length with
    | some r => .error (prot r)
    | none => match x.kind with
      | .inbound slot => .ok (c.received slot (linOf (c.transferSizes slot).1 b) data)
      | _ => .ok (c.regionWrite x b data)

/-- A store's bytes judged and applied (R112, R156, R280, R282): how many units wait for placement, or the refusal. -/
def Chan.judgeStore (c : Chan) (a : Acc) (roce : Bool) (data : List Byte) : Chan × Except Refuse Nat :=
  let no := fun r => (c, (.error (prot r) : Except Refuse Nat))
  let of := fun (x : Except Refuse Chan) => match x with | .ok c => (c, (.ok 0 : Except Refuse Nat)) | .error e => (c, .error e)
  match bits a.off 45 44 with
  | 0 =>
    let x := c.openRegion (bits a.off 43 28)
    let b := bits a.off 27 0
    match c.regionCheck a x .write b data.length with
    | some r => no r
    | none => (c.regionWrite x b data, .ok 0)
  | 1 => c.appendWrite a data
  | 2 => of (c.queueWrite a data)
  | _ =>
    match bits a.off 43 42 with
    | 0 => if !roce ∧ a.flagged ∧ (c.conn a.conn).pd = 0 ∧ mailboxOk (bits a.off 41 0) data.length then (c, .ok 0) else no 0x17
    | 1 => if bits a.off 41 36 = 0 ∧ bits a.off 31 0 + data.length ≤ 320 then (c, .ok 0) else no 0x17
    | 2 => if roce then no 0x17 else of (c.baseWrite a data)
    | _ => no 0x17

/-! ### Loads -/

/-- The bytes of a source's transfer region (R135, R136): a read that reaches what comes next is progress; an uncorrectable error ends the handoff (R439). -/
def Chan.serveTransfer (c : Chan) (slot b n : Nat) : Chan × Except Refuse (List Byte) :=
  let e := c.entry slot
  let (mlen, body, groups, _) := c.transferSizes slot
  let moved := ((c.hand slot).map (fun h => h.moved)).getD 0
  let lo := linOf mlen b
  let hi := linOf mlen (b + n)
  let gs := if b < bodyBase then [] else
    (List.range ((b + n - 1 - bodyBase) / max 1 body + 1 - (b - bodyBase) / max 1 body)).map (fun i => (b - bodyBase) / max 1 body + i)
  let (ok, c) := c.eccReads ((gs.filter (fun g => decide (g < groups))).flatMap (fun g => c.groupRanges slot g)) 2
  if !ok then (c.fault slot 2, .error (5, 0))
  else
    let data := c.transferBytes slot (c.ctxh slot e.gen) moved b n
    (if e.state = .offered ∧ e.sub = 1 ∧ lo ≤ moved ∧ moved < hi then c.progress slot hi else c, .ok data)

/-- The consumer code of a load through a region (R439): 0x05 where a rebuild reads the unit of a fragment set held here, else 0x06. -/
def Region.loadConsumer (x : Region) : Nat :=
  match x.kind with
  | .frag _ => 5
  | _ => 6

/-- A load judged (R280, R282): its bytes, or the refusal; an uncorrectable error is a remote operational error (R439). -/
def Chan.judgeLoad (c : Chan) (a : Acc) (n : Nat) : Chan × Except Refuse (List Byte) :=
  let no := fun r => (c, (.error (prot r) : Except Refuse (List Byte)))
  let read := fun (x : Region) (b : Nat) =>
    let (ok, c) := c.eccReads (c.regionRanges x b n) x.loadConsumer
    if ok then (c, (.ok (c.regionRead x b n) : Except Refuse (List Byte))) else (c, .error (5, 0))
  match bits a.off 45 44 with
  | 0 =>
    let x := c.openRegion (bits a.off 43 28)
    let b := bits a.off 27 0
    match c.regionCheck a x .read b n with
    | some r => no r
    | none => read x b
  | 1 => no 0x17
  | 2 => no 0x1A
  | _ =>
    if bits a.off 43 42 ≠ 2 ∨ (c.conn a.conn).pd ≠ 0 then no 0x17
    else
      let x := c.baseRegionOf a.region
      let b := bits a.off 41 0
      match c.regionCheck a x .read b n with
      | some r => no r
      | none => match x.kind with
        | .transfer slot => c.serveTransfer slot b n
        | .inbound _ => no 0x13
        | _ => read x b

/-! ### Atomics -/

/-- An atomic judged and applied (R280, R292): the old value, or the refusal. `f` gives the new value, none where nothing is written. -/
def Chan.judgeAtomic (c : Chan) (a : Acc) (f : Nat → Option Nat) : Chan × Except Refuse Nat :=
  let no := fun r => (c, (.error (prot r) : Except Refuse Nat))
  if bits a.off 45 44 ≠ 0 then no 0x17
  else
    let x := c.openRegion (bits a.off 43 28)
    let b := bits a.off 27 0
    match c.regionCheck a x .atomic b 8 with
    | some r => no r
    | none =>
      let (ok, c) := c.eccReads (c.regionRanges x b 8) 6
      if !ok then (c, .error (5, 0))
      else
        let old := leVal (c.regionRead x b 8)
        (match f old with | some v => c.regionWrite x b (leBytes 8 (v % 2 ^ 64)) | none => c, .ok old)

end Sys2Proof.Machine
end

