-- ==== Sys2Proof/Machine/Traffic.lean ====
section
/-! DEFINITION. The meanings of the traffic commands (chapter 11): the wire, the gates, the buckets, the high-water marks and the samples. -/
namespace Sys2Proof.Machine
open Sys2Proof

/-! ### WIRE_FREE (R306, R307, R311, R315) -/

/-- The head frame of queue q discarded where it would never fit its gate (R315), or where the pause watchdog drops its priority (R267). -/
def Chan.dropHead (c : Chan) (n q : Nat) : Option Chan :=
  match c.qframes n q with
  | [] => none
  | f :: _ =>
    if c.neverFits n q f.size then
      some (((c.popFrame n q).bump (Reg.TM_PORT_CNT n) 63 32 1).event 0x8002 none n (q + f.size * 65536))
    else if ((c.port n).dropping.find (c.fget (Reg.TM_Q_CFG n q) 58 56)).isSome then
      some ((c.popFrame n q).bump (Reg.FAB_PORT_DROP n) 15 0 1)
    else none

/-- More steps than there are packet buffers and queues. -/
def dropFuel : Nat := 66000

/-- Every head frame that must go is discarded, queue by queue. -/
def Chan.dropHeads (c : Chan) (n : Nat) : Nat → Nat → Chan
  | 0, _ => c
  | k + 1, q =>
    if q = 16 then c
    else match c.dropHead n q with
      | some c' => Chan.dropHeads c' n k q
      | none => Chan.dropHeads c n k (q + 1)

/-- The ECN field of a frame that the transport built set to CE (R265, R311). -/
def markCe (data : List Byte) : List Byte :=
  let off := if data.getD 12 0 = 0x81 then 18 else 14
  let v6 := data.getD (off - 2) 0 = 0x86
  data.mapIdx (fun i b => if i = off + 1 then (if v6 then b ||| 0x30 else b ||| 0x03) else b)

/-- Frame f of queue q is transmitted: buckets are charged (R308), and its sojourn is marked (R319). -/
def Chan.transmit (c : Chan) (n q : Nat) (f : QFrame) (ce : Bool) : Chan :=
  let e := c.egress n
  let soj := c.time - f.at_
  let c := c.setEgress n { e with qBucket := match c.charge (Reg.TM_Q_SHAPE n q) (e.qBucket.find q) f.size with
                                               | some b => e.qBucket.put q b
                                               | none => e.qBucket,
                                  pBucket := c.charge (Reg.TM_PORT_SHAPE n) e.pBucket f.size,
                                  sojMax := e.sojMax.set 0 q (max soj (e.sojMax.getD q 0)) }
  let c := c.raiseMark (Reg.TM_PORT_HWM n) 31 0 soj
  let c := match f.conn.bind c.connSlot with
    | some t => c.raiseMark (Reg.TM_TEN_HWM t) 31 0 soj
    | none => c
  (c.popFrame n q).emit (.frame n q (if ce then markCe f.data else f.data))

/-- The port selects until it transmits a frame or none is eligible: a frame that the egress policer judges red is discarded, and the scheduler
selects again (R311). -/
def Chan.selectSend (c : Chan) (n : Nat) : Nat → Chan
  | 0 => c
  | k + 1 =>
    let c := c.dropHeads n dropFuel 0
    match c.select n with
    | (none, e) => c.setEgress n e
    | (some q, e) =>
      let c := c.setEgress n e
      match c.qframes n q with
      | [] => c
      | f :: _ =>
        match f.conn.bind c.connSlot with
        | none => c.transmit n q f false
        | some t =>
          match c.police t 1 f.size with
          | (.green, c) => c.transmit n q f false
          | (.yellow, c) => c.transmit n q f (c.yelEcn t 1)
          | (.red, c) => Chan.selectSend (c.popFrame n q) n k

/-- Does the port transmit: function and traffic scheduler RUNNING, the link up, the channel serving (R48, R264)? -/
def Chan.sends (c : Chan) (n : Nat) : Bool :=
  c.serves && c.hasPort n && c.running (0x10 + n) && c.running (0x40 + n) && decide ((c.port n).link = .up)

/-- WIRE_FREE: the wire of a port falls free. -/
def execWireFree (c : ChId) (port : Nat) : State → Host.Outcome State Fault Refusal :=
  onCh c fun c => if c.sends port then c.selectSend port (c.bufsUsed + 1) else c

/-! ### GATE_ENTRY_EXPIRY (R313, R314) -/

/-- GATE_ENTRY_EXPIRY: the current entry's INTERVAL ends, or the list begins, and the next entry's gates apply. -/
def execGateEntryExpiry (c : ChId) (port : Nat) : State → Host.Outcome State Fault Refusal :=
  onCh c fun c =>
    let e := c.egress port
    if !(c.hasPort port && c.gclOn port && c.running (0x40 + port)) then c
    else
      let next := match e.gateIdx with | none => 0 | some i => (i + 1) % max 1 (c.gclLen port)
      (c.reach e.gateEnd).setEgress port { e with gateIdx := some next, gateEnd := e.gateEnd + c.gclInterval port next }

/-! ### TM_BUCKET_WRITE (R312) -/

/-- The buckets that the register at `off` governs set to full. -/
def Chan.fillBuckets (c : Chan) (off : Nat) : Chan :=
  match findReg tmRegs off with
  | none => c
  | some (d, ix) =>
    let i := ix.headD 0
    let e := c.egress i
    if d.name = "TM_POL_RATE" ∨ d.name = "TM_POL_BURST" then { c with tm := { c.tm with tc := c.tm.tc.del i, tp := c.tm.tp.del i } }
    else if d.name = "TM_PORT_SHAPE" then c.setEgress i { e with pBucket := none }
    else if d.name = "TM_Q_SHAPE" then c.setEgress i { e with qBucket := e.qBucket.del (ix.getD 1 0) }
    else c

/-- Is `off` a rate or burst register of a policer or a shaper that is there? -/
def Chan.isBucketReg (c : Chan) (off : Nat) : Bool :=
  match findReg tmRegs off with
  | none => false
  | some (d, ix) => (["TM_POL_RATE", "TM_POL_BURST", "TM_PORT_SHAPE", "TM_Q_SHAPE"].contains d.name) && !c.absentPortReg off (ix.headD 0)

/-- TM_BUCKET_WRITE: the write takes effect, and the affected buckets are full, whether or not a value changes. -/
def execTmBucketWrite (c : ChId) (off : Nat) (a : Access) : State → Host.Outcome State Fault Refusal :=
  onCh c fun c => if c.regsLive && c.isBucketReg off then (c.writeReg off a).fillBuckets off else c

/-! ### HWM_READ (R319) -/

/-- Is `off` a high-water-mark register that is there? -/
def Chan.isMark (c : Chan) (off : Nat) : Bool :=
  match findReg tmRegs off with
  | none => false
  | some (d, ix) => decide (d.name = "TM_TEN_HWM") || (decide (d.name = "TM_PORT_HWM") && !c.absentPortReg off (ix.headD 0))

/-- HWM_READ: the read returns the mark and sets the half that it reads to zero. -/
def execHwmRead (c : ChId) (off : Nat) (half : Half) : State → Host.Outcome State Fault Refusal :=
  onCh c fun c =>
    if !(c.regsLive && c.isMark off) then c
    else match half with
      | .both => (c.emit (.regRead off (c.rd off))).wr off 0
      | .low => (c.emit (.regRead off (c.fget off 31 0))).fset off 31 0 0
      | .high => (c.emit (.regRead off (c.fget off 63 32))).fset off 63 32 0

/-! ### SAMPLE_DUE (R317, R318) -/

/-- INTERVAL of TM_SMP_CFG in ns. -/
def Chan.smpInterval (c : Chan) : Nat := max 10 (min 1000000 (c.fget Reg.TM_SMP_CFG 31 0)) * 1000

/-- RING_LOG2 as it acts. -/
def Chan.smpLog2 (c : Chan) : Nat := ringLog2 (c.fget Reg.TM_SMP_CFG 36 32)

/-- The 16 bytes of queue q in a sample record (R317). -/
def Chan.sampleQueue (c : Chan) (n q : Nat) : List Byte :=
  let l := c.qframes n q
  let e := c.egress n
  let sat := fun x => min x (2 ^ 32 - 1)
  let below := !(c.shaperOk (Reg.TM_Q_SHAPE n q) (e.qBucket.find q) && c.shaperOk (Reg.TM_PORT_SHAPE n) e.pBucket)
  let paused := ((c.port n).rxPaused.find (c.fget (Reg.TM_Q_CFG n q) 58 56)).isSome
  leBytes 4 (sat (frameSum l)) ++ leBytes 2 l.length ++ leBytes 1 (b2n paused + 2 * b2n (!c.gateOpen n q) + 4 * b2n below) ++ leBytes 1 0 ++
  leBytes 4 (sat ((l.head?.map (fun f => c.time - f.at_)).getD 0)) ++ leBytes 4 (sat (e.sojMax.getD q 0))

/-- The 320-byte sample record of port n. -/
def Chan.sampleRecord (c : Chan) (n : Nat) : List Byte :=
  leBytes 8 c.time ++ leBytes 1 n ++ leBytes 1 (b2n c.tm.smpLost) ++ leBytes 2 0 ++ leBytes 4 c.tm.smpSeq ++
  leBytes 4 (min (c.egress n).bytes (2 ^ 32 - 1)) ++ leBytes 44 0 ++ (List.range 16).flatMap (c.sampleQueue n)

/-- One record offered to the sample ring (R318); a record that cannot be written counts as discarded. -/
def Chan.sampleOne (c : Chan) (n : Nat) : Chan :=
  let size := 2 ^ c.smpLog2
  let pidx := c.fget Reg.TM_SMP_PTR 63 32
  let cidx := c.fget Reg.TM_SMP_PTR 31 0
  let rec_ := c.sampleRecord n
  let (ok, c') := if (pidx + 2 ^ 32 - cidx) % 2 ^ 32 = size then (false, c)
    else c.hostWrite .pf (c.fget Reg.TM_SMP_BASE 63 6 * 64 + 320 * (pidx % size)) rec_
  let c' := c'.setEgress n { c'.egress n with sojMax := [] }
  if ok then
    { c'.fset Reg.TM_SMP_PTR 63 32 (pidx + 1) with tm := { c'.tm with smpSeq := (c'.tm.smpSeq + 1) % 2 ^ 32, smpLost := false } }
  else
    let c' := c'.bump Reg.TM_SMP_DROP 31 0 1
    ({ c' with tm := { c'.tm with smpLost := true } }).event 0x8003 none 0 (c'.fget Reg.TM_SMP_DROP 31 0)

/-- SAMPLE_DUE: one record per RUNNING port, in port order. -/
def execSampleDue (c : ChId) : State → Host.Outcome State Fault Refusal :=
  onCh c fun c =>
    if !(c.flag Reg.TM_SMP_CFG 63 && c.serves) then c
    else
      let c := c.reach (c.tm.smpDue.getD c.time)
      let c := { c with tm := { c.tm with smpDue := some (c.tm.smpDue.getD c.time + c.smpInterval) } }
      c.runningPorts.foldl Chan.sampleOne c

/-- TM_SMP_CIDX_WRITE: the host returns consumed records. -/
def execTmSmpCidxWrite (c : ChId) (cidx : Nat) : State → Host.Outcome State Fault Refusal :=
  onCh c fun c => if c.regsLive then c.fset Reg.TM_SMP_PTR 31 0 cidx else c

/-! ### SOJOURN_ALARM (R319) and SHAPER_BUCKET_REFILL (R308) -/

/-- SOJOURN_ALARM: a queue's head age exceeds ALARM_NS; the event at most once per 1 ms per port. -/
def execSojournAlarm (c : ChId) (port q : Nat) : State → Host.Outcome State Fault Refusal :=
  onCh c fun c =>
    let alarm := c.fget (Reg.TM_PORT_ALARM port) 31 0
    match c.qframes port q with
    | [] => c
    | f :: _ =>
      if alarm = 0 ∨ !c.hasPort port ∨ 16 ≤ q then c
      else
        let c := c.reach (f.at_ + alarm + 1)
        c.eventEvery ms 0x8004 port none port (fun _ => q + min (c.time - f.at_) (2 ^ 32 - 1) * 2 ^ 32)

/-- The local time at which a bucket below zero regains zero. -/
def zeroAt (b : Bucket) (rate : Nat) : Nat := if b.level < 0 then b.at_ + ((-b.level).toNat + rate - 1) / max 1 rate else b.at_

/-- SHAPER_BUCKET_REFILL: the bucket of a queue, or of the port, regains zero, and its queue, or every queue of the port, may be eligible again. -/
def execShaperBucketRefill (c : ChId) (port : Nat) (q : Option Nat) : State → Host.Outcome State Fault Refusal :=
  onCh c fun c =>
    let e := c.egress port
    match q with
    | none =>
      let (r, burst) := c.shape (Reg.TM_PORT_SHAPE port)
      match e.pBucket with
      | none => c
      | some b =>
        if r = 0 then c
        else
          let c := c.reach (zeroAt b r)
          c.setEgress port { e with pBucket := some ⟨bucketAt (some b) r burst c.time, c.time⟩ }
    | some q =>
      let (r, burst) := c.shape (Reg.TM_Q_SHAPE port q)
      match e.qBucket.find q with
      | none => c
      | some b =>
        if r = 0 then c
        else
          let c := c.reach (zeroAt b r)
          c.setEgress port { e with qBucket := e.qBucket.put q ⟨bucketAt (some b) r burst c.time, c.time⟩ }

end Sys2Proof.Machine
end

