-- ==== Sys2Proof/Machine/Functions.lean ====
section
/-! DEFINITION. The meanings of the function and role commands, of register writes and of the hub link (chapters 1 and 2). -/
namespace Sys2Proof.Machine
open Sys2Proof

/-! ### Functions (R44 to R48) -/

/-- FN_STOP. -/
def execFnStop (c : ChId) (src : Src) (n : Nat) (s : State) : Host.Outcome State Fault Refusal :=
  onCh c (fun x => x.command src ⟨true, false, false⟩ (fun x => x.fnCommand (some src) n false)) s

/-- FN_START. -/
def execFnStart (c : ChId) (src : Src) (n : Nat) (s : State) : Host.Outcome State Fault Refusal :=
  onChS c (fun x => x.command src ⟨true, false, false⟩ (fun x => x.fnCommand (some src) n true)) s

/-- FN_STATE_STOP: a write of CMD 0x1 to CHN_FN_STATE[n]. -/
def execFnStateStop (c : ChId) (n : Nat) (s : State) : Host.Outcome State Fault Refusal :=
  onCh c (fun x => if x.regsLive ∧ n < 512 then x.fnCommand none n false else x) s

/-- FN_STATE_START: a write of CMD 0x2 to CHN_FN_STATE[n]. -/
def execFnStateStart (c : ChId) (n : Nat) (s : State) : Host.Outcome State Fault Refusal :=
  onChS c (fun x => if x.regsLive ∧ n < 512 then x.fnCommand none n true else x) s

/-- FUNCTION_QUIESCED: a STOPPING function other than the role is STOPPED once nothing of it remains under way. -/
def execFunctionQuiesced (c : ChId) (n : Nat) (s : State) : Host.Outcome State Fault Refusal :=
  onChS c (fun x =>
    if n = 0 ∨ x.fnState n ≠ .stopping ∨ x.quiescing n then x
    else
      let x := x.stopped n
      if 0x10 ≤ n ∧ n < 0x30 then x.portStopped (n - 0x10) else x) s

/-! ### The role (R32 to R37) -/

/-- ROLE_STOP: the drain budget in ms, 0 without limit, at most 600,000. -/
def execRoleStop (c : ChId) (src : Src) (budget : Nat) (s : State) : Host.Outcome State Fault Refusal :=
  onCh c (fun x => x.command src ⟨true, false, false⟩ (fun x =>
    if x.fnState 0 = .running then
      let x := x.beginStop (some src) 0
      { x with role := { x.role with budgetEnd := if budget = 0 then none else some (x.time + min budget 600000 * ms) } }
    else x.stopFn (some src) 0)) s

/-- ROLE_STOPPED: no context blocks, and role.stop completes. -/
def execRoleStopped (c : ChId) (s : State) : Host.Outcome State Fault Refusal :=
  onCh c (fun x =>
    if x.fnState 0 = .stopping ∧ x.blocking = 0 then { x.stopped 0 with role := { x.role with budgetEnd := none } } else x) s

/-- ROLE_STOP_ABANDONED: the drain budget is over while contexts block; the role runs on. -/
def execRoleStopAbandoned (c : ChId) (s : State) : Host.Outcome State Fault Refusal :=
  onCh c (fun x =>
    match x.role.budgetEnd with
    | some t =>
      if x.fnState 0 = .stopping ∧ 0 < x.blocking then
        let x := x.reach t
        let src := (x.fn 0).owner
        let x := { x.setFn 0 { x.fn 0 with st := .running, owner := none } with role := { x.role with budgetEnd := none } }
        x.fnEnd src 0 5 0 x.blocking
      else x
    | none => x) s

/-- The program of a role image (R210, R211). -/
def roleProg (m : ImageIn) : Prog :=
  { kind := .role, faulted := false, grants := m.grants, version := m.version, keyId := m.keyId, scratch := m.scratchBytes, coresMax := m.coresMax, tenant := 0,
    entries := m.entries, text := m.text, data := m.data, evcBase := 0, evcCount := 0, imgAt := 0, imgLen := 0, lastExc := none, excCode := 0 }

/-- ROLE_LOAD: the checks of R36 in order, each with its gaffer status. -/
def execRoleLoad (c : ChId) (src : Src) (img : Fetched ImageIn) (s : State) : Host.Outcome State Fault Refusal :=
  onCh c (fun x => x.command src ⟨true, false, false⟩ (fun x =>
    if x.fnState 0 ≠ .stopped then x.complete src 1 0
    else x.reading src img (fun m =>
      if !imageFormed m ∨ m.tenantTag ≠ 0 ∨ 24 * mib < m.size then x.complete src 0x73 0
      else if m.kind ≠ 1 ∨ m.role = 0 then x.complete src 0x75 0
      else if m.keyId ≠ Config.programKeyId then x.complete src 0x72 0
      else if !m.sigOk then x.complete src 0x71 0
      else (x.putRole (roleOf m.role) m.digest (some (roleProg m))).complete src 0 0))) s

/-- ROLE_START. -/
def execRoleStart (c : ChId) (src : Src) (s : State) : Host.Outcome State Fault Refusal :=
  onCh c (fun x => x.command src ⟨true, false, false⟩ (fun x => x.startFn (some src) 0)) s

/-! ### Registers (R16 to R19, R52, R55) -/

/-- CHN_EID_WRITE: discarded, with the locked-write event, while a port function is not STOPPED. -/
def execChnEidWrite (c : ChId) (a : Access) (s : State) : Host.Outcome State Fault Refusal :=
  onChS c (fun x =>
    if !x.regsLive then x
    else match x.portLock with
      | some n => x.lockedWrite Reg.CHN_EID n
      | none =>
        let v := a.apply (x.rd Reg.CHN_EID)
        (x.setEid (v.testBit 63) (bits v 17 0)).keepHb) s

/-- CTX_PEEK_SEL_WRITE: the image of the entry captured. -/
def execCtxPeekSelWrite (c : ChId) (a : Access) (s : State) : Host.Outcome State Fault Refusal :=
  onCh c (fun x =>
    if !x.regsLive ∨ !reaches a 13 0 then x
    else
      let slot := bits (a.apply x.ctx.peekSel) 13 0
      { x with ctx := { x.ctx with peekSel := slot, peekData := (x.entry slot).bytes } }) s

/-- Does a write to this offset have a row of its own (CHN_EID, CTX_PEEK_SEL, FAB_LANE_MODE, the FAB selectors, TM_SMP_PTR, CLK_SRC, and the rate and burst registers)? -/
def Chan.ownRow (c : Chan) (off : Nat) : Bool :=
  [Reg.CHN_EID, Reg.CTX_PEEK_SEL, Reg.FAB_LANE_MODE, Reg.FAB_CONN_SEL, Reg.FAB_REGION_SEL, Reg.TM_SMP_PTR, Reg.CLK_SRC].contains off || c.isBucketReg off

/-- The row of the schedule tables that an offset names: the table (B or not) and the slot. -/
def schedOffset (off : Nat) : Option (Bool × Nat) :=
  match findReg gafRegs off with
  | some (d, ix) => if d.name = "GAF_SCHED_A" then some (false, ix.headD 0) else if d.name = "GAF_SCHED_B" then some (true, ix.headD 0) else none
  | none => none

/-- A write to a base or event-ring base register of a function's ring copy (R366, R499). -/
def Chan.ringReg (c : Chan) (f : PciFn) (off : Nat) (a : Access) : Chan :=
  if !c.barLive f then c
  else match findReg vfRegs off with
    | none => c
    | some (d, ix) =>
      let n := ix.headD 0
      let r := c.ring f n
      let base := fun old => bits (a.apply old) 63 12 * 4096
      if d.name = "TEN_SQ_BASE" then (if r.en then c else c.setRing f n { r with sqBase := base r.sqBase })
      else if d.name = "TEN_CQ_BASE" then (if r.en then c else c.setRing f n { r with cqBase := base r.cqBase })
      else if d.name = "TEN_EVQ_BASE" then c.setEvq f { c.evq f with base := base (c.evq f).base }
      else c

/-- A register of the channel window written, where no other row does it: the running schedule table keeps its rows (R225), a sampler that stops starts afresh,
and a new heartbeat peer gets its connection (R452). -/
def Chan.windowWrite (c : Chan) (off : Nat) (a : Access) : Chan :=
  if !c.regsLive then
    if c.sec.mode = .recovery ∧ c.host.linkUp ∧ ¬ (c.pci .pf).d3hot ∧ c.pwr.pending = none ∧ (off = Reg.SEC_REC_ADDR ∨ off = Reg.SEC_REC_CTRL) then c.writeReg off a else c
  else if c.ownRow off then c
  else if 0xB10000 ≤ off ∧ off < 0xB20000 then c.ringReg .pf (off - 0xB10000) a
  else match schedOffset off with
    | some (b, i) => if b = c.tableB then c.event 0x6005 none (b2n b) (i + 6 * 256) else c.writeReg off a
    | none =>
      let c := c.writeReg off a
      let c := if off = Reg.TM_SMP_CFG ∧ !c.flag Reg.TM_SMP_CFG 63 then { c with tm := { c.tm with smpDue := none } } else c
      if (List.range 16).any (fun i => decide (off = Reg.REL_HB_PEER i)) then c.keepHb else c

/-- REGISTER_WRITE. PF0's window holds one register that a plain write changes, TEN_EVQ_BASE at 0x4000 (R54). -/
def execRegisterWrite (w : Window) (off : Nat) (a : Access) (s : State) : Host.Outcome State Fault Refusal :=
  match w with
  | .hub => onHub (fun h => if h.barLive ∧ off = 0x4000 then { h with evq := { h.evq with base := bits (a.apply h.evq.base) 63 12 * 4096 } } else h) s
  | .ch c => onCh c (fun x => x.windowWrite off a) s
  | .vf c t => onCh c (fun x => if x.serves ∧ t < 16 then x.ringReg (.vf t) off a else x) s

/-! ### The hub link (R41) -/

/-- HUB_LINK_DOWN: no transaction has met the outage yet. The event, the count of outages, and an AER report for the channel's functions. -/
def execHubLinkDown (c : ChId) (s : State) : Host.Outcome State Fault Refusal :=
  onHubCh c (fun h y =>
    if !y.host.linkUp then (h, y)
    else
      let i := chNum c
      let y := { y with host := { y.host with linkUp := false } }
      let vfs := (List.range (y.pci .pf).numVfs).map PciFn.vf
      let y := (PciFn.pf :: vfs).foldl (fun y f => y.emit (.aer f 2)) y
      let h := { h with downCnt := satAdd 16 h.downCnt 1, lost := h.lost.set i 0, downAt := h.downAt.set i h.time }
      (h.event 0x0004 i 0, y)) s

/-- HUB_LINK_RESTORED: `lost` transactions met the outage, which lasted `ns`. -/
def execHubLinkRestored (c : ChId) (lost ns : Nat) (s : State) : Host.Outcome State Fault Refusal :=
  onHubCh c (fun h y =>
    if y.host.linkUp then (h, y)
    else
      let i := chNum c
      let h := { h with lost := h.lost.set i lost, time := max h.time (h.downAt.getD i 0 + ns) }
      (h.event 0x0005 i ns, { y with host := { y.host with linkUp := true } })) s

end Sys2Proof.Machine
end

