-- ==== Sys2Proof/Machine/Handoff.lean ====
section
/-! DEFINITION. The meanings of the handoff commands, messages and timers (chapter 5). -/
namespace Sys2Proof.Machine
open Sys2Proof

/-! ### Receiving a control message (R30, R129, R130) -/

/-- A control message received: one whose tag fails or whose VERSION is not 1 is discarded, counted and reported. -/
def Chan.hoMsg (c : Chan) (peer ty : Nat) (m : HoMsg) (tagOk : Bool) (k : Chan → Chan) : Chan :=
  if !c.serves || c.eid.isNone then c
  else if !tagOk ∨ m.version ≠ 1 then (c.bump Reg.HO_FAIL_CNT 15 0 1).event 0x300A none (peer % 2 ^ 18) (ty + m.ctr % 2 ^ 56 * 256)
  else k c

/-- A message for the source of a handoff (R137): what a tombstone and a context that has its punty back answer, and `k` for a context OFFERED to that peer. -/
def Chan.forSource (c : Chan) (peer ty : Nat) (m : HoMsg) (k : Nat → Handoff → Chan) : Chan :=
  if !c.ctx.ready then c
  else match c.checkHandle m.srcH with
    | .error st => c.badHandle st m.srcH true
    | .ok slot =>
      let e := c.entry slot
      match e.state with
      | .retired => if e.sub = 1 ∧ ty = 5 then c.sendHo peer 6 (HoMsg_about m 0 m.dstH) else c
      | .sealed | .decoding | .parked =>
        if ty = 5 ∧ m.epoch = e.epoch + 1 then (c.faultNow slot 6).event 0x3009 (some e.tslot) (c.handle slot) m.epoch else c
      | .offered => match c.hand slot with
        | some h => if bits e.peer 47 30 = peer then k slot h else c
        | none => c
      | _ => c

/-- A message for the destination that names its context. -/
def Chan.forDest (c : Chan) (m : HoMsg) (k : Nat → Handoff → Chan) : Chan :=
  if !c.ctx.ready then c
  else match c.checkHandle m.dstH with
    | .error st => c.badHandle st m.dstH true
    | .ok slot =>
      let e := c.entry slot
      match c.hand slot with
      | some h => if e.state = .inbound ∧ e.peer = m.srcH ∧ h.rebuild.isNone then k slot h else c
      | none => c

/-- The entries of a request id and tenant tag that are not FREE. -/
def Chan.ofRequest (c : Chan) (req tag : Nat) : List (Nat × Entry) :=
  c.ctx.entries.filter (fun e => decide (e.2.req = req ∧ e.2.tag = tag ∧ e.2.state ≠ .free))

/-- The epoch at which an entry holds the punty (R126). -/
def Entry.punty (e : Entry) : Option Nat :=
  match e.state with
  | .prefilling | .sealed | .decoding | .parked | .offered => some e.epoch
  | .inbound => if e.sub = 3 then some (e.epoch + 1) else none
  | _ => none

/-! ### The commands (R141, R150) -/

/-- The OFFER of a context (R129, R133, R149). -/
def Chan.offerOf (c : Chan) (slot : Nat) (push : Bool) (stripe member region : Nat) : HoMsg :=
  let e := c.entry slot
  let geo := c.geom e.profile
  { hoBlank with push := push, overrun := e.overrun, isPrivate := e.isPrivate, req := e.req, epoch := e.epoch, srcH := c.handle slot, tag := e.tag,
                 profileId := geo.id, len := e.committed, budget := if e.deadline = 0 then 2 ^ 64 - 1 else e.deadline - c.time, stripe := stripe,
                 member := member, format := e.format, red := e.red, prio := e.prio, region := region, groups := groupsOf e.committed }

/-- Bytes that a transfer region covers. -/
def Chan.transferSpan (c : Chan) (slot : Nat) : Nat := let (_, body, groups, _) := c.transferSizes slot; bodyBase + groups * body

/-- An accepted ho.offer: OFFERED, the transfer region in pull mode, and OFFER sent. -/
def Chan.startOffer (c : Chan) (src : Src) (slot dst : Nat) (push : Bool) (stripe member : Nat) : Chan :=
  match (if push then some (0, c) else c.baseRegion (.transfer slot) 1 (c.transferSpan slot) dst true) with
  | none => c.complete src 0x40 0
  | some (r, c) =>
    let o := c.offerOf slot push stripe member (if push then 0 else c.regionField r)
    let c := c.stopMove slot 0xAB
    let c := c.enter slot .offered 0 (fun e => { e with ret := retCode e.state, peer := dst * 2 ^ 30, fault := 0 })
    let c := c.setHand slot { Handoff_start o (some src) with region := if push then none else some r, due := c.time + c.offerRetry }
    if c.session dst then c.sendOffer slot false else c.returnOffer slot 0x49 0

/-- ho.offer (R141). -/
def Chan.hoOffer (c : Chan) (src : Src) (slot dst : Nat) (push : Bool) (stripe member : Nat) : Chan :=
  let e := c.entry slot
  if !decide (e.state = .sealed ∨ e.state = .parked ∨ (e.state = .decoding ∧ e.sub = 0 ∧ e.provisional = 0)) then c.complete src 0x22 0
  else if e.refs ≠ 0 then c.complete src 0x42 0
  else if e.epoch = 0xFFFFFFFF then c.complete src 0x43 0
  else if dst = c.fget Reg.CHN_EID 17 0 then c.complete src 0x44 0
  else if c.hoLimit 15 0 ≤ c.countCtx (fun e => decide (e.state = .offered)) then c.complete src 0x4B 0
  else c.startOffer src slot dst push stripe member

/-- HO_OFFER: without an EID 0x44 (R30), in ride-through 0xF0 (R464). -/
def execHoOffer (c : ChId) (src : Src) (h dst : Nat) (push : Bool) (stripe member : Nat) (s : State) : Host.Outcome State Fault Refusal :=
  onChS c (fun x => x.ctxCommand src ⟨false, true, false⟩ (fun x =>
    if x.eid.isNone then x.complete src 0x44 0
    else if x.riding then x.complete src 0xF0 0
    else x.withCtx src h (fun slot => x.hoOffer src slot (dst % 2 ^ 18) push stripe member))) s

/-- ho.cancel (R150): FORCE counts only from the PF (R375). -/
def Chan.hoCancel (c : Chan) (src : Src) (slot : Nat) (force : Bool) : Chan :=
  let e := c.entry slot
  match c.hand slot with
  | none => c.complete src 0x22 0
  | some h =>
    if e.state ≠ .offered ∨ e.sub = 3 then c.complete src 0x22 0
    else if e.sub < 2 ∨ (force ∧ src.vf.isNone) then ((c.cancelEnds slot 0).returnOffer slot 0x4C 0).complete src 0 0
    else
      let c := if h.cancel.isEmpty then c.sendHo (bits e.peer 47 30) 8 (HoMsg_about h.offer 0 e.peer) else c
      c.setHand slot { h with cancel := h.cancel ++ [src], cancelDue := if h.cancel.isEmpty then c.time + c.stuckTime else h.cancelDue }

/-- HO_CANCEL. -/
def execHoCancel (c : ChId) (src : Src) (h : Nat) (force : Bool) (s : State) : Host.Outcome State Fault Refusal :=
  onChS c (fun x => x.ctxCommand src ⟨false, true, false⟩ (fun x => x.withCtx src h (fun slot => x.hoCancel src slot force))) s

/-- One entry of the result of ho.probe (R144). -/
def probeEntry (h : Nat) (e : Entry) : List Byte :=
  leBytes 8 h ++ leBytes 1 e.state.code ++ leBytes 1 e.sub ++ leBytes 2 0 ++ leBytes 4 e.epoch ++ leBytes 4 (e.punty.getD 0) ++ leBytes 4 0 ++ leBytes 8 e.peer

/-- HO_PROBE. -/
def execHoProbe (c : ChId) (src : Src) (req : Nat) (s : State) : Host.Outcome State Fault Refusal :=
  onCh c (fun x => x.ctxCommand src ⟨false, true, true⟩ (fun x =>
    let l := x.ofRequest req (x.tag src.slot)
    x.completeX src 0 (leBytes 2 l.length ++ leBytes 6 0 ++ l.flatMap (fun e => probeEntry (x.handle e.1) e.2)))) s

/-! ### Admission (R138, R146) -/

/-- A profile with an id and a format that is valid. -/
def Chan.profileOf (c : Chan) (id format : Nat) : Option Nat :=
  (List.range 16).find? (fun p => c.profOk p && decide ((c.geom p).id = id ∧ (c.geom p).format = format))

/-- The checks of R138 for tenant slot t, up to the context quota: the reason that fails first. -/
def Chan.admitReason (c : Chan) (tag : Nat) : Except Nat Nat :=
  if !decide (c.actingRole = .generation ∨ c.actingRole = .cache) then .error 1
  else if c.fnState 0 = .stopping then .error 2
  else if c.rel.mode = .shadow ∨ !c.ctx.ready ∨ c.noSlot then .error 3
  else match c.slotOfTag tag with
    | none => .error 5
    | some t =>
      if c.quotaFull t then .error 4
      else if (c.slotForTag tag).isNone then .error 5
      else if c.paused t then .error 0x0F
      else .ok t

/-- The entry of an inbound context with its reservation (R138, R140, R345): none where the frames or the quota do not allow it. -/
def Chan.takeIn (c : Chan) (slot : Nat) (e : Entry) : Option Chan :=
  let geo := c.geom e.profile
  let n := groupsOf e.committed
  if !c.quotaAllows e.tslot 0 (n * geo.layers * geo.parts * geo.gran) then none
  else ((c.openSlot slot e .inbound).reserveGroups slot n).map (fun c => (c.update slot 4 id).checkLow)

/-- Has the quota refused it, rather than the pool? -/
def Chan.quotaRefuses (c : Chan) (e : Entry) : Bool :=
  let geo := c.geom e.profile
  !c.quotaAllows e.tslot 0 (groupsOf e.committed * geo.layers * geo.parts * geo.gran)

/-- REFUSE sent. -/
def Chan.refuse (c : Chan) (peer : Nat) (m : HoMsg) (reason : Nat) : Chan := c.sendHo peer 3 (HoMsg_about m reason 0)

/-- DEADLINE and OVERRUN of an arriving budget (R75). -/
def Chan.arrivalDeadline (c : Chan) (budget : Nat) : Nat × Bool × Chan :=
  if budget = 2 ^ 64 - 1 then (0, false, c)
  else if budget = 0 then (c.time, true, c)
  else let (d, c) := c.deadlineOf budget; (d, false, c)

/-- The inbound entry of an OFFER (R65, R140). -/
def Chan.inboundEntry (c : Chan) (m : HoMsg) (t slot gen profile deadline : Nat) (past : Bool) : Entry :=
  { Entry.free with
      gen := gen, epoch := m.epoch, req := m.req, tag := m.tag, tslot := t, prio := m.prio % 8, profile := profile, format := (c.geom profile).format,
      red := m.red % 8, committed := m.len, deadline := deadline, overrun := m.overrun || past, isPrivate := m.isPrivate, peer := m.srcH,
      pgt := mapOf slot }

/-- A fresh offer admitted or refused (R138). -/
def Chan.admitOffer (c : Chan) (peer : Nat) (m : HoMsg) : Chan :=
  if c.riding then c.refuse peer m 0x10
  else match c.admitReason m.tag with
    | .error r =>
      let c := if r = 3 ∧ c.noSlot then c.noSlotEvent else if r = 4 then c.quotaEvent ((c.slotOfTag m.tag).getD 0) else c
      c.refuse peer m r
    | .ok t =>
      match c.profileOf m.profileId m.format, c.nextSlot with
      | none, _ => c.refuse peer m 6
      | _, none => c.refuse peer m 3
      | some p, some (slot, gen, c') =>
        let (dl, past, c') := c'.arrivalDeadline m.budget
        let e := c.inboundEntry m t slot gen p dl past
        match c'.takeIn slot e with
        | none => (if c.quotaRefuses e then c.tierQuotaEvent t 0 else c).refuse peer m 7
        | some c' =>
          if c.hoLimit 47 32 ≤ c.countCtx (fun e => decide (e.state = .inbound)) then c.refuse peer m 0x0D
          else match (if m.push then c'.baseRegion (.inbound slot) 2 (c'.transferSpan slot) peer true else some (0, c')) with
            | none => c.refuse peer m 7
            | some (r, c') =>
              let take := { HoMsg_about m 0 (c'.handle slot) with push := m.push, region := if m.push then c'.regionField r else 0 }
              let c' := c'.setHand slot { Handoff_start m none with region := if m.push then some r else none, peerRegion := m.region,
                                                                    idleDue := c'.time + c'.transferIdle }
              let c' := c'.sendHo peer 2 take
              if m.push then c' else c'.pullNext slot

/-- What OFFER or CANCEL at e finds at the destination (R138): the entry of this handoff, one past it, a tombstone that answers, or another. `none` lets a fresh
offer be taken. -/
def Chan.answerOffer (c : Chan) (peer : Nat) (m : HoMsg) (isCancel : Bool) : Option Chan :=
  let l := c.ofRequest m.req m.tag
  match l.find? (fun e => decide (e.2.state = .inbound ∧ e.2.peer = m.srcH ∧ e.2.epoch = m.epoch)) with
  | some (slot, e) =>
    some (if e.sub = 3 then c.sendAccept peer m (c.handle slot)
      else if isCancel then c.abortInbound slot 0x0C 0
      else if e.sub < 2 then
        let h := (c.hand slot).getD (Handoff_start m none)
        c.sendHo peer 2 { HoMsg_about m 0 (c.handle slot) with push := h.offer.push, region := match h.region with | some r => c.regionField r | none => 0 }
      else c)
  | none => match l.find? (fun e => decide (e.2.epoch = m.epoch + 1)) with
    | some (slot, _) => some (c.sendAccept peer m (c.handle slot))
    | none => match l.find? (fun e => decide (m.epoch + 1 < e.2.epoch)) with
      | some (slot, e) => some (c.sendHo peer 9 { HoMsg_about m 0 (c.handle slot) with epoch := e.epoch })
      | none =>
        let tomb := fun e : Nat × Entry => decide (e.2.state = .retired ∧ e.2.sub = 2)
        match l.find? (fun e => tomb e && decide (e.2.peer = m.srcH ∧ e.2.epoch = m.epoch)) with
        | some (slot, _) =>
          if m.repeated ∨ isCancel then
            some (c.sendHo peer 7 (HoMsg_about m (((c.hand slot).map (fun h => h.reason)).getD 0x0B) (c.handle slot)))
          else if l.all tomb then none else some (c.refuse peer m 8)
        | none => if isCancel then some c else if l.all tomb then none else some (c.refuse peer m 8)

/-- OFFER: while the table is not ready, REFUSE 0x03. -/
def execOffer (c : ChId) (peer : Nat) (m : HoMsg) (tagOk : Bool) (s : State) : Host.Outcome State Fault Refusal :=
  onChS c (fun x => x.hoMsg peer 1 m tagOk (fun x =>
    if !x.ctx.ready then x.refuse peer m 3
    else match x.answerOffer peer m false with
      | some x => x
      | none => x.admitOffer peer m)) s

/-- CANCEL. -/
def execCancel (c : ChId) (peer : Nat) (m : HoMsg) (tagOk : Bool) (s : State) : Host.Outcome State Fault Refusal :=
  onChS c (fun x => x.hoMsg peer 8 m tagOk (fun x => if !x.ctx.ready then x else (x.answerOffer peer m true).getD x)) s

/-! ### Messages to the source (R137) -/

/-- The transfer begins, or begins again from group 0, with the destination of a TAKE. -/
def Chan.startTransfer (c : Chan) (slot : Nat) (h : Handoff) (m : HoMsg) : Chan :=
  let c := c.moveTo slot .offered 1 (fun e => { e with peer := m.dstH })
  let c := c.setHand slot { h with moved := 0, peerRegion := m.region, idleDue := c.time + c.transferIdle, stuck := false }
  if h.offer.push then c.pushNext slot else c

/-- TAKE. -/
def execTake (c : ChId) (peer : Nat) (m : HoMsg) (tagOk : Bool) (s : State) : Host.Outcome State Fault Refusal :=
  onChS c (fun x => x.hoMsg peer 2 m tagOk (fun x => x.forSource peer 2 m (fun slot h =>
    let e := x.entry slot
    if m.epoch ≠ e.epoch ∨ e.sub = 3 then x
    else if e.sub = 0 then x.startTransfer slot h m
    else if m.dstH = e.peer then (if e.sub = 2 then x.sendManifest slot else x)
    else if e.sub = 2 ∧ !h.cancel.isEmpty then (x.cancelEnds slot 0).returnOffer slot 0x4C 0
    else x.startTransfer slot h m))) s

/-- The source returns on REFUSE or ABORT (R137): 0x45 for a digest mismatch, else 0x41, with the reason; a cancel that is pending completes. -/
def Chan.offerRefused (c : Chan) (slot : Nat) (m : HoMsg) : Chan :=
  (c.cancelEnds slot 0).returnOffer slot (if m.reason = 9 then 0x45 else 0x41) m.reason

/-- REFUSE. -/
def execRefuse (c : ChId) (peer : Nat) (m : HoMsg) (tagOk : Bool) (s : State) : Host.Outcome State Fault Refusal :=
  onChS c (fun x => x.hoMsg peer 3 m tagOk (fun x => x.forSource peer 3 m (fun slot _ =>
    if m.epoch ≠ (x.entry slot).epoch ∨ (x.entry slot).sub = 3 then x else x.offerRefused slot m))) s

/-- ABORT: with a cancel pending the context returns cancelled. -/
def execAbort (c : ChId) (peer : Nat) (m : HoMsg) (tagOk : Bool) (s : State) : Host.Outcome State Fault Refusal :=
  onChS c (fun x => x.hoMsg peer 7 m tagOk (fun x => x.forSource peer 7 m (fun slot h =>
    if m.epoch ≠ (x.entry slot).epoch ∨ (x.entry slot).sub = 3 then x
    else if (x.entry slot).sub = 2 ∧ !h.cancel.isEmpty then (x.cancelEnds slot 0).returnOffer slot 0x4C m.reason
    else x.offerRefused slot m))) s

/-- ACCEPT: EPOCH := e + 1, and the context enters RELEASING; one that comes again there is answered with RELEASE (R142). -/
def execAccept (c : ChId) (peer : Nat) (m : HoMsg) (tagOk : Bool) (s : State) : Host.Outcome State Fault Refusal :=
  onChS c (fun x => x.hoMsg peer 5 m tagOk (fun x => x.forSource peer 5 m (fun slot _ =>
    let e := x.entry slot
    if e.sub = 3 then (if m.epoch = e.epoch ∧ m.dstH = e.peer then x.sendHo peer 6 (HoMsg_about m 0 m.dstH) else x)
    else if m.epoch = e.epoch + 1 ∧ (m.dstH = e.peer ∨ (e.peer % 2 ^ 30 = 0 ∧ bits m.dstH 47 30 = peer)) then
      (x.cancelEnds slot 0x46).moveTo slot .offered 3 (fun e => { e with epoch := m.epoch, peer := m.dstH })
    else x))) s

/-- SUPERSEDED: the source is FAULTED with 0x06, its pages kept. -/
def execSuperseded (c : ChId) (peer : Nat) (m : HoMsg) (tagOk : Bool) (s : State) : Host.Outcome State Fault Refusal :=
  onChS c (fun x => x.hoMsg peer 9 m tagOk (fun x => x.forSource peer 9 m (fun slot _ =>
    let e := x.entry slot
    ((x.cancelEnds slot 0x4A).returnOffer slot 0x4A 0 (some 6)).event 0x3009 (some e.tslot) (x.handle slot) m.epoch))) s

/-! ### Messages to the destination (R138) -/

/-- MANIFEST: its digest is kept, and with every body received the context enters VERIFYING. -/
def execManifest (c : ChId) (peer : Nat) (m : HoMsg) (tagOk : Bool) (s : State) : Host.Outcome State Fault Refusal :=
  onChS c (fun x => x.hoMsg peer 4 m tagOk (fun x => x.forDest m (fun slot h =>
    let e := x.entry slot
    if 1 < e.sub ∨ m.epoch ≠ e.epoch then x else (x.setHand slot { h with digestIn := m.digest }).verifyIf slot))) s

/-- RELEASE: the context arrives. -/
def execRelease (c : ChId) (peer : Nat) (m : HoMsg) (tagOk : Bool) (s : State) : Host.Outcome State Fault Refusal :=
  onChS c (fun x => x.hoMsg peer 6 m tagOk (fun x => x.forDest m (fun slot _ =>
    let e := x.entry slot
    if e.sub = 3 ∧ m.epoch = e.epoch + 1 then x.arrived slot 0x3002 else x))) s

/-! ### Timers and ends (R136 to R139) -/

/-- What a timer of a context's handoff does, where the context is in the state and the sub-states given. -/
def Chan.handTimer (c : Chan) (slot : Nat) (st : CtxState) (sub : Nat → Bool) (due : Handoff → Nat) (k : Chan → Handoff → Chan) : Chan :=
  match c.hand slot with
  | some h => if (c.entry slot).state = st ∧ sub (c.entry slot).sub then k (c.reach (due h)) h else c
  | none => c

/-- OFFER_RETRY_EXPIRY. -/
def execOfferRetryExpiry (c : ChId) (slot : Nat) (s : State) : Host.Outcome State Fault Refusal :=
  onChS c (fun x => x.handTimer slot .offered (fun n => n == 0) (fun h => h.due) (fun x h =>
    if h.tries < x.offerTries then
      (x.setHand slot { h with tries := h.tries + 1, due := x.time + x.offerRetry }).sendOffer slot true
    else x.returnOffer slot (if x.session (bits (x.entry slot).peer 47 30) then 0x40 else 0x49) 0)) s

/-- ACCEPT_RETRY_SOURCE: OFFER again, or CANCEL while a cancel is pending; handoff-stuck once. -/
def execAcceptRetrySource (c : ChId) (slot : Nat) (s : State) : Host.Outcome State Fault Refusal :=
  onChS c (fun x => x.handTimer slot .offered (fun n => n == 2) (fun h => h.due) (fun x h =>
    let e := x.entry slot
    let stuck := decide (e.stateTime + x.stuckTime < x.time)
    let c := x.setHand slot { h with due := x.time + x.acceptRetry, stuck := h.stuck || stuck }
    let c := if h.cancel.isEmpty then c.sendOffer slot true else c.sendHo (bits e.peer 47 30) 8 (HoMsg_about h.offer 0 e.peer)
    if stuck && !h.stuck then c.event 0x3006 (some e.tslot) (c.handle slot) e.peer else c)) s

/-- ACCEPT_RETRY_DEST: ACCEPT again, or the destination completes alone. -/
def execAcceptRetryDest (c : ChId) (slot : Nat) (s : State) : Host.Outcome State Fault Refusal :=
  onChS c (fun x => x.handTimer slot .inbound (fun n => n == 3) (fun h => h.due) (fun x h =>
    if h.tries < x.acceptTries then
      (x.setHand slot { h with tries := h.tries + 1, due := x.time + x.acceptRetry }).sendAccept (bits (x.entry slot).peer 47 30) h.offer (x.handle slot)
    else x.arrived slot 0x3007)) s

/-- TRANSFER_IDLE_SOURCE. -/
def execTransferIdleSource (c : ChId) (slot : Nat) (s : State) : Host.Outcome State Fault Refusal :=
  onChS c (fun x => x.handTimer slot .offered (fun n => n == 1) (fun h => h.idleDue) (fun x _ => x.returnOffer slot 0x40 0)) s

/-- TRANSFER_IDLE_DEST. -/
def execTransferIdleDest (c : ChId) (slot : Nat) (s : State) : Host.Outcome State Fault Refusal :=
  onChS c (fun x => x.handTimer slot .inbound (fun n => decide (n < 2)) (fun h => h.idleDue) (fun x h =>
    if h.rebuild.isSome then x else (x.peerLost slot 0x0A).abortInbound slot 0x0A 0)) s

/-- STUCK_TIME_EXPIRY: the cancel is no longer pending. -/
def execStuckTimeExpiry (c : ChId) (slot : Nat) (s : State) : Host.Outcome State Fault Refusal :=
  onChS c (fun x => match x.hand slot with
    | some h => if (x.entry slot).state = .offered ∧ (x.entry slot).sub = 2 ∧ !h.cancel.isEmpty then (x.reach h.cancelDue).cancelEnds slot 0x40 else x
    | none => x) s

/-- TRANSFER_BODIES_DONE: AWAIT_ACCEPT is journalled, then MANIFEST is sent. -/
def execTransferBodiesDone (c : ChId) (slot : Nat) (s : State) : Host.Outcome State Fault Refusal :=
  onChS c (fun x => match x.hand slot with
    | some h =>
      if (x.entry slot).state = .offered ∧ (x.entry slot).sub = 1 ∧ x.bodiesMoved slot then
        let x := x.moveTo slot .offered 2 id
        (x.setHand slot { h with due := x.time + x.acceptRetry, stuck := false }).sendManifest slot
      else x
    | none => x) s

/-- Must the context's fragment set be written before it arrives (R136, R357), and is it not yet? -/
def Chan.needsSet (c : Chan) (slot : Nat) (h : Handoff) : Bool :=
  decide (c.role.cur = .cache ∧ (c.entry slot).red ≠ 0) && !h.fragsDone

/-- The set is begun where none is being written. -/
def Chan.beginSet (c : Chan) (slot epoch : Nat) : Chan :=
  if (c.tiers.writing.find slot).isSome then c else c.startSet slot epoch (c.entry slot).red none

/-- DIGEST_VERIFIED: the digests are compared, the fragment set of a cache-role channel is written, and then ACCEPT is sent. -/
def execDigestVerified (c : ChId) (slot : Nat) (s : State) : Host.Outcome State Fault Refusal :=
  onChS c (fun x => match x.hand slot with
    | some h =>
      let e := x.entry slot
      if e.state ≠ .inbound ∨ e.sub ≠ 2 then x
      else if x.receivedDigest slot e.committed h.manifest ≠ h.digestIn then
        ((x.bump Reg.HO_FAIL_CNT 31 16 1).event 0x3005 (some e.tslot) (x.handle slot) (groupsOf e.committed)).abortInbound slot 9 0
      else if x.needsSet slot h then x.beginSet slot (e.epoch + 1)
      else
        let x := x.moveTo slot .inbound 3 id
        (x.setHand slot { h with tries := 1, due := x.time + x.acceptRetry }).sendAccept (bits e.peer 47 30) h.offer (x.handle slot)
    | none => x) s

/-- RELEASE_COMPLETE. -/
def execReleaseComplete (c : ChId) (slot : Nat) (s : State) : Host.Outcome State Fault Refusal :=
  onChS c (fun x => match x.hand slot with
    | some h =>
      let e := x.entry slot
      if e.state ≠ .offered ∨ e.sub ≠ 3 then x else x.released slot h
    | none => x) s

/-! ### Rebuild (R146 to R148, R357) -/

/-- The sets of R357 agree: the list with the command. -/
def listAgrees (l : FragLoc) (req tag epoch red len : Nat) : Bool :=
  decide (l.req = req ∧ l.tag = tag ∧ l.epoch = epoch ∧ l.red = red ∧ l.len = len ∧ l.groups = groupsOf len ∧ l.holders.length ≤ 10 ∧
    (l.holders = [] ∨ (1 ≤ red ∧ red ≤ 3 ∧ schemeK red ≤ l.holders.length ∧ l.digest ≠ List.replicate 64 0)) ∧ l.holders.Pairwise (fun a b => a.2 ≠ b.2)) &&
    l.holders.all (fun h => decide (h.2 < schemeN red))

/-- The fencing has ended: the shares are read, the data shares first. With no holders the groups come by pg.import. -/
def Chan.rebuildRead (c : Chan) (slot : Nat) (h : Handoff) (r : Rebuild) : Chan :=
  let e := c.entry slot
  let c := c.setHand slot { h with rebuild := some { r with fenced := true } }
  if !listAgrees r.list e.req e.tag r.lastEpoch e.red e.committed then c.abortInbound slot 0 0xA9
  else if r.list.holders = [] then c
  else
    let hs := (sortBy (fun a b => decide (a.2 ≤ b.2)) r.list.holders).map (fun x => (x.1, x.2, 0))
    (c.setRead slot { req := e.req, tag := e.tag, epoch := r.lastEpoch, red := e.red, len := e.committed, bodyBytes := (c.geom e.profile).bodyBytes,
                      shares := sharesOf hs, unit := 0, last := stripesOf (groupsOf e.committed) e.red, due := c.time + c.hedgeFrag, man := [] }).askShares slot

/-- FENCE to every predecessor that has not replied. -/
def Chan.sendFences (c : Chan) (slot : Nat) (r : Rebuild) : Chan :=
  let e := c.entry slot
  (r.preds.filter (fun p => p.reply.isNone)).foldl (fun c p => c.sendHo p.eid 0x0A { hoBlank with req := e.req, tag := e.tag, epoch := r.lastEpoch + 1 }) c

/-- The fencing goes on, or ends when every predecessor has replied. -/
def Chan.fenceOn (c : Chan) (slot : Nat) (h : Handoff) (r : Rebuild) : Chan :=
  if r.preds.all (fun p => p.reply.isSome) then c.rebuildRead slot h r else c.setHand slot { h with rebuild := some r }

/-- The status of a ho.rebuild that the admission refuses, by the reason of R132. -/
def rebuildStatus : Nat → Nat
  | 1 => 0x2E
  | 2 => 0x2F
  | 3 => 0x23
  | 4 => 0x24
  | 0x0F => 0xD0
  | _ => 0x41

/-- ho.rebuild with its parameter block (R146). -/
def Chan.hoRebuild (c : Chan) (src : Src) (p : RebuildIn) (l : FragLoc) : Chan :=
  let t := src.slot
  let tag := c.tag t
  if p.epoch = 0xFFFFFFFF then c.complete src 0x43 0
  else match c.admitReason tag with
    | .error r => (if r = 3 then c.noSlotEvent else if r = 4 then c.quotaEvent t else c).complete src (rebuildStatus r) (if rebuildStatus r = 0x41 then r else 0)
    | .ok _ =>
      match (c.ofRequest p.req tag).find? (fun e => decide (e.2.state ≠ .retired)), c.nextSlot with
      | some (slot, e), _ => c.completeX src 0x25 (openRecord (c.handle slot) e.epoch)
      | none, none => c.complete src 0x23 0
      | none, some (slot, gen, c') =>
        let geo := c.geom p.profile
        if 15 < p.profile ∨ !c.profOk p.profile ∨ !geo.redunOk p.red ∨ 4 < p.preds.length then c.complete src 0x28 0
        else
          let e := { Entry.free with
            gen := gen, epoch := p.epoch, req := p.req, tag := tag, tslot := t, profile := p.profile, format := geo.format, red := p.red, committed := p.len,
            isPrivate := c.flag (Reg.SEC_TEN_CFG t) 63, pgt := mapOf slot }
          match c'.takeIn slot e with
          | none => (if c.quotaRefuses e then c.tierQuotaEvent t 0 else c).complete src 0x30 0
          | some c' =>
            if c.hoLimit 47 32 ≤ c.countCtx (fun e => decide (e.state = .inbound)) then c.complete src 0x4B 0
            else
              let r := { lastEpoch := p.epoch, preds := p.preds.map (fun e => ⟨e, none⟩), force := p.force, retryDue := c'.time + c'.offerRetry,
                         timeDue := c'.time + c'.fenceTime, fenced := false, list := l : Rebuild }
              (c'.sendFences slot r).fenceOn slot (Handoff_start hoBlank (some src)) r

/-- HO_REBUILD: without an EID 0x8C (R30), in ride-through 0xF0 (R464). -/
def execHoRebuild (c : ChId) (src : Src) (p : Fetched RebuildIn) (s : State) : Host.Outcome State Fault Refusal :=
  onChS c (fun x => x.ctxCommand src ⟨true, false, true⟩ (fun x =>
    if x.eid.isNone then x.complete src 0x8C 0
    else if x.riding then x.complete src 0xF0 0
    else x.reading src p (fun p => x.reading src p.list (fun l => x.hoRebuild src p l)))) s

/-- FENCE_MESSAGE (R147): HELD from the entry that holds the punty; an INBOUND entry before ACCEPT_SENT is aborted first. -/
def execFenceMessage (c : ChId) (peer : Nat) (m : HoMsg) (tagOk : Bool) (s : State) : Host.Outcome State Fault Refusal :=
  onChS c (fun x => x.hoMsg peer 0x0A m tagOk (fun x =>
    if !x.ctx.ready then x
    else
      let l := x.ofRequest m.req m.tag
      let punties := l.filterMap (fun e => e.2.punty)
      let held := !punties.isEmpty
      let epoch := (if held then punties else l.map (fun e => e.2.epoch)).foldl max 0
      let x := if held then x else l.foldl (fun x e => if e.2.state = .inbound then x.abortInbound e.1 0x0C 0x4C else x) x
      let x := x.sendHo peer 0x0B { hoBlank with reason := b2n held, req := m.req, tag := m.tag, epoch := epoch }
      x.event 0x300B (x.slotOfTag m.tag) m.req (b2n held + epoch * 2 ^ 32))) s

/-- FENCE_REPLY: the predecessor's answer is recorded; HELD ends the rebuild with 0x47, and an epoch above E with 0x4A. -/
def execFenceReply (c : ChId) (peer : Nat) (m : HoMsg) (tagOk : Bool) (s : State) : Host.Outcome State Fault Refusal :=
  onChS c (fun x => x.hoMsg peer 0x0B m tagOk (fun x =>
    (x.ofRequest m.req m.tag).foldl (fun x e => match (x.hand e.1), (x.hand e.1).bind (fun h => h.rebuild) with
      | some h, some r =>
        if r.fenced ∨ (x.entry e.1).state ≠ .inbound ∨ !r.preds.any (fun p => p.eid == peer) then x
        else if m.reason = 1 then x.abortInbound e.1 0 0x47
        else if r.lastEpoch < m.epoch then x.abortInbound e.1 0 0x4A
        else x.fenceOn e.1 h { r with preds := r.preds.map (fun p => if p.eid = peer then { p with reply := some (false, m.epoch) } else p) }
      | _, _ => x) x)) s

/-- A timer of the fencing of a rebuild. -/
def Chan.fencing (c : Chan) (slot : Nat) (due : Rebuild → Nat) (k : Chan → Handoff → Rebuild → Chan) : Chan :=
  match c.hand slot, (c.hand slot).bind (fun h => h.rebuild) with
  | some h, some r => if r.fenced ∨ (c.entry slot).state ≠ .inbound then c else k (c.reach (due r)) h r
  | _, _ => c

/-- FENCE_RETRY. -/
def execFenceRetry (c : ChId) (slot : Nat) (s : State) : Host.Outcome State Fault Refusal :=
  onChS c (fun x => x.fencing slot (fun r => r.retryDue) (fun x h r =>
    let r := { r with retryDue := x.time + x.offerRetry }
    (x.setHand slot { h with rebuild := some r }).sendFences slot r)) s

/-- FENCE_TIME_EXPIRY: FORCE lets the rebuild go on. -/
def execFenceTimeExpiry (c : ChId) (slot : Nat) (s : State) : Host.Outcome State Fault Refusal :=
  onChS c (fun x => x.fencing slot (fun r => r.timeDue) (fun x h r => if r.force then x.rebuildRead slot h r else x.abortInbound slot 0 0x48)) s

/-- Has every group of a rebuild been reconstructed, with what R357 says of its digests? With fragments: the group digests against the manifest, and the manifest
against the digests of the header and of the list. Without: every layer holds every token, and the manifest over what was imported, whose SRC_CTXH the spec leaves
open, against the digest of the list where it gives one. -/
def Chan.rebuildDigest (c : Chan) (slot : Nat) (r : Rebuild) : Option Bool × Chan :=
  let e := c.entry slot
  if r.list.holders = [] then
    if (c.map slot).minFill (c.geom e.profile).layers < e.committed then (none, c)
    else if r.list.digest = List.replicate 64 0 then (some true, c)
    else
      let (v, c) := c.draw
      (some (decide (c.manifestDigest slot r.lastEpoch (v % 2 ^ 48) = r.list.digest)), c)
  else match c.tiers.reads.find slot with
    | none => (none, c)
    | some x =>
      if x.unit ≤ x.last then (none, c)
      else
        let d := sha512 x.man
        let heads := x.shares.filter (fun y => !y.head.isEmpty && !y.dead)
        (some (c.digestsHold slot e.committed x.man && heads.all (fun y => decide ((y.head.drop 64).take 64 = d)) && decide (r.list.digest = d)), c)

/-- REBUILD_DECODED: the arrival state is journalled at E + 1, and the old set of a cache-role channel is released. -/
def execRebuildDecoded (c : ChId) (slot : Nat) (s : State) : Host.Outcome State Fault Refusal :=
  onChS c (fun x => match x.hand slot, (x.hand slot).bind (fun h => h.rebuild) with
    | some h, some r =>
      let e := x.entry slot
      if !r.fenced ∨ e.state ≠ .inbound then x
      else match x.rebuildDigest slot r with
        | (none, x) => x
        | (some false, x) => (x.bump Reg.HO_FAIL_CNT 31 16 1).abortInbound slot 0 0x45
        | (some true, x) =>
          if x.needsSet slot h then x.beginSet slot (r.lastEpoch + 1)
          else
            let me := x.handle slot
            let x := (x.dropRead slot).arrive slot (r.lastEpoch + 1)
            let x := (x.bump Reg.HO_REBUILD_CNT 63 32 1).event 0x300C (some e.tslot) me (r.lastEpoch + 1)
            let x := if x.role.cur = .cache ∧ h.fragsDone then
                r.list.holders.foldl (fun x y => x.sendFragFree y.1 e.req e.tag (r.lastEpoch + 1) y.2 e.red) x
              else x
            match h.cmd with
            | some src => x.completeX src 0 (openRecord me (r.lastEpoch + 1))
            | none => x
    | _, _ => x) s

end Sys2Proof.Machine
end

