-- ==== Sys2Proof/Machine/Pages.lean ====
section
/-! DEFINITION. The meanings of the paging commands and happenings (chapter 4): windows, attachments, extent pages, scale tables, placement and clearing. -/
namespace Sys2Proof.Machine
open Sys2Proof

/-! ### PG_WINDOW (R109, R123) -/

/-- The record of pg.window: base address, region number, key, generation, W, R and COMMITTED_LEN. -/
def windowRecord (base r key gen w rec_ len : Nat) : List Byte :=
  leBytes 8 base ++ leBytes 2 r ++ leBytes 2 0 ++ leBytes 4 key ++ leBytes 2 gen ++ leBytes 2 0 ++ leBytes 4 w ++ leBytes 4 rec_ ++ leBytes 4 len

/-- The append-window region of a slot under a PD: the one that stands, or a new one under a new key. -/
def Chan.needWindow (c : Chan) (slot pd : Nat) (byVf : Bool) : Option (Nat × Chan) :=
  let m := c.map slot
  let geo := c.geom (c.entry slot).profile
  let fresh := fun (c : Chan) =>
    (c.register { Region.init with kind := .append slot, pd := pd, rights := 2, size := geo.layers * 2 * geo.window * 2 ^ geo.recLog2,
                                   tenant := (c.entry slot).tslot, byVf := byVf }).map
      (fun x => (x.1, x.2.setMap slot { x.2.map slot with region := some x.1, pd := pd }))
  match m.region with
  | none => fresh c
  | some r => if (c.region r).st = .valid ∧ m.pd = pd then some (r, c) else fresh (c.dropRegion r)

/-- pg.window on a context that appends. -/
def Chan.pgWindow (c : Chan) (src : Src) (slot pd fillAddr : Nat) : Chan :=
  let e := c.entry slot
  if e.state ≠ .prefilling ∧ e.state ≠ .decoding then c.complete src 0x22 0
  else if c.pdSlot pd ≠ some e.tslot then c.complete src 0x34 0
  else match c.needWindow slot pd src.vf.isSome with
    | none => c.complete src 0x34 0
    | some (r, c) =>
      let geo := c.geom e.profile
      let x := c.region r
      let base := c.fget Reg.CHN_EID 17 0 * 2 ^ 46 + 2 ^ 44 + slot * 2 ^ 30
      let (ok, c') := if fillAddr = 0 then (true, c)
        else c.hostWrite src.fn fillAddr ((List.range geo.layers).flatMap (fun l => leBytes 4 ((c.map slot).fillOf l)))
      let c := if ok then c' else c'.srcError src fillAddr ((c.dmaFault src.fn).getD 7)
      c.completeX src (if ok then 0 else 0xB2) (windowRecord base r x.key x.gen geo.window (2 ^ geo.recLog2) e.committed)

/-- PG_WINDOW. -/
def execPgWindow (c : ChId) (src : Src) (h pd fillAddr : Nat) (s : State) : Host.Outcome State Fault Refusal :=
  onCh c (fun x => x.ctxCommand src ⟨false, false, false⟩ (fun x => x.withCtx src h (fun slot => x.pgWindow src slot pd fillAddr))) s

/-! ### PG_ATTACH (R122) -/

/-- pg.attach: an owner on this channel is attached at once; an owner on another channel is asked. -/
def Chan.pgAttach (c : Chan) (src : Src) (slot owner n : Nat) : Chan :=
  let e := c.entry slot
  if c.actingRole = .unassigned then c.complete src 0x2E 0
  else if !c.attachable slot then c.complete src 0x22 0
  else if n = 0 ∨ 2 ^ 18 < n then c.complete src 0x28 0
  else if c.paused e.tslot then c.complete src 0xD0 0
  else if bits owner 47 30 = c.fget Reg.CHN_EID 17 0 then
    match c.checkHandle owner with
    | .error st => (c.badHandle st owner false).complete src st 0
    | .ok o =>
      if src.vf.isSome ∧ (c.entry o).tslot ≠ e.tslot then (c.badHandle 0x20 owner false).complete src 0x20 0
      else if !c.ownerFits slot o n then c.complete src 0x31 0
      else match c.needBlocks slot n with
        | none => c.complete src 0x30 0
        | some c => ((c.raiseRefs o n).attachTo slot owner n (some o)).complete src 0 (16 * n)
  else if c.eid.isNone then c.complete src 0x8C 0
  else if (c.needBlocks slot n).isNone then c.complete src 0x30 0
  else c.attachRequest (bits owner 47 30) false
    { reason := 0, reqNum := 0, owner := owner / 65536 * 65536, attacher := c.handle slot, tag := e.tag, profileId := (c.geom e.profile).id, n := n,
      chain := c.chainFor slot n } (some src)

/-- PG_ATTACH. -/
def execPgAttach (c : ChId) (src : Src) (h owner n : Nat) (s : State) : Host.Outcome State Fault Refusal :=
  onChS c (fun x => x.ctxCommand src ⟨false, false, false⟩ (fun x => x.withCtx src h (fun slot => x.pgAttach src slot owner n))) s

/-! ### PG_EXPORT and PG_IMPORT (R107, R108, R123) -/

/-- The bytes of page (l, g) as an export reads them: all its parts, rows past the committed length zero. A group that another channel's prefix owner holds is
not here; what stands for it the spec does not state. -/
def Chan.exportPage (c : Chan) (slot l g : Nat) : List Byte × Chan :=
  let e := c.entry slot
  let geo := c.geom e.profile
  let r := (c.map slot).grp g
  let per := geo.parts * geo.partBytes
  if r.loc = .remote then c.drawBytes per
  else if r.loc = .t0 then
    ((List.range geo.parts).flatMap (fun j => geo.maskPart (rowsOf g e.committed) (c.pageRead slot g l j 0 geo.partBytes)), c)
  else (((c.groupBody slot g e.committed).drop (l * per)).take per, c)

/-- The pages of an extent, in token order. -/
def Chan.exportPages (c : Chan) (slot l : Nat) : List Nat → List Byte × Chan
  | [] => ([], c)
  | g :: t =>
    let (b, c) := c.exportPage slot l g
    let (bs, c) := c.exportPages slot l t
    (b ++ bs, c)

/-- pg.export (R107): the extent page is read, which an uncorrectable error stops (R439), and written to its destination. -/
def Chan.pgExport (c : Chan) (src : Src) (slot layer first log2 : Nat) (dest : Dest) : Chan :=
  let e := c.entry slot
  let geo := c.geom e.profile
  let n := 2 ^ log2
  if e.state ≠ .sealed ∧ e.state ≠ .parked ∧ e.state ≠ .faulted then c.complete src 0x22 0
  else if e.isPrivate then (c.privateRefused e.tslot (c.handle slot) 0x2003).complete src 0xC8 0
  else if geo.layers ≤ layer ∨ log2 < 5 ∨ 12 < log2 ∨ first % n ≠ 0 ∨ 2 ^ 22 ≤ first then c.complete src 0x28 0
  else
    let gs := (List.range (n / 16)).map (fun i => first / 16 + i)
    let live := gs.flatMap (fun g => (List.range geo.parts).filterMap (fun j => (c.pageAddr slot g layer j 0).map (fun a => (a, geo.partBytes))))
    let (ok, c) := c.eccReads live 4
    if !ok then (c.fault slot 2).complete src 0x22 0
    else
      let (body, c) := c.exportPages slot layer gs
      let head := extentHead geo first layer log2 (c.handle slot) (min n (e.committed - first))
      let data := head ++ leBytes 4 (crc32c (head ++ body)) ++ body
      match dest with
      | .host a =>
        let (sent, c') := c.hostWrite src.fn a data
        if sent then c'.complete src 0 data.length else (c'.srcError src a ((c.dmaFault src.fn).getD 7)).complete src 0xB2 data.length
      | .fabric a => if c.eid.isNone then c.complete src 0x8C 0 else c.issueWork (bits a 63 46) (TxOp.of (.cmd src) 1 a 0 0 0 data)

/-- PG_EXPORT. -/
def execPgExport (c : ChId) (src : Src) (h layer first log2 : Nat) (dest : Dest) (s : State) : Host.Outcome State Fault Refusal :=
  onChS c (fun x => x.ctxCommand src ⟨true, false, false⟩ (fun x => x.withCtx src h (fun slot => x.pgExport src slot layer first log2 dest))) s

/-- One page of an extent placed: the rows below `valid` replace those of the frame. A SHARED group is its owner's, and is left alone. -/
def Chan.importPage (c : Chan) (slot l g valid : Nat) (b : List Byte) : Chan :=
  let geo := c.geom (c.entry slot).profile
  if ((c.map slot).grp g).shared ∨ valid = 0 then c
  else (List.range geo.parts).foldl (fun c j =>
    let old := c.pageRead slot g l j 0 geo.partBytes
    let new := (b.drop (j * geo.partBytes)).take geo.partBytes
    c.pageWrite slot g l j 0 ((List.zip old new).mapIdx (fun i x => if geo.rowOfByte i < valid then x.2 else x.1))) c

/-- The blocks and frames that an import writes into, allocated where they are missing. -/
def Chan.importRoom (c : Chan) (slot l : Nat) (gs : List Nat) : Option Chan :=
  let geo := c.geom (c.entry slot).profile
  gs.foldl (fun acc g => (acc.bind (fun c => c.needBlock slot g)).bind (fun c =>
    if ((c.map slot).grp g).shared then some c
    else (List.range geo.parts).foldl (fun acc j => acc.bind (fun c => c.needFrame slot g l j)) (some c))) (some c)

/-- pg.import of an extent page as read (R108). -/
def Chan.pgImport (c : Chan) (src : Src) (slot : Nat) (x : List Byte) : Chan :=
  let e := c.entry slot
  let geo := c.geom e.profile
  let f := fun (off n : Nat) => leVal ((x.drop off).take n)
  let first := f 4 4
  let layer := f 8 2
  let n := 2 ^ f 10 1
  let valid := f 32 4
  let per := geo.parts * geo.partBytes
  if f 0 4 ≠ geo.id ∨ f 11 1 ≠ geo.format ∨ f 12 4 ≠ geo.partBytes ∨ f 16 1 ≠ geo.parts ∨ geo.layers ≤ layer ∨ f 10 1 < 5 ∨ 12 < f 10 1 ∨
      first % n ≠ 0 ∨ n < valid ∨ x.length ≠ 64 + n / 16 * per then c.complete src 0x32 0
  else if f 60 4 ≠ crc32c (x.take 60 ++ x.drop 64) then (c.event 0x2007 none (c.handle slot) (first + layer * 2 ^ 32)).complete src 0x33 0
  else if e.committed < first + valid then c.complete src 0x32 0
  else
    let gs := (List.range ((valid + 15) / 16)).map (fun i => first / 16 + i)
    match c.importRoom slot layer gs with
    | none => c.complete src 0x30 0
    | some c =>
      let c := gs.foldl (fun c g => c.importPage slot layer g (min 16 (valid + first - 16 * g)) ((x.drop (64 + (g - first / 16) * per)).take per)) c
      c.complete src 0 valid

/-- PG_IMPORT: accepted in INBOUND during a rebuild. -/
def execPgImport (c : ChId) (src : Src) (h : Nat) (ext : Fetched (List Byte)) (s : State) : Host.Outcome State Fault Refusal :=
  onCh c (fun x => x.ctxCommand src ⟨true, false, false⟩ (fun x => x.withCtx src h (fun slot =>
    if (x.entry slot).state ≠ .inbound ∨ ((x.hand slot).bind (fun k => k.rebuild)).isNone then x.complete src 0x22 0
    else x.reading src ext (fun b => x.pgImport src slot b)))) s

/-! ### PG_SCALE (R114, R123) -/

/-- The scale table of profile p loaded. -/
def Chan.loadScale (c : Chan) (p : Nat) (b : List Byte) : Chan :=
  let geo := c.geom p
  let b := b.take (geo.layers * geo.kvHeads * 16)
  let c := { c with hbm := Memory.write c.hbm (profileBase + p * 262144) b }.eccWrote (profileBase + p * 262144) b.length
  { c with pool := { c.pool with scaleLoaded := c.pool.scaleLoaded.put p (b.length / 8) } }

/-- PG_SCALE. -/
def execPgScale (c : ChId) (src : Src) (p : Nat) (table : Fetched (List Byte)) (s : State) : Host.Outcome State Fault Refusal :=
  onCh c (fun x => x.ctxCommand src ⟨true, false, false⟩ (fun x =>
    if x.fnState 0 ≠ .stopped then x.complete src 0x35 0
    else if 15 < p ∨ !x.profOk p then x.complete src 0x28 0
    else x.reading src table (fun b => (x.loadScale p b).complete src 0 0))) s

/-! ### UNIT_PLACED and FRAME_CLEARED (R105, R118, R119) -/

/-- UNIT_PLACED: the earliest admitted write of a unit is placed. -/
def execUnitPlaced (c : ChId) (slot layer token unit : Nat) (s : State) : Host.Outcome State Fault Refusal :=
  onCh c (fun x => match (x.map slot).staged.find? (fun u => decide (u.layer = layer ∧ u.token = token ∧ u.unit = unit)) with
    | some u => x.placeUnit slot u
    | none => x) s

/-- The frame at the head of the cullet list is cleared and free, or, where clearing fails, withdrawn. -/
def Chan.clearFrame (c : Chan) (ok : Bool) : Chan :=
  match c.pool.cullet with
  | [] => c
  | f :: rest =>
    let a := c.frameAddr f
    let g := c.granOf f
    let c := { c with pool := { c.pool with cullet := rest } }
    if ok then ({ c with hbm := Memory.clear c.hbm a (g * 4096) }.eccWrote a (g * 4096)).freeFrame f
    else { c with pool := { c.pool with withdrawn := c.pool.withdrawn ++ [f] } }.event 0x2006 none f g

/-- FRAME_CLEARED. -/
def execFrameCleared (c : ChId) (ok : Bool) (s : State) : Host.Outcome State Fault Refusal := onCh c (fun x => x.clearFrame ok) s

end Sys2Proof.Machine
end

