-- ==== Sys2Proof/Machine/Pontil.lean ====
section
/-! DEFINITION. The meter link's happenings on a channel and the Pontil meter on the carrier (chapter 16). -/
namespace Sys2Proof.Machine
open Sys2Proof

/-! ### The channel's end of the link -/

/-- TOTALS_DUE (R418): a frame for a slot with a nonzero tag whose totals have changed, or that has sent none for 10 ms. -/
def execTotalsDue (c : ChId) (slot : Nat) (s : State) : Host.Outcome State Fault Refusal :=
  onCh c (fun x =>
    if !x.linkLive || x.mtr.absent || decide (16 ≤ slot ∨ x.tag slot = 0 ∨ x.mtr.credits = 0) then x
    else if (x.totals slot).sent ≠ x.totalsNow slot then x.sendTotals slot
    else (x.reach ((x.totals slot).lastSent + 10 * ms)).sendTotals slot) s

/-- HELLO_DUE (R418): every 1 s of local time. -/
def execHelloDue (c : ChId) (s : State) : Host.Outcome State Fault Refusal :=
  onCh c (fun x =>
    if !x.linkLive || x.mtr.absent || decide (x.mtr.credits = 0) then x
    else (x.reach x.mtr.helloDue).sendHello) s

/-- CREDIT_PULSE (R419): one frame more, at most 64 held; a frame that waits goes out against it. -/
def execCreditPulse (c : ChId) (s : State) : Host.Outcome State Fault Refusal :=
  onCh c (fun x =>
    let x := { x with mtr := { x.mtr with credits := min 64 (x.mtr.credits + 1), lastPulse := x.time, present := !x.mtr.absent } }
    match x.mtr.owed with
    | (ty, f) :: t =>
      if x.mtr.absent || !x.linkSends ty then x else ({ x with mtr := { x.mtr with owed := t } }).sendLink ty f
    | [] => x) s

/-- The totals not yet sent move into the unmetered ones (R428). -/
def Totals.absent (x : Totals) : Totals :=
  let (p, o, a, _, _) := x.sent
  { x with uPrompt := x.uPrompt + (x.prompt - p), uOutput := x.uOutput + (x.output - o), uAttached := x.uAttached + (x.attached - a),
           prompt := p, output := o, attached := a }

/-- METER_ABSENT (R419, R428, R429): 10 ms without a pulse. -/
def execMeterAbsent (c : ChId) (s : State) : Host.Outcome State Fault Refusal :=
  onCh c (fun x =>
    if x.mtr.absent then x
    else
      let x := x.reach (x.mtr.lastPulse + 10 * ms)
      let n := x.mtr.frames
      let x := { x with mtr := { x.mtr with present := false, absent := true, absentAt := x.time, credits := 0, owed := [],
                                            tot := x.mtr.tot.mapVals (fun _ t => t.absent) } }
      let x := x.ctx.entries.foldl (fun x e => if e.2.state.resident then x.markUnmetered e.1 else x) x
      let x := x.event 0xD001 none 0 n
      (List.range 16).foldl (fun x t => if x.paused t then x.event 0xD004 (some t) (0x30 + t) 0 else x) x) s

/-- The UNMETERED frame of slot t, where its amounts have grown since the last one (R430). -/
def Chan.sendUnmetered (x : Chan) (t : Nat) : Chan × Bool :=
  let u := x.totals t
  let now := (u.uPrompt, u.uOutput, u.uAttached, u.uRes)
  if x.tag t = 0 ∨ u.uSent = now then (x, false)
  else
    let f := { x.blankFrame t u.stream with tag := x.tag t, prompt := u.uPrompt - u.uSent.1, output := u.uOutput - u.uSent.2.1,
                                            attached := u.uAttached - u.uSent.2.2.1, unmetered := (u.uRes - u.uSent.2.2.2) / ms }
    ((x.setTotals t { u with uSent := now }).linkOrOwe 4 f, true)

/-- CREDITS_RESUMED (R430): a new stream, HELLO, UNMETERED frames, the end of pauses, and the meter-present event. -/
def execCreditsResumed (c : ChId) (s : State) : Host.Outcome State Fault Refusal :=
  onCh c (fun x =>
    if !x.mtr.absent || decide (x.mtr.credits = 0) then x
    else
      let pausedSlots := (List.range 16).filter x.paused
      let dur := (x.time - x.mtr.absentAt) / ms
      let x := { x with mtr := { x.mtr with present := true, absent := false, lastPulse := x.time } }
      let x := x.newStream.sendHello
      let (x, n) := (List.range 16).foldl (fun (a : Chan × Nat) t => let (x, b) := a.1.sendUnmetered t; (x, a.2 + b2n b)) (x, 0)
      let x := pausedSlots.foldl (fun x t => x.event 0xD005 (some t) (0x30 + t) dur) x
      x.event 0xD002 none x.mtr.stream n) s

/-! ### The meter -/

/-- The fields of a record that differ between its types (R422). -/
structure RecordIn where
  ty : Nat
  source : Nat
  flags : Nat
  tag : Nat
  stream : Nat
  start : Nat
  stop : Nat
  prompt : Nat
  output : Nat
  attached : Nat
  resT0 : Nat
  resOut : Nat
  ev : Nat
  vmin : Nat
  deriving DecidableEq, Repr

/-- Bytes [127:0] of a record (R422). -/
def RecordIn.bytes (r : RecordIn) (ctr : Nat) : List Byte :=
  leBytes 4 0x907E0001 ++ leBytes 1 1 ++ leBytes 1 r.ty ++ leBytes 1 r.source ++ leBytes 1 r.flags ++ leBytes 8 ctr ++ leBytes 4 r.tag ++
  leBytes 4 r.stream ++ leBytes 8 r.start ++ leBytes 8 r.stop ++ leBytes 8 r.prompt ++ leBytes 8 r.output ++ leBytes 8 r.attached ++
  leBytes 8 r.resT0 ++ leBytes 8 r.resOut ++ leBytes 1 r.ev ++ leBytes 1 r.vmin ++ List.replicate 46 0

/-- A record with nothing counted. -/
def RecordIn.blank (ty source : Nat) (now : Nat) : RecordIn :=
  { ty := ty, source := source, flags := 0, tag := 0, stream := 0, start := now, stop := now, prompt := 0, output := 0, attached := 0,
    resT0 := 0, resOut := 0, ev := 0, vmin := 0 }

/-- Records not acknowledged. -/
def Meter.unacked (m : Meter) : Nat := m.lastCtr - m.acked

/-- Meter time in ms. -/
def Meter.nowMs (m : Meter) : Nat := m.timeUs / 1000

/-- A record written, chained and signed (R422, R423). -/
def Meter.put (m : Meter) (r : RecordIn) : Meter :=
  let ctr := m.lastCtr + 1
  let b := r.bytes ctr
  let chain := sha512 (m.chain ++ b)
  { m with lastCtr := ctr, chain := chain,
           records := AMap.put m.records ctr (b ++ chain ++ signWith (Config.meterSeed m.serial) (b ++ chain)) }

/-- After a record: storage extended at 16,773,120 unacknowledged, credits withheld when every place is taken (R425). -/
def Meter.checkStorage (m : Meter) : Meter :=
  let m := if !m.extended && decide (16773120 ≤ m.unacked) then
      ({ m with extended := true, extendedOpen := true }).put { RecordIn.blank 3 0 m.nowMs with ev := 5 }
    else m
  if 16777216 ≤ m.unacked then { m with withheld := true } else m

/-- A record written under R425: none where every place is taken. -/
def Meter.write (m : Meter) (r : RecordIn) : Meter := if 16777216 ≤ m.unacked then m else (m.put r).checkStorage

/-- The hub's event when 12,582,912 records are unacknowledged, once until acknowledgement brings them below (R435). -/
def Hub.withMeter (h : Hub) (f : Meter → Meter) : Hub :=
  match h.meter with
  | none => h
  | some m =>
    let m' := f m
    let high := decide (12582912 ≤ m'.unacked)
    let h := { h with meter := some { m' with highRaised := high } }
    if high && !m.highRaised then h.event 0xD010 0 m'.unacked else h

/-- A credit pulse to a channel (R419), unless the meter withholds credits (R425). -/
def Hub.credit (h : Hub) (n : Nat) : Hub :=
  match h.meter with
  | none => h
  | some m => if m.withheld then h else { h with out := .pin ("CH" ++ toString n ++ "_MTR_CREDIT") 1 :: h.out }

/-- The account of a channel and tag, or a new one. -/
def Meter.account (m : Meter) (ch tag : Nat) : MeterAcc :=
  (m.accs.find? (fun a => decide (a.ch = ch ∧ a.tag = tag))).getD ⟨ch, tag, 0, 0, 0, 0, 0, 0, 0, false⟩

/-- An account replaced. -/
def Meter.setAccount (m : Meter) (a : MeterAcc) : Meter :=
  { m with accs := m.accs.filter (fun b => !decide (b.ch = a.ch ∧ b.tag = a.tag)) ++ [a] }

/-- The residency of one slot's last totals accrued up to `t` (R420). -/
def Meter.accrue (m : Meter) (x : MeterSlot) (t : Nat) : Meter :=
  let a := m.account x.ch x.tag
  let dt := t - x.at_
  let m := m.setAccount { a with resT0 := a.resT0 + x.t0 * dt, resOut := a.resOut + x.out * dt, slot := x.slot, stream := x.stream }
  { m with slots := m.slots.map (fun y => if decide (y.ch = x.ch ∧ y.stream = x.stream ∧ y.slot = x.slot) then { y with at_ := max y.at_ t } else y) }

/-- The frame counts as an arrival from its channel (R420). -/
def Meter.heard (m : Meter) (f : LinkFrame) : Meter := { m with lastFrame := AMap.put m.lastFrame (chNum f.ch) m.timeUs }

/-- The residency of this slot's older streams ends where its totals of stream `stream` begin (R416, R421): it is accrued until now and stops. -/
def Meter.endOlder (m : Meter) (ch slot stream : Nat) : Meter :=
  let older := fun (y : MeterSlot) => decide (y.ch = ch ∧ y.slot = slot ∧ y.stream ≠ stream)
  let m := (m.slots.filter older).foldl (fun m y => m.accrue y m.timeUs) m
  { m with slots := m.slots.map (fun y => if older y then { y with t0 := 0, out := 0 } else y) }

/-- on_totals of R420. -/
def Meter.onTotals (m : Meter) (f : LinkFrame) : Meter :=
  let ch := chNum f.ch
  let old := m.slots.find? (fun y => decide (y.ch = ch ∧ y.stream = f.stream ∧ y.slot = f.slot))
  let x := old.getD ⟨ch, f.stream, f.slot, f.tag, 0, 0, 0, 0, 0, m.timeUs, true⟩
  if f.prompt < x.prompt ∨ f.output < x.output ∨ f.attached < x.attached then
    ({ m with faults := m.faults + 1 }).write { RecordIn.blank 3 (ch + 16 * f.slot) m.nowMs with ev := 3, stream := f.stream }
  else
    let m := m.endOlder ch f.slot f.stream
    let a := m.account ch f.tag
    let dt := m.timeUs - x.at_
    let m := m.setAccount { a with prompt := a.prompt + (f.prompt - x.prompt), output := a.output + (f.output - x.output),
                                   attached := a.attached + (f.attached - x.attached), resT0 := a.resT0 + x.t0 * dt,
                                   resOut := a.resOut + x.out * dt, slot := f.slot, stream := f.stream, isFirst := a.isFirst || old.isNone }
    let y : MeterSlot := ⟨ch, f.stream, f.slot, f.tag, f.prompt, f.output, f.attached, f.t0, f.out, m.timeUs, false⟩
    { m with slots := m.slots.filter (fun z => !decide (z.ch = ch ∧ z.stream = f.stream ∧ z.slot = f.slot)) ++ [y] }

/-- A frame taken in by the meter: a bad CRC is discarded and counted; each frame taken in is answered with a credit (R419, R420). -/
def Hub.takeFrame (h : Hub) (f : LinkFrame) (crcOk : Bool) (k : Meter → Meter) : Hub :=
  match h.meter with
  | none => h
  | some _ =>
    if !crcOk then h.withMeter (fun m => { m with discards := m.discards + 1 })
    else (h.withMeter (fun m => k (m.heard f))).credit (chNum f.ch)

/-- METER_TOTALS_FRAME (R420). -/
def execMeterTotalsFrame (f : LinkFrame) (crcOk : Bool) (s : State) : Host.Outcome State Fault Refusal :=
  onHub (fun h => h.takeFrame f crcOk (fun m => m.onTotals f)) s

/-- METER_HELLO_FRAME (R418, R420, R422): the first HELLO of a stream writes a stream-start record. -/
def execMeterHelloFrame (f : LinkFrame) (crcOk : Bool) (s : State) : Host.Outcome State Fault Refusal :=
  onHub (fun h => h.takeFrame f crcOk (fun m =>
    if m.slots.any (fun y => decide (y.ch = chNum f.ch ∧ y.stream = f.stream)) then m
    else
      let m := m.write { RecordIn.blank 3 (chNum f.ch + 16 * f.slot) m.nowMs with ev := 2, stream := f.stream }
      { m with slots := m.slots ++ [⟨chNum f.ch, f.stream, 16, 0, 0, 0, 0, 0, 0, m.timeUs, true⟩] })) s

/-- METER_SUPPLY_FRAME (R432): the entering frame opens a supply event; the leaving one writes its record. -/
def execMeterSupplyFrame (f : LinkFrame) (crcOk : Bool) (s : State) : Host.Outcome State Fault Refusal :=
  onHub (fun h => h.takeFrame f crcOk (fun m =>
    let ch := chNum f.ch
    if f.supply.testBit 0 then
      { m with supplyAt := AMap.put m.supplyAt ch m.nowMs, vmin := if m.supplyAt.isEmpty then h.vin / 25 else min m.vmin (h.vin / 25),
               supplySince := if m.supplySince.contains ch then m.supplySince else m.supplySince ++ [ch] }
    else if f.supply.testBit 1 then
      match AMap.find m.supplyAt ch with
      | none => m
      | some t0 =>
        let m' := m.write { RecordIn.blank 2 ch m.nowMs with start := t0, vmin := m.vmin }
        { m' with supplyAt := AMap.del m'.supplyAt ch }
    else m)) s

/-- METER_UNMETERED_FRAME (R422): an unmetered report, whose START and END are its arrival. -/
def execMeterUnmeteredFrame (f : LinkFrame) (crcOk : Bool) (s : State) : Host.Outcome State Fault Refusal :=
  onHub (fun h => h.takeFrame f crcOk (fun m =>
    m.write { RecordIn.blank 4 (chNum f.ch + 16 * f.slot) m.nowMs with
                tag := f.tag, stream := f.stream, prompt := f.prompt, output := f.output, attached := f.attached, resT0 := f.unmetered })) s

/-- METER_CREDIT_TICK (R419): at least one pulse to each channel every 1 ms of meter time. -/
def execMeterCreditTick (s : State) : Host.Outcome State Fault Refusal :=
  onHub (fun h =>
    let h := h.withMeter (fun m => { m with timeUs := m.timeUs + 1000 })
    ((h.credit 0).credit 1).credit 2 |>.credit 3) s

/-- The interval records of the open accounts (R420, R422), closed at the present meter time; the remainder of a token-ms is carried on. One that is closed early is
EXTENDED, and so is the rest of its 10,000 ms (R426, R431). -/
def Meter.closeIntervals (m : Meter) (early : Bool) : Meter :=
  let m := m.slots.foldl (fun m x => m.accrue x m.timeUs) m
  let m := m.accs.foldl (fun m a =>
    if a.prompt = 0 ∧ a.output = 0 ∧ a.attached = 0 ∧ a.resT0 / 1000 = 0 ∧ a.resOut / 1000 = 0 then m
    else m.write { RecordIn.blank 1 (a.ch + 16 * a.slot) m.nowMs with
                     flags := b2n (m.gap.contains a.ch) + 2 * b2n (m.supplySince.contains a.ch) +
                              4 * b2n (m.extendedOpen || early) + 8 * b2n a.isFirst,
                     tag := a.tag, stream := a.stream, start := m.start, prompt := a.prompt, output := a.output, attached := a.attached,
                     resT0 := a.resT0 / 1000, resOut := a.resOut / 1000 }) m
  { m with accs := m.accs.map (fun a => { a with prompt := 0, output := 0, attached := 0, resT0 := a.resT0 % 1000, resOut := a.resOut % 1000,
                                                 isFirst := false }),
           gap := [], supplySince := m.supplyAt.map (·.1), extendedOpen := m.extended || early, start := m.nowMs }

/-- The bus as the meter senses it, in units of 10 mV: VMIN is the lowest of an event, in units of 0.25 V (R422, R488). -/
def Meter.saw (m : Meter) (v : Nat) : Meter := { m with vmin := min m.vmin (v / 25) }

/-- The meter as its input falls below the channel reset level (R432): a record of every open supply event, END all ones, and of every open interval. -/
def Meter.inputFails (m : Meter) : Meter :=
  (m.supplyAt.foldl (fun m p => m.write { RecordIn.blank 2 p.1 m.nowMs with start := p.2, stop := 2 ^ 64 - 1, vmin := m.vmin }) m).closeIntervals true

/-- METER_INTERVAL_BOUNDARY (R420, R425): the next multiple of 10,000 ms of meter time; while storage is extended the open intervals go on. -/
def execMeterIntervalBoundary (s : State) : Host.Outcome State Fault Refusal :=
  onHub (fun h => h.withMeter (fun m =>
    let t := (m.timeUs / 10000000 + 1) * 10000000
    let m := { m with timeUs := t }
    if m.extended then { m.slots.foldl (fun m x => m.accrue x m.timeUs) m with extendedOpen := true } else m.closeIntervals false)) s

/-- METER_LINK_GAP (R420): 100 ms without a frame from a channel: its residency stops 10 ms after the last frame. -/
def execMeterLinkGap (c : ChId) (s : State) : Host.Outcome State Fault Refusal :=
  onHub (fun h => h.withMeter (fun m =>
    let ch := chNum c
    match AMap.find m.lastFrame ch with
    | none => m
    | some t =>
      let m := (m.slots.filter (fun x => decide (x.ch = ch))).foldl (fun m x => m.accrue x (t + 10000)) m
      { m with timeUs := max m.timeUs (t + 100000), lastFrame := AMap.del m.lastFrame ch,
               slots := m.slots.map (fun x => if x.ch = ch then { x with t0 := 0, out := 0 } else x),
               gap := if m.gap.contains ch then m.gap else m.gap ++ [ch] })) s

/-- METER_INSERTED (step 5 of the replacement table, R431): self-test, the meter-start record, and credits. A meter that was in the socket has been
unplugged: its unacknowledged records stay in it and its open intervals are lost with it. -/
def execMeterInserted (m : NewMeter) (s : State) : Host.Outcome State Fault Refusal :=
  onHub (fun h =>
    let m0 : Meter := { serial := m.serial, timeUs := m.timeUs, start := m.timeUs / 10000000 * 10000, slots := [], accs := [], records := [], lastCtr := m.lastCtr,
                        chain := if m.lastCtr = 0 then List.replicate 64 0 else m.chain, acked := m.lastCtr, extended := false,
                        extendedOpen := false, removing := none, withheld := false, faults := 0, discards := 0, lastFrame := [], gap := [],
                        supplyAt := [], supplySince := [], vmin := 0, highRaised := false }
    let h := { h with meter := some (m0.write { RecordIn.blank 3 0 m0.nowMs with ev := 1 }) }
    ((h.credit 0).credit 1).credit 2 |>.credit 3) s

/-! ### The drain registers (R425, R431) -/

/-- Bytes of a record held, or all zeros; 0 names the meter certificate (MTR_DRAIN_SEL). -/
def Hub.drained (h : Hub) (ctr : Nat) : List Byte :=
  match h.meter with
  | none => List.replicate 256 0
  | some m => if ctr = 0 then Config.meterCert m.serial else (AMap.find m.records ctr).getD (List.replicate 256 0)

/-- MTR_DRAIN_SEL_WRITE (R425): a write captures record CTR into MTR_DRAIN_DATA. -/
def execMtrDrainSelWrite (a : Access) (s : State) : Host.Outcome State Fault Refusal :=
  onHub (fun h => let v := a.apply h.drainSel; { h with drainSel := v, drainData := h.drained v }) s

/-- MTR_DRAIN_ACK_WRITE (R425, R431): every record up to CTR is acknowledged; storage recovers once 1,048,576 places are free; after a removal record is
acknowledged the meter stops credits. -/
def execMtrDrainAckWrite (ctr : Nat) (s : State) : Host.Outcome State Fault Refusal :=
  onHub (fun h => h.withMeter (fun m =>
    let m := { m with acked := max m.acked (min ctr m.lastCtr) }
    let m := if m.extended && decide (m.unacked + 1048576 ≤ 16777216) then
        ({ m with extended := false, withheld := false }).put { RecordIn.blank 3 0 m.nowMs with ev := 6 }
      else if m.unacked < 16777216 then { m with withheld := false } else m
    match m.removing with
    | some r => if r ≤ m.acked then { m with withheld := true } else m
    | none => m)) s

/-- MTR_REMOVE (step 1 of the replacement table, R431): the open intervals close early, the removal record is written, REMOVE_READY is set. -/
def execMtrRemove (s : State) : Host.Outcome State Fault Refusal :=
  onHub (fun h =>
    match h.meter with
    | none => h
    | some m =>
      if m.removing.isSome then h
      else
        let m := (m.closeIntervals true).put { RecordIn.blank 3 0 m.nowMs with ev := 4 }
        ({ h with meter := some { m with removing := some m.lastCtr } }).event 0xD011 0 m.lastCtr) s

end Sys2Proof.Machine
end

