-- ==== Sys2Proof/Machine/Ports.lean ====
section
/-! DEFINITION. The meanings of what happens at a fabric port (R263 to R271, R286, R303): received frames, pauses, links, the lane mode and EID assignment. -/
namespace Sys2Proof.Machine
open Sys2Proof

/-! ### FAB_LANE_MODE_WRITE (R263, R268) -/

/-- The lanes regrouped: queued frames and what the old ports kept go, and the ports of the new mode are STOPPED. -/
def Chan.regroup (c : Chan) (mode : Nat) : Chan :=
  let old := c.fget Reg.FAB_LANE_MODE 1 0
  let c := (List.range c.ports).foldl Chan.dropQueued c
  let c := (List.range c.ports).foldl (fun c n => c.setPort n { c.port n with link := .training, rxPaused := [], pausedSince := [], stormed := [], txPaused := [], dropping := [] }) c
  let c := c.fset Reg.FAB_LANE_MODE 1 0 mode
  let c := (List.range c.ports).foldl (fun c n => (c.setFn (0x10 + n) { c.fn (0x10 + n) with st := .stopped }).setPort n { c.port n with link := .training }) c
  c.event 0x700C none mode old

/-- FAB_LANE_MODE_WRITE: discarded, with the locked-write event, while a port function is not STOPPED, and for the undefined mode 0b11. -/
def execFabLaneModeWrite (c : ChId) (a : Access) (s : State) : Host.Outcome State Fault Refusal :=
  onCh c (fun x =>
    if !x.regsLive ∨ !reaches a 1 0 then x
    else
      let mode := bits (a.apply 0) 1 0
      match x.portLock with
      | some n => x.lockedWrite Reg.FAB_LANE_MODE n
      | none =>
        if mode = 3 then x.lockedWrite Reg.FAB_LANE_MODE 0x10
        else if mode = x.fget Reg.FAB_LANE_MODE 1 0 then x
        else x.regroup mode) s

/-! ### Frames from the port's own base program (R271) -/

/-- The Ethernet header of a frame that the port originates (R265, R271). -/
def Chan.ethHead (c : Chan) (n prio etype : Nat) : List Byte :=
  let tag := if c.flag (Reg.FAB_PORT_L2 n) 63 then beBytes 2 0x8100 ++ beBytes 2 (prio * 8192 + c.fget (Reg.FAB_PORT_L2 n) 59 48) else []
  beBytes 6 (c.fget (Reg.FAB_PORT_L2 n) 47 0) ++ beBytes 6 (c.fget (Reg.FAB_PORT_CFG n) 47 0) ++ tag ++ beBytes 2 etype

/-- An IP packet of the port: source, destination, protocol, hop limit and payload. -/
def Chan.ipFrame (c : Chan) (n prio : Nat) (v6 : Bool) (src dst : List Byte) (proto hop : Nat) (pay : List Byte) : List Byte :=
  let tos := prio * 32 + 2
  if v6 then
    c.ethHead n prio 0x86DD ++ beBytes 4 (6 * 2 ^ 28 + tos * 2 ^ 20) ++ beBytes 2 pay.length ++ beBytes 1 proto ++ beBytes 1 hop ++ src ++ dst ++ pay
  else
    let hd := fun ck => beBytes 1 0x45 ++ beBytes 1 tos ++ beBytes 2 (20 + pay.length) ++ beBytes 2 0 ++ beBytes 2 0x4000 ++ beBytes 1 hop ++ beBytes 1 proto ++
      beBytes 2 ck ++ src ++ dst
    c.ethHead n prio 0x0800 ++ hd (65535 - onesSum (hd 0) 0) ++ pay

/-- A frame of the base program enqueued on port n; it belongs to no connection. -/
def Chan.sendOwn (c : Chan) (n prio : Nat) (data : List Byte) : Chan :=
  let data := data ++ List.replicate (60 - data.length) 0
  c.enqueue n prio ⟨data, data.length + 4, none, none, c.time⟩

/-- Does the channel hold an IPv4 or IPv6 address, and is it this one? -/
def Chan.ownsIp (c : Chan) (v6 : Bool) (ip : List Byte) : Bool :=
  c.eid.isSome && (if v6 then c.flag Reg.FAB_NET6_LO 0 else c.flag Reg.FAB_NET4 32) && decide (ip = c.ipOf v6 (c.fget Reg.CHN_EID 17 0))

/-- An ICMPv6 message with its checksum. -/
def icmp6 (src dst msg : List Byte) : List Byte :=
  let ck := 65535 - onesSum (src ++ dst ++ beBytes 4 msg.length ++ beBytes 4 58 ++ msg) 0
  msg.take 2 ++ beBytes 2 ck ++ msg.drop 4

/-- The answer to an ARP request for an address of the channel. -/
def Chan.answerArp (c : Chan) (n prio : Nat) (a : List Byte) : Chan :=
  if a.take 8 = beBytes 8 0x0001080006040001 ∧ c.ownsIp false ((a.drop 24).take 4) then
    c.sendOwn n prio (c.ethHead n prio 0x0806 ++ beBytes 8 0x0001080006040002 ++ beBytes 6 (c.fget (Reg.FAB_PORT_CFG n) 47 0) ++ (a.drop 24).take 4 ++ (a.drop 8).take 10)
  else c

/-- The answer to an ICMP echo request to an address of the channel. -/
def Chan.answerEcho (c : Chan) (n prio : Nat) (src dst msg : List Byte) : Chan :=
  if c.ownsIp false dst then
    let rest := msg.drop 4
    let ck := 65535 - onesSum (beBytes 4 0 ++ rest) 0
    c.sendOwn n prio (c.ipFrame n prio false dst src 1 64 (beBytes 2 0 ++ beBytes 2 ck ++ rest))
  else c

/-- The answer to a neighbour solicitation, or to an ICMPv6 echo request, for an address of the channel. -/
def Chan.answerIcmp6 (c : Chan) (n prio : Nat) (src dst msg : List Byte) : Chan :=
  if (msg.getD 0 0).toNat = 135 then
    let own := (msg.drop 8).take 16
    if c.ownsIp true own then
      let any := decide (src = List.replicate 16 0)
      let dest := if any then beBytes 2 0xFF02 ++ List.replicate 13 0 ++ beBytes 1 1 else src
      let na := beBytes 1 136 ++ beBytes 3 0 ++ beBytes 4 (if any then 0x20000000 else 0x60000000) ++ own ++ beBytes 2 0x0201 ++
        beBytes 6 (c.fget (Reg.FAB_PORT_CFG n) 47 0)
      c.sendOwn n prio (c.ipFrame n prio true own dest 58 255 (icmp6 own dest na))
    else c
  else if c.ownsIp true dst then c.sendOwn n prio (c.ipFrame n prio true dst src 58 64 (icmp6 dst src (beBytes 4 0x81000000 ++ msg.drop 4)))
  else c

/-! ### FRAME_RECEIVE (R265, R269 to R271) -/

/-- Where the steering of R270 puts a frame. -/
inductive Steer where
  | ring (r : Nat)
  | assign
  | arp
  | echo4
  | icmp6
  | other
  deriving DecidableEq, Repr

/-- The steering of a parsed frame of priority p. -/
def Chan.steer (c : Chan) (b : List Byte) (x : Parsed) (p : Nat) : Steer :=
  let body := b.drop (x.ip + (if x.v6 then 40 else 20))
  let ty := (body.getD 0 0).toNat
  let op := (b.getD (x.pay + 1) 0).toNat
  if x.isUdp ∧ x.dport = c.fget Reg.FAB_FMT_CFG 31 16 then (if op = 0x38 ∨ op = 0x39 then .assign else .ring (p / 2))
  else if x.isUdp ∧ x.dport = 4791 then .ring (4 + p / 4)
  else if x.etype = 0x0806 then .arp
  else if x.v4 ∧ x.proto = 1 ∧ ty = 8 then .echo4
  else if x.v6 ∧ x.proto = 58 ∧ (ty = 135 ∨ ty = 128) then .icmp6
  else .other

/-- The priority of a frame (R265): the PCP of its tag, or its DSCP shifted right by 3. -/
def Parsed.prio (x : Parsed) : Nat := if x.tagged then x.pcp else x.tos / 32

/-- A discard counted in RX_NOBUF. -/
def Chan.noBuf (c : Chan) (n : Nat) : Chan := c.bump (Reg.FAB_PORT_DROP n) 31 16 1

/-- A frame placed in a packet buffer on receive ring r of its port, and the pause that its priority may call for (R266, R270). -/
def Chan.placeFrame (c : Chan) (n r p : Nat) (data : List Byte) (h : Nat) : Chan :=
  let x := c.port n
  if 512 ≤ (x.rings.getD r []).length then c.noBuf n
  else
    let c := { c with fab := { c.fab with bufs := c.fab.bufs.put h ⟨data.length, Memory.write [] 0 data, true, some (n, p)⟩ } }
    let c := c.setPort n { x with rings := x.rings.set [] r (x.rings.getD r [] ++ [h]), held := x.held.set 0 p (x.held.getD p 0 + 1) }
    c.xoff n p

/-- A good frame steered (R270, R271): the base program answers what it answers, and discards the frames of ring 7. -/
def Chan.steerFrame (c : Chan) (n : Nat) (b : List Byte) (x : Parsed) : Chan :=
  let p := x.prio
  match c.freeHandle with
  | none => let c := c.noBuf n; c.event 0x7009 none n (c.fget (Reg.FAB_PORT_DROP n) 31 16)
  | some h =>
    match c.steer b x p with
    | .ring r => c.placeFrame n r p b h
    | .assign => c.placeFrame n 6 p b h
    | .arp => c.answerArp n p (b.drop (if x.tagged then 18 else 14))
    | .echo4 => c.answerEcho n p ((b.drop (x.ip + 12)).take 4) ((b.drop (x.ip + 16)).take 4)
        ((b.drop (x.ip + 20)).take (beVal ((b.drop (x.ip + 2)).take 2) - 20))
    | .icmp6 => c.answerIcmp6 n p ((b.drop (x.ip + 8)).take 16) ((b.drop (x.ip + 24)).take 16) ((b.drop (x.ip + 40)).take (beVal ((b.drop (x.ip + 4)).take 2)))
    | .other => c.noBuf n

/-- FRAME_RECEIVE: `data` are the bytes of the frame before its FCS. MAC control frames are taken by the port itself: a global pause is discarded without effect, and
a PFC frame is PFC_FRAME_RECEIVED. -/
def execFrameReceive (c : ChId) (port : Nat) (data : List Byte) (fcsOk : Bool) (s : State) : Host.Outcome State Fault Refusal :=
  onCh c (fun x =>
    let size := data.length + 4
    if !x.serves ∨ !x.hasPort port ∨ (x.port port).link ≠ .up ∨ size < 64 then x
    else if x.maxFrame port < size then x.bump (Reg.FAB_PORT_DROP port) 63 48 1
    else if !fcsOk then x.bump (Reg.FAB_PORT_DROP port) 47 32 1
    else
      let q := parseFrame data
      if q.etype = 0x8808 then x
      else if q.v6 ∧ q.isUdp ∧ q.dport = x.fget Reg.FAB_FMT_CFG 31 16 ∧ !q.udpOk then x.bump (Reg.FAB_PORT_DROP port) 47 32 1
      else if x.fnState (0x10 + port) = .stopped ∧
          !(decide (x.steer data q q.prio = .assign ∧ beVal (data.take 6) = x.fget (Reg.FAB_PORT_CFG port) 47 0)) then x.noBuf port
      else x.steerFrame port data q) s

/-! ### Priority flow control (R266, R267) -/

/-- PFC_FRAME_RECEIVED: a lossless priority pauses for the quanta, or resumes at quanta 0. -/
def execPfcFrameReceived (c : ChId) (port prio quanta : Nat) (s : State) : Host.Outcome State Fault Refusal :=
  onCh c (fun x =>
    let y := x.port port
    if !x.serves ∨ !x.hasPort port ∨ 7 < prio ∨ y.link ≠ .up ∨ x.fnState (0x10 + port) = .stopped ∨ !x.lossless port prio then x
    else if quanta = 0 then x.setPort port (y.resumed prio x.time)
    else x.setPort port { y with rxPaused := y.rxPaused.put prio (x.time + x.pauseNs quanta),
                                 pausedSince := if (y.rxPaused.find prio).isSome then y.pausedSince else y.pausedSince.put prio x.time,
                                 dropping := if (y.dropping.find prio).isSome then y.dropping.put prio 0 else y.dropping }) s

/-- PAUSE_EXPIRY: the pause time of a priority runs out. -/
def execPauseExpiry (c : ChId) (port prio : Nat) (s : State) : Host.Outcome State Fault Refusal :=
  onCh c (fun x => match (x.port port).rxPaused.find prio with
    | some t => let x := x.reach t; x.setPort port ((x.port port).resumed prio x.time)
    | none => x) s

/-- PFC_PAUSE_REPEAT: the PFC frame is repeated while the count stays at or above XON. -/
def execPfcPauseRepeat (c : ChId) (port prio : Nat) (s : State) : Host.Outcome State Fault Refusal :=
  onCh c (fun x => match (x.port port).txPaused.find prio with
    | some t =>
      let x := x.reach t
      if x.xon port ≤ (x.port port).held.getD prio 0 ∨ x.fnState (0x10 + port) = .stopping then x.pausePartner port prio else x
    | none => x) s

/-- The frames queued for a priority discarded by the watchdog, counted in TX_DISCARD. -/
def Chan.dropPrio (c : Chan) (n p : Nat) : Chan :=
  (List.range 16).foldl (fun c q =>
    if c.fget (Reg.TM_Q_CFG n q) 58 56 = p then
      (List.range ((c.qframes n q).length)).foldl (fun c _ => (c.popFrame n q).bump (Reg.FAB_PORT_DROP n) 15 0 1) c
    else c) c

/-- PFC_WATCHDOG_EXPIRY: a priority has been paused for longer than PFC_WD. -/
def execPfcWatchdogExpiry (c : ChId) (port prio : Nat) (s : State) : Host.Outcome State Fault Refusal :=
  onCh c (fun x =>
    let y := x.port port
    let wd := x.fget (Reg.FAB_PFC_CFG port) 7 0
    match y.pausedSince.find prio with
    | some t =>
      if wd = 0 ∨ y.stormed.contains prio ∨ !x.hasPort port then x
      else
        let x := x.reach (t + wd * 10 * ms + 1)
        let drop := (x.fget (Reg.FAB_PFC_CFG port) 55 48).testBit prio
        let x := x.setPort port { y with stormed := prio :: y.stormed, dropping := if drop then y.dropping.put prio 0 else y.dropping }
        let x := x.event 0x7004 none port (2 ^ prio)
        if drop then x.dropPrio port prio else x
    | none => x) s

/-- WATCHDOG_DROP_END: the pause has been absent for 10 ms. -/
def execWatchdogDropEnd (c : ChId) (port prio : Nat) (s : State) : Host.Outcome State Fault Refusal :=
  onCh c (fun x => match (x.port port).dropping.find prio with
    | some 0 => x
    | some t => let x := x.reach t; x.setPort port { x.port port with dropping := (x.port port).dropping.del prio }
    | none => x) s

/-! ### Links (R264, R286, R303, R316) -/

/-- LINK_UP: the port's link finishes training. -/
def execLinkUp (c : ChId) (port : Nat) (s : State) : Host.Outcome State Fault Refusal :=
  onCh c (fun x =>
    if !x.serves ∨ !x.hasPort port ∨ (x.port port).link = .up then x
    else
      let x := (x.setPort port { x.port port with link := .up }).event 0x7002 none port (x.fget Reg.FAB_LANE_MODE 1 0)
      x.moveConns.2.carryOn.keepHb) s

/-- A port loses its link: queued frames are discarded, and its connections move to another port. -/
def Chan.linkLost (x : Chan) (port : Nat) : Chan :=
  let y := x.port port
  if !x.hasPort port ∨ y.link = .down then x
  else
    let x := (x.setPort port { y with link := .down, rxPaused := [], pausedSince := [], stormed := [], txPaused := [], dropping := [] }).dropQueued port
    let (n, x) := x.moveConns
    (x.event 0x7001 none port n).carryOn

/-- LINK_DOWN. -/
def execLinkDown (c : ChId) (port : Nat) (s : State) : Host.Outcome State Fault Refusal := onCh c (fun x => x.linkLost port) s

/-- FEC_DEGRADED_WINDOW: the codewords of 1 s counted and judged. -/
def execFecDegradedWindow (c : ChId) (port codewords corrected uncorrectable : Nat) (s : State) : Host.Outcome State Fault Refusal :=
  onCh c (fun x =>
    if !x.serves ∨ !x.hasPort port then x
    else
      let x := (x.bump (Reg.FAB_PORT_FEC port) 63 32 uncorrectable).bump (Reg.FAB_PORT_FEC port) 31 0 corrected
      if 0 < uncorrectable ∨ codewords < corrected * 100000 then x.event 0x7003 none port uncorrectable else x) s

/-! ### EID_ASSIGN and EID_REPLY (R55, R269, R276, R277) -/

/-- The reply to an assignment: request number, CHN_EID as it stands, and the code. -/
def Chan.eidReply (c : Chan) (n reqNo code : Nat) : Chan :=
  c.emit (.fmt 0 "EID_REPLY" [n, reqNo, c.fget Reg.CHN_EID 63 63, c.fget Reg.CHN_EID 17 0, code] [])

/-- EID_ASSIGN: the signature is checked under the fabric-manager key, and the EID is applied while every port is STOPPED. -/
def execEidAssign (c : ChId) (port reqNo : Nat) (valid : Bool) (eid : Nat) (sigOk : Bool) (s : State) : Host.Outcome State Fault Refusal :=
  onChS c (fun x =>
    let eid := eid % 2 ^ 18
    if !x.serves ∨ !x.hasPort port ∨ (x.port port).link ≠ .up then x
    else if x.sec.fmKey.isNone ∨ !sigOk then (x.event 0x700A none eid 2).eidReply port reqNo 2
    else match x.portLock with
      | some n => ((x.lockedWrite Reg.CHN_EID n).event 0x700A none eid 1).eidReply port reqNo 1
      | none => (x.setEid valid eid).keepHb.eidReply port reqNo 0) s

/-- EID_REPLY: it reports to a fabric manager, and changes nothing in a channel. -/
def execEidReply (c : ChId) (_port _reqNo : Nat) (_valid : Bool) (_eid _code : Nat) (s : State) : Host.Outcome State Fault Refusal := onCh c (fun x => x) s

end Sys2Proof.Machine
end

