-- ==== Sys2Proof/Machine/CfgOps.lean ====
section
/-! DEFINITION. The configuration record (R391, R501) and the firmware image's checks (R406, R407). -/
namespace Sys2Proof.Machine
open Sys2Proof

/-- An item of a configuration record: TYPE, A, B and KEY. -/
structure CfgItem where
  ty : Nat
  a : Nat
  b : Nat
  key : List Byte
  deriving DecidableEq, Repr

/-- n bytes of a record from byte `i`. -/
def slice (l : List Byte) (i n : Nat) : List Byte := (l.drop i).take n

/-- The number in n bytes of a record from byte `i`. -/
def field (l : List Byte) (i n : Nat) : Nat := leVal (slice l i n)

/-- Item i of a record. -/
def cfgItem (r : List Byte) (i : Nat) : CfgItem :=
  let x := slice r (64 + 48 * i) 48
  ⟨field x 0 1, field x 4 4, field x 8 8, slice x 16 32⟩

/-- The items of a record. -/
def cfgItems (r : List Byte) : List CfgItem := (List.range (field r 8 4)).map (cfgItem r)

/-- VARIANT of the channel (CHN_ID). -/
def Chan.variant (c : Chan) : Nat := if c.g8x then 2 else 1

/-- Is a record well-formed for the channel (R501)? -/
def Chan.cfgFormed (c : Chan) (r : List Byte) : Bool :=
  decide (64 ≤ r.length ∧ field r 0 4 = 0xBAF1C001 ∧ field r 4 1 = 1 ∧ field r 5 1 = c.variant ∧ field r 8 4 ≤ 16384 ∧ r.length = 64 + 48 * field r 8 4 + 64) &&
    (decide (field r 12 16 = 0) || decide (slice r 12 16 = c.deviceKeyId)) && (cfgItems r).all (fun i => decide (1 ≤ i.ty ∧ i.ty ≤ 5))

/-- Does the owner's signature over a record verify? An unowned channel has no owner key. -/
def Chan.cfgSigned (c : Chan) (r : List Byte) : Bool :=
  match c.sec.flash.owner with
  | some k => signs k (r.take (r.length - 64)) (r.drop (r.length - 64))
  | none => false

/-- Why the record in flash is refused (R391), in the bits of event 0xC003. -/
def Chan.cfgFault (c : Chan) : Option Nat :=
  if c.sec.flash.owner.isNone then some 1
  else if !c.cfgFormed c.sec.flash.cfg then some 4
  else if !c.cfgSigned c.sec.flash.cfg then some 2
  else none

/-- A register item applied: the fields whose reset value is CR take its value, but a MODE of 0b11 in FAB_LANE_MODE loads 0b00 (R263). -/
def applyItem (regs : AMap Nat) (i : CfgItem) : AMap Nat :=
  if i.ty ≠ 1 then regs
  else match findReg channelRegs i.a with
    | none => regs
    | some (d, _) =>
      if d.name = "CHN_FN_STATE" then regs
      else
        let v := (d.fields.filter FieldDesc.isCr).foldl (fun v f => setBits v f.hi f.lo (bits i.b f.hi f.lo)) (regs.getD i.a 0)
        regs.set 0 i.a (if i.a = Reg.FAB_LANE_MODE ∧ bits v 1 0 = 3 then setBits v 1 0 0 else v)

/-- The last item of a type, where one is given. -/
def lastItem (l : List CfgItem) (p : CfgItem → Bool) : Option CfgItem := (l.filter p).getLast?

/-- The role program that the firmware image holds for a role (R27). -/
def Prog.bootRole : Prog :=
  { kind := .role, faulted := false, grants := 15, version := 0, keyId := Config.programKeyId, scratch := 262144, coresMax := 64, tenant := 0, entries := [], text := [],
    data := [], evcBase := 0, evcCount := 0, imgAt := 0, imgLen := 0, lastExc := none, excCode := 0 }

/-- The functions that the items name RUNNING, in ascending order: a port or a scheduler that the lane mode lacks, and an index of no function, are left out by `fnPresent`. -/
def Chan.namedRunning (c : Chan) (l : List CfgItem) : List Nat :=
  (List.range 512).filter (fun n => decide (n ≠ 0) && c.fnPresent n && (match lastItem l (fun i => decide (i.ty = 2 ∧ i.a = n)) with | some i => i.b.testBit 0 | none => false))

/-- The settings of a record loaded, the digest computed, and the functions and the boot role that it names started (R27, R451, R501). -/
def Chan.applyConfig (c : Chan) (l : List CfgItem) : Chan :=
  let role := roleOf (((lastItem l (fun i => decide (i.ty = 3))).map (fun i => i.b % 256)).getD 0)
  let c := { c with regs := l.foldl applyItem c.regs,
                    sec := { c.sec with fmKey := (lastItem l (fun i => decide (i.ty = 4))).map CfgItem.key,
                                        debug := match lastItem l (fun i => decide (i.ty = 5)) with | some i => i.b.testBit 0 | none => false,
                                        bootRole := match role with | .unassigned => 0 | .prompt => 1 | .generation => 2 | .cache => 3 } }
  let first := (c.usedSlots c.tableB).headD 0
  let c := { c with gaf := { c.gaf with runBase := c.fget Reg.GAF_SCHED_CTRL 6 0, curSlot := first, slotEnd := c.time + c.slotLen c.tableB first * 1000 } }
  let c := { c with host := { c.host with tags := (List.range 16).foldl (fun m t => m.set 0 t (c.tag t)) [] },
                    role := { c.role with profiles := c.profileRegs } }
  let c := if role = .unassigned then c.recompute
    else ((c.putRole role (Config.bootRoleDigest c.sec.fwDigest c.sec.bootRole) (some Prog.bootRole)).recompute).startFn none 0
  (c.namedRunning l).foldl (fun c n => c.startFn none n) c

/-- The record in flash loaded by a reset that loads CR fields (R391, R501). A refused one leaves every CR field zero. -/
def Chan.loadConfig (c : Chan) : Chan :=
  match c.cfgFault with
  | none => c.applyConfig (cfgItems c.sec.flash.cfg)
  | some d => { c with sec := { c.sec with fmKey := none, debug := false, bootRole := 0 } }.recompute.event 0xC003 none 0 d

/-! ### Firmware images -/

/-- The status of an image's first failed check (R407, step 1): form, signature, version floor; none where it passes. -/
def Chan.fwFault (c : Chan) (b : List Byte) : Option Nat :=
  if b.length < 128 ∨ 248 * mib < b.length ∨ field b 0 4 ≠ 0xBAF1F001 ∨ field b 4 1 ≠ 1 ∨ !(field b 5 1).testBit (if c.g8x then 1 else 0) ∨ field b 12 4 ≠ b.length then some 0xC4
  else if !signs Config.firmwareKey (b.take (b.length - 64)) (b.drop (b.length - 64)) then some 0xC2
  else if field b 8 4 < c.sec.flash.fwFloor then some 0xC3
  else none

/-- What is kept of an image that passed. -/
def stagedOf (b : List Byte) : StagedFw := ⟨field b 8 4, sha512 (b.take (b.length - 64)), field b 6 2⟩

/-- The image of `f` programmed and verified, with FW_FLOOR raised to its VERSION under RAISE. -/
def Chan.programFlash (c : Chan) (f : StagedFw) (raise : Bool) : Chan :=
  { c with sec := { c.sec with flash := { c.sec.flash with fwValid := true, fwVersion := f.version, fwDigest := f.digest, journalFmt := f.journalFmt,
                                                           fwFloor := if raise then f.version else c.sec.flash.fwFloor } } }

end Sys2Proof.Machine
end

