-- ==== Sys2Proof/Machine/Restart.lean ====
section
/-! DEFINITION. What the channel makes of a context-table entry that it loads from the journal again (R89, step 4, and R143): after a warm channel reset every one, after
a double-bit error the one that was struck (R445). -/
namespace Sys2Proof.Machine
open Sys2Proof

/-- The image of a slot's latest journal record, or that of the newer snapshot where no later record names the slot (R88, R89). -/
def Chan.lastImage (c : Chan) (slot : Nat) : Entry :=
  let j := c.ctx.journal
  match j.recs.find? (fun r => decide (r.slot = slot)) with
  | some r => r.image
  | none => (if j.snapA.seq ≤ j.snapB.seq then j.snapB.table else j.snapA.table).getD slot Entry.free

/-- The journal records from `seq` on are fix-ups (R89): CAUSE 0x05. -/
def Chan.asFixUps (c : Chan) (seq : Nat) : Chan :=
  { c with ctx := { c.ctx with journal := { c.ctx.journal with recs := c.ctx.journal.recs.map (fun r => if seq < r.seq then { r with cause := 5 } else r) } } }

/-- The commands in flight on a handoff complete with 0x4D (R143). -/
def Chan.cutCommands (c : Chan) (slot : Nat) : Chan :=
  match c.hand slot with
  | none => c
  | some h =>
    if h.rebuild.isSome then c
    else
      let c := (c.offerEnds slot 0x4D 0).cancelEnds slot 0x4D
      match c.hand slot with
      | some h => c.setHand slot { h with cmd := none }
      | none => c

/-- The transfer region of an OFFERED context registered under a new key, which the OFFER names from then on; push mode has none (R135, R143). -/
def Chan.reRegister (c : Chan) (slot : Nat) (h : Handoff) : Chan :=
  if h.offer.push then c
  else match (c.dropHandRegion slot).baseRegion (.transfer slot) 1 (c.transferSpan slot) (bits (c.entry slot).peer 47 30) true with
    | some (r, c) => c.setHand slot { h with region := some r, offer := { h.offer with region := c.regionField r } }
    | none => c

/-- The resolution of an OFFERED entry (R143). -/
def Chan.restartOffered (c : Chan) (slot : Nat) : Chan :=
  match c.hand slot with
  | none => c
  | some h => match (c.entry slot).sub with
    | 0 =>
      let c := c.reRegister slot h
      match c.hand slot with
      | some h => (c.setHand slot { h with tries := 1, due := c.time + c.offerRetry }).sendOffer slot true
      | none => c
    | 1 => c.returnOffer slot 0x4D 0
    | 2 =>
      let c := c.reRegister slot h
      match c.hand slot with
      | some h => (c.setHand slot { h with due := c.time + c.acceptRetry }).sendOffer slot true
      | none => c
    | _ => c.released slot h

/-- The resolution of an INBOUND entry (R143). -/
def Chan.restartInbound (c : Chan) (slot : Nat) : Chan :=
  match c.hand slot with
  | none => c
  | some h =>
    if (c.entry slot).sub < 3 then c.abortInbound slot 0x0B 0x4D
    else (c.setHand slot { h with tries := 1, due := c.time + c.acceptRetry }).sendAccept (bits (c.entry slot).peer 47 30) h.offer (c.handle slot)

/-- The fields that a fix-up settles in every entry: PROVISIONAL_LEN and the bound counters zero, GOVERNOR as last journalled, DECODING in PLAIN, and a tombstone that
starts again. -/
def Entry.fixed (e : Entry) (last : Entry) (now : Nat) : Entry :=
  { e with provisional := 0, governor := last.governor, sub := if e.state = .decoding then 0 else e.sub,
           stateTime := if e.state = .retired then now else e.stateTime, evc0 := 0, evc1 := 0, evc2 := 0, evc3 := 0 }

/-- One entry as step 4 of R89 leaves it. `bad` is the fault of an entry whose page-group table cannot be read (0x01) or whose image is inconsistent (0x03). -/
def Chan.fixUp (c : Chan) (slot : Nat) (bad : Option Nat) : Chan :=
  let e := c.entry slot
  if e.state = .free then c
  else
    let seq := c.ctx.journal.seq
    let f := e.fixed (c.lastImage slot) c.time
    let c := if { f with governor := e.governor } = e then c.setEntry slot f else c.journal slot 5 f
    let c := { c with drafts := c.drafts.del slot }
    let c := match bad with
      | some code => c.cutCommands slot |>.fault slot code
      | none => match e.state with
        | .offered => (c.cutCommands slot).restartOffered slot
        | .inbound => (c.cutCommands slot).restartInbound slot
        | _ => c
    (c.setEntry slot { c.entry slot with evc0 := 0, evc1 := 0, evc2 := 0, evc3 := 0 }).asFixUps seq

/-- Appends that are not committed are lost with the reset (R89, R480): F[l] of every layer equals COMMITTED_LEN (R119), and nothing waits for placement. -/
def Chan.loseAppends (c : Chan) (slot : Nat) : Chan :=
  let e := c.entry slot
  c.setMap slot { (c.map slot).setFill (c.geom e.profile).layers e.committed with staged := [] }

end Sys2Proof.Machine
end

