-- ==== Sys2Proof/Machine/RxOps.lean ====
section
/-! DEFINITION. The receiver and the sender of R287 to R290 as every packet uses them, for FMT and for RoCE. -/
namespace Sys2Proof.Machine
open Sys2Proof

/-! ### The receiver -/

/-- A packet taken in order: the next PSN is expected, and it is acknowledged at once, later, or when its units are placed (R118, R287, R288). `n` PSNs are used. -/
def Chan.accepted (c : Chan) (k psn n : Nat) (ar : Bool) (units : Nat) : Chan :=
  let x := c.conn k
  let x := { x with ep := (x.ep + n) % psnMod, nakSent := false, dupRun := false, unacked := x.unacked + 1,
                    waiting := if units = 0 then x.waiting else x.waiting ++ [(psn, units)] }
  if units ≠ 0 then c.setConn k x
  else if ar ∨ c.ackEvery ≤ x.unacked then (c.setConn k x).sendAck k
  else c.setConn k { x with ackDue := some (x.ackDue.getD (c.time + c.ackDelay)) }

/-- A packet refused in order (R287, R289): receiver not ready leaves its PSN expected; any other NAK counts it as received, and a protection or invalid-request NAK is
reported at most once per 1 ms per region. -/
def Chan.refused (c : Chan) (k psn addr eid : Nat) (r : Refuse) : Chan :=
  let x := c.conn k
  if r.1 = 3 then (c.setConn k { x with dupRun := false }).sendNak k 3 psn r.2
  else
    let c := c.setConn k { x with ep := (psn + 1) % psnMod, nakSent := false, dupRun := false }
    let c := if (r.1 = 2 ∨ r.1 = 4) ∧ x.roce.isNone then
        c.eventEvery ms 0x7007 (bits addr 45 28) (c.connSlot k) addr (fun n => r.2 + eid % 2 ^ 18 * 2 ^ 24 + min n 65535 * 2 ^ 48)
      else c
    c.sendNak k r.1 psn r.2

/-- The sequence check of R287: judged in order, answered with one sequence NAK where packets are missing, or answered again as a duplicate. -/
def Chan.inOrder (c : Chan) (k psn : Nat) (judge : Chan → Chan) (again : Chan → Chan) : Chan :=
  let x := c.conn k
  let d := psnSub psn x.ep
  if d = 0 then judge c
  else if d < 2 ^ 23 then
    let c := c.setConn k { x with dupRun := false }
    if x.nakSent then c
    else
      let c := c.sendNak k 1 x.ep 0
      c.setConn k { c.conn k with nakSent := true }
  else
    let c := again (c.bump Reg.FAB_RX_CNT 31 0 1)
    let c := if x.dupRun then c else c.sendAck k
    c.setConn k { c.conn k with dupRun := true }

/-- The ingress policer judges a frame of the connection's tenant (R311): none where it is red, else the channel with the mark it may bring. -/
def Chan.admitFrame (c : Chan) (k size : Nat) (ce : Bool) : Option Chan :=
  let mark := fun (c : Chan) (m : Bool) => let x := c.conn k; c.setConn k { x with ece := x.ece || m }
  match c.connSlot k with
  | none => some (mark c ce)
  | some t => match c.police t 0 size with
    | (.green, c) => some (mark c ce)
    | (.yellow, c) => some (mark c (ce || c.yelEcn t 0))
    | (.red, _) => none

/-- What a red frame leaves: the policer's count (R311). -/
def Chan.redFrame (c : Chan) (k size : Nat) : Chan :=
  match c.connSlot k with
  | none => c
  | some t => (c.police t 0 size).2

/-! ### The sender -/

/-- The retransmission timeout of a connection at its start: RTO_INIT, or the local ACK timeout of a queue pair (R290, R297). -/
def Chan.rtoOf (c : Chan) (x : Conn) : Nat :=
  match x.roce with
  | some q => 4096 * 2 ^ q.timeout
  | none => c.rtoInit

/-- More steps than cwnd has values. -/
def growFuel : Nat := 1100

/-- cwnd grows by one after each cwnd packets acknowledged, up to WIN_MAX (R290). -/
def growWindow (winMax : Nat) : Nat → Nat → Nat → Nat × Nat
  | 0, cwnd, grown => (cwnd, grown)
  | n + 1, cwnd, grown => if cwnd ≤ grown then growWindow winMax n (min (cwnd + 1) winMax) (grown - cwnd) else (cwnd, grown)

/-- Everything below `to` is acknowledged (R287): progress restarts the timer at its first value. -/
def Chan.release (c : Chan) (k dest : Nat) : Chan :=
  let x := c.conn k
  let n := psnSub dest x.una
  if n = 0 then c
  else
    let (cwnd, grown) := growWindow c.winMax growFuel (max 1 x.cwnd) (x.grown + n)
    let rto := c.rtoOf x
    c.setConn k { x with una := dest, retries := 0, rnrRun := 0, rto := rto, rtoDue := some (c.time + rto), cwnd := cwnd, grown := grown }

/-- ECE in an acknowledgement cuts the window by an eighth, at most once per window of packets, in place of the growth that the acknowledgement would have
brought to the window `was` and its count (R290). -/
def Chan.cutWindow (c : Chan) (k : Nat) (ece : Bool) (was : Conn) : Chan :=
  let x := c.conn k
  if ece ∧ (x.lastCut = 0 ∨ psnSub x.una (x.lastCut - 1) < 2 ^ 23) then
    c.setConn k { x with cwnd := max 1 (was.cwnd - max 1 (was.cwnd / 8)), grown := was.grown, lastCut := x.nx + 1 }
  else c

/-- The operation that uses PSN p. -/
def Conn.opAt (x : Conn) (p : Nat) : Option TxOp := x.ops.find? (fun o => o.sent && decide (psnSub p o.psn < o.npkts))

/-- An operation replaced. -/
def Conn.setOp (x : Conn) (o : TxOp) : Conn := { x with ops := x.ops.map (fun o' => if o'.order = o.order then o else o') }

/-- The packet at PSN e is refused for good (R289): its operation fails, with what 0x84 names in the result (R301). -/
def Chan.opRefused (c : Chan) (k e status reason : Nat) : Chan :=
  let x := c.conn k
  match x.opAt e with
  | none => c
  | some o =>
    if o.failed ≠ 0 then c
    else c.setConn k (x.setOp { o with failed := status, host := if status = 0x84 then reason + (o.addr + psnSub e o.psn * x.pmtu) % 2 ^ 46 * 256 else 0 })

/-- A receiver was not ready (R289): a wait of RNR_DELAY, and ERROR after 7 in a row. -/
def Chan.notReady (c : Chan) (k e : Nat) : Chan :=
  let run := (c.conn k).rnrRun + 1
  let c := c.release k e
  if 7 ≤ run then c.connError k 1 false
  else c.setConn k { c.conn k with rnrRun := run, rnrDue := some (c.time + c.rnrDelay), rtoDue := none }

/-- Is a PSN within what is outstanding: [una, nx), or with `upTo` [una, nx]? -/
def Conn.within (x : Conn) (p : Nat) (upTo : Bool) : Bool := decide (psnSub p x.una < psnSub x.nx x.una + b2n upTo)

/-- An acknowledgement of everything up to PSN a. -/
def Chan.acked (c : Chan) (k a : Nat) : Chan := if (c.conn k).within a false then c.release k ((a + 1) % psnMod) else c

/-- A NAK by its syndrome (R289). -/
def Chan.nakked (c : Chan) (k syndrome e reason : Nat) : Chan :=
  if !(c.conn k).within e true then c
  else match syndrome with
    | 1 => ((c.release k e).bump Reg.FAB_RETX_CNT 31 0 1).resend k
    | 3 => c.notReady k e
    | 2 => (c.opRefused k e 0x84 reason).acked k e
    | 4 | 5 => (c.opRefused k e 0x85 0).acked k e
    | _ => c

/-- A piece of a load's answer, or the old value of an atomic (R292): it acknowledges its request. -/
def Chan.answered (c : Chan) (k psn off : Nat) (atomic : Bool) (data : List Byte) : Chan :=
  let x := c.conn k
  match x.opAt psn with
  | none => c
  | some o =>
    if o.isStore ∨ o.isAtomic ≠ atomic ∨ o.failed ≠ 0 ∨ o.len < off + data.length then c
    else (c.setConn k (x.setOp { o with got := o.got.put off data })).acked k psn

end Sys2Proof.Machine
end

