-- ==== Sys2Proof/Machine/RelMore.lean ====
section
/-! DEFINITION. Repair, injection, heartbeats and shadow admission (chapter 17), as operations of the reliability commands. -/
namespace Sys2Proof.Machine
open Sys2Proof

/-! ### Heartbeats (R452, R453) -/

/-- KEEPALIVE in ns. -/
def Chan.keepalive (c : Chan) : Nat := c.orD Reg.FAB_TIMERS 11 0 1000 * ms

/-- HB_LOSS in ns. -/
def Chan.hbLoss (c : Chan) : Nat := c.orD Reg.REL_HB_CFG 15 0 300 * ms

/-- The code of a role in a heartbeat. -/
def Role.code : Role → Nat
  | .unassigned => 0
  | .prompt => 1
  | .generation => 2
  | .cache => 3

/-- The 128 bytes of a heartbeat with its sequence number. -/
def Chan.heartbeatBytes (c : Chan) (seq : Nat) : List Byte :=
  beBytes 1 1 ++ beBytes 1 c.rel.mode.code ++ beBytes 1 c.actingRole.code ++ beBytes 1 c.sec.mode.code ++ beBytes 4 (c.fget Reg.CHN_CFG_EPOCH 31 0) ++
  beBytes 4 (b2n (c.flag Reg.CHN_EID 63) * 2 ^ 31 + c.fget Reg.CHN_EID 17 0) ++ beBytes 4 c.sec.fwVersion ++ beBytes 8 c.time ++ beBytes 8 seq ++
  c.sec.cfgDigest ++ List.replicate 32 0

/-- A heartbeat sent on connection k, as an operation of the base programs with a PSN of its own (R287). -/
def Chan.sendHeartbeat (c : Chan) (k : Nat) : Chan :=
  let x := c.conn k
  let c := c.setConn k { x with hbSeq := x.hbSeq + 1, hbAt := c.time }
  c.issue k (TxOp.of .base 0x30 0 0 0 0 (c.heartbeatBytes (x.hbSeq + 1)))

/-- A heartbeat judged against the expectation for its sender, where there is one. -/
def Chan.judgeHeartbeat (c : Chan) (eid : Nat) (b : List Byte) : Chan :=
  match c.rel.expects.find eid with
  | none => c
  | some x =>
    let put := fun (c : Chan) (x : Expect) => { c with rel := { c.rel with expects := c.rel.expects.put eid x } }
    if leVal ((b.drop 32).take 16) = x.digest then put c { x with marked := false }
    else
      let pair := (leVal ((b.drop 32).take 64), beVal ((b.drop 4).take 4))
      let c := put c { x with marked := true, seen := some pair }
      if x.seen = some pair then c else c.eventEvery ms 0xE009 eid none eid (fun _ => pair.2)

/-! ### Shadow admission (R449, R450) -/

/-- The result that the shadow computes for a mirror message; none for a KIND or a layout that R449 does not give. -/
def Chan.mirrorResult (c : Chan) (m : MirrorMsg) : Option (List Byte) :=
  let b := fun (i : Nat) => (m.param.getD i 0).toNat
  let n := m.payload.length
  let w := beVal ((m.param.drop 4).take 4)
  match m.kind with
  | 1 =>
    if 4 < b 0 ∨ 1 < b 1 ∨ n % 64 ≠ 0 then none
    else some ((piecesOf 64 m.payload).flatMap (fun x =>
      quantBytes (b 0) (quantiseBlock (b 0) w ((piecesOf 2 x).map (fun y => ofInput (decide (b 1 = 1)) (leVal y))))))
  | 2 =>
    let dim := headDim (b 1)
    let (d, s) := tileRow (b 0) dim
    let tile := 16 * (d + s)
    if 4 < b 0 ∨ dim = 0 ∨ b 2 = 0 ∨ 16 < b 2 ∨ n ≠ b 2 * dim + 2 * tile then none
    else some (attendPage (b 0) dim w (piecesOf dim (m.payload.take (b 2 * dim))) ((m.payload.drop (b 2 * dim)).take tile) (m.payload.drop (b 2 * dim + tile)))
  | 3 =>
    let k := b 0
    let len := beVal ((m.param.drop 2).take 2)
    let d := fun i => (m.payload.drop (i * len)).take len
    if 1024 < len ∨ n ≠ k * len then none else some (shareOf k len k d ++ shareOf k len (k + 1) d)
  | 4 =>
    if 8000 < beVal (m.param.take 4) ∨ n ≠ 8 + beVal (m.param.take 4) then none
    else
      let (ct, tag) := gcmSeal c.shadowKey (ivOf c.rel.peer (leVal (m.payload.take 8))) [] (m.payload.drop 8)
      some (ct ++ tag)
  | _ => none

/-- The shadow enters SERVING (R450); `byCommand` says that rel.shadow ended the admission. -/
def Chan.promote (c : Chan) (byCommand : Bool) : Chan :=
  { c with rel := { c.rel with mode := .serving, part := 0, stalled := false } }.event 0xE00C none (c.rel.peer % 2 ^ 18)
    (c.rel.count % 2 ^ 32 + b2n byCommand * 2 ^ 63)

/-- A mirror message judged (R450). -/
def Chan.judgeMirror (c : Chan) (m : MirrorMsg) : Chan :=
  if c.rel.mode ≠ .shadow ∨ c.rel.part ≠ 1 ∨ m.eid ≠ c.rel.peer ∨ m.version ≠ 1 ∨ 8128 < m.payload.length then c
  else match c.mirrorResult m with
    | none => c
    | some r =>
      let c := { c with rel := { c.rel with lastMirror := c.time, stalled := false } }
      if sha512t256 r = m.result then
        let n := c.rel.count + 1
        let c := { c with rel := { c.rel with count := n } }
        if c.rel.ops ≤ n then c.promote false else c
      else (c.isolate 5).event 0xE00D none (c.rel.peer % 2 ^ 18) (m.kind % 256 + m.opNum % 2 ^ 32 * 2 ^ 32)

/-- An admission begins: the part that the channel plays, and with whom. -/
def Chan.admission (c : Chan) (part peer sample ops : Nat) : Chan :=
  { c with rel := { c.rel with part := part, peer := peer, sample := sample, ops := if ops = 0 then c.orD Reg.REL_SHADOW_CFG 31 0 10000 else ops, count := 0,
                               seenOps := 0, lastMirror := c.time, stalled := false } }

/-! ### Repair (R440 to R444) -/

/-- Does the controller reach its HBM: powered, and not isolated with HBM in self-refresh? -/
def Chan.hbmAwake (c : Chan) : Bool := decide ((c.pwr.st = .c0 ∨ c.pwr.st = .c1) ∧ c.rel.mode ≠ .isolated ∧ c.sec.mode = .serving)

/-- Is a row failing (R441)? -/
def Chan.rowFails (c : Chan) (row : Nat) : Bool :=
  c.rel.rowUe.contains row ||
    decide (c.orD Reg.REL_ECC_CFG 31 16 4 ≤ ((c.rel.rowCe.getD row []).filter (fun t => decide (c.time < t + 86400000000000))).length)

/-- The frame on the cullet list that holds an address. -/
def Chan.culletAt (c : Chan) (a : Nat) : Option Nat :=
  c.pool.cullet.find? (fun f => decide (c.frameAddr f ≤ a ∧ a < c.frameAddr f + c.granOf f * 4096))

/-- A frame on the cullet list withdrawn (R105, R439). -/
def Chan.withdrawFrame (c : Chan) (f : Nat) : Chan :=
  { c with pool := { c.pool with cullet := c.pool.cullet.erase f, withdrawn := c.pool.withdrawn ++ [f] } }.event 0x2006 none f (c.granOf f)

/-- Spare rows of a pseudo-channel in use. -/
def Chan.sparesUsed (c : Chan) (pc : Nat) : Nat := c.rel.rows.countP (fun r => c.pchOf (r * 1024) == pc)

/-- The spares-exhausted event, once per pseudo-channel and kind (R444): bit 0 rows, bit 1 lanes. -/
def Chan.exhaustedEvent (c : Chan) (pc bit : Nat) : Chan :=
  let key := 2 * pc + bit
  if c.rel.exhausted.contains key then c
  else { c with rel := { c.rel with exhausted := key :: c.rel.exhausted } }.event 0xE004 none pc (2 ^ bit)

/-- The slab of an address withdrawn where the address lies in a free frame or in an unassigned slab (R444): 4 is the use of a slab that is withdrawn whole. -/
def Chan.withdrawAt (c : Chan) (a : Nat) : Chan :=
  if a < c.poolBase ∨ c.slabAddr c.slabTotal ≤ a then c
  else
    let s := (a - c.poolBase) / (2 * mib)
    match c.pool.slabs.find s with
    | none => if c.unassigned s then { c with pool := { c.pool with taken := c.pool.taken.put s 4 } } else c
    | some x =>
      let i := (a - c.poolBase) % (2 * mib) / (x.gran * 4096)
      if x.used.testBit i then c
      else
        let free := (List.range (framesPer x.gran)).filter (fun i => !x.used.testBit i)
        { c with pool := { c.pool with slabs := c.pool.slabs.put s { x with used := 2 ^ framesPer x.gran - 1 },
                                       withdrawn := c.pool.withdrawn ++ free.map (fun i => 256 * s + i) } }

/-- A failing row spared (R442): its codewords corrected, or poisoned, in the spare row, and the remap in force and in the repair record. -/
def Chan.spareRow (c : Chan) (row : Nat) (flashOk : Bool) : Chan :=
  let a := row * 1024
  let pc := c.pchOf a
  let used := c.sparesUsed pc
  if 1024 ≤ used then (c.exhaustedEvent pc 0).withdrawAt a
  else
    let c := (c.eccRead a 1024 10).2
    let c := { c with rel := { c.rel with rows := c.rel.rows ++ [row], rowCe := c.rel.rowCe.del row, rowUe := c.rel.rowUe.erase row } }
    let c := if flashOk then { c with sec := { c.sec with flash := { c.sec.flash with rows := c.sec.flash.rows ++ [row] } } } else c
    let c := c.event 0xE002 none a (1023 - used)
    if flashOk then c else c.event 0xE006 none a 0xCB

/-- Frames of contexts in a pseudo-channel. -/
def Chan.ctxFramesIn (c : Chan) (pc : Nat) : Nat :=
  (c.maps.map (fun e => (e.2.recs.map (fun r => if r.2.loc = .t0 && !r.2.shared then r.2.frames.countP (fun f => f.2 / 256 % c.pchs == pc) else 0)).sum)).sum

/-- A pseudo-channel becomes degraded (R444): its crucible unit offline, and no frame or slab of it given out any more. -/
def Chan.degrade (c : Chan) (pc : Nat) : Chan :=
  if c.pchOut pc then c
  else
    let n := c.ctxFramesIn pc
    let c := { c with rel := { c.rel with degraded := pc :: c.rel.degraded }, cru := { c.cru with offline := c.cru.offline ||| 2 ^ pc } }
    (c.event 0x4005 none pc n).event 0xE005 none pc n

/-- A failing lane replaced (R443), or its pseudo-channel degraded. -/
def Chan.spareLane (c : Chan) (pc lane : Nat) (flashOk : Bool) : Chan :=
  let used := c.rel.lanes.countP (fun l => l.1 == pc)
  if 2 ≤ used then (c.exhaustedEvent pc 1).degrade pc
  else
    let c := { c with rel := { c.rel with lanes := c.rel.lanes ++ [(pc, lane)] } }
    let c := if flashOk then { c with sec := { c.sec with flash := { c.sec.flash with lanes := c.sec.flash.lanes ++ [(pc, lane)] } } } else c
    let c := c.event 0xE003 none pc (lane % 256 + (1 - used) * 256)
    if flashOk then c else c.event 0xE006 none pc 0xCB

/-! ### Injection (R458) -/

/-- A codeword with an injected error; one that is poisoned stays so. The bytes that a flipped lane puts in error are a free value. -/
def Chan.injectAt (c : Chan) (kind k : Nat) : Chan :=
  let put := fun (c : Chan) (v : CwState) => { c with rel := { c.rel with cw := c.rel.cw.put k v } }
  if c.rel.cw.find k = some .poison then c
  else match kind with
    | 1 => put c (.err 1)
    | 2 => put c .poison
    | _ => let (v, c) := c.draw; put c (.err (1 + v % 72))

/-- Errors injected into at most n codewords of a row from an address on: how many. -/
def Chan.inject (c : Chan) (a kind n : Nat) : Nat × Chan :=
  let first := a / 64
  let m := min n (16 - first % 16)
  (m, (List.range m).foldl (fun c i => c.injectAt kind (first + i)) c)

/-! ### On-die memories (R445) -/

/-- A frame in a packet buffer discarded: received ones count as RX_NOBUF, those that wait to be sent as TX_DISCARD. -/
def Chan.loseBuffer (c : Chan) (h : Nat) : Chan :=
  match c.fab.bufs.find h with
  | none => c
  | some b =>
    let sends := (List.range c.ports).find? (fun n => (c.egress n).queues.any (fun q => q.2.any (fun f => f.buf == some h)))
    let c := match sends with
      | some n =>
        let e := c.egress n
        (c.setEgress n { e with queues := e.queues.mapVals (fun _ q => q.filter (fun f => f.buf != some h)) }).bump (Reg.FAB_PORT_DROP n) 15 0 1
      | none => match b.rx with
        | some (n, _) =>
          let x := c.port n
          (c.setPort n { x with rings := x.rings.mapVals (fun _ r => r.filter (fun i => i != h)) }).bump (Reg.FAB_PORT_DROP n) 31 16 1
        | none => c
    c.freeBuf h

/-- Both copies of a key are bad: it is destroyed (R445). KIND 0 storage, 1 program, 2 data, 3 import. -/
def TenKeys.without (k : TenKeys) (kind i : Nat) : TenKeys :=
  match kind with
  | 0 => { k with storage := none }
  | 1 => { k with prog := k.prog.del i }
  | 2 => { k with data := k.data.del i }
  | _ => { k with importKey := none }

/-- An entry of the context table struck by a double-bit error: loaded from its latest journal record, with the fix-ups of R89, or FAULTED with 0x03. -/
def Chan.reloadEntry (c : Chan) (slot : Nat) (readable : Bool) : Chan :=
  let e := c.entry slot
  let c := if e.state = .decoding ∧ e.sub ≠ 0 then
      let c := (c.endVerify slot 0x22).discardStaged slot
      c.setMap slot ((c.map slot).setFill (c.geom e.profile).layers e.committed)
    else c
  c.fixUp slot (if readable then none else some 3)

/-- A double-bit error by the memory that it strikes. -/
def Chan.doubleBit (c : Chan) : SramErr → Chan
  | .single => c
  | .entry slot readable => c.reloadEntry slot readable
  | .scratch k => c.exception k 0x0A (c.core k).pc
  | .icache k => c.setCore k { c.core k with lines := [] }
  | .packet h => c.loseBuffer h
  | .prefixEntry i => { c with pfx := { c.pfx with entries := c.pfx.entries.del i } }
  | .keyStore t kind i => c.setKeys t ((c.keysOf t).without kind i)
  | .control => c.isolate 2

end Sys2Proof.Machine
end

