-- ==== Sys2Proof/Machine/ResetOps.lean ====
section
/-! DEFINITION. What a channel reset and C2 leave of the state (R480), the loader's run (R386), and the warm and the cold channel reset (R89, R475). -/
namespace Sys2Proof.Machine
open Sys2Proof

/-! ### Registers -/

/-- The stored registers after a reset: each field for which `keep` holds has its value, the others zero. -/
def keepRegs (keep : FieldDesc → Bool) (regs : AMap Nat) : AMap Nat :=
  (regs.map (fun e => match findReg channelRegs e.1 with
    | some (d, _) => (e.1, (d.fields.filter keep).foldl (fun v f => setBits v f.hi f.lo (bits e.2 f.hi f.lo)) 0)
    | none => (e.1, 0))).filter (fun e => decide (e.2 ≠ 0))

/-! ### What no channel reset and no C2 leaves running -/

/-- `f` without the ends of commands: they end without completion (R381). -/
def Chan.quietly (c : Chan) (f : Chan → Chan) : Chan :=
  let x := f c
  { x with out := (x.out.take (x.out.length - c.out.length)).filter (fun o => match o with | .done _ _ _ => false | _ => true) ++ c.out }

/-- Every invocation, running, waiting to run or saved, ends without completion; what its moves have done so far stands (R230, R480). -/
def Chan.endInvocations (c : Chan) : Chan :=
  let c := (c.gaf.cores.keysWhere (fun _ g => !g.asyncs.isEmpty)).foldl Chan.stopMoves c
  { c with gaf := { c.gaf with cores := [], queue := [], saved := [], restarts := [] } }

/-- The resident entries of every program that is not faulted are invoked (R216, R230, R478). -/
def Chan.wakeResidents (c : Chan) : Chan := (c.gaf.progs.filter (fun e => !e.2.faulted)).foldl (fun c e => c.invokeResidents e.1 e.2) c

/-- The base programs installed afresh; the role program and the tenant programs stay, and a role program is no longer faulted (R221, R230). -/
def Chan.reinstall (c : Chan) : Chan :=
  let boot := Gaffer.boot (if c.g8x then 32 else 16)
  let kept := (c.gaf.progs.filter (fun e => decide (3 ≤ e.1))).map
    (fun e => (e.1, if e.2.isTenant then e.2 else { e.2 with faulted := false, lastExc := none, excCode := 0 }))
  { c with gaf := { c.gaf with progs := boot.progs ++ kept } }.wakeResidents

/-- Every connection that is live enters ERROR with cause 0x06, its commands without completion (R283). -/
def Chan.failConns (c : Chan) : Chan := (c.fab.conns.keysWhere (fun _ x => x.live)).foldl (fun c k => c.connError k 6 true) c

/-- The ring pairs return to disabled, with every command they took (R381). -/
def Chan.cutRings (c : Chan) : Chan := { c with host := { c.host with rings := [] } }

/-- The event rings return to disabled. -/
def Chan.cutEventRings (c : Chan) : Chan := { c with host := { c.host with evqs := [], lastEvent := [] } }

/-- The work of commands under way ends (R230, R381): tier moves, sets being written, reads of shares, loans not answered, lookups, host jobs, row operations, and the
commands that waited on anything else. -/
def Chan.dropWork (c : Chan) : Chan :=
  let c := c.quietly (fun c => (c.tiers.moves.map Prod.fst).foldl (fun c slot => c.endMove slot 0) c)
  let asked := c.tiers.leases.filter (fun e => e.2.lent && !e.2.granted)
  let c := asked.foldl (fun c e => c.dropRegion e.2.region) c
  { c with
    ctx := { c.ctx with sealing := [], retiring := [] },
    drafts := c.drafts.mapVals (fun _ d => { d with verify := none }),
    cru := { c.cru with waiting := [], rowops := [], jobs := c.cru.jobs.keep (fun _ j => j.src.isNone),
                        queues := c.cru.queues.mapVals (fun _ q => { q with delSrc := none }) },
    tiers := { c.tiers with moves := [], writing := [], reads := [], t2Removing := none,
                            leases := (c.tiers.leases.keep (fun _ l => !(l.lent && !l.granted))).mapVals (fun _ l => { l with cmd := none, recallEnd := none }),
                            reqs := c.tiers.reqs.keep (fun _ r => decide (r.what = .free)) },
    pfx := { c.pfx with waits := [], cmds := [], miss := 0, casc := 0,
                        reqs := (c.pfx.reqs.keep (fun _ r => r.isDetach)).mapVals (fun _ r => { r with cmd := none }) },
    fab := { c.fab with ended := [], regions := c.fab.regions.mapVals (fun _ r => { r with cmd := none }) },
    fns := c.fns.mapVals (fun _ f => { f with held := none, owner := none }),
    mtr := { c.mtr with present := false, credits := 0 },
    rel := { c.rel with part := 0, peer := 0, sample := 0, ops := 0, count := 0, seenOps := 0 } }

/-- Queued frames, receive rings and packet buffers are lost, and every bucket is full (R480); the links stand as `link`. -/
def Chan.loseTraffic (c : Chan) (link : LinkState) : Chan :=
  { c with fab := { c.fab with bufs := [], bufOwner := [],
                               ports := (List.range c.ports).foldl (fun m n => m.set Port.init n { Port.init with link := link }) [] },
           tm := { Traffic.init with smpDue := c.tm.smpDue, smpSeq := c.tm.smpSeq, smpLost := c.tm.smpLost } }

/-- The gate lists of the schedulers that run begin (R314). -/
def Chan.startGates (c : Chan) : Chan :=
  ((List.range c.ports).filter (fun n => c.running (0x40 + n))).foldl Chan.gateStart c

/-- The import keys of every slot are destroyed (R398). -/
def Chan.loseImportKeys (c : Chan) : Chan :=
  (List.range 16).foldl (fun c t => c.setKeys t { c.keysOf t with importKey := none }) c

/-- Every key of every slot is destroyed (R398). -/
def Chan.loseKeys (c : Chan) : Chan := (List.range 16).foldl (fun c t => c.setKeys t TenKeys.init) c

/-! ### Warm -/

/-- The regions that a warm channel reset frees (R279): each generation counts up, the number rests, the slabs return, and an append window is closed. -/
def Chan.freeRegions (c : Chan) : Chan :=
  let live := c.fab.regions.filter (fun e => decide (e.2.st = .valid ∨ e.2.st = .revoking))
  let c := live.foldl (fun c e => (c.giveSlabs e.2.slabs).setRegion e.1
    { Region.init with st := .quarantined, key := e.2.key, gen := nextGen e.2.gen, endAt := c.time + 100 * ms }) c
  { c with maps := c.maps.mapVals (fun _ m => { m with region := none }),
           ho := ⟨c.ho.of.mapVals (fun _ h => { h with region := none })⟩,
           tiers := { c.tiers with leases := c.tiers.leases.keep (fun _ l => !l.lent) } }

/-- The fragment sets held are registered again, each under a new key (R279, R353). -/
def Chan.regrantSets (c : Chan) : Chan :=
  (c.tiers.sets.map Prod.fst).foldl (fun c k => match c.tiers.sets.find k with
    | none => c
    | some f => match c.baseRegion (.frag k) 3 f.length f.home true with
      | some (r, c) => { c with tiers := { c.tiers with sets := c.tiers.sets.put k { f with region := r } } }
      | none => c) c

/-- The attention queues are deleted without replies, and their slabs return (R160). -/
def Chan.loseQueues (c : Chan) : Chan :=
  let c := c.cru.queues.foldl (fun c e => c.giveSlabs e.2.slabs) c
  { c with cru := { c.cru with queues := [], jobs := [] } }.unholdFrames

/-- A function after a warm channel reset (R49). -/
def FnRec.afterWarm (f : FnRec) : FnRec :=
  { f with st := match f.st with | .running | .stopping => .running | .absent => .absent | _ => .stopped }

/-- What the channel holds when a warm channel reset has stopped it (R480). -/
def Chan.warmClear (c : Chan) : Chan :=
  let c := c.cutRings.cutEventRings
  let c := { c with regs := keepRegs (fun f => f.warm || f.isCr) c.regs }
  let c := c.endInvocations.dropWork.failConns
  let c := (c.freeRegions.loseQueues).loseTraffic .training
  let c := { c with
    drafts := [], tm := Traffic.init,
    gaf := { c.gaf with evc := [], triggers := [], words := [] },
    ctx := { c.ctx with ready := false, peekSel := 0, peekData := [], journal := { c.ctx.journal with degraded := false } },
    pfx := { c.pfx with answered := [] }, tiers := { c.tiers with answered := [] },
    role := { c.role with budgetEnd := none }, fns := c.fns.mapVals (fun _ f => f.afterWarm),
    rel := { c.rel with mode := .serving, isoAt := none, stalled := false, rows := c.sec.flash.rows, lanes := c.sec.flash.lanes },
    sec := { c.sec with staged := none },
    pwr := { c.pwr with minIndex := c.pwr.index, capped := false } }
  c.loseImportKeys

/-- The loader takes the image in flash and the owner's record (R386, steps 2 to 5). -/
def Chan.loadImage (c : Chan) : Chan :=
  let f := c.sec.flash
  { c with sec := { c.sec with mode := .serving, fwVersion := f.fwVersion, fwDigest := f.fwDigest, journalFmt := f.journalFmt, aliasOwner := ownerIdOf f.owner } }

/-- The power block when a reset has run: C0, and LAST says which reset it was (R475, R477). -/
def Chan.resetDone (c : Chan) (code : Nat) : Chan :=
  { c with pwr := { c.pwr with st := .c0, tripped := false, busy := false, c2Due := none, pending := none, last := code, result := if c.pwr.busy then 0 else c.pwr.result } }

/-- The reset-complete event (R475). -/
def Chan.resetEvent (c : Chan) : Chan := c.event 0xF004 none c.num c.pwr.last

/-- The runs of slots that no listed slot, in ascending order, breaks. -/
def freeRuns : List Nat → Nat → List (Nat × Nat)
  | [], at_ => if at_ < 16384 then [(at_, 16384 - at_)] else []
  | b :: t, at_ => (if at_ < b then [(at_, b - at_)] else []) ++ freeRuns t (b + 1)

/-- What is wrong with an entry that the rebuild loads: its page-group table is unreadable, or its image inconsistent (R89). -/
def WarmIn_fault (w : WarmIn) (slot : Nat) : Option Nat :=
  if w.badTables.contains slot then some 1 else if w.badImages.contains slot then some 3 else none

/-- The table rebuilt (R89, steps 2 to 5). -/
def Chan.rebuild (c : Chan) (w : WarmIn) : Chan :=
  let replayed := c.ctx.journal.sinceSnap
  let slots := c.ctx.entries.keysWhere (fun _ e => decide (e.state ≠ .free))
  let c := slots.foldl (fun c slot =>
    let c := c.loseAppends slot
    (if w.badTables.contains slot then c.tableUnreadable else c).fixUp slot (WarmIn_fault w slot)) c
  let faulted := (slots.filter (fun slot => (WarmIn_fault w slot).isSome && decide ((c.entry slot).state = .faulted))).length
  let busy := c.ctx.entries.keysWhere (fun _ e => decide (e.state ≠ .free))
  let c := { c with ctx := { c.ctx with freeQ := freeRuns busy 0 } }.snapshot
  { c with ctx := { c.ctx with ready := true } }.event 0x1007 none c.ctx.journal.seq (replayed % 2 ^ 20 + faulted % 65536 * 2 ^ 32)

/-- The channel serves again after a warm reset: in SHADOW where it ended an isolation and SHADOW_EN is set (R448), else fully. -/
def Chan.afterWarm (c : Chan) (isolated : Bool) : Chan :=
  if isolated && c.flag Reg.REL_SHADOW_CFG 63 then { c with rel := { c.rel with mode := .shadow, lastMirror := c.time } } else c

/-- The end of a firmware update (R407, step 5): the event, and the commit's completion. -/
def Chan.commitDone (c : Chan) (commit : Option Src) (old : Nat) : Chan :=
  match commit with
  | some src => (c.event 0xC001 none old c.sec.fwVersion).complete src 0 0
  | none => c

/-! ### Cold -/

/-- Everything outside flash is lost (R466, R477, R480). The hub keeps the configuration of the channel's functions where `hub` holds (R39). -/
def Chan.unpowered (c : Chan) (hub : Bool) (st : PwrState) : Chan :=
  let x := Chan.reset c.num c.g8x
  { x with
    fresh := c.fresh, out := c.out, toHub := c.toHub,
    host := if hub then { x.host with pci := c.host.pci, vecs := c.host.vecs, ide := c.host.ide, linkUp := c.host.linkUp } else x.host,
    ctx := { x.ctx with ready := false, holdUntil := none },
    sec := { x.sec with mode := .boot, flash := c.sec.flash },
    cru := { x.cru with offline := c.rel.degraded.foldl (fun m p => setBits m p p 1) 0 },
    rel := { x.rel with rows := c.sec.flash.rows, lanes := c.sec.flash.lanes, degraded := c.rel.degraded, exhausted := c.rel.exhausted },
    pwr := { x.pwr with st := st, ride := c.pwr.ride, rideAt := 0, rideMin := c.pwr.rideMin, tempCtl := c.pwr.tempCtl, tempBase := c.pwr.tempBase,
                        busy := c.pwr.busy, result := c.pwr.result, last := c.pwr.last, refReady := c.pwr.refReady } }

/-- The loader's run from nothing (R386, R474): the configuration record loaded, and the table as R73 leaves it. Without the device seed the channel enters FAILED;
without a valid image, RECOVERY. -/
def Chan.boot (c : Chan) (code : Nat) (pufOk : Bool) : Chan :=
  let f := { c.sec.flash with sealBoot := c.sec.flash.sealBoot + 1 }
  let (r, c) := c.draw
  let c := { c with sec := { c.sec with flash := f }, tiers := Tiers.init f.sealBoot, mtr := MeterLink.start (r % 2 ^ 32) c.time }
  let c := c.resetDone code
  if !pufOk then { c with sec := { c.sec with mode := .failed } }
  else if !f.fwValid then { c with sec := { c.sec with mode := .recovery } }
  else
    let c := { c with ctx := CtxTable.cleared c.time }.loadImage
    c.loadConfig.sendHello

/-- A cold reset of a channel (R475): code 1, 2, 3 or 8. -/
def Chan.coldReset (c : Chan) (hub : Bool) (code : Nat) (pufOk : Bool) : Chan :=
  let c := (c.loseKeys.unpowered hub .held).boot code pufOk
  if c.sec.mode = .serving then c.resetEvent else c

/-- A warm channel reset (R89, R386, R475): code 4 to 7. A journal that is lost makes it complete as a cold one, with local time running on (R90, R473). -/
def Chan.warmReset (c : Chan) (code : Nat) (w : WarmIn) : Chan :=
  let isolated := decide (c.rel.mode = .isolated)
  let commit := if code = 7 ∨ c.pwr.pending = some 7 then c.sec.commit.map Prod.fst else none
  let old := c.sec.fwVersion
  let failed := decide (c.sec.mode = .failed)
  let c := c.warmClear
  let c := { c with sec := { c.sec with commit := none } }.resetDone code
  let c := c.bump Reg.PWR_RESET_LOG 31 16 1
  if failed || !w.pufOk then { c with sec := { c.sec with mode := .failed } }
  else if !c.sec.flash.fwValid then { c with sec := { c.sec with mode := .recovery } }
  else match w.lost with
    | some at_ =>
      let j := c.ctx.journal
      let live := ((if j.snapA.seq ≤ j.snapB.seq then j.snapB else j.snapA).table.filter (fun e => decide (e.2.state ≠ .free))).length
      let u := c.loseKeys.unpowered true .held
      let c := ({ u with time := c.time, pwr := { u.pwr with rideAt := c.pwr.rideAt } }.boot code true).event 0x1008 none at_ live
      ((c.afterWarm isolated).commitDone commit old).resetEvent
    | none =>
      let c := (c.loadImage.reinstall.regrantSets).rebuild w
      (((c.startGates).afterWarm isolated).commitDone commit old).resetEvent

end Sys2Proof.Machine
end

