-- ==== Sys2Proof/Machine/PowerOps.lean ====
section
/-! DEFINITION. Ride-through (R464, R465), the power states and their requests (R477 to R479), and what of a channel a tenant reset reaches (R380). -/
namespace Sys2Proof.Machine
open Sys2Proof

/-! ### Ride-through -/

/-- The pace target (R467): 768 in C1 and in ride-through, else 1,024. -/
def Chan.paceTarget (c : Chan) : Nat := if c.pwr.st = .c1 ∨ c.pwr.ride then 768 else 1024

/-- An invocation of a schedulable core that waits is at a cheap point, and is held there (R464). -/
def Chan.holdCores (c : Chan) : Chan :=
  { c with gaf := { c.gaf with cores := c.gaf.cores.mapVals (fun k g => if c.schedulable k && decide (g.st = .waiting) then { g with held := true } else g) } }

/-- The held invocations continue (R465): a preemption that was asked for meanwhile takes effect. -/
def Chan.releaseCores (c : Chan) : Chan :=
  (c.gaf.cores.keysWhere (fun _ g => g.held)).foldl (fun c k => (c.setCore k { c.core k with held := false, since := c.time }).trySave k) c

/-- A channel receives the warning signal (R464). In C2 and C3, only the SUPPLY frame and the event (R481). -/
def Chan.enterRide (c : Chan) (vin : Nat) : Chan :=
  let asleep := decide (c.pwr.st = .c2 ∨ c.pwr.st = .c3)
  let c := { c with pwr := { c.pwr with ride := true, rideAt := c.time, rideMin := vin } }.sendSupply 1
  let c := if asleep then c else (c.bump Reg.PWR_RESET_LOG 15 0 1).holdCores
  c.event 0xF001 none 0 vin

/-- A channel leaves ride-through (R465): the held invocations and the crucible's acceptance resume, in order. -/
def Chan.leaveRide (c : Chan) (low : Nat) : Chan :=
  if !c.pwr.ride then c
  else
    let dur := c.time - c.pwr.rideAt
    let low := min c.pwr.rideMin low
    let c := { c with pwr := { c.pwr with ride := false } }
    let c := if c.serves then c.pumpHost c.cru.waiting.length else c
    let c := if c.pwr.c2Due.isNone then c.releaseCores else c
    (c.sendSupply 2).event 0xF002 none 0 (min dur (2 ^ 32 - 1) + low % 65536 * 2 ^ 32)

/-! ### C2 (R478) -/

/-- Does a context's handoff still keep C2 from being entered? -/
def Chan.handoffsOpen (c : Chan) : Bool := c.ctx.entries.anyOf (fun _ e => decide (e.state = .offered ∨ e.state = .inbound))

/-- The channel enters C2: steps 2 and 3 of R478. -/
def Chan.enterC2 (c : Chan) : Chan :=
  let old := c.pwr.st.code
  let c := (c.cutRings.endInvocations.dropWork.failConns).cutEventRings
  let c := (c.loseTraffic .down).loseImportKeys
  let c := { c with regs := keepRegs FieldDesc.c2 c.regs, ctx := { c.ctx with peekSel := 0, peekData := [] },
                    pwr := { c.pwr with st := .c2, c2Due := none, busy := false, result := if c.pwr.busy then 0 else c.pwr.result } }
  c.event 0xF005 none 2 old

/-- The resolution of the handoff entries that a thermal trip left behind (R143, R478). -/
def Chan.resolveHandoffs (c : Chan) : Chan :=
  (c.ctx.entries.keysWhere (fun _ e => decide (e.state = .offered ∨ e.state = .inbound))).foldl (fun c slot =>
    let c := c.cutCommands slot
    if (c.entry slot).state = .offered then c.restartOffered slot else c.restartInbound slot) c

/-- The channel leaves C2 for C0 or C1: the resident programs are invoked again. -/
def Chan.leaveC2 (c : Chan) (dest : PwrState) : Chan :=
  let c := { c with pwr := { c.pwr with st := dest, tripped := false } }.loseTraffic .training
  (c.wakeResidents.startGates.resolveHandoffs).event 0xF005 none dest.code 2

/-! ### Requests (R477 to R479) -/

/-- A request ends with RESULT. -/
def Chan.pwrResult (c : Chan) (r : Nat) : Chan := { c with pwr := { c.pwr with result := r } }

/-- A reset that a request starts: BUSY until it has run. -/
def Chan.pwrReset (c : Chan) (code : Nat) : Chan := { c.awaitReset code with pwr := { (c.awaitReset code).pwr with busy := true } }

/-- A request in PWR_MOD_CTRL: PF0 must answer; one while BUSY is set, or in a reset or retention, is discarded with RESULT 0xF3. -/
def onPwrReq (c : ChId) (f : Chan → Chan) : State → Host.Outcome State Fault Refusal :=
  onHubCh c (fun h x => (h, if !h.barLive then x else if x.pwr.busy ∨ x.pwr.st = .held then x.pwrResult 0xF3 else f x))

/-- Does a thermal trip still hold the channel in C2 (R469)? -/
def Chan.tripHolds (c : Chan) : Bool := c.pwr.tripped && decide (95 ≤ c.pwr.tempCtl ∨ 95 ≤ c.pwr.tempBase)

/-- Between C0 and C1, with the event. -/
def Chan.toActive (c : Chan) (dest : PwrState) : Chan :=
  if c.pwr.st = dest then c.pwrResult 0
  else
    match c.pwr.st with
    | .c0 | .c1 => (({ c with pwr := { c.pwr with st := dest } }).event 0xF005 none dest.code c.pwr.st.code).pwrResult 0
    | .c2 => if c.tripHolds then c.pwrResult 0xF3 else (c.leaveC2 dest).pwrResult 0
    | .c3 => if dest = .c0 then c.pwrReset 8 else c.pwrResult 0xF3
    | .held => c.pwrResult 0xF3

/-! ### Commands whose function is gone -/

/-- A reply's address, with the source changed. -/
def ReplyTo.mapSrc (f : Src → Src) : ReplyTo → ReplyTo
  | .host s => .host (f s)
  | r => r

/-- An issuer, with the source changed. -/
def Issuer.mapSrc (f : Src → Src) : Issuer → Issuer
  | .cmd s => .cmd (f s)
  | i => i

/-- An invocation, with the source of its command changed. -/
def Invocation.mapSrc (f : Src → Src) (i : Invocation) : Invocation := { i with src := i.src.map f }

/-- The sources of every command that is under way, changed. -/
def Chan.mapSrc (f : Src → Src) (c : Chan) : Chan :=
  { c with
    fns := c.fns.mapVals (fun _ x => { x with held := x.held.map (fun o => o.map f), owner := x.owner.map f }),
    ctx := { c.ctx with sealing := c.ctx.sealing.mapVals (fun _ x => f x), retiring := c.ctx.retiring.mapVals (fun _ l => l.map f) },
    ho := ⟨c.ho.of.mapVals (fun _ h => { h with cmd := h.cmd.map f, cancel := h.cancel.map f })⟩,
    cru := { c.cru with jobs := c.cru.jobs.mapVals (fun _ j => { j with src := j.src.map f }), waiting := c.cru.waiting.map (fun w => (f w.1, w.2)),
                        rowops := c.cru.rowops.map (fun r => { r with src := r.src.map f }), queues := c.cru.queues.mapVals (fun _ q => { q with delSrc := q.delSrc.map f }) },
    drafts := c.drafts.mapVals (fun _ d => { d with verify := d.verify.map (fun v => (v.1, v.2.1.mapSrc f, v.2.2)) }),
    gaf := { c.gaf with queue := c.gaf.queue.map (fun i => i.mapSrc f), cores := c.gaf.cores.mapVals (fun _ g => { g with inv := g.inv.map (fun i => i.mapSrc f) }),
                        saved := c.gaf.saved.map (fun g => ({ g.1 with inv := g.1.inv.map (fun i => i.mapSrc f) }, g.2)) },
    fab := { c.fab with
      regions := c.fab.regions.mapVals (fun _ r => { r with cmd := r.cmd.map f }),
      conns := c.fab.conns.mapVals (fun _ x => { x with openCmd := x.openCmd.map f, closeCmd := x.closeCmd.map f,
                                                        ops := x.ops.map (fun o => { o with issuer := o.issuer.mapSrc f }) }) },
    pfx := { c.pfx with reqs := c.pfx.reqs.mapVals (fun _ r => { r with cmd := r.cmd.map f }), cmds := c.pfx.cmds.map (fun x => { x with src := f x.src }),
                        waits := c.pfx.waits.map (fun w => { w with who := match w.who with | .cmd s h i => .cmd (f s) h i | k => k }) },
    tiers := { c.tiers with moves := c.tiers.moves.mapVals (fun _ m => { m with cmd := f m.cmd }), leases := c.tiers.leases.mapVals (fun _ l => { l with cmd := l.cmd.map f }),
                            t2Removing := c.tiers.t2Removing.map f,
                            writing := c.tiers.writing.mapVals (fun _ h => { h with cmd := h.cmd.map (fun x => (f x.1, x.2)) }),
                            homes := c.tiers.homes.mapVals (fun _ h => { h with cmd := h.cmd.map (fun x => (f x.1, x.2)) }) },
    sec := { c.sec with commit := c.sec.commit.map (fun x => (f x.1, x.2)) } }

/-- A command of the VF of slot t as it runs on after that slot's reset: no entry of a ring answers to it, so that its completion is discarded (R380). -/
def orphan (t : Nat) (s : Src) : Src := if s.vf = some t then { s with cid := s.cid + 65536 } else s

/-! ### Tenant reset (R380) -/

/-- A connection that a command of the slot's VF opened closes (R283). -/
def Chan.closeVfConn (c : Chan) (k : Nat) : Chan :=
  let x := c.conn k
  match x.st with
  | .error => c.connQuarantine k
  | .reqSent => ((c.completeOpt x.openCmd 0x82 0).failOps k 0x82).connQuarantine k
  | .open_ => if x.roce.isSome then (c.failOps k 0x82).connQuarantine k else c.startClose k
  | _ => c

/-- The slot's attention queues are deleted without replies (R160). -/
def Chan.loseSlotQueues (c : Chan) (t : Nat) : Chan :=
  (c.cru.queues.keysWhere (fun _ q => decide (q.tenant = t ∧ q.st ≠ .free))).foldl (fun c q =>
    let c := (c.giveSlabs (c.queue q).slabs).setQueue q AttnQueue.init
    { c with cru := { c.cru with jobs := c.cru.jobs.keep (fun _ j => decide (j.queue ≠ some q)) } }.unholdFrames) c

/-- The tenant reset of slot t. -/
def Chan.tenantReset (c : Chan) (t : Nat) : Chan :=
  let f := PciFn.vf t
  let owed := ((List.range 16).map (fun n => (c.ring f n).taken.length)).sum
  let c := c.mapSrc (orphan t)
  let c := { c with host := { c.host with rings := c.host.rings.keep (fun k _ => decide (k / 16 ≠ t)), evqs := c.host.evqs.del t,
                                          vecs := c.host.vecs.keep (fun k _ => decide (k / 32 ≠ t)), pci := c.host.pci.del t } }
  let c := (c.dropTenantProgs t true).loseSlotQueues t
  let c := { c with pfx := { c.pfx with entries := c.pfx.entries.keep (fun e _ => decide (c.segOwner (e / 512) ≠ t)) } }
  let c := (c.fab.regions.keysWhere (fun _ r => r.byVf && decide (r.tenant = t ∧ r.st = .valid))).foldl Chan.dropRegion c
  let c := (c.fab.conns.keysWhere (fun k x => x.byVf && decide (c.connSlot k = some t))).foldl Chan.closeVfConn c
  let c := c.setKeys t { c.keysOf t with data := [], importKey := none }
  (c.setFn (0x30 + t) FnRec.init).event 0xB003 none (0x30 + t) owed

end Sys2Proof.Machine
end

