-- ==== Sys2Proof/Machine/Power.lean ====
section
/-! DEFINITION. The meanings of the power, pace and clock commands (chapter 18), and of the module's connectors and management (R39, R486, R487, R491). -/
namespace Sys2Proof.Machine
open Sys2Proof

/-! ### The bus (R461 to R466) -/

/-- The bus as the hub samples it: VIN, and VMIN since the last read (R462). The meter senses the same bus (R488). -/
def Hub.sample (h : Hub) (vin low : Nat) : Hub :=
  { h with vin := vin, vmin := min h.vmin (min vin low), meter := h.meter.map (fun m => m.saw (min vin low)) }

/-- BUS_WARNING: the bus, in units of 10 mV, falls through 47.0 V. -/
def execBusWarning (vin : Nat) (s : State) : Host.Outcome State Fault Refusal :=
  if s.hub.bus = .normal ∧ vin < 4700 then
    onAll (fun h => { h.sample vin vin with bus := .warning, busAt := h.time }.event 0xF001 0 vin) (fun x => x.enterRide vin) s
  else .next s

/-- WARNING_LEFT: the bus has stayed at or above 48.0 V for 100 µs; `low` is the lowest that it was. -/
def execWarningLeft (vin low : Nat) (s : State) : Host.Outcome State Fault Refusal :=
  if s.hub.bus = .warning ∧ 4800 ≤ vin ∧ s.hub.plugged then
    onAll (fun h =>
      let dur := h.time - h.busAt
      { h.sample vin low with bus := .normal, overvoltage := false }.event 0xF002 0 (min dur (2 ^ 32 - 1) + min h.vmin low % 65536 * 2 ^ 32))
      (fun x => x.leaveRide low) s
  else .next s

/-- A channel enters supply retention (R466): one that is off stays off. -/
def Chan.retain (c : Chan) : Chan :=
  if c.pwr.st = .c3 then { c with pwr := { c.pwr with ride := false } }
  else { c with pwr := { c.pwr with st := .held, heldAt := c.time, ride := false, c2Due := none, busy := decide (c.pwr.busy ∧ c.pwr.pending.isSome) } }

/-- BUS_RESET_LEVEL: the bus falls through 43.0 V. The meter's input does as well, and it writes its open records (R432). -/
def execBusResetLevel (vin : Nat) (s : State) : Host.Outcome State Fault Refusal :=
  if (s.hub.bus = .normal ∨ s.hub.bus = .warning) ∧ vin < 4300 then
    onAll (fun h => { h.sample vin vin with bus := .below, busAt := h.time, pwrgd := false, out := .pin "PWRGD" 0 :: h.out }.withMeter Meter.inputFails) Chan.retain s
  else .next s

/-- A channel after retention (R466, R481): a warm channel reset, the SUPPLY frame and the supply-reset event; one whose cold reset was under way still waits for
that, and one that is off stays off. -/
def Chan.recover (w : WarmIn) (c : Chan) : Chan :=
  if c.pwr.st = .c3 then c.sendSupply 2
  else if c.pwr.pending = some 3 ∨ c.pwr.pending = some 8 then c.sendSupply 2
  else
    let dur := c.time - c.pwr.heldAt
    ((c.warmReset 5 w).sendSupply 2).event 0xF003 none 0 (min dur (2 ^ 32 - 1))

/-- RETENTION_RECOVERED: the bus returns to 48.0 V without having fallen below 36.0 V. -/
def execRetentionRecovered (vin : Nat) (w0 w1 w2 w3 : WarmIn) (s : State) : Host.Outcome State Fault Refusal :=
  if s.hub.bus = .below ∧ 4800 ≤ vin ∧ s.hub.plugged then
    onEach (fun h =>
      let dur := h.time - h.busAt
      { h.sample vin vin with bus := .normal, overvoltage := false }.event 0xF003 0 (min dur (2 ^ 32 - 1)))
      (fun x => (x.recover w0).serveEnded serveFuel) (fun x => (x.recover w1).serveEnded serveFuel) (fun x => (x.recover w2).serveEnded serveFuel)
      (fun x => (x.recover w3).serveEnded serveFuel) s
  else .next s

/-- The hub without power: what lies outside it stays. A meter without power holds no open supply event: it has written each (R432). -/
def Hub.unpowered (h : Hub) (vin : Nat) : Hub :=
  { Hub.reset with out := h.out, bus := .lost, vin := vin, vmin := vin, plugged := h.plugged, overvoltage := h.overvoltage, leak := h.leak, pwrgd := false,
                   meter := h.meter.map (fun m => { m with supplyAt := [], supplySince := [] }) }

/-- RETENTION_LOST: the bus falls below 36.0 V, and all state outside flash is lost. -/
def execRetentionLost (vin : Nat) (s : State) : Host.Outcome State Fault Refusal :=
  if s.hub.bus = .below ∧ vin < 3600 then onAll (fun h => h.unpowered vin) (fun x => x.unpowered false .held) s
  else .next s

/-- INPUT_OVERVOLTAGE: the input protection disconnects the bus. -/
def execInputOvervoltage (s : State) : Host.Outcome State Fault Refusal :=
  onHub (fun h => if h.plugged ∧ !h.overvoltage then { h with overvoltage := true, out := .pin "INPUT_PROTECTION" 0 :: h.out } else h) s

/-- PLUG_MATE: the input protection charges the bus. -/
def execPlugMate (s : State) : Host.Outcome State Fault Refusal :=
  onHub (fun h => if h.plugged then h else { h with plugged := true, out := .pin "INPUT_PROTECTION" 1 :: h.out }) s

/-- PLUG_BREAK: the input protection turns off; the bus then falls as its load drains it. -/
def execPlugBreak (s : State) : Host.Outcome State Fault Refusal :=
  onHub (fun h => if h.plugged then { h with plugged := false, overvoltage := false, out := .pin "INPUT_PROTECTION" 0 :: h.out } else h) s

/-- The bytes of a register that a read of one half, or of both, returns. -/
def halfOf (half : Half) (v : Nat) : Nat :=
  match half with
  | .both => v
  | .low => bits v 31 0
  | .high => bits v 63 32

/-- PWR_MOD_INPUT as it reads. -/
def Hub.input (h : Hub) : Nat := h.vin % 65536 + h.bus.code * 65536 + h.vmin % 65536 * 2 ^ 32

/-- PWR_MOD_INPUT_READ: a read that takes VMIN restarts it. -/
def execPwrModInputRead (half : Half) (s : State) : Host.Outcome State Fault Refusal :=
  onHub (fun h =>
    if !h.barLive then h
    else { h with out := .regRead Reg.PWR_MOD_INPUT (halfOf half h.input) :: h.out, vmin := if half = .low then h.vmin else h.vin }) s

/-! ### Pace and temperature (R467, R469) -/

/-- PACE_SAMPLE: INDEX, its lowest, the core voltage and the temperatures; pace-low as INDEX falls below 768, and power-cap when the draw exceeds CAP_W at the lowest
pace. In C2 the power block still measures the temperatures. -/
def execPaceSample (c : ChId) (p : PaceIn) (s : State) : Host.Outcome State Fault Refusal :=
  onCh c (fun x =>
    let measured := { x.pwr with vcore := p.vcore, tempCtl := p.tempCtl, tempBase := p.tempBase }
    match x.pwr.st with
    | .c2 => { x with pwr := measured }
    | .c0 | .c1 =>
      let was := x.pwr.index
      let cap := x.fget Reg.PWR_LIMIT 15 0
      let past := decide (max 200 (min 470 cap) < p.draw ∧ p.index ≤ 768)
      let raise := past && !x.pwr.capped
      let x := { x with pwr := { measured with index := p.index, minIndex := min x.pwr.minIndex p.index, capped := past } }
      let x := if 768 ≤ was ∧ p.index < 768 then x.eventEvery ms 0xF006 0 none p.index (fun _ => p.tempCtl % 256 + p.tempBase % 256 * 256) else x
      if raise then x.event 0xF007 none cap p.draw else x
    | _ => x) s

/-- PWR_PACE_CLEAR. -/
def execPwrPaceClear (c : ChId) (s : State) : Host.Outcome State Fault Refusal :=
  onCh c (fun x => if x.regsLive then { x with pwr := { x.pwr with minIndex := x.pwr.index } } else x) s

/-- THERMAL_TRIP: the controller die at 110 °C or a base die at 100 °C; C2 at once. -/
def execThermalTrip (c : ChId) (ctl base : Nat) (s : State) : Host.Outcome State Fault Refusal :=
  onCh c (fun x =>
    if (ctl < 110 ∧ base < 100) ∨ x.pwr.st = .c3 ∨ x.pwr.st = .held ∨ x.pwr.tripped then x
    else
      let x := { x with pwr := { x.pwr with tripped := true, tempCtl := ctl, tempBase := base } }
      let x := x.event 0xF008 none (b2n (decide (100 ≤ base))) (if 100 ≤ base then base else ctl)
      if x.pwr.st = .c2 then x else x.enterC2) s

/-! ### Clocks (R470 to R472) -/

/-- SETTLE in ns (CLK_SETTLE). -/
def Chan.settleTime (c : Chan) : Nat := max 1 (min 128 (c.fget Reg.CLK_SETTLE 7 0)) * 500000

/-- Is a source READY? -/
def Chan.sourceReady (c : Chan) (source : Nat) : Bool := if source = 0 then c.pwr.refReady else c.pwr.oscReady

/-- CLOCK_SOURCE_FAIL: READY falls, the domains on that source coast, and with the SerDes domain every link goes down. -/
def execClockSourceFail (c : ChId) (source : Nat) (s : State) : Host.Outcome State Fault Refusal :=
  onCh c (fun x =>
    if 1 < source ∨ x.pwr.st = .c3 ∨ !x.sourceReady source then x
    else
      let lost := (List.range 3).filter (fun d => decide (x.fget Reg.CLK_SRC d d = source) && !x.pwr.coast.testBit d)
      let x := { x with pwr := { x.pwr with refReady := x.pwr.refReady && decide (source ≠ 0), oscReady := x.pwr.oscReady && decide (source ≠ 1),
                                            coast := lost.foldl (fun m d => setBits m d d 1) x.pwr.coast } }
      if lost.isEmpty then x
      else
        let x := x.event 0xF009 none source x.pwr.coast
        if lost.contains 1 then (List.range x.ports).foldl Chan.linkLost x else x) s

/-- OSC_SETTLED: SETTLE after the oscillator was enabled. -/
def execOscSettled (c : ChId) (s : State) : Host.Outcome State Fault Refusal :=
  onCh c (fun x => match x.pwr.oscDue with
    | some t => let x := x.reach t; { x with pwr := { x.pwr with oscReady := true, oscDue := none } }
    | none => x) s

/-- REF_CLOCK_READY. -/
def execRefClockReady (c : ChId) (s : State) : Host.Outcome State Fault Refusal :=
  onCh c (fun x => if x.pwr.st = .c3 then x else { x with pwr := { x.pwr with refReady := true } }) s

/-- One domain under a write that asks for a source (R471, R472): a switch, or a coasting domain that takes its own source again, if the source is READY. -/
def Chan.switchDomain (c : Chan) (want d : Nat) : Chan :=
  let old := c.fget Reg.CLK_SRC d d
  let new := bits want d d
  let change := decide (old ≠ new)
  if !change && !c.pwr.coast.testBit d then c
  else if c.sourceReady new then
    (({ c with pwr := { c.pwr with coast := setBits c.pwr.coast d d 0 } }).fset Reg.CLK_SRC d d new).event 0xF00B none d new
  else if change then c.event 0xF00A none d new
  else c

/-- The oscillator runs only while a domain selects it or it is asked for (R470). -/
def Chan.oscNeed (c : Chan) (want : Nat) : Chan :=
  if c.fget Reg.CLK_SRC 2 0 = 0 ∧ want = 0 then { c with pwr := { c.pwr with oscReady := false, oscDue := none } }
  else if want ≠ 0 ∧ !c.pwr.oscReady ∧ c.pwr.oscDue.isNone then { c with pwr := { c.pwr with oscDue := some (c.time + c.settleTime) } }
  else c

/-- CLK_SRC_WRITE. -/
def execClkSrcWrite (c : ChId) (a : Access) (s : State) : Host.Outcome State Fault Refusal :=
  onCh c (fun x =>
    if !x.regsLive ∨ !reaches a 2 0 then x
    else
      let want := bits (a.apply (x.rd Reg.CLK_SRC)) 2 0
      ((List.range 3).foldl (fun x d => x.switchDomain want d) x).oscNeed want) s

/-! ### Power-state requests (R477 to R479) -/

/-- PWR_REQ_C0. -/
def execPwrReqC0 (c : ChId) (s : State) : Host.Outcome State Fault Refusal := onPwrReq c (fun x => x.toActive .c0) s

/-- PWR_REQ_C1. -/
def execPwrReqC1 (c : ChId) (s : State) : Host.Outcome State Fault Refusal := onPwrReq c (fun x => x.toActive .c1) s

/-- PWR_REQ_C2: step 1 of R478 begins. -/
def execPwrReqC2 (c : ChId) (s : State) : Host.Outcome State Fault Refusal :=
  onPwrReq c (fun x =>
    if x.pwr.st = .c2 then (if x.tripHolds then x.pwrResult 0xF3 else { x.pwrResult 0 with pwr := { (x.pwrResult 0).pwr with tripped := false } })
    else if x.pwr.st = .c3 ∨ x.sec.mode ≠ .serving then x.pwrResult 0xF3
    else { x with pwr := { x.pwr with busy := true, c2Prior := x.pwr.st, c2Due := some (x.time + 1000 * ms) } }.holdCores) s

/-- C2_ENTRY_WAIT_END: everything has left, or 1 s has passed; a handoff that remains abandons the entry. -/
def execC2EntryWaitEnd (c : ChId) (s : State) : Host.Outcome State Fault Refusal :=
  onCh c (fun x => match x.pwr.c2Due with
    | none => x
    | some t =>
      let x := if x.handoffsOpen || !x.cru.jobs.isEmpty then x.reach t else x
      if x.handoffsOpen then
        let x := { x with pwr := { x.pwr with st := x.pwr.c2Prior, c2Due := none, busy := false, result := 0xF1 } }
        if x.pwr.ride then x else x.releaseCores
      else x.enterC2) s

/-- PWR_REQ_C3: refused while contexts are held, unless FORCE is set. -/
def execPwrReqC3 (c : ChId) (force : Bool) (s : State) : Host.Outcome State Fault Refusal :=
  onPwrReq c (fun x =>
    if x.pwr.st = .c3 then x.pwrResult 0
    else if x.sec.mode = .updating ∨ x.tripHolds then x.pwrResult 0xF3
    else if !force && x.ctx.entries.anyOf (fun _ e => decide (e.state ≠ .free ∧ e.state ≠ .retired)) then x.pwrResult 0xF2
    else (((x.loseKeys.event 0xF005 none 3 x.pwr.st.code).unpowered true .c3)).pwrResult 0) s

/-- PWR_REQ_WARM_RESET. -/
def execPwrReqWarmReset (c : ChId) (s : State) : Host.Outcome State Fault Refusal :=
  onPwrReq c (fun x => if x.pwr.st = .c3 ∨ x.sec.mode = .updating ∨ x.sec.mode = .failed ∨ x.tripHolds then x.pwrResult 0xF3 else x.pwrReset 4) s

/-- PWR_REQ_COLD_RESET: not in UPDATING (R481), and C3 is left by REQ 0x1 alone. -/
def execPwrReqColdReset (c : ChId) (s : State) : Host.Outcome State Fault Refusal :=
  onPwrReq c (fun x => if x.pwr.st = .c3 ∨ x.sec.mode = .updating then x.pwrResult 0xF3 else x.pwrReset 3) s

/-! ### Management contacts (R39, R491) -/

/-- MOISTURE_SENSOR_CHANGE: LEAK_N is low while the sensor is wet. -/
def execMoistureSensorChange (wet : Bool) (s : State) : Host.Outcome State Fault Refusal :=
  onHub (fun h => if h.leak = wet then h else { h with leak := wet, out := .pin "LEAK_N" (b2n !wet) :: h.out }) s

/-- SMBUS_MCTP_REQUEST: the hub answers. -/
def execSmbusMctpRequest (kind : Nat) (s : State) : Host.Outcome State Fault Refusal :=
  onHub (fun h => if h.bus = .lost then h else { h with out := .pin "SMBus MCTP response" kind :: h.out }) s

end Sys2Proof.Machine
end

