-- ==== Sys2Proof/Machine/Prefix.lean ====
section
/-! DEFINITION. The meanings of the prefix commands, the attachment messages and the cascade (chapter 12). -/
namespace Sys2Proof.Machine
open Sys2Proof

/-- Is a state SEALED or PARKED? -/
def CtxState.stored (s : CtxState) : Bool := decide (s = .sealed ∨ s = .parked)

/-! ### Commands (R328, R329, R334, R335) -/

/-- How many of the groups first to first + count − 1 have a key, once token ids have been supplied: groups are keyed in order, each from the key of the group
before it. -/
def Chan.keyed (c : Chan) (slot first count : Nat) : Nat :=
  let e := c.entry slot
  ((List.range (first + count)).foldl (fun (acc : Option Nat × Nat) g => match acc.1 with
    | none => acc
    | some prev =>
      let r := (c.map slot).grp g
      let key := if r.chain ≠ 0 then some r.chain else (c.pfx.tokens.find (tokenKey slot g)).map (chainKey (c.geom e.profile).id e.tag prev)
      (key, if key.isSome && decide (first ≤ g) then acc.2 + 1 else acc.2)) (some 0, 0)).2

/-- pfx.chain: 16 token ids for each group, and CHAIN_KEYs into the records of the groups that are FULL. -/
def Chan.pfxChain (c : Chan) (src : Src) (slot first count : Nat) (toks : List Nat) : Chan :=
  let c := (List.range count).foldl (fun c i =>
    { c with pfx := { c.pfx with tokens := c.pfx.tokens.put (tokenKey slot (first + i)) ((toks.drop (16 * i)).take 16) } }) c
  let done := ((List.range 262144).find? (fun g => decide (((c.map slot).grp g).chain = 0))).getD 262144
  let c := c.chainFrom slot chainFuel done
  c.complete src 0 (c.keyed slot first count)

/-- PFX_CHAIN. -/
def execPfxChain (c : ChId) (src : Src) (h first count : Nat) (tokens : Fetched (List Nat)) (s : State) : Host.Outcome State Fault Refusal :=
  onCh c (fun x => x.ctxCommand src ⟨false, false, false⟩ (fun x => x.withCtx src h (fun slot =>
    if count = 0 ∨ 4096 < count ∨ 262144 < first + count then x.complete src 0x28 0
    else x.reading src tokens (fun toks => x.pfxChain src slot first count toks)))) s

/-- May a command's function act on segment s: it exists, and a VF's OWNER is its slot? -/
def Chan.segFor (c : Chan) (src : Src) (s : Nat) : Bool := decide (s < 256) && src.vf.all (fun t => decide (c.segOwner s = t))

/-- The lowest-numbered invalid entry of segment s. -/
def Chan.freeEntry (c : Chan) (s : Nat) : Option Nat :=
  ((List.range 512).map (fun i => 512 * s + i)).find? (fun e => (c.pfx.entries.find e).isNone)

/-- Entries for the chain keys of groups, while the segment has room: how many were written. -/
def Chan.publish (c : Chan) (slot s : Nat) : List Nat → Nat × Chan
  | [] => (0, c)
  | g :: t =>
    match c.freeEntry s with
    | none => (0, c)
    | some e =>
      let x : PfxEntry := { key := ((c.map slot).grp g).chain, mask := 2 ^ 128 - 1, result := c.fget Reg.CHN_EID 17 0 * 2 ^ 14 + slot }
      let (n, c) := (c.pfxPut e (some x)).publish slot s t
      (n + 1, c)

/-- pfx.publish: nothing is written where a group has no CHAIN_KEY; a full segment takes what it has room for. -/
def Chan.pfxPublish (c : Chan) (src : Src) (slot s : Nat) (groups : List Nat) : Chan :=
  if !(c.entry slot).state.stored then c.complete src 0x22 0
  else if !c.segFor src s ∨ c.segUse s ≠ 1 then c.complete src 0x90 0
  else if !c.running (0x100 + s) then c.complete src 0x92 0
  else if 64 < groups.length then c.complete src 0x28 0
  else if groups.any (fun g => decide (((c.map slot).grp g).chain = 0)) then c.complete src 0x93 0
  else
    let (n, c) := c.publish slot s groups
    if n = groups.length then c.complete src 0 n
    else (c.event 0x9003 (if c.segOwner s < 16 then some (c.segOwner s) else none) s (groups.length - n)).complete src 0x91 n

/-- PFX_PUBLISH. -/
def execPfxPublish (c : ChId) (src : Src) (h seg : Nat) (groups : Fetched (List Nat)) (s : State) : Host.Outcome State Fault Refusal :=
  onCh c (fun x => x.ctxCommand src ⟨false, false, false⟩ (fun x => x.withCtx src h (fun slot =>
    x.reading src groups (fun gs => x.pfxPublish src slot seg gs)))) s

/-- The results of a pfx.lookup written to the host, in key order. -/
def Chan.lookupDone (c : Chan) (src : Src) (host total : Nat) (results : AMap Nat) : Chan :=
  let (ok, c') := c.hostWrite src.fn host ((List.range total).flatMap (fun i => leBytes 8 (results.getD i 0)))
  if ok then c'.complete src 0 0 else (c'.srcError src host ((c.dmaFault src.fn).getD 7)).complete src 0xB2 0

/-- The keys of a pfx.lookup looked up in order: the results at hand, and how many are on the ring. -/
def Chan.lookupKeys (c : Chan) (src : Src) (host s : Nat) (i : Nat) : List Nat → AMap Nat × Nat × Chan
  | [] => ([], 0, c)
  | k :: t =>
    let (r, c) := c.lookup s (k % 2 ^ 128) (.cmd src host i)
    let (rs, owed, c) := c.lookupKeys src host s (i + 1) t
    match r with
    | some x => (rs.put i (lookupWord x), owed, c)
    | none => (rs, owed + 1, c)

/-- PFX_LOOKUP: up to 64 keys; it completes once none of them is on the ring. -/
def execPfxLookup (c : ChId) (src : Src) (seg : Nat) (keys : Fetched (List Nat)) (results : Nat) (s : State) : Host.Outcome State Fault Refusal :=
  onCh c (fun x => x.command src ⟨false, false, false⟩ (fun x =>
    if !x.segFor src seg then x.complete src 0x90 0
    else x.reading src keys (fun ks =>
      if 64 < ks.length then x.complete src 0x28 0
      else
        let (rs, owed, x) := x.lookupKeys src results seg 0 ks
        if owed = 0 then x.lookupDone src results ks.length rs
        else { x with pfx := { x.pfx with cmds := x.pfx.cmds ++ [{ src := src, host := results, results := rs, owed := owed, total := ks.length }] } }))) s

/-- PFX_WRITE. -/
def execPfxWrite (c : ChId) (src : Src) (entry key mask result : Nat) (valid : Bool) (s : State) : Host.Outcome State Fault Refusal :=
  onCh c (fun x => x.command src ⟨true, false, false⟩ (fun x =>
    if 131071 < entry then x.complete src 0x28 0
    else if !x.running (0x100 + entry / 512) then x.complete src 0x92 0
    else (x.pfxPut entry (if valid then some { key := key % 2 ^ 128, mask := mask % 2 ^ 128, result := result % 2 ^ 32 } else none)).complete src 0 0)) s

/-- PFX_UNPIN. -/
def execPfxUnpin (c : ChId) (src : Src) (owner count : Nat) (s : State) : Host.Outcome State Fault Refusal :=
  onCh c (fun x => x.ctxCommand src ⟨true, false, false⟩ (fun x => x.withCtx src owner (fun slot =>
    if (x.entry slot).refs < count then x.complete src 0x94 0
    else
      let x := if count = 0 then x else x.lowerRefs slot count
      x.complete src 0 (x.entry slot).refs))) s

/-! ### Attachment messages (R330 to R332) -/

/-- An answer to an attachment message, kept for 100 ms. -/
def Chan.attachAnswer (c : Chan) (peer ty : Nat) (m : AttachMsg) : Chan :=
  let c := { c with pfx := { c.pfx with answered := { peer := peer, reqNum := m.reqNum, ty := ty, msg := m, until_ := c.time + 100 * ms } ::
                                          c.pfx.answered.filter (fun a => decide (c.time < a.until_)) } }
  c.sendAttach peer ty m

/-- A request of a peer: one that was answered within 100 ms is answered the same again, and counts nothing. -/
def Chan.attachRepeat (c : Chan) (peer : Nat) (m : AttachMsg) (fresh : Chan → Chan) : Chan :=
  if !c.serves ∨ !c.ctx.ready then c
  else match c.pfx.answered.find? (fun a => decide (a.peer = peer ∧ a.reqNum = m.reqNum ∧ c.time < a.until_)) with
    | some a => c.sendAttach peer a.ty a.msg
    | none => fresh c

/-- The first reason that refuses an ATTACH to a slot (R331), if any. -/
def Chan.attachReason (c : Chan) (slot : Nat) (m : AttachMsg) : Option Nat :=
  let e := c.entry slot
  if c.rel.mode = .shadow then some 6
  else if bits m.owner 47 30 ≠ c.fget Reg.CHN_EID 17 0 then some 1
  else if e.state = .offered then some 5
  else if !e.state.stored then some 1
  else if e.tag ≠ m.tag ∨ (c.geom e.profile).id ≠ m.profileId then some 2
  else if e.committed < 16 * m.n then some 3
  else if m.n = 0 ∨ ((c.map slot).grp (m.n - 1)).chain = 0 ∨ ((c.map slot).grp (m.n - 1)).chain ≠ m.chain then some 4
  else none

/-- ATTACH at the owner's channel. -/
def execAttach (c : ChId) (peer : Nat) (m : AttachMsg) (s : State) : Host.Outcome State Fault Refusal :=
  onChS c (fun x => x.attachRepeat peer m (fun x =>
    let slot := bits m.owner 29 16
    match x.attachReason slot m with
    | some r => x.attachAnswer peer 3 { m with reason := r }
    | none =>
      let x := x.raiseRefs slot m.n
      x.attachAnswer peer 2 { m with reason := 0, owner := x.handle slot })) s

/-- DETACH at the owner's channel: it counts only where the handle names a prefix owner (R332), and is always answered. -/
def execDetach (c : ChId) (peer : Nat) (m : AttachMsg) (s : State) : Host.Outcome State Fault Refusal :=
  onChS c (fun x => x.attachRepeat peer m (fun x =>
    let x := match x.ownerSlot m.owner with
      | some slot => x.lowerRefs slot 1
      | none => x
    x.attachAnswer peer 5 m)) s

/-- The request of this channel that an answer of a peer belongs to. -/
def Chan.attachAsked (c : Chan) (peer : Nat) (m : AttachMsg) (isDetach : Bool) : Option AttachReq :=
  (c.pfx.reqs.find m.reqNum).bind (fun q => if q.peer = peer ∧ q.isDetach = isDetach then some q else none)

/-- A request is done with. -/
def Chan.dropAttachReq (c : Chan) (q : Nat) : Chan := { c with pfx := { c.pfx with reqs := c.pfx.reqs.del q } }

/-- A reference that the owner has counted and no context of this channel holds is given back. -/
def Chan.giveBack (c : Chan) (peer : Nat) (m : AttachMsg) (src : Option Src) (status : Nat) : Chan :=
  (c.attachRequest peer true { m with reason := 0 } none).completeOpt src status 0

/-- ATTACH_ACK: the attach completes (R122), where the context may still take it. -/
def Chan.attachAcked (c : Chan) (peer : Nat) (m : AttachMsg) (q : AttachReq) : Chan :=
  match c.checkHandle q.msg.attacher with
  | .error _ => c.giveBack peer { q.msg with owner := m.owner } q.cmd 0x20
  | .ok slot =>
    if !c.attachable slot then c.giveBack peer { q.msg with owner := m.owner } q.cmd 0x22
    else match c.needBlocks slot q.msg.n with
      | none => c.giveBack peer { q.msg with owner := m.owner } q.cmd 0x30
      | some c => (c.attachTo slot m.owner q.msg.n none).completeOpt q.cmd 0 (16 * q.msg.n)

/-- ATTACH_ACK. -/
def execAttachAck (c : ChId) (peer : Nat) (m : AttachMsg) (s : State) : Host.Outcome State Fault Refusal :=
  onChS c (fun x => if !x.serves then x else match x.attachAsked peer m false with
    | some q => (x.dropAttachReq m.reqNum).attachAcked peer m q
    | none => x) s

/-- ATTACH_REFUSE: pg.attach completes with 0x31 and changes nothing (R122). -/
def execAttachRefuse (c : ChId) (peer : Nat) (m : AttachMsg) (s : State) : Host.Outcome State Fault Refusal :=
  onChS c (fun x => if !x.serves then x else match x.attachAsked peer m false with
    | some q => (x.dropAttachReq m.reqNum).completeOpt q.cmd 0x31 0
    | none => x) s

/-- The detach that a request asked for is complete at the attacher, where the context is still attached to that owner. -/
def Chan.detachEnd (c : Chan) (m : AttachMsg) : Chan :=
  match c.checkHandle m.attacher with
  | .ok slot => if (c.entry slot).prefixAttached ∧ (c.map slot).attachment.1 = m.owner then c.detached slot else c
  | .error _ => c

/-- DETACH_ACK. -/
def execDetachAck (c : ChId) (peer : Nat) (m : AttachMsg) (s : State) : Host.Outcome State Fault Refusal :=
  onChS c (fun x => if !x.serves then x else match x.attachAsked peer m true with
    | some q => (x.dropAttachReq m.reqNum).detachEnd q.msg
    | none => x) s

/-- A message unanswered after 8 sends (R331, R332): pg.attach completes with 0x31, or the detach completes alone; the event names the owner. -/
def Chan.attachUnresolved (c : Chan) (n : Nat) (q : AttachReq) : Chan :=
  let c := c.dropAttachReq n
  let c := c.event 0x9004 ((c.slotOfTag q.msg.tag)) q.msg.attacher (q.msg.owner / 65536 * 65536)
  if q.isDetach then c.detachEnd q.msg else c.completeOpt q.cmd 0x31 0

/-- ATTACH_MSG_RETRY. -/
def execAttachMsgRetry (c : ChId) (req : Nat) (s : State) : Host.Outcome State Fault Refusal :=
  onChS c (fun x => if !x.serves then x else match x.pfx.reqs.find req with
    | none => x
    | some q =>
      let x := x.reach q.due
      if 8 ≤ q.tries then x.attachUnresolved req q
      else
        let x := { x with pfx := { x.pfx with reqs := x.pfx.reqs.put req { q with tries := q.tries + 1, due := x.time + ms } } }
        x.sendAttach q.peer (if q.isDetach then 4 else 1) q.msg) s

/-! ### The cascade (R326, R327) -/

/-- One key of a pfx.lookup is back from the ring. -/
def Chan.keyBack (c : Chan) (src : Src) (i : Nat) (r : Option Nat) : Chan :=
  match c.pfx.cmds.find? (fun q => decide (q.src = src)) with
  | none => c
  | some q =>
    let rest := c.pfx.cmds.erase q
    let rs := q.results.put i (lookupWord r)
    if q.owed ≤ 1 then { c with pfx := { c.pfx with cmds := rest } }.lookupDone src q.host q.total rs
    else { c with pfx := { c.pfx with cmds := rest ++ [{ q with results := rs, owed := q.owed - 1 }] } }

/-- A SRCH is back from the ring: its core goes on, where it still waits for this lookup and no later one. -/
def Chan.srchBack (c : Chan) (k d : Nat) (r : Option Nat) : Chan :=
  let g := c.core k
  let later := c.pfx.waits.any (fun w => match w.who with | .core k' _ => decide (k' = k) && !w.probe | .cmd _ _ _ => false)
  match g.wait with
  | some (.lookup d') => if d' = d ∧ !later then c.stepCore k ({ g with wait := none }.setS d (w64 (lookupWord r))) else c
  | _ => c

/-- A lookup that was on the ring is over with result r. -/
def Chan.lookupBack (c : Chan) (w : CascWait) (r : Option Nat) : Chan :=
  let c := { c with pfx := { c.pfx with waits := c.pfx.waits.erase w } }.countLookup r
  match w.who with
  | .core k d => c.srchBack k d r
  | .cmd src _ i => c.keyBack src i r

/-- The channel's own probe is back: a cascade that was down is up. -/
def Chan.probeBack (c : Chan) (w : CascWait) : Chan :=
  let c := { c with pfx := { c.pfx with waits := c.pfx.waits.erase w, miss := 0 } }
  if c.pfx.casc = 2 then { c with pfx := { c.pfx with casc := 1 } }.event 0x9002 none c.cascPos (c.time - c.pfx.downAt) else c

/-- The channel's own frame is back: the hit of the lowest POS wins, and the frame carries it. -/
def Chan.frameBack (c : Chan) (f : CascFrame) : Chan :=
  match c.pfx.waits.find? (fun w => decide (w.seq = f.seq ∧ w.probe = f.probe)) with
  | none => c
  | some w =>
    if w.probe then c.probeBack w
    else
      let c := { c with pfx := { c.pfx with miss := 0 } }
      let c := if f.hit ∧ f.hitPos ≠ c.cascPos then c.bump Reg.PFX_CASC_CNT 31 0 1 else c
      c.lookupBack w (if f.hit then some f.result else none)

/-- The segment as a member searches it for another (R326): the same USE, CASC set, and an owner of the same tag. -/
def Chan.searchFor (c : Chan) (f : CascFrame) : Option Nat :=
  if c.segUse f.seg = f.use ∧ f.use ≠ 2 ∧ c.flag (Reg.PFX_SEG_CFG f.seg) 61 ∧ c.segTag f.seg = f.tag then c.pfxSearch f.seg f.key else none

/-- Another member's frame sent on, with this member's hit where it is the best so far. -/
def Chan.frameOn (c : Chan) (f : CascFrame) : Chan :=
  let f := if f.probe then f else match c.searchFor f with
    | some r => if !f.hit ∨ c.cascPos < f.hitPos then { f with hit := true, hitPos := c.cascPos, result := r } else f
    | none => f
  c.emit (.matchOut (cascBytes f))

/-- CASCADE_FRAME: a frame whose CRC fails is dropped; so is one that reaches a channel that is no member. -/
def execCascadeFrame (c : ChId) (f : CascFrame) (s : State) : Host.Outcome State Fault Refusal :=
  onCh c (fun x => if !x.serves ∨ !f.crcOk ∨ x.cascState = 0 then x
    else if f.pos = x.cascPos then x.frameBack f
    else x.frameOn f) s

/-- A frame has not come back in 10 µs: counted; after three in a row the cascade is down. -/
def Chan.cascTimedOut (c : Chan) (w : CascWait) : Chan :=
  let c := (c.reach w.due).bump Reg.PFX_CASC_CNT 63 32 1
  let c := { c with pfx := { c.pfx with miss := c.pfx.miss + 1 } }
  let c := if 3 ≤ c.pfx.miss ∧ c.cascState = 1 then
      { c with pfx := { c.pfx with casc := 2, downAt := c.time, probeDue := c.time + ms } }.event 0x9001 none c.cascPos (c.fget Reg.PFX_CASC_CNT 63 32)
    else c
  if w.probe then { c with pfx := { c.pfx with waits := c.pfx.waits.erase w } } else c.lookupBack w w.local_

/-- CASCADE_TIMEOUT. -/
def execCascadeTimeout (c : ChId) (seq : Nat) (s : State) : Host.Outcome State Fault Refusal :=
  onCh c (fun x => match x.pfx.waits.find? (fun w => decide (w.seq = seq)) with
    | some w => x.cascTimedOut w
    | none => x) s

/-- CASCADE_PROBE_DUE: a probe every 1 ms while the cascade is down. -/
def execCascadeProbeDue (c : ChId) (s : State) : Host.Outcome State Fault Refusal :=
  onCh c (fun x => if !x.serves ∨ x.cascState ≠ 2 then x
    else
      let x := x.reach x.pfx.probeDue
      { x with pfx := { x.pfx with probeDue := x.time + ms } }.cascSend (.core 0 0) 0 0 none true) s

end Sys2Proof.Machine
end

