-- ==== Sys2Proof/Machine/Receive.lean ====
section
/-! DEFINITION. The meanings of the FMT packets and of the transport's timers (R275 to R277, R283 to R292). -/
namespace Sys2Proof.Machine
open Sys2Proof

/-! ### Admission of a packet -/

/-- Frame bytes of an FMT packet with n payload bytes on a connection (R274, R309), with a tag where the port uses one. -/
def Chan.fmtSize (c : Chan) (x : Conn) (n : Nat) : Nat :=
  14 + (if c.flag (Reg.FAB_PORT_L2 x.port) 63 then 4 else 0) + (if x.v6 then 40 else 20) + 8 + 40 + 8 + n + 16 + 4

/-- A packet that fails its tag, or lacks PROT (R277): discarded, counted, and reported at most once per 1 ms per sender. -/
def Chan.authFail (c : Chan) (eid : Nat) : Chan := (c.bump Reg.FAB_RX_CNT 63 32 1).eventEvery ms 0x7008 eid none eid (fun n => n)

/-- CONN_REJ in answer to a packet (R283, R284); the frame is attributed to no connection (R311). -/
def Chan.sendRej (c : Chan) (p : FmtPkt) (reason : Nat) : Chan :=
  c.sendFmt p.dstConn 6 (c.flag Reg.FAB_FMT_CFG 0) { FmtHdr.plain 0x22 p.dstConn p.srcEid p.srcConn with syndrome := reason } [] false

/-- A packet for a connection that is not OPEN with its sender (R283): CONN_REJ with reason 0x03, at most once per 1 ms per peer. -/
def Chan.stray (c : Chan) (p : FmtPkt) : Chan :=
  match c.fab.rejAt.find p.srcEid with
  | some t => if c.time < t + ms then c else { c with fab := { c.fab with rejAt := c.fab.rejAt.put p.srcEid c.time } }.sendRej p 3
  | none => { c with fab := { c.fab with rejAt := c.fab.rejAt.put p.srcEid c.time } }.sendRej p 3

/-- Does the channel take FMT traffic at all: it serves, holds the EID that the packet names, and some port is not STOPPED (R30, R269)? -/
def Chan.hears (c : Chan) (p : FmtPkt) : Bool :=
  c.serves && decide (c.eid = some p.dstEid) && (List.range c.ports).any (fun n => decide (c.fnState (0x10 + n) ≠ .stopped))

/-- Is a connection one with the sender of a packet? -/
def Conn.isWith (x : Conn) (p : FmtPkt) : Bool := x.roce.isNone && decide (x.peer = p.srcEid ∧ x.peerConn = p.srcConn)

/-- Does a VALID entry of REL_HB_PEER name an EID (R452)? -/
def Chan.hbPeer (c : Chan) (eid : Nat) : Bool := (List.range 16).any (fun i => c.flag (Reg.REL_HB_PEER i) 63 && decide (c.fget (Reg.REL_HB_PEER i) 17 0 = eid))

/-- A packet of an EID (R454): a heartbeat peer has been heard now, and one that was silent is reported again. -/
def Chan.heardFrom (c : Chan) (eid : Nat) : Chan :=
  if !c.hbPeer eid then c
  else
    let was := c.rel.silent.contains eid
    let c := { c with rel := { c.rel with heard := c.rel.heard.put eid c.time, silent := c.rel.silent.filter (fun e => decide (e ≠ eid)) } }
    if was then c.event 0xE00B none eid (2 ^ 63) else c

/-- A packet of a peer that must pass its tag (R277). -/
def Chan.onPacket (c : Chan) (p : FmtPkt) (body : Chan → Chan) : Chan :=
  if !c.hears p then c
  else if !p.prot ∨ !p.tagOk then c.authFail p.srcEid
  else body (c.heardFrom p.srcEid)

/-- A packet that must pass its tag and the policer, on an OPEN or CLOSING connection with its sender. -/
def Chan.onConn (c : Chan) (p : FmtPkt) (body : Chan → Nat → Chan) (traffic : Bool := true) : Chan :=
  c.onPacket p (fun c =>
    let k := p.dstConn
    let x := c.conn k
    if !((decide (x.st = .open_ ∨ x.st = .closing)) && x.isWith p) then c.stray p
    else
      let size := c.fmtSize x p.data.length
      match c.admitFrame k size p.ce with
      | none => c.redFrame k size
      | some c => body (if traffic then c.setConn k { c.conn k with lastUse := c.time } else c) k)

/-! ### STORE and FSTORE -/

/-- The access that a packet asks for. -/
def FmtPkt_acc (p : FmtPkt) (flagged : Bool) : Acc :=
  { conn := p.dstConn, psn := p.psn, off := p.addr % 2 ^ 46, region := p.region, key := p.key, gen := some p.gen, eid := p.srcEid, flagged := flagged }

/-- A store packet whose form R276 and R292 allow. -/
def FmtPkt_storeOk (p : FmtPkt) (x : Conn) (flagged : Bool) : Bool :=
  let n := p.data.length
  decide (p.addr % 8 = 0 ∧ n % 8 = 0 ∧ 8 ≤ n ∧ n ≤ x.pmtu) && (if flagged then p.first && p.last && p.ar else p.last || decide (n = x.pmtu))

/-- A store of either kind, judged in order. -/
def Chan.storePacket (c : Chan) (p : FmtPkt) (flagged : Bool) : Chan :=
  c.onConn p (fun c k => c.inOrder k p.psn (fun c =>
    if !FmtPkt_storeOk p (c.conn k) flagged then c.refused k p.psn p.addr p.srcEid (4, 0)
    else match c.judgeStore (FmtPkt_acc p flagged) false p.data with
      | (c, .ok units) => c.accepted k p.psn 1 p.ar units
      | (c, .error r) => c.refused k p.psn p.addr p.srcEid r) id)

/-- STORE. -/
def execStore (c : ChId) (p : FmtPkt) (s : State) : Host.Outcome State Fault Refusal := onChS c (fun x => x.storePacket p false) s

/-- FSTORE. -/
def execFstore (c : ChId) (p : FmtPkt) (s : State) : Host.Outcome State Fault Refusal := onChS c (fun x => x.storePacket p true) s

/-! ### LOAD and LOAD_RESP -/

/-- The answer to a load in packets of the connection's PMTU. -/
def Chan.sendLoadResp (c : Chan) (k psn : Nat) (data : List Byte) : Chan :=
  let step := max 1 (c.conn k).pmtu
  (List.range ((data.length + step - 1) / step)).foldl (fun c i =>
    let flags := 128 * b2n (decide (i = 0)) + 64 * b2n (decide (data.length ≤ (i + 1) * step))
    c.sendOn k (fun h => { h with flags := flags, psn := psn, oplen := i * step }) 4 ((data.drop (i * step)).take step)) c

/-- A load packet whose form R276 and R292 allow. -/
def FmtPkt_loadOk (p : FmtPkt) : Bool := decide (p.addr % 8 = 0 ∧ p.oplen % 8 = 0 ∧ 8 ≤ p.oplen ∧ p.oplen ≤ 1048576 ∧ p.data = [])

/-- LOAD: answered in order, and answered again as a duplicate. -/
def execLoad (c : ChId) (p : FmtPkt) (s : State) : Host.Outcome State Fault Refusal :=
  onChS c (fun x => x.onConn p (fun x k => x.inOrder k p.psn (fun x =>
    if !FmtPkt_loadOk p then x.refused k p.psn p.addr p.srcEid (4, 0)
    else match x.judgeLoad (FmtPkt_acc p false) p.oplen with
      | (x, .ok data) => (x.sendLoadResp k p.psn data).accepted k p.psn 1 p.ar 0
      | (x, .error r) => x.refused k p.psn p.addr p.srcEid r)
    (fun x => if !FmtPkt_loadOk p then x else match x.judgeLoad (FmtPkt_acc p false) p.oplen with
      | (x, .ok data) => x.sendLoadResp k p.psn data
      | (x, .error _) => x))) s

/-- LOAD_RESP: OPLEN is the byte offset within the load. -/
def execLoadResp (c : ChId) (p : FmtPkt) (s : State) : Host.Outcome State Fault Refusal :=
  onChS c (fun x => x.onConn p (fun x k => (x.answered k p.psn p.oplen false p.data).flush k)) s

/-! ### Atomics -/

/-- The answer to an atomic: the old value. -/
def Chan.sendAtomicResp (c : Chan) (k psn old : Nat) : Chan := c.sendOn k (fun h => { h with flags := 192, psn := psn }) 8 (beBytes 8 old)

/-- An atomic with n bytes of operands: applied once, and a duplicate answered from the results kept. -/
def Chan.atomicPacket (c : Chan) (p : FmtPkt) (n : Nat) (f : Nat → Option Nat) : Chan :=
  c.onConn p (fun c k => c.inOrder k p.psn (fun c =>
    if p.data.length ≠ n then c.refused k p.psn p.addr p.srcEid (4, 0)
    else match c.judgeAtomic (FmtPkt_acc p false) f with
      | (c, .ok old) =>
        let x := c.conn k
        ((c.setConn k { x with atomics := ((p.psn, old) :: x.atomics).take c.atomicMax }).sendAtomicResp k p.psn old).accepted k p.psn 1 p.ar 0
      | (c, .error r) => c.refused k p.psn p.addr p.srcEid r)
    (fun c => match (c.conn k).atomics.find? (fun e => decide (e.1 = p.psn)) with
      | some e => c.sendAtomicResp k p.psn e.2
      | none => c))

/-- FADD64. -/
def execFadd64 (c : ChId) (p : FmtPkt) (s : State) : Host.Outcome State Fault Refusal :=
  onChS c (fun x => x.atomicPacket p 8 (fun old => some (old + beVal (p.data.take 8)))) s

/-- CSWAP64. -/
def execCswap64 (c : ChId) (p : FmtPkt) (s : State) : Host.Outcome State Fault Refusal :=
  onChS c (fun x => x.atomicPacket p 16 (fun old => if old = beVal ((p.data.drop 8).take 8) then some (beVal (p.data.take 8)) else none)) s

/-- SWAP64. -/
def execSwap64 (c : ChId) (p : FmtPkt) (s : State) : Host.Outcome State Fault Refusal :=
  onChS c (fun x => x.atomicPacket p 8 (fun _ => some (beVal (p.data.take 8)))) s

/-- ATOMIC_RESP. -/
def execAtomicResp (c : ChId) (p : FmtPkt) (s : State) : Host.Outcome State Fault Refusal :=
  onChS c (fun x => x.onConn p (fun x k => (x.answered k p.psn 0 true (p.data.take 8)).flush k)) s

/-! ### ACK and NAK -/

/-- The receiver's window, as an ACK or NAK advertises it. -/
def Chan.advertised (c : Chan) (k : Nat) (p : FmtPkt) : Chan := c.setConn k { c.conn k with peerWin := p.window }

/-- ACK. -/
def execAck (c : ChId) (p : FmtPkt) (s : State) : Host.Outcome State Fault Refusal :=
  onChS c (fun x => x.onConn p (fun x k => (((x.advertised k p).acked k p.psn).cutWindow k p.ece (x.conn k)).flush k) false) s

/-- NAK. -/
def execNak (c : ChId) (p : FmtPkt) (s : State) : Host.Outcome State Fault Refusal :=
  onChS c (fun x => x.onConn p (fun x k => (((x.advertised k p).nakked k p.syndrome p.psn p.reason).cutWindow k p.ece (x.conn k)).flush k) false) s

/-! ### Opening and closing (R283 to R285) -/

/-- The fields of CONN_REQ and CONN_ACC (R276). -/
def connFields (d : List Byte) : Nat × Nat × Nat × Nat × Nat :=
  (beVal (d.take 4), beVal ((d.drop 4).take 2), beVal ((d.drop 6).take 2), beVal ((d.drop 8).take 1), beVal ((d.drop 9).take 1))

/-- The access list of a tenant slot (R333): does the sender's EID hit with bit 0 of its RESULT set? -/
def Chan.aclPasses (c : Chan) (t eid : Nat) : Bool :=
  match (List.range 256).find? (fun s => decide (c.segUse s = 2 ∧ c.segOwner s = t)) with
  | none => false
  | some s => (c.pfxSearch s eid).any (fun r => r.testBit 0)

/-- The admission checks of R284: the first that fails. -/
def Chan.connReason (c : Chan) (p : FmtPkt) : Option Nat :=
  let (tag, target, source, _, _) := connFields p.data
  if !c.session p.srcEid then some 5
  else if target = 0 then (if source = 0 then none else some 1)
  else match c.pdSlot target with
    | none => some 1
    | some t =>
      if tag = 0 ∨ c.tag t ≠ tag then some 1
      else if ((c.fab.pds.find target).map (fun d => d.acl)).getD false && !c.aclPasses t p.srcEid then some 2
      else none

/-- A request refused, and reported (R303). -/
def Chan.connRefused (c : Chan) (p : FmtPkt) (reason : Nat) : Chan := (c.event 0x700B none p.srcEid reason).sendRej p reason

/-- The connection that an earlier copy of a CONN_REQ opened. -/
def Chan.connRepeat (c : Chan) (p : FmtPkt) : Option Nat :=
  (c.fab.conns.keysWhere (fun _ x => decide (x.st = .open_) && !x.ours && x.isWith p && decide (x.peerInit = p.psn))).head?

/-- A request admitted: OPEN with a random initial PSN and the lesser PMTU, answered with CONN_ACC. -/
def Chan.connAdmit (c : Chan) (p : FmtPkt) : Chan :=
  match c.nextConn with
  | none => c.connRefused p 4
  | some (k, c) =>
    let (_, target, source, prio, pmtu) := connFields p.data
    let v6 := c.flag Reg.FAB_FMT_CFG 0
    let (r, c) := c.draw
    let x : Conn := { Conn.init with st := .open_, prio := prio % 8, pd := target, target := source, peer := p.srcEid, peerConn := p.srcConn, initPsn := r % psnMod,
                                     nx := r % psnMod, una := r % psnMod, pmtu := pmtuBytes (min pmtu (c.basePmtu v6)), v6 := v6, ours := false,
                                     port := (c.portFor k).getD 0 }
    ((c.setConn k x).nowOpen k p.psn).sendConn k 0x21

/-- The PD 0 connection that this side requested and must give up for the one that the peer, with the lower EID, requested (R285). -/
def Chan.extraBase (c : Chan) (peer : Nat) : Chan :=
  let of := fun (ours : Bool) => (c.fab.conns.keysWhere (fun _ x => decide (x.pd = 0 ∧ x.peer = peer ∧ x.st = .open_) && x.roce.isNone && (x.ours == ours))).head?
  match of true, of false with
  | some k, some _ => if peer < c.fget Reg.CHN_EID 17 0 then c.startClose k else c
  | _, _ => c

/-- CONN_REQ. -/
def execConnReq (c : ChId) (p : FmtPkt) (s : State) : Host.Outcome State Fault Refusal :=
  onChS c (fun x => x.onPacket p (fun x =>
    match x.connRepeat p with
      | some k => x.sendConn k 0x21
      | none => match x.connReason p with
        | some r => x.connRefused p r
        | none => (x.connAdmit p).extraBase p.srcEid)) s

/-- CONN_ACC: the open completes with the connection number, and what waited for it goes. -/
def execConnAcc (c : ChId) (p : FmtPkt) (s : State) : Host.Outcome State Fault Refusal :=
  onChS c (fun x => x.onPacket p (fun x =>
    let k := p.dstConn
    let y := x.conn k
    if y.st = .reqSent ∧ y.peer = p.srcEid then
      let (_, _, _, _, pmtu) := connFields p.data
      let x := x.setConn k { y with peerConn := p.srcConn, pmtu := min y.pmtu (pmtuBytes pmtu) }
      (((x.nowOpen k p.psn).completeOpt y.openCmd 0 k).flush k).extraBase p.srcEid
    else if y.st = .open_ ∧ y.isWith p then x
    else x.stray p)) s

/-- CONN_REJ: an open fails; a connection whose peer has none is in ERROR. -/
def execConnRej (c : ChId) (p : FmtPkt) (s : State) : Host.Outcome State Fault Refusal :=
  onChS c (fun x => x.onPacket p (fun x =>
    let k := p.dstConn
    let y := x.conn k
    if y.peer ≠ p.srcEid ∨ y.roce.isSome then x
    else match y.st with
      | .reqSent => ((x.completeOpt y.openCmd 0x81 p.syndrome).failOps k 0x82).connQuarantine k
      | .open_ | .closing => if p.syndrome = 3 then x.connError k 2 false else x
      | _ => x)) s

/-- CLOSE: answered; what the peer has not acknowledged fails. -/
def execClose (c : ChId) (p : FmtPkt) (s : State) : Host.Outcome State Fault Refusal :=
  onChS c (fun x => x.onPacket p (fun x =>
    let k := p.dstConn
    let y := x.conn k
    if !y.isWith p then x.stray p
    else match y.st with
      | .open_ | .closing => ((x.sendOn k id 0x24 []).failOps k 0x82).connQuarantine k
      | .quarantine => x.sendOn k id 0x24 []
      | _ => x.stray p)) s

/-- CLOSE_ACK: the close completes; in QUARANTINE it is discarded. -/
def execCloseAck (c : ChId) (p : FmtPkt) (s : State) : Host.Outcome State Fault Refusal :=
  onChS c (fun x => x.onPacket p (fun x =>
    let k := p.dstConn
    let y := x.conn k
    match y.st with
      | .closing => if y.isWith p ∧ y.due.isSome then x.connQuarantine k else x
      | .quarantine => x
      | _ => if y.st = .open_ ∧ y.isWith p then x else x.stray p)) s

/-! ### Timers -/

/-- A load whose answers have not all come (R292): the missing range is issued again as a new operation. -/
def TxOp.missing (o : TxOp) : TxOp :=
  let rec_ := fun (n : Nat) => (List.range n).foldl (fun (d : List Byte) _ => match o.got.find d.length with | some b => d ++ b | none => d) []
  let have_ := rec_ o.got.length
  { o with data := o.data ++ have_, addr := o.addr + have_.length, len := o.len - have_.length, got := [], sent := false, npkts := 0 }

/-- RETRANSMIT_TIMEOUT (R287, R290): everything from the oldest unacknowledged packet is sent again, or the connection is in ERROR. Where every packet is
acknowledged, the loads whose answers are missing are issued again (R292). -/
def Chan.retransmit (c : Chan) (k due : Nat) : Chan :=
  let c := c.reach due
  let x := c.conn k
  if x.una = x.nx then
    (c.setConn k { x with rtoDue := some (c.time + x.rto), ops := x.ops.map (fun o => if o.sent ∧ o.opcode = 3 then o.missing else o) }).flush k
  else
    let c := c.bump Reg.FAB_RETX_CNT 63 32 1
    let limit := if x.roce.isSome then 7 else c.retryMax
    if limit < x.retries + 1 then c.connError k 1 false
    else
      let rto := max x.rto (min (2 * x.rto) (65 * ms))
      (c.setConn k { x with retries := x.retries + 1, rto := rto, cwnd := max 1 (x.cwnd / 2), rtoDue := some (c.time + rto) }).resend k

/-- RETRANSMIT_TIMEOUT. -/
def execRetransmitTimeout (c : ChId) (conn : Nat) (s : State) : Host.Outcome State Fault Refusal :=
  onChS c (fun x => match (x.conn conn).rtoDue with
    | some d => if (x.conn conn).st = .open_ ∨ (x.conn conn).st = .closing then x.retransmit conn d else x
    | none => x) s

/-- ACK_DELAY_EXPIRY. -/
def execAckDelayExpiry (c : ChId) (conn : Nat) (s : State) : Host.Outcome State Fault Refusal :=
  onCh c (fun x => match (x.conn conn).ackDue with
    | some d => (x.reach d).sendAck conn
    | none => x) s

/-- RNR_DELAY_EXPIRY: the sender goes back to the refused packet. -/
def execRnrDelayExpiry (c : ChId) (conn : Nat) (s : State) : Host.Outcome State Fault Refusal :=
  onChS c (fun x => match (x.conn conn).rnrDue with
    | some d =>
      let x := x.reach d
      ((x.setConn conn { x.conn conn with rnrDue := none, rtoDue := some (x.time + (x.conn conn).rto) }).resend conn).flush conn
    | none => x) s

/-- CONN_REQ_RETRY: sent again, up to 8 times; then the peer is unreachable. -/
def execConnReqRetry (c : ChId) (conn : Nat) (s : State) : Host.Outcome State Fault Refusal :=
  onChS c (fun x =>
    let y := x.conn conn
    match y.due with
    | some d =>
      if y.st ≠ .reqSent then x
      else
        let x := x.reach d
        if y.tries < 8 then (x.setConn conn { y with tries := y.tries + 1, due := some (x.time + ms) }).sendConn conn 0x20
        else ((x.completeOpt y.openCmd 0x80 0).failOps conn 0x82).connQuarantine conn
    | none => x) s

/-- CLOSE_RETRY: sent again, up to 8 times; then the close completes alone. -/
def execCloseRetry (c : ChId) (conn : Nat) (s : State) : Host.Outcome State Fault Refusal :=
  onChS c (fun x =>
    let y := x.conn conn
    match y.due with
    | some d =>
      if y.st ≠ .closing then x
      else
        let x := x.reach d
        if y.tries < 8 then (x.setConn conn { y with tries := y.tries + 1, due := some (x.time + ms) }).sendClose conn
        else x.connQuarantine conn
    | none => x) s

/-- QUARANTINE_END: the number is CLOSED, and the last to be used again. -/
def execQuarantineEnd (c : ChId) (conn : Nat) (s : State) : Host.Outcome State Fault Refusal :=
  onCh c (fun x =>
    let y := x.conn conn
    if y.st ≠ .quarantine then x
    else
      let x := (x.reach y.endAt).setConn conn Conn.init
      { x with fab := { x.fab with freeConns := pushRun x.fab.freeConns conn } }) s

/-- PD0_IDLE_CLOSE: 10 s without traffic; a connection to a heartbeat peer stays. -/
def execPd0IdleClose (c : ChId) (conn : Nat) (s : State) : Host.Outcome State Fault Refusal :=
  onChS c (fun x =>
    let y := x.conn conn
    if !x.serves ∨ y.st ≠ .open_ ∨ y.pd ≠ 0 ∨ y.roce.isSome ∨ !y.ops.isEmpty ∨ x.hbPeer y.peer then x
    else
      let x := x.reach (y.lastUse + 10000 * ms)
      (x.setConn conn { y with st := .closing, due := none, tries := 0 }).closeIfIdle conn) s

end Sys2Proof.Machine
end

