-- ==== Sys2Proof/Machine/Reliability.lean ====
section
/-! DEFINITION. The meanings of the reliability commands and happenings (chapter 17). -/
namespace Sys2Proof.Machine
open Sys2Proof

/-! ### Heartbeats (R452 to R454) -/

/-- HEARTBEAT: taken in order, and its digest compared. -/
def execHeartbeat (c : ChId) (p : FmtPkt) (s : State) : Host.Outcome State Fault Refusal :=
  onChS c (fun x => x.onConn p (fun x k => x.inOrder k p.psn (fun x =>
    if p.data.length ≠ 128 then x.refused k p.psn p.addr p.srcEid (4, 0)
    else (x.judgeHeartbeat p.srcEid p.data).accepted k p.psn 1 p.ar 0) id) false) s

/-- KEEPALIVE_EXPIRY: an OPEN PD 0 connection has carried nothing for KEEPALIVE. -/
def execKeepaliveExpiry (c : ChId) (conn : Nat) (s : State) : Host.Outcome State Fault Refusal :=
  onCh c (fun x =>
    let y := x.conn conn
    if y.st ≠ .open_ ∨ y.pd ≠ 0 ∨ y.roce.isSome ∨ !x.serves then x
    else (x.reach (max y.lastUse y.hbAt + x.keepalive)).sendHeartbeat conn) s

/-- PEER_SILENT: no packet of a heartbeat peer for HB_LOSS. -/
def execPeerSilent (c : ChId) (i : Nat) (s : State) : Host.Outcome State Fault Refusal :=
  onCh c (fun x =>
    let eid := x.fget (Reg.REL_HB_PEER i) 17 0
    if 16 ≤ i ∨ !x.flag (Reg.REL_HB_PEER i) 63 ∨ x.rel.silent.contains eid ∨ !x.serves then x
    else
      let x := x.reach (x.rel.heard.getD eid 0 + x.hbLoss)
      { x with rel := { x.rel with silent := eid :: x.rel.silent } }.event 0xE00B none eid 0) s

/-! ### Commands (R449, R453, R458, R459) -/

/-- REL_EXPECT. -/
def execRelExpect (c : ChId) (src : Src) (eid : Nat) (remove : Bool) (digest : Nat) (s : State) : Host.Outcome State Fault Refusal :=
  onCh c (fun x => x.command src ⟨true, true, false⟩ (fun x =>
    let l := x.rel.expects
    if !remove && (l.find eid).isNone && decide (4096 ≤ l.length) then x.complete src 0xE1 l.length
    else
      let l := if remove then l.del eid else l.put eid ⟨digest, false, none⟩
      { x with rel := { x.rel with expects := l } }.complete src 0 l.length)) s

/-- REL_SHADOW. -/
def execRelShadow (c : ChId) (src : Src) (eid : Nat) (role : Nat) (sample ops : Nat) (s : State) : Host.Outcome State Fault Refusal :=
  onCh c (fun x => x.command src ⟨true, true, false⟩ (fun x =>
    let inShadow := decide (x.rel.mode = .shadow)
    match role with
    | 0 => (if inShadow then x.promote true else { x with rel := { x.rel with part := 0 } }).complete src 0 0
    | 1 =>
      if !inShadow then x.complete src 0xE4 0
      else if !x.session eid then x.complete src 0xE2 0
      else (x.admission 1 eid sample ops).complete src 0 0
    | 2 =>
      if inShadow then x.complete src 0xE0 0
      else if !x.session eid then x.complete src 0xE2 0
      else (x.admission 2 eid sample ops).complete src 0 0
    | _ => x.complete src 0xE4 0)) s

/-- REL_ISOLATE: the channel isolates before a completion could be posted; in UPDATING it is refused (R456). -/
def execRelIsolate (c : ChId) (src : Src) (s : State) : Host.Outcome State Fault Refusal :=
  onCh c (fun x =>
    if x.sec.mode = .updating then x.complete src (if src.vf.isSome then 0x78 else 0xE4) 0
    else x.command src ⟨true, true, false⟩ (fun x => x.isolate 4)) s

/-- REL_INJECT. -/
def execRelInject (c : ChId) (src : Src) (addr : Nat) (kind : Nat) (count : Nat) (s : State) : Host.Outcome State Fault Refusal :=
  onCh c (fun x => x.command src ⟨true, true, false⟩ (fun x =>
    if x.hbmMib * mib ≤ addr ∨ x.ctxOwned (addr / 1024 * 1024) ∨ kind = 0 ∨ 3 < kind then x.complete src 0xE3 0
    else
      let (n, x) := x.inject addr kind count
      x.complete src 0 n)) s

/-- REL_MISMATCH_LIST: the EIDs marked, lowest first. -/
def execRelMismatchList (c : ChId) (src : Src) (host max : Nat) (s : State) : Host.Outcome State Fault Refusal :=
  onCh c (fun x => x.command src ⟨true, true, false⟩ (fun x =>
    let l := (x.rel.expects.keysWhere (fun _ e => e.marked)).take max
    let (ok, x') := x.hostWrite src.fn host (l.flatMap (leBytes 4))
    if l.isEmpty then x.complete src 0 0
    else if ok then x'.complete src 0 l.length
    else (x'.srcError src host ((x.dmaFault src.fn).getD 7)).complete src 0xB2 l.length)) s

/-! ### Shadow admission (R450) -/

/-- MIRROR_MESSAGE. -/
def execMirrorMessage (c : ChId) (m : MirrorMsg) (s : State) : Host.Outcome State Fault Refusal := onCh c (fun x => if x.serves then x.judgeMirror m else x) s

/-- SHADOW_STALL: no mirror message for 1 s. -/
def execShadowStall (c : ChId) (s : State) : Host.Outcome State Fault Refusal :=
  onCh c (fun x =>
    if x.rel.mode ≠ .shadow ∨ x.rel.stalled ∨ !x.serves then x
    else
      let x := x.reach (x.rel.lastMirror + 1000 * ms)
      { x with rel := { x.rel with stalled := true } }.event 0xE00E none (x.rel.peer % 2 ^ 18) x.rel.count) s

/-! ### Patrol and repair (R440 to R444) -/

/-- PATROL_READ: the patrol reads on to the next codeword in error, or ends its pass. -/
def execPatrolRead (c : ChId) (s : State) : Host.Outcome State Fault Refusal :=
  onCh c (fun x =>
    if !x.hbmAwake then x
    else match (x.rel.cw.keysWhere (fun k _ => decide (x.rel.patrolAt ≤ k))).head? with
      | none => { x with rel := { x.rel with patrolAt := 0, patrolCe := 0 } }.event 0xE008 none 0 x.rel.patrolCe
      | some k =>
        let (ok, x) := x.readCw k 10
        let x := { x with rel := { x.rel with patrolAt := k + 1, patrolCe := if ok then x.rel.patrolCe + 1 else x.rel.patrolCe } }
        if ok then x
        else match x.culletAt (64 * k) with
          | some f => x.withdrawFrame f
          | none => x) s

/-- ROW_SPARE: a failing row. -/
def execRowSpare (c : ChId) (row : Nat) (flashOk : Bool) (s : State) : Host.Outcome State Fault Refusal :=
  onCh c (fun x => if x.hbmAwake && x.rowFails row && decide (row * 1024 < x.hbmMib * mib) then x.spareRow row flashOk else x) s

/-- LANE_SPARE: a failing lane. -/
def execLaneSpare (c : ChId) (pch : Nat) (lane : Nat) (flashOk : Bool) (s : State) : Host.Outcome State Fault Refusal :=
  onCh c (fun x => if x.hbmAwake && decide (pch < x.pchs) then x.spareLane pch lane flashOk else x) s

/-! ### On-die memories, consistency and isolation (R445 to R447) -/

/-- SRAM_ERROR: corrected and counted, or counted and handled. -/
def execSramError (c : ChId) (e : SramErr) (s : State) : Host.Outcome State Fault Refusal :=
  onChS c (fun x =>
    if x.pwr.st = .c3 ∨ x.pwr.st = .held then x
    else match e with
      | .single => x.bump Reg.REL_SRAM_CNT 31 0 1
      | _ => (x.bump Reg.REL_SRAM_CNT 63 32 1).doubleBit e) s

/-- CONSISTENCY_CHECK_FAIL. -/
def execConsistencyCheckFail (c : ChId) (s : State) : Host.Outcome State Fault Refusal :=
  onCh c (fun x => if x.pwr.st = .c0 ∨ x.pwr.st = .c1 then x.isolate 3 else x) s

/-- AUTO_WARM_EXPIRY: the warm reset starts 10 ms after isolation, within AUTO_LIMIT; not after a shadow mismatch (R450). -/
def execAutoWarmExpiry (c : ChId) (s : State) : Host.Outcome State Fault Refusal :=
  onCh c (fun x => match x.rel.isoAt with
    | some t =>
      if x.rel.mode ≠ .isolated ∨ !x.flag Reg.REL_ISO_CFG 63 ∨ x.fget Reg.REL_STATE 15 8 = 5 ∨ x.pwr.pending.isSome ∨
          x.orD Reg.REL_ISO_CFG 7 0 1 < x.rel.isoTimes.length then x
      else
        let x := x.reach (t + 10 * ms)
        x.awaitReset 6
    | none => x) s

end Sys2Proof.Machine
end

