-- ==== Sys2Proof/Machine/Resets.lean ====
section
/-! DEFINITION. The meanings of the resets (R380, R474 to R476). -/
namespace Sys2Proof.Machine
open Sys2Proof

/-- Is the bus above the reset level? -/
def Hub.powered (h : Hub) : Bool := decide (h.bus = .normal ∨ h.bus = .warning)

/-- WARM_CHANNEL_RESET: the warm reset that waits runs. -/
def execWarmChannelReset (c : ChId) (w : WarmIn) (s : State) : Host.Outcome State Fault Refusal :=
  if s.hub.powered then
    onChS c (fun x => match x.pwr.pending with
      | some k => if 4 ≤ k ∧ k ≤ 7 ∧ x.pwr.st = .held then x.warmReset k w else x
      | none => x) s
  else .next s

/-- COLD_CHANNEL_RESET: the cold reset that waits runs. -/
def execColdChannelReset (c : ChId) (pufOk : Bool) (s : State) : Host.Outcome State Fault Refusal :=
  if s.hub.powered then
    onCh c (fun x => match x.pwr.pending with
      | some k => if (k = 3 ∨ k = 8) ∧ x.pwr.st = .held then x.coldReset true k pufOk else x
      | none => x) s
  else .next s

/-- The hub as step 2 of the start-up leaves it (R54, R474); what lies outside it stays. -/
def Hub.start (h : Hub) (time vin vmin : Nat) : Hub :=
  { Hub.reset with out := if h.pwrgd then h.out else .pin "PWRGD" 1 :: h.out, time := time, vin := vin, vmin := vmin, bus := if h.bus = .warning then .warning else .normal,
                   plugged := h.plugged, overvoltage := if h.bus = .lost then false else h.overvoltage, busAt := h.busAt, leak := h.leak, meter := h.meter }

/-- POWER_ON_RESET: the bus reaches 48.0 V; the module starts up. `pufFails` names the channels whose device seed cannot be reconstructed. -/
def execPowerOnReset (pufFails : List Nat) (s : State) : Host.Outcome State Fault Refusal :=
  if s.hub.bus = .lost ∧ s.hub.plugged then
    onEach (fun h => h.start 0 4800 4800) (fun x => x.coldReset false 1 (!pufFails.contains 0)) (fun x => x.coldReset false 1 (!pufFails.contains 1))
      (fun x => x.coldReset false 1 (!pufFails.contains 2)) (fun x => x.coldReset false 1 (!pufFails.contains 3)) s
  else .next s

/-- MODULE_RESET: PERST_N deasserts; the hub and all four channels, each as a cold channel reset. -/
def execModuleReset (pufFails : List Nat) (s : State) : Host.Outcome State Fault Refusal :=
  if s.hub.powered then
    onEach (fun h => h.start h.time h.vin h.vmin) (fun x => x.coldReset false 2 (!pufFails.contains 0)) (fun x => x.coldReset false 2 (!pufFails.contains 1))
      (fun x => x.coldReset false 2 (!pufFails.contains 2)) (fun x => x.coldReset false 2 (!pufFails.contains 3)) s
  else .next s

/-- CORE_RESET: the core's invocation ends with exception 0x0B, its scratch is zeroed, and the core is free again. Of a core without an invocation the spec states no
program slot for the event. -/
def execCoreReset (c : ChId) (core : Nat) (s : State) : Host.Outcome State Fault Refusal :=
  onCh c (fun x =>
    if !x.regsLive ∨ 64 ≤ core then x
    else
      let (slot, x) := match (x.core core).inv with
        | some i => (i.prog, x)
        | none => x.draw
      let x := (x.exception core 0x0B (x.core core).pc).setCore core GCore.init
      let x := x.event 0xF00C none core slot
      if x.coreOpen core then x.fillCore core else x) s

/-- Is a register one of port n or of its traffic scheduler (FAB_PORT_*, FAB_PFC_CFG, and TM_ by port)? -/
def portReg (n off : Nat) : Bool :=
  decide (0x704000 ≤ off ∧ off < 0x704800 ∧ (off - 0x704000) / 64 = n) || decide (0x800000 ≤ off ∧ off < 0x820000 ∧ (off - 0x800000) / 4096 = n)

/-- The stored registers after a reset of port n. -/
def portRegs (n : Nat) (regs : AMap Nat) : AMap Nat :=
  regs.filter (fun e => !portReg n e.1) ++ keepRegs FieldDesc.port (regs.filter (fun e => portReg n e.1))

/-- PORT_RESET: queued frames are discarded and counted, buckets become full, the link trains again, and the connections move (R316). -/
def execPortReset (c : ChId) (port : Nat) (s : State) : Host.Outcome State Fault Refusal :=
  onCh c (fun x =>
    if !x.regsLive ∨ !x.hasPort port then x
    else
      let x := { x with regs := sortBy (fun a b => decide (a.1 ≤ b.1)) (portRegs port x.regs) }
      let e := x.egress port
      let n := (e.queues.flatMap (fun q => q.2)).length + (e.wait.flatMap (fun q => q.2)).length
      let x := x.dropQueued port
      let x := (((x.port port).rings.flatMap (fun r => r.2))).foldl Chan.freeBuf x
      let x := x.setPort port Port.init
      let x := if x.running (0x40 + port) then x.gateStart port else x
      (x.moveConns.2.carryOn).event 0xF00C none (128 + port) n) s

/-- TENANT_RESET: a function-level reset of the VF of a slot. -/
def execTenantReset (c : ChId) (slot : Nat) (s : State) : Host.Outcome State Fault Refusal :=
  onChS c (fun x =>
    if 16 ≤ slot ∨ !x.fnExists (.vf slot) ∨ !x.host.linkUp ∨ x.sec.mode ≠ .serving ∨ (x.pwr.st ≠ .c0 ∧ x.pwr.st ≠ .c1) then x else x.tenantReset slot) s

/-- PCIE_HOT_RESET: the configuration space of every function returns to its defaults. -/
def execPcieHotReset (s : State) : Host.Outcome State Fault Refusal :=
  if s.hub.bus = .lost then .next s
  else onAll (fun h => { h with pci := Pci.init }) (fun x => { x with host := { x.host with pci := [] } }) s

end Sys2Proof.Machine
end

