-- ==== Sys2Proof/Machine/Tables.lean ====
section
/-! DEFINITION. The meanings of the table instructions (R251) and of the search instructions (R254). -/
namespace Sys2Proof.Machine
open Sys2Proof

/-! ### The context table (R251) -/

/-- Word w of an entry: bytes [8w + 7:8w] (R251). -/
def Entry.word (e : Entry) (w : Nat) : W64 := w64 (leVal ((e.bytes.drop (8 * w)).take 8))

/-- The state of a code (R64). -/
def CtxState.ofCode : Nat → Option CtxState
  | 0 => some .free
  | 1 => some .prefilling
  | 2 => some .sealed
  | 3 => some .offered
  | 4 => some .inbound
  | 5 => some .decoding
  | 6 => some .parked
  | 7 => some .draining
  | 8 => some .retired
  | 9 => some .faulted
  | _ => none

/-- An entry with word w replaced, field by field (R63); reserved bits read as zero, and a STATE code that R64 does not list leaves STATE as it is. -/
def Entry.setWord (e : Entry) (w x : Nat) : Entry :=
  match w with
  | 0 => { e with state := (CtxState.ofCode (bits x 3 0)).getD e.state, sub := bits x 7 4, overrun := x.testBit 8, prefixOwner := x.testBit 9,
                  prefixAttached := x.testBit 10, isPrivate := x.testBit 11, unmetered := x.testBit 12, gen := bits x 31 16, epoch := bits x 63 32 }
  | 1 => { e with req := x % 2 ^ 64 }
  | 2 => { e with tag := bits x 31 0, tslot := bits x 35 32, prio := bits x 38 36, profile := bits x 43 40, format := bits x 47 44, red := bits x 50 48,
                  ret := bits x 52 51, fault := bits x 63 56 }
  | 3 => { e with deadline := x % 2 ^ 64 }
  | 4 => { e with committed := bits x 22 0, provisional := bits x 43 32 }
  | 5 => { e with pgt := bits x 39 0 }
  | 6 => { e with peer := bits x 47 0 }
  | 7 => { e with stateTime := x % 2 ^ 64 }
  | 8 => { e with governor := bits x 31 0, refs := bits x 55 32 }
  | 9 => { e with ch0 := bits x 31 0, ch1 := bits x 63 32 }
  | 10 => { e with ch2 := bits x 31 0, jlast := bits x 63 32 }
  | _ => { e with span := bits x 31 0 }

/-- Is a change of an entry one that R86 journals? PROVISIONAL_LEN, GOVERNOR and the bound counters alone are not. -/
def journalled (old new : Entry) : Bool :=
  decide ({ new with provisional := old.provisional, governor := old.governor, evc0 := old.evc0, evc1 := old.evc1, evc2 := old.evc2, evc3 := old.evc3 } ≠ old)

/-- The word of the entry that a handle names for a program, where it may read it (R251). -/
def Chan.tableWord (c : Chan) (p : Prog) (h w : Nat) : Option W64 × Chan :=
  if h ≠ bits h 47 0 then (none, c)
  else match c.checkHandle h with
    | .error st => (none, c.badHandle st h false)
    | .ok slot => if p.isTenant && decide ((c.entry slot).tslot ≠ p.tenant) then (none, c) else (some ((c.entry slot).word w), c)

/-- A table instruction, which GRANTS bit 1 permits (R251). -/
def Chan.tableInstr (c : Chan) (k op : Nat) (f : IFields) (body : Chan → GCore → Prog → Chan) : Chan :=
  c.instr k op f (fun c g p => if p.grants.testBit 1 then body c g p else c.exception k 2 g.pc)

/-- TRD. -/
def execITrd (c : ChId) (k : Nat) (f : IFields) (s : State) : Host.Outcome State Fault Refusal :=
  onCh c (fun x => x.tableInstr k 0x90 f (fun x g p =>
    match x.tableWord p (g.sreg f.a).toNat f.i with
    | (some v, x) => x.stepCore k ((g.setS f.d v).setP f.x true)
    | (none, x) => x.stepCore k ((g.setS f.d 0).setP f.x false))) s

/-- TCAS of an entry (R251): the word compared and replaced, journalled with cause 0x03 where R86 asks for it; a change of state counts in EVC2 (R77). -/
def Chan.tcas (c : Chan) (k : Nat) (g : GCore) (slot d w : Nat) (old new : W64) : Chan :=
  let e := c.entry slot
  let v := e.word w
  let e' := e.setWord w new.toNat
  let c :=
    if v ≠ old then c
    else
      let c := if journalled e e' then c.journal slot 3 e' else c.setEntry slot e'
      if e'.state ≠ e.state ∨ e'.sub ≠ e.sub then c.addCtr (.bound slot 2) 1 else c
  c.stepCore k (g.setS d v)

/-- TCAS. -/
def execITcas (c : ChId) (k : Nat) (f : IFields) (s : State) : Host.Outcome State Fault Refusal :=
  onCh c (fun x => x.tableInstr k 0x91 f (fun x g p =>
    let h := (g.sreg f.a).toNat
    if p.isTenant ∨ 12 ≤ f.i ∨ h ≠ bits h 47 0 then x.exception k 6 g.pc
    else match x.checkHandle h with
      | .error st => (x.badHandle st h false).exception k 6 g.pc
      | .ok slot => x.tcas k g slot f.d f.i (g.sreg f.b) (g.sreg f.x))) s

/-! ### Shared words (R207, R251) -/

/-- The key of a shared word: those of a tenant slot, or the base set. -/
def wordKey (p : Prog) (i : Nat) : Nat := (if p.isTenant then p.tenant else 16) * 8192 + i

/-- A shared word. -/
def Chan.sharedWord (c : Chan) (key : Nat) : W64 := w64 (c.gaf.words.getD key 0)

/-- A shared word replaced. -/
def Chan.setShared (c : Chan) (key : Nat) (v : W64) : Chan := { c with gaf := { c.gaf with words := c.gaf.words.set 0 key v.toNat } }

/-- An instruction on the shared word at an index: exception 0x06 where there is none (R251). -/
def Chan.wordInstr (c : Chan) (k op : Nat) (f : IFields) (index : GCore → Nat) (body : Chan → GCore → Nat → Chan) : Chan :=
  c.tableInstr k op f (fun c g p => if index g < 8192 then body c g (wordKey p (index g)) else c.exception k 6 g.pc)

/-- SWLD. -/
def execISwld (c : ChId) (k : Nat) (f : IFields) (s : State) : Host.Outcome State Fault Refusal :=
  onCh c (fun x => x.wordInstr k 0x92 f (fun g => (g.sreg f.a + sext f.i).toNat) (fun x g key => x.stepCore k (g.setS f.d (x.sharedWord key)))) s

/-- SWST. -/
def execISwst (c : ChId) (k : Nat) (f : IFields) (s : State) : Host.Outcome State Fault Refusal :=
  onCh c (fun x => x.wordInstr k 0x93 f (fun g => (g.sreg f.a + sext f.i).toNat) (fun x g key => (x.setShared key (g.sreg f.b)).stepCore k g)) s

/-- SWCAS. -/
def execISwcas (c : ChId) (k : Nat) (f : IFields) (s : State) : Host.Outcome State Fault Refusal :=
  onCh c (fun x => x.wordInstr k 0x94 f (fun g => (g.sreg f.a).toNat) (fun x g key =>
    let v := x.sharedWord key
    (if v = g.sreg f.b then x.setShared key (g.sreg f.x) else x).stepCore k (g.setS f.d v))) s

/-- SWADD. -/
def execISwadd (c : ChId) (k : Nat) (f : IFields) (s : State) : Host.Outcome State Fault Refusal :=
  onCh c (fun x => x.wordInstr k 0x95 f (fun g => (g.sreg f.a).toNat) (fun x g key =>
    let v := x.sharedWord key
    (x.setShared key (v + g.sreg f.b)).stepCore k (g.setS f.d v))) s

/-! ### Search (R254) -/

/-- A search instruction, which GRANTS bit 2 permits. -/
def Chan.searchInstr (c : Chan) (k op : Nat) (f : IFields) (body : Chan → GCore → Prog → Chan) : Chan :=
  c.instr k op f (fun c g p => if p.grants.testBit 2 then body c g p else c.exception k 2 g.pc)

/-- SRCH: the core waits while a cascaded lookup is on the ring (R326). -/
def Chan.srch (c : Chan) (k : Nat) (g : GCore) (p : Prog) (d key b : Nat) : Chan :=
  let seg := b % 256
  if p.isTenant ∧ c.segOwner seg ≠ p.tenant then c.exception k 2 g.pc
  else if b ≠ seg then (c.countLookup none).stepCore k (g.setS d 0)
  else match c.lookup seg key (.core k d) with
    | (some r, c) => c.stepCore k (g.setS d (w64 (lookupWord r)))
    | (none, c) => c.setCore k { g with wait := some (.lookup d) }

/-- SRCH. -/
def execISrch (c : ChId) (k : Nat) (f : IFields) (s : State) : Host.Outcome State Fault Refusal :=
  onCh c (fun x => x.searchInstr k 0xB0 f (fun x g p => x.srch k g p f.d ((g.vreg f.a).toNat % 2 ^ 128) (g.sreg f.b).toNat)) s

/-- PFXW. -/
def Chan.pfxw (c : Chan) (k : Nat) (g : GCore) (p : Prog) (d e : Nat) (v : BitVec 512) (x : W64) : Chan :=
  if p.isTenant then c.exception k 2 g.pc
  else if 131071 < e then c.exception k 6 g.pc
  else if !c.running (0x100 + e / 512) then c.stepCore k (g.setP d false)
  else
    let new : PfxEntry := { key := v.toNat % 2 ^ 128, mask := v.toNat / 2 ^ 128 % 2 ^ 128, result := x.toNat % 2 ^ 32 }
    (c.pfxPut e (if x.toNat.testBit 32 then some new else none)).stepCore k (g.setP d true)

/-- PFXW. -/
def execIPfxw (c : ChId) (k : Nat) (f : IFields) (s : State) : Host.Outcome State Fault Refusal :=
  onCh c (fun x => x.searchInstr k 0xB1 f (fun x g p => x.pfxw k g p f.d (g.sreg f.a).toNat (g.vreg f.b) (g.sreg f.x))) s

end Sys2Proof.Machine
end

