-- ==== Sys2Proof/Machine/RoceRx.lean ====
section
/-! DEFINITION. The meanings of the RoCE packets (R296 to R300). -/
namespace Sys2Proof.Machine
open Sys2Proof

/-- The number of the connection behind a local QPN (R297). -/
def roceConn (qpn : Nat) : Nat := qpn - 0x100000

/-- The queue pair's RoCE part replaced. -/
def Chan.setQp (c : Chan) (k : Nat) (f : RoceQp → RoceQp) : Chan := c.setConn k { c.conn k with roce := (c.conn k).roce.map f }

/-- A CNP for what was marked, at most once per 50 µs (R300). -/
def Chan.notify (c : Chan) (k : Nat) : Chan :=
  let x := c.conn k
  if !x.ece then c
  else
    let c := c.setConn k { x with ece := false }
    match x.roce with
    | none => c
    | some q => if q.lastCnp.any (fun t => decide (c.time < t + 50000)) then c
        else (c.sendRoce k 0x81 0 false (List.replicate 16 0)).setQp k (fun q => { q with lastCnp := some c.time })

/-- Frame bytes of a RoCE packet with n bytes after its base transport header, padding included (R309). -/
def Chan.roceSize (c : Chan) (x : Conn) (n : Nat) : Nat :=
  14 + (if c.flag (Reg.FAB_PORT_L2 x.port) 63 then 4 else 0) + (if x.v6 then 40 else 20) + 8 + 12 + (n + 3) / 4 * 4 + 4 + 4

/-- Bytes of the extended headers of a RoCE packet: RETH, immediate data, AETH, or those of a CNP. -/
def roceExt (opcode : Nat) : Nat :=
  (if opcode = 6 ∨ opcode = 0xA ∨ opcode = 0xB ∨ opcode = 0xC then 16 else 0) + (if opcode = 3 ∨ opcode = 5 ∨ opcode = 9 ∨ opcode = 0xB then 4 else 0) +
    (if opcode = 0x11 then 4 else 0) + (if opcode = 0x81 then 16 else 0)

/-- A RoCE packet for an OPEN queue pair of a channel that serves, with a good ICRC, which the policer admits (R297, R311). -/
def Chan.onQp (c : Chan) (p : RocePkt) (body : Chan → Nat → Chan) : Chan :=
  let k := roceConn p.qp
  let x := c.conn k
  if !c.serves ∨ c.eid.isNone ∨ p.qp < 0x100000 ∨ x.st ≠ .open_ ∨ x.roce.isNone ∨ !p.icrcOk then c
  else
    let size := c.roceSize x (roceExt p.opcode + p.data.length)
    match c.admitFrame k size p.ce with
    | none => c.redFrame k size
    | some c => body ((c.setConn k { c.conn k with lastUse := c.time }).notify k) k

/-! ### SEND and WRITE (R298, R299) -/

/-- Is the receive ring of a queue pair a VALID region of its PD that holds it? -/
def Chan.ringLives (c : Chan) (k : Nat) (q : RoceQp) : Bool :=
  let r := c.openRegion q.ringRegion
  decide (r.st = .valid ∧ r.pd = (c.conn k).pd ∧ q.ringSlots * q.slotSize ≤ r.size)

/-- Is a slot of the receive ring free: the consumer index is a shared word of the tenant slot (R299)? -/
def Chan.slotFree (c : Chan) (k : Nat) (q : RoceQp) : Bool :=
  match c.connSlot k with
  | none => false
  | some t => decide ((q.pidx + 2 ^ 64 - (c.sharedWord (t * 8192 + q.word)).toNat) % 2 ^ 64 < q.ringSlots)

/-- The refusal that a packet draws before it is applied: a packet out of its place in a message or of the wrong length, a message longer than its slot, no ring,
no free slot, or an address of another channel. `q` is the queue pair with the message that the packet belongs to. -/
def Chan.messageBad (c : Chan) (k : Nat) (q : RoceQp) (inPlace send last usesSlot : Bool) (n : Nat) : Option Refuse :=
  let pmtu := (c.conn k).pmtu
  if !inPlace ∨ pmtu < n ∨ (!last ∧ n ≠ pmtu) then some (4, 0)
  else if !send ∧ (if last then q.got + n ≠ q.msgLen else q.msgLen ≤ q.got + n) then some (4, 0)
  else if usesSlot ∧ !c.ringLives k q then some (prot 0x10)
  else if usesSlot ∧ !c.slotFree k q then some (3, 0x20)
  else if send ∧ q.slotSize < 16 + q.got + n then some (4, 0)
  else if !send ∧ c.eid ≠ some (q.va / 2 ^ 46) then some (prot 0x17)
  else none

/-- A message that consumes a slot has ended: its record, the producer index, and the receive counter (R299). -/
def Chan.messageIn (c : Chan) (k : Nat) (q : RoceQp) (length : Nat) (imm : Option Nat) : Chan :=
  let at_ := q.pidx % max 1 q.ringSlots * q.slotSize
  let record := leBytes 4 length ++ leBytes 4 (imm.getD 0) ++ leBytes 1 (b2n imm.isSome) ++ List.replicate 7 0
  let c := (c.regionWrite (c.openRegion q.ringRegion) at_ record).setQp k (fun q => { q with pidx := (q.pidx + 1) % 2 ^ 64 })
  match q.counter with
  | some i => c.addCtr (.num i) 1
  | none => c

/-- A SEND or WRITE packet in order. -/
def Chan.message (c : Chan) (k : Nat) (p : RocePkt) : Chan × Except Refuse Nat :=
  match (c.conn k).roce with
  | none => (c, .error (4, 0))
  | some q0 =>
    let send := decide (p.opcode < 6)
    let pos := p.opcode % 6
    let first := decide (pos = 0 ∨ 4 ≤ pos)
    let last := decide (2 ≤ pos)
    let imm := if pos = 3 ∨ pos = 5 then some (p.imm.getD 0) else none
    let kind := if send then 1 else 2
    let n := p.data.length
    let inPlace := if first then decide (q0.msgKind = 0) else decide (q0.msgKind = kind)
    let q := if first then { q0 with msgKind := kind, msgLen := p.dmaLen, got := 0, va := p.va, rkey := p.rkey } else q0
    let usesSlot := send || (imm.isSome && decide (bits q.va 45 44 ≠ 1))
    match c.messageBad k q inPlace send last usesSlot n with
    | some r => (c, .error r)
    | none =>
      let applied : Chan × Except Refuse Nat :=
        if send then (c.regionWrite (c.openRegion q.ringRegion) (q.pidx % max 1 q.ringSlots * q.slotSize + 16 + q.got) p.data, .ok 0)
        else if n = 0 then (c, .ok 0)
        else c.judgeStore { conn := k, psn := p.psn, off := (q.va + q.got) % 2 ^ 46, region := 0, key := q.rkey, gen := none, eid := 2 ^ 18, flagged := false } true p.data
      match applied with
      | (c, .error r) => (c, .error r)
      | (c, .ok units) =>
        let c := if last ∧ usesSlot then c.messageIn k q (q.got + n) imm else c
        let c := c.setQp k (fun x => if last then { x with msgKind := 0, got := 0, msn := (x.msn + 1) % psnMod }
          else { x with msgKind := kind, msgLen := q.msgLen, got := q.got + n, va := q.va, rkey := q.rkey })
        (c, .ok units)

/-- A SEND or WRITE packet of a queue pair. -/
def Chan.roceMessage (c : Chan) (p : RocePkt) : Chan :=
  c.onQp p (fun c k => c.inOrder k p.psn (fun c => match c.message k p with
    | (c, .ok units) => c.accepted k p.psn 1 p.ar units
    | (c, .error r) => c.refused k p.psn p.va 0 r) id)

/-- ROCE_SEND: a SEND, or a WRITE with Immediate. -/
def execRoceSend (c : ChId) (p : RocePkt) (s : State) : Host.Outcome State Fault Refusal :=
  onChS c (fun x => if p.opcode ≤ 5 ∨ p.opcode = 9 ∨ p.opcode = 0xB then x.roceMessage p else x) s

/-- ROCE_RDMA_WRITE. -/
def execRoceRdmaWrite (c : ChId) (p : RocePkt) (s : State) : Host.Outcome State Fault Refusal :=
  onChS c (fun x => if 6 ≤ p.opcode ∧ p.opcode ≤ 0xB then x.roceMessage p else x) s

/-! ### READ (R296) -/

/-- The answer to a READ, in packets of the path MTU: First, Middle, Last, or Only; all but Middle carry an AETH. -/
def Chan.sendReadResp (c : Chan) (k psn : Nat) (data : List Byte) : Chan :=
  let step := max 1 (c.conn k).pmtu
  let m := max 1 ((data.length + step - 1) / step)
  (List.range m).foldl (fun c i =>
    let code := if m = 1 then 0x10 else if i = 0 then 0x0D else if i + 1 = m then 0x0F else 0x0E
    c.sendRoce k code ((psn + i) % psnMod) false ((if code = 0x0E then [] else c.aeth k 0) ++ (data.drop (i * step)).take step)) c

/-- A READ judged: space 0b00 alone. -/
def Chan.judgeRead (c : Chan) (k : Nat) (p : RocePkt) : Chan × Except Refuse (List Byte) :=
  if c.eid ≠ some (p.va / 2 ^ 46) ∨ bits p.va 45 44 ≠ 0 then (c, .error (prot 0x17))
  else if p.dmaLen = 0 then (c, .ok [])
  else c.judgeLoad { conn := k, psn := p.psn, off := p.va % 2 ^ 46, region := 0, key := p.rkey, gen := none, eid := 2 ^ 18, flagged := false } p.dmaLen

/-- ROCE_RDMA_READ_REQUEST: its answers use as many PSNs as packets; a duplicate is answered again. -/
def execRoceRdmaReadRequest (c : ChId) (p : RocePkt) (s : State) : Host.Outcome State Fault Refusal :=
  onChS c (fun x =>
    if p.opcode ≠ 0xC then x
    else x.onQp p (fun x k => x.inOrder k p.psn (fun x => match x.judgeRead k p with
        | (x, .ok data) =>
          let step := max 1 (x.conn k).pmtu
          let m := max 1 ((data.length + step - 1) / step)
          let x := (x.setQp k (fun q => { q with msn := (q.msn + 1) % psnMod })).sendReadResp k p.psn data
          x.accepted k p.psn m false 0
        | (x, .error r) => x.refused k p.psn p.va 0 r)
      (fun x => match x.judgeRead k p with
        | (x, .ok data) => x.sendReadResp k p.psn data
        | (x, .error _) => x))) s

/-! ### Acknowledgements, CNPs and what is not supported -/

/-- An operation refused by the peer's NAK: it fails, and the queue pair is in ERROR (R300). -/
def Chan.roceRefused (c : Chan) (k psn status cause : Nat) : Chan := (((c.release k psn).opRefused k psn status 0).reap k reapFuel).connError k cause false

/-- ROCE_ACKNOWLEDGE: the AETH syndrome says ACK, RNR NAK, or which NAK. -/
def execRoceAcknowledge (c : ChId) (p : RocePkt) (s : State) : Host.Outcome State Fault Refusal :=
  onChS c (fun x =>
    if p.opcode ≠ 0x11 then x
    else x.onQp p (fun x k =>
      if !(x.conn k).within p.psn true then x
      else if p.syndrome < 0x20 then (x.acked k p.psn).flush k
      else if p.syndrome < 0x40 then (x.notReady k p.psn).flush k
      else if p.syndrome = 0x60 then (x.nakked k 1 p.psn 0).flush k
      else if p.syndrome = 0x62 then x.roceRefused k p.psn 0x84 4
      else if p.syndrome = 0x61 ∨ p.syndrome = 0x63 then x.roceRefused k p.psn 0x85 5
      else x)) s

/-- ROCE_CNP: the window is halved. -/
def execRoceCnp (c : ChId) (p : RocePkt) (s : State) : Host.Outcome State Fault Refusal :=
  onCh c (fun x => if p.opcode ≠ 0x81 then x else x.onQp p (fun x k => x.setConn k { x.conn k with cwnd := max 1 ((x.conn k).cwnd / 2) })) s

/-- Is a base transport opcode one of the profile (R296)? -/
def roceSupported (opcode : Nat) : Bool := decide (opcode ≤ 0x11 ∨ opcode = 0x81)

/-- ROCE_UNSUPPORTED_OPCODE: NAK Invalid Request. -/
def execRoceUnsupportedOpcode (c : ChId) (p : RocePkt) (s : State) : Host.Outcome State Fault Refusal :=
  onChS c (fun x => if roceSupported p.opcode then x else x.onQp p (fun x k => x.inOrder k p.psn (fun x => x.refused k p.psn 0 0 (4, 0)) id)) s

end Sys2Proof.Machine
end

