-- ==== Sys2Proof/Machine/Security.lean ====
section
/-! DEFINITION. The meanings of the security commands, of recovery and of SPDM (chapter 15). -/
namespace Sys2Proof.Machine
open Sys2Proof

/-! ### Certificates and reports (R388, R389, R404) -/

/-- The channel's alias certificate (R388), signed with the device key. -/
def Chan.aliasCert (c : Chan) : List Byte :=
  let b := leBytes 1 1 ++ leBytes 1 4 ++ leBytes 6 0 ++ leBytes 16 Config.moduleSerial ++ leBytes 1 c.num ++ leBytes 1 c.variant ++ leBytes 6 0 ++ edPublic c.aliasKey ++
    x25519Public c.aliasExchange ++ c.deviceKeyId ++ leBytes 16 0 ++ c.sec.fwDigest
  b ++ signWith c.deviceKey b

/-- The certificates that sec.cert returns: device CA, channel device and alias. -/
def Chan.chain (c : Chan) : List Byte := Config.deviceCerts c.num ++ c.aliasCert

/-- KEY_ID of a public key (R388). -/
def keyIdOf (key : List Byte) : List Byte := (sha512 key).take 16

/-- SUBJECT_KEY of a certificate. -/
def certSubject (cert : List Byte) : List Byte := slice cert 32 32

/-- Is a certificate of a type, issued and signed by a key? -/
def certOk (ty : Nat) (issuer cert : List Byte) : Bool :=
  decide (cert.length = 256 ∧ field cert 0 1 = 1 ∧ field cert 1 1 = ty ∧ slice cert 96 16 = keyIdOf issuer) && signs issuer (cert.take 192) (cert.drop 192)

/-- Is a chain of 768 bytes valid (R389)? -/
def chainOk (chain : List Byte) : Bool :=
  let ca := slice chain 0 256
  let dev := slice chain 256 256
  let al := slice chain 512 256
  decide (chain.length = 768) && certOk 2 Config.rootKey ca && certOk 3 (certSubject ca) dev && certOk 4 (certSubject dev) al && decide (slice al 8 18 = slice dev 8 18)

/-- KCV of a key (R396). -/
def kcvOf (key : List Byte) : List Byte := (sha512 (ascii "VXF-KCV" ++ key)).take 8

/-- The attestation report for a slot, or for the PF (R404). -/
def Chan.report (c : Chan) (slot : Option Nat) (nonce xkey : List Byte) (nextSeal : Nat) : List Byte :=
  let k := match slot with | some t => c.keysOf t | none => TenKeys.init
  let cfg := match slot with | some t => c.rd (Reg.SEC_TEN_CFG t) | none => 0
  let dataMask := (k.data.map (fun e => 2 ^ e.1)).sum
  let b := leBytes 4 0xA77E0001 ++ leBytes 1 1 ++ leBytes 1 c.sec.mode.code ++ leBytes 1 c.num ++ leBytes 1 (slot.getD 255) ++ nonce ++ leBytes 8 c.time ++ leBytes 8 nextSeal ++
    leBytes 8 0 ++ c.sec.fwDigest ++ leBytes 4 c.sec.fwVersion ++ leBytes 4 c.sec.flash.fwFloor ++ leBytes 4 (c.fget Reg.CHN_CFG_EPOCH 31 0) ++
    leBytes 4 (c.fget Reg.CHN_EID 17 0 + c.fget Reg.CHN_EID 63 63 * 2 ^ 31) ++ c.sec.cfgDigest ++ ownerIdOf c.sec.flash.owner ++ c.sec.roleDigest ++
    leBytes 4 (match slot with | some t => c.tag t | none => 0) ++ leBytes 1 (b2n k.storage.isSome) ++ leBytes 1 (b2n (cfg.testBit 63) + 2 * b2n (cfg.testBit 62)) ++
    leBytes 2 dataMask ++ (match k.storage with | some s => kcvOf s | none => leBytes 8 0) ++ xkey ++ leBytes 112 0
  b ++ signWith c.aliasKey b

/-- SEC_CERT. -/
def execSecCert (c : ChId) (src : Src) (s : State) : Host.Outcome State Fault Refusal :=
  onCh c (fun x => x.command src ⟨false, true, false⟩ (fun x => x.completeX src 0 x.chain)) s

/-- sec.attest of a VF: a fresh import key replaces the slot's previous one. -/
def Chan.freshImport (c : Chan) (t : Nat) (nonce : List Byte) : List Byte × Chan :=
  let (priv, c) := c.drawBytes 32
  (x25519Public priv, c.setKeys t { c.keysOf t with importKey := some (priv, nonce) })

/-- SEC_ATTEST. -/
def execSecAttest (c : ChId) (src : Src) (nonce : List Byte) (s : State) : Host.Outcome State Fault Refusal :=
  onCh c (fun x => x.command src ⟨false, true, false⟩ (fun x =>
    let nonce := (nonce ++ List.replicate 32 0).take 32
    let (sv, x) := x.nextSeal
    match src.vf with
    | some t =>
      let (xkey, x) := x.freshImport t nonce
      x.completeX src 0 (x.report (some t) nonce xkey sv)
    | none => x.completeX src 0 (x.report none nonce (leBytes 32 0) sv))) s

/-! ### Keys (R395, R396, R398) -/

/-- Does KIND and INDEX name a key that a slot can hold? -/
def keyNamed (kind index : Nat) : Bool := decide ((kind = 1 ∧ index = 0) ∨ (kind = 2 ∧ index < 16) ∨ (kind = 3 ∧ index < 8))

/-- A slot's keys with one installed. -/
def TenKeys.install (k : TenKeys) (kind index : Nat) (key : List Byte) (keyId floor : Nat) : TenKeys :=
  if kind = 1 then { k with storage := some key }
  else if kind = 2 then { k with data := k.data.put index key }
  else { k with prog := k.prog.put index ⟨key, keyId, floor⟩ }

/-- A slot's keys with one destroyed. -/
def TenKeys.destroy (k : TenKeys) (kind index : Nat) : TenKeys :=
  if kind = 1 then { k with storage := none }
  else if kind = 2 then { k with data := k.data.del index }
  else { k with prog := k.prog.del index }

/-- sec.key.import fails: the event, the count of statuses 0xC5 and 0xC6, and the completion. -/
def Chan.importFailed (c : Chan) (src : Src) (status : Nat) : Chan :=
  let c := if status = 0xC7 then c else c.bump Reg.SEC_FAIL_CNT 63 32 1
  (c.event 0xC005 (some src.slot) (0x30 + src.slot) status).complete src status 0

/-- The key that an import record wraps, where its tag verifies (R396, step 5). -/
def Chan.unwrap (c : Chan) (t : Nat) (imp : List Byte × List Byte) (r : List Byte) : Option (List Byte) :=
  let info := ascii "VXF-IMPORT" ++ leBytes 4 (c.tag t) ++ leBytes 1 t ++ leBytes 1 c.num
  let k := expand (hkdfExtract imp.2 (x25519 imp.1 (slice r 16 32))) info 32
  if r.length = 128 ∧ field r 0 1 = 1 then gcmOpen k (List.replicate 12 0) (r.take 16) (slice r 48 32) (slice r 80 16) else none

/-- sec.key.import: the import key is destroyed whatever the outcome. -/
def Chan.keyImport (c : Chan) (src : Src) (r : List Byte) : Chan :=
  let t := src.slot
  match (c.keysOf t).importKey with
  | none => c.importFailed src 0xC5
  | some imp =>
    let c := c.setKeys t { c.keysOf t with importKey := none }
    match c.unwrap t imp r with
    | none => c.importFailed src 0xC6
    | some key =>
      let kind := field r 1 1
      let index := field r 2 1
      if !keyNamed kind index then c.importFailed src 0xC7
      else
        let kcv := leVal (kcvOf key)
        let c := c.setKeys t ((c.keysOf t).install kind index key (field r 4 4) (field r 8 4))
        (c.event 0xC004 (some t) (kind + index * 256) kcv).complete src 0 kcv

/-- SEC_KEY_IMPORT. -/
def execSecKeyImport (c : ChId) (src : Src) (rec_ : Fetched (List Byte)) (s : State) : Host.Outcome State Fault Refusal :=
  onCh c (fun x => x.command src ⟨false, true, true⟩ (fun x => x.reading src rec_ (fun r => x.keyImport src r))) s

/-- SEC_KEY_DESTROY: a key that is not held needs no destruction. -/
def execSecKeyDestroy (c : ChId) (src : Src) (kind index : Nat) (s : State) : Host.Outcome State Fault Refusal :=
  onCh c (fun x => x.command src ⟨false, true, true⟩ (fun x =>
    if keyNamed kind index then (x.setKeys src.slot ((x.keysOf src.slot).destroy kind index)).complete src 0 0 else x.complete src 0xC7 0)) s

/-! ### Peers (R392) -/

/-- Is a binding what the fabric-manager key, where one is named, requires? -/
def Chan.bindingOk (c : Chan) (eid : Nat) (chain : List Byte) (binding : List Byte) : Bool :=
  match c.sec.fmKey with
  | none => true
  | some k => signs k (leBytes 4 (eid + 2 ^ 31) ++ sha512 (certSubject (slice chain 256 256))) binding

/-- sec.peer with its chain and binding read. -/
def Chan.addPeer (c : Chan) (src : Src) (eid : Nat) (chain binding : List Byte) : Chan :=
  if !chainOk chain ∨ !c.bindingOk eid chain binding then
    ((c.bump Reg.SEC_PEERS 31 0 1).event 0xC007 none eid 0xC1).complete src 0xC1 0
  else if (c.sec.peers.find eid).isNone ∧ 4096 ≤ c.sec.peers.length then c.complete src 0xCA 0
  else { c with sec := { c.sec with peers := c.sec.peers.put eid ⟨chain, binding⟩ } }.keepHb.complete src 0 0

/-- SEC_PEER. -/
def execSecPeer (c : ChId) (src : Src) (eid : Nat) (remove : Bool) (chain : Fetched (List Byte)) (binding : Option (Fetched (List Byte))) (s : State) :
    Host.Outcome State Fault Refusal :=
  onCh c (fun x => x.command src ⟨true, true, false⟩ (fun x =>
    let eid := eid % 2 ^ 18
    if remove then { x with sec := { x.sec with peers := x.sec.peers.del eid } }.complete src 0 0
    else x.reading src chain (fun ch =>
      match binding with
      | none => x.addPeer src eid ch []
      | some b => x.reading src b (fun b => x.addPeer src eid ch b)))) s

/-! ### Ownership and configuration (R390, R391) -/

/-- sec.own with the new key and the signature read. -/
def Chan.newOwner (c : Chan) (src : Src) (b : List Byte) : Chan :=
  let key := slice b 0 32
  let allowed := match c.sec.flash.owner with
    | none => true
    | some k => signs k (key ++ c.deviceKeyId ++ ascii "VXF-OWN") (slice b 32 64)
  if !allowed then c.complete src 0xCC 0
  else
    let old := ownerIdOf c.sec.flash.owner
    let new := ownerIdOf (some key)
    let c := { c with sec := { c.sec with flash := { c.sec.flash with owner := some key } } }
    (c.event 0xC009 none (leVal (old.take 8)) (leVal (new.take 8))).completeX src 0 new

/-- SEC_OWN. -/
def execSecOwn (c : ChId) (src : Src) (keySig : Fetched (List Byte)) (s : State) : Host.Outcome State Fault Refusal :=
  onCh c (fun x => x.command src ⟨true, true, false⟩ (fun x => x.reading src keySig (fun b => x.newOwner src b))) s

/-- SEC_CFG_WRITE: it takes effect at the next reset that loads CR fields. -/
def execSecCfgWrite (c : ChId) (src : Src) (rec_ : Fetched (List Byte)) (flashOk : Bool) (s : State) : Host.Outcome State Fault Refusal :=
  onCh c (fun x => x.command src ⟨true, true, false⟩ (fun x => x.reading src rec_ (fun r =>
    if !x.cfgFormed r then x.complete src 0xC4 0
    else if !x.cfgSigned r then x.complete src 0xC2 0
    else if !flashOk then x.complete src 0xCB 0
    else { x with sec := { x.sec with flash := { x.sec.flash with cfg := r } } }.complete src 0 0))) s

/-! ### Firmware (R407, R408) -/

/-- SEC_FW_STAGE: a failure leaves nothing staged. -/
def execSecFwStage (c : ChId) (src : Src) (img : Fetched (List Byte)) (s : State) : Host.Outcome State Fault Refusal :=
  onCh c (fun x => x.command src ⟨true, true, false⟩ (fun x => x.reading src img (fun b =>
    match x.fwFault b with
    | some st => ({ x with sec := { x.sec with staged := none } }.event 0xC002 none (field b 8 4) st).complete src st 0
    | none => { x with sec := { x.sec with staged := some (stagedOf b) } }.complete src 0 (field b 8 4)))) s

/-- What sec.fw.commit needs (R407, step 2). -/
def Chan.mayCommit (c : Chan) : Bool :=
  match c.sec.staged with
  | none => false
  | some f =>
    decide (c.fnState 0 = .stopped) && !c.ctx.entries.anyOf (fun _ e => decide (e.state = .offered ∨ e.state = .inbound)) &&
      (decide (f.journalFmt = c.sec.journalFmt) || c.ctx.entries.all (fun e => decide (e.2.state = .free ∨ e.2.state = .retired)))

/-- SEC_FW_COMMIT: the channel enters UPDATING, its connections enter ERROR, and the image area is erased. -/
def execSecFwCommit (c : ChId) (src : Src) (raise : Bool) (s : State) : Host.Outcome State Fault Refusal :=
  onCh c (fun x => x.command src ⟨true, true, false⟩ (fun x =>
    if !x.mayCommit then x.complete src 0xC9 0
    else
      let x := (x.fab.conns.keysWhere (fun _ y => y.live)).foldl (fun x k => x.connError k 6 false) x
      { x with sec := { x.sec with mode := .updating, commit := some (src, raise), flash := { x.sec.flash with fwValid := false } } })) s

/-- FW_PROGRAM_DONE: programming and the read-back end. A failure leaves no valid image, and the channel enters RECOVERY; success waits for the warm channel reset. -/
def execFwProgramDone (c : ChId) (ok : Bool) (s : State) : Host.Outcome State Fault Refusal :=
  onCh c (fun x =>
    match x.sec.staged, x.sec.commit with
    | some f, some (_, raise) =>
      if x.sec.mode ≠ .updating ∨ x.pwr.pending.isSome then x
      else if ok then (x.programFlash f raise).awaitReset 7
      else { x with sec := { x.sec with mode := .recovery } }
    | _, _ => x) s

/-- The reset that ends RECOVERY (R387, R408): that of the commit, warm where the loader last ran so, or cold. -/
def Chan.recoveryReset (c : Chan) : Nat :=
  if c.sec.commit.isSome then 7 else if 4 ≤ c.pwr.last ∧ c.pwr.last ≤ 7 then c.pwr.last else 3

/-- A write of GO in RECOVERY (R408). -/
def Chan.recGo (c : Chan) (img : Fetched (List Byte)) (flashOk : Bool) : Chan :=
  let fail := fun (st : Nat) => c.fset Reg.SEC_REC_CTRL 55 48 st
  match c.dmaFault .pf, img with
  | some _, _ => fail 0xB1
  | none, .failed _ => fail 0xB1
  | none, .ok b =>
    let b := b.take (c.fget Reg.SEC_REC_CTRL 27 0)
    match c.fwFault b with
    | some st => fail st
    | none =>
      if !flashOk then fail 0xCB
      else
        let c := c.programFlash (stagedOf b) (match c.sec.commit with | some (_, r) => r | none => false)
        c.awaitReset c.recoveryReset

/-- SEC_REC_GO: a write to SEC_REC_CTRL, whose GO acts in RECOVERY only. -/
def execSecRecGo (c : ChId) (a : Access) (img : Fetched (List Byte)) (flashOk : Bool) (s : State) : Host.Outcome State Fault Refusal :=
  onCh c (fun x =>
    if x.sec.mode ≠ .recovery ∨ !x.host.linkUp ∨ (x.pci .pf).d3hot ∨ x.pwr.pending.isSome then x
    else
      let x := x.writeReg Reg.SEC_REC_CTRL a
      if a.covers 63 63 ∧ (a.apply 0).testBit 63 then x.recGo img flashOk else x) s

/-! ### SPDM (R401, R403) -/

/-- The lowest-numbered channel in SERVING. -/
def State.responder (s : State) : Option Nat := ([s.ch0, s.ch1, s.ch2, s.ch3].find? (fun c => decide (c.sec.mode = .serving))).map (fun c => c.num)

/-- The hub's IDE streams after a request: the link stream is number 8, and a selective stream covers a range of ARI function numbers. -/
def ideAfter (m : AMap (Nat × Nat)) (r : SpdmReq) : AMap (Nat × Nat) :=
  match r with
  | .ask => m
  | .link => m.put 8 (0, 255)
  | .selective i lo hi => if i < 8 then m.put i (lo, hi) else m
  | .stop i => m.del i

/-- The tenant slots of channel k whose VF a selective stream covers (R362). -/
def ideSlots (m : AMap (Nat × Nat)) (k : Nat) : List Nat :=
  (List.range 16).filter (fun t => m.anyOf (fun i r => decide (i < 8 ∧ r.1 ≤ 16 * (k + 1) + t ∧ 16 * (k + 1) + t ≤ r.2)))

/-- SPDM_REQUEST: answered by the responder, with its chain and its alias key; with no channel in SERVING there is no answer. -/
def execSpdmRequest (req : SpdmReq) (s : State) : Host.Outcome State Fault Refusal :=
  match s.responder with
  | none => onHub (fun h => h) s
  | some k =>
    if s.hub.bus = .lost then onHub (fun h => h) s
    else
      let m := ideAfter s.hub.ide req
      onAll (fun h => { h with ide := m, out := .pin "SPDM response" k :: h.out }) (fun c => { c with host := { c.host with ide := ideSlots m c.num } }) s

end Sys2Proof.Machine
end

