-- ==== Sys2Proof/Machine/Speculation.lean ====
section
/-! DEFINITION. Speculative decoding (chapter 7): drafts, the verify order, the governor, and the meanings of the speculation commands and records. -/
namespace Sys2Proof.Machine
open Sys2Proof

/-! ### Drafts (R185, R189) -/

/-- The parents of a draft's nodes (R185): none for a root. `none` for a table that breaks the rules. -/
def draftParents (n : Nat) (anchor tree : Bool) (table : List Nat) : Option (List (Option Nat)) :=
  if !tree then some ((List.range n).map (fun i => if i = 0 then none else some (i - 1)))
  else if table.length < n then none
  else
    let t := table.take n
    if (List.range n).all (fun i => let p := t.getD i 255; (decide (p = 255) && (!anchor || decide (i = 0))) || decide (p < i)) then
      some (t.map (fun p => if p = 255 then none else some p))
    else none

/-- The depth of every node. -/
def draftDepths (parents : List (Option Nat)) : List Nat :=
  parents.foldl (fun ds p => ds ++ [match p with | none => 1 | some i => ds.getD i 0 + 1]) []

/-- D: the greatest depth, less 1 under ANCHOR. -/
def draftDepth (parents : List (Option Nat)) (anchor : Bool) : Nat := (draftDepths parents).foldl max 0 - b2n anchor

/-- Is an accepted path valid (R189)? -/
def pathOk (d : Draft) (path : List Nat) : Bool :=
  path.all (fun a => decide (a < d.parents.length)) &&
  (List.range path.length).all (fun j => decide (d.parents.getD (path.getD j 0) none = if j = 0 then none else some (path.getD (j - 1) 0))) &&
  (!d.anchor || decide (path.head? = some 0))

/-- MAX_NODES as it acts. -/
def Chan.maxNodes (c : Chan) : Nat := max 1 (min 256 (c.fget Reg.SPC_GOV_CFG 8 0))

/-! ### The governor (R198 to R200) -/

/-- GOVERNOR after a VERIFY that accepted A of a draft of depth D ≥ 1, and whether drafting is disabled by it. -/
def Chan.govern (c : Chan) (v a d : Nat) : Nat × Bool :=
  let limit := govLimit v
  let acc := (7 * bits v 24 16 + 256 * a / d + 4) / 8
  let run := if a = 0 then min (bits v 15 8 + 1) 255 else 0
  let limit := if a = 0 then max 1 (limit / 2)
    else if acc < c.fget Reg.SPC_GOV_CFG 38 30 then max 1 (limit - 1)
    else if a = d ∧ c.upThresh ≤ acc then min c.maxDepth (limit + 1)
    else limit
  let dis := c.fget Reg.SPC_GOV_CFG 63 56
  let off := decide (dis ≠ 0 ∧ dis ≤ run)
  ((if off then 0 else limit) * 2 ^ 25 + acc % 512 * 2 ^ 16 + run * 2 ^ 8 + (if off then c.fget Reg.SPC_GOV_CFG 55 48 else bits v 7 0), off)

/-! ### Records (R195, R196, R204) -/

/-- The checks of a record before its operation's own: the table, the handle, the tenant, the role, the state, the authorisation, a verify under way, the epoch and
the base. -/
def Chan.specRecord (c : Chan) (dest : ReplyTo) (op : Nat) (r : SpecRec) (tenant : Option Nat) (authorised : Nat → Bool) (k : Nat → Chan) : Chan :=
  let fabric := match dest with | .host _ => false | .peer _ _ _ _ => true
  if c.rel.mode = .shadow ∨ !c.ctx.ready then c.specEnd dest none op r.reqTag 0x29 0 0
  else match c.checkHandle r.h with
    | .error st => (c.badHandle st r.h fabric).specEnd dest none op r.reqTag st 0 0
    | .ok slot =>
      let e := c.entry slot
      let no := fun st => c.specEnd dest (some slot) op r.reqTag st 0 0
      if tenant.isSome ∧ tenant ≠ some e.tslot then (c.badHandle 0x20 r.h fabric).specEnd dest none op r.reqTag 0x20 0 0
      else if c.actingRole ≠ .generation then no 0x2E
      else if e.state ≠ .decoding then no 0x22
      else if !authorised slot then no 0x69
      else if e.sub = 2 then no 0x6C
      else if r.epoch ≠ e.epoch then no 0x61
      else if r.base ≠ e.committed then no 0x60
      else k slot

/-- BEGIN (R186). -/
def Chan.specBegin (c : Chan) (dest : ReplyTo) (r : SpecRec) (slot : Nat) : Chan :=
  let e := c.entry slot
  let geo := c.geom e.profile
  let m := c.map slot
  let no := fun st => c.specEnd dest (some slot) 1 r.reqTag st 0 0
  let parents := if r.version = 1 ∧ 1 ≤ r.count ∧ r.count ≤ 256 then draftParents r.count r.anchor r.tree r.table else none
  if e.sub = 1 then no 0x66
  else if (List.range geo.layers).any (fun l => decide (m.fillOf l ≠ e.committed)) then no 0x6A
  else match parents with
    | none => no 0x64
    | some ps =>
      if govLimit e.governor = 0 then no 0x63
      else if c.maxNodes < r.count ∨ geo.window < r.count ∨ govLimit e.governor < draftDepth ps r.anchor then no 0x62
      else if 2 ^ 22 < e.committed + r.count then no 0x68
      else
        let c := { c with drafts := c.drafts.put slot ⟨e.committed, r.anchor, ps, none⟩ }
        let c := c.moveTo slot .decoding 1 (fun e => { e with provisional := r.count })
        (c.bump Reg.SPC_TOKEN_CNT 63 32 (r.count - b2n r.anchor)).specEnd dest (some slot) 1 r.reqTag 0 0 0

/-- VERIFY accepted (R190, step 1). -/
def Chan.specVerify (c : Chan) (dest : ReplyTo) (r : SpecRec) (slot : Nat) : Chan :=
  let e := c.entry slot
  let no := fun st => c.specEnd dest (some slot) 2 r.reqTag st 0 0
  let path := r.table.take r.count
  match (if e.sub = 1 then c.drafts.find slot else none) with
  | none => no 0x67
  | some d =>
    if r.version ≠ 1 ∨ 64 < r.count ∨ r.table.length < r.count then no 0x64
    else if !pathOk d path then no 0x65
    else if c.paused e.tslot then no 0xD0
    else { c.moveTo slot .decoding 2 id with drafts := c.drafts.put slot { d with verify := some (path, dest, r.reqTag) } }

/-- ABANDON (R193). The units admitted for the draft and not yet placed go with it. -/
def Chan.specAbandon (c : Chan) (dest : ReplyTo) (r : SpecRec) (slot : Nat) : Chan :=
  let e := c.entry slot
  let no := fun st => c.specEnd dest (some slot) 3 r.reqTag st 0 0
  if e.sub ≠ 1 then no 0x67
  else if r.version ≠ 1 ∨ r.count ≠ 0 then no 0x64
  else
    let c := c.discardStaged slot
    let c := c.setMap slot ((c.map slot).setFill (c.geom e.profile).layers e.committed)
    let c := { c with drafts := c.drafts.del slot }
    let c := c.moveTo slot .decoding 0 (fun e => { e with provisional := 0 })
    ((c.bump Reg.SPC_VERIFY_CNT 31 0 1).bump Reg.SPC_TRUNC_CNT 63 0 e.provisional).specEnd dest (some slot) 3 r.reqTag 0 0 e.provisional

/-- A record that a host command brings. -/
def Chan.specCommand (c : Chan) (src : Src) (op : Nat) (r : Fetched SpecRec) (k : Chan → ReplyTo → SpecRec → Nat → Chan) : Chan :=
  c.command src ⟨false, true, false⟩ (fun c => c.reading src r (fun r => c.specRecord (.host src) op r src.vf (fun _ => true) (k c (.host src) r)))

/-- SPC_BEGIN. -/
def execSpcBegin (c : ChId) (src : Src) (r : Fetched SpecRec) (s : State) : Host.Outcome State Fault Refusal :=
  onCh c (fun x => x.specCommand src 1 r Chan.specBegin) s

/-- SPC_VERIFY. -/
def execSpcVerify (c : ChId) (src : Src) (r : Fetched SpecRec) (s : State) : Host.Outcome State Fault Refusal :=
  onCh c (fun x => x.specCommand src 2 r Chan.specVerify) s

/-- SPC_ABANDON. -/
def execSpcAbandon (c : ChId) (src : Src) (r : Fetched SpecRec) (s : State) : Host.Outcome State Fault Refusal :=
  onCh c (fun x => x.specCommand src 3 r Chan.specAbandon) s

/-- Is a record authorised that came this way (R195): a flagged store or a single RDMA WRITE, on a connection under the append window's protection domain? -/
def Chan.specAuthorised (c : Chan) (via : Via) (slot : Nat) : Bool :=
  let m := c.map slot
  let x := c.conn via.link
  decide (x.st = .open_ ∧ m.region.isSome ∧ x.pd = m.pd) && (match via with | .fmt _ flagged => flagged | .roce _ single => single)

/-- A record that arrives on the speculation port of a tenant slot. -/
def Chan.specPort (c : Chan) (port : Nat) (via : Via) (op : Nat) (r : SpecRec) (k : Chan → ReplyTo → SpecRec → Nat → Chan) : Chan :=
  if !c.serves || c.eid.isNone then c
  else
    let dest := ReplyTo.peer via r.replyAddr r.replyKey r.replyGen
    c.specRecord dest op r (some port) (c.specAuthorised via) (k c dest r)

/-- SPEC_BEGIN_RECORD. -/
def execSpecBeginRecord (c : ChId) (port : Nat) (via : Via) (r : SpecRec) (s : State) : Host.Outcome State Fault Refusal :=
  onCh c (fun x => x.specPort port via 1 r Chan.specBegin) s

/-- SPEC_VERIFY_RECORD. -/
def execSpecVerifyRecord (c : ChId) (port : Nat) (via : Via) (r : SpecRec) (s : State) : Host.Outcome State Fault Refusal :=
  onCh c (fun x => x.specPort port via 2 r Chan.specVerify) s

/-- SPEC_ABANDON_RECORD. -/
def execSpecAbandonRecord (c : ChId) (port : Nat) (via : Via) (r : SpecRec) (s : State) : Host.Outcome State Fault Refusal :=
  onCh c (fun x => x.specPort port via 3 r Chan.specAbandon) s

/-! ### VERIFY_COMMIT (R190 steps 2 to 5) -/

/-- Is row t complete in every layer? -/
def Chan.rowComplete (c : Chan) (slot t : Nat) : Bool :=
  let geo := c.geom (c.entry slot).profile
  let m := c.map slot
  (List.range geo.layers).all (fun l => decide (t < m.fillOf l) || decide (m.placed.getD (l * 2 ^ 22 + t) 0 = 2 ^ geo.units - 1))

/-- How the allocation for the commit copies came out. -/
inductive CopyRoom where
  | ready
  | waits
  | quota
  | exhausted
  deriving DecidableEq, Repr

/-- A frame for a commit copy, allocated where it is missing (R104, R106, R190). -/
def Chan.copyFrame (c : Chan) (slot g l j : Nat) : CopyRoom × Chan :=
  let e := c.entry slot
  if (c.frameOf slot g l j).isSome then (.ready, c)
  else if !c.quotaAllows e.tslot 0 (c.geom e.profile).gran then (.quota, c)
  else match (c.needBlock slot g).bind (fun c => c.needFrame slot g l j) with
    | some c => (.ready, c)
    | none => (if c.pool.cullet.isEmpty then .exhausted else .waits, c)

/-- Every frame that the copies to the rows `ts` write into; it stops at the first that cannot be had, and keeps what it has. -/
def Chan.copyFrames (c : Chan) (slot : Nat) (ts : List Nat) : CopyRoom × Chan :=
  let geo := c.geom (c.entry slot).profile
  let need := ts.flatMap (fun t => (List.range geo.layers).flatMap (fun l => (List.range geo.parts).map (fun j => (t / 16, l, j))))
  need.foldl (fun acc f => match acc.1 with
    | .ready => acc.2.copyFrame slot f.1 f.2.1 f.2.2
    | _ => acc) (.ready, c)

/-- Row `from_` copied to row `to` in every layer, K and V of every KV head, with its scales; false where a source codeword is uncorrectable. The consumer code of such
a read is free. -/
def Chan.copyRow (c : Chan) (slot from_ dest : Nat) : Bool × Chan :=
  let geo := c.geom (c.entry slot).profile
  let spots := (List.range geo.layers).flatMap (fun l => (List.range geo.kvHeads).flatMap (fun h => [(l, h, 0), (l, h, 1)]))
  let ranges := spots.flatMap (fun p =>
    let (j, tile) := geo.tileOf p.2.1 p.2.2
    let (d, s) := geo.rowAt tile (from_ % 16)
    match c.pageAddr slot (from_ / 16) p.1 j 0 with
    | some a => [(a + d, geo.rowBytes), (a + s, geo.rowScale)]
    | none => [])
  let (ok, c) := if c.rel.cw.isEmpty then (true, c) else (let (v, c) := c.draw; c.eccReads ranges (v % 256))
  if ok then (true, spots.foldl (fun c p => c.rowWrite slot dest p.1 p.2.1 p.2.2 (c.rowRead slot from_ p.1 p.2.1 p.2.2)) c) else (false, c)

/-- The VERIFY ends with a status and the draft stays open. -/
def Chan.verifyBack (c : Chan) (slot status : Nat) : Chan := (c.moveTo slot .decoding 1 id).endVerify slot status

/-- Steps 4 and 5: the commit, the governor, the reply and DECODING PLAIN. -/
def Chan.verifyDone (c : Chan) (slot : Nat) (d : Draft) (path : List Nat) (dest : ReplyTo) (tag : Nat) : Chan :=
  let e := c.entry slot
  let k := path.length
  let n := d.base + k
  let a := k - b2n d.anchor
  let depth := draftDepth d.parents d.anchor
  let c := c.commitTo slot n (fun e => { e with provisional := 0 })
  let c := c.setMap slot ((c.map slot).setFill (c.geom e.profile).layers n)
  let c := { c with drafts := c.drafts.del slot }
  let (v, off) := if depth = 0 then ((c.entry slot).governor, false) else c.govern (c.entry slot).governor a depth
  let c := c.touch slot (fun e => { e with governor := v })
  let c := if off then c.event 0x5002 (some e.tslot) (c.handle slot) (bits v 24 16 + n * 2 ^ 32) else c
  let c := ((c.bump Reg.SPC_VERIFY_CNT 63 32 1).bump Reg.SPC_TOKEN_CNT 31 0 a).bump Reg.SPC_TRUNC_CNT 63 0 (d.parents.length - k)
  (c.moveTo slot .decoding 0 id).specEnd dest (some slot) 2 tag 0 a (d.parents.length - k)

/-- VERIFY_COMMIT: nothing admitted before the VERIFY is left to place. While the copies wait for cleared frames nothing more happens. -/
def execVerifyCommit (c : ChId) (slot : Nat) (s : State) : Host.Outcome State Fault Refusal :=
  onCh c (fun x => match x.drafts.find slot, (x.drafts.find slot).bind (fun d => d.verify) with
    | some d, some (path, dest, tag) =>
      if (x.entry slot).state ≠ .decoding ∨ (x.entry slot).sub ≠ 2 ∨ !(x.map slot).staged.isEmpty then x
      else if path.any (fun a => !x.rowComplete slot (d.base + a)) then x.verifyBack slot 0x6B
      else
        let moves := (List.range path.length).filterMap (fun j => if path.getD j 0 = j then none else some (d.base + path.getD j 0, d.base + j))
        match x.copyFrames slot (moves.map Prod.snd) with
        | (.waits, x) => x
        | (.quota, x) => (x.tierQuotaEvent (x.entry slot).tslot 0).verifyBack slot 0x6D
        | (.exhausted, x) => x.verifyBack slot 0x6D
        | (.ready, x) =>
          let (ok, x) := moves.foldl (fun acc m => if acc.1 then acc.2.copyRow slot m.1 m.2 else acc) (true, x)
          if ok then x.verifyDone slot d path dest tag else x.faultNow slot 2
    | _, _ => x) s

/-! ### SPC_GOVERN (R203) -/

/-- SPC_GOVERN: RESET sets the initial values, else LIMIT alone is set. -/
def execSpcGovern (c : ChId) (src : Src) (h : Nat) (reset : Bool) (limit : Nat) (s : State) : Host.Outcome State Fault Refusal :=
  onCh c (fun x => x.ctxCommand src ⟨false, false, false⟩ (fun x => x.withCtx src h (fun slot =>
    let e := x.entry slot
    if e.state ≠ .decoding then x.complete src 0x22 0
    else if !reset ∧ x.maxDepth < limit then x.complete src 0x28 0
    else
      let v := if reset then x.govStart else setBits e.governor 31 25 limit
      (x.touch slot (fun e => { e with governor := v })).complete src 0 v))) s

end Sys2Proof.Machine
end

