-- ==== Sys2Proof/Machine/TierMoves.lean ====
section
/-! DEFINITION. tier.move (R337 to R345): one group after another, read from its home, sealed or opened, written to the target, and switched. -/
namespace Sys2Proof.Machine
open Sys2Proof

/-- The tier of a code. -/
def tierLoc (target : Nat) : Loc := if target = 0 then .t0 else if target = 1 then .t1 else .t2

/-- A move replaced. -/
def Chan.setMove (c : Chan) (slot : Nat) (f : TierMove → TierMove) : Chan := { c with tiers := { c.tiers with moves := c.tiers.moves.modify slot f } }

/-- Ranges of an object of n bytes that travel one by one (R340): runs of floor(PMTU / tile bytes) tiles, and then the 16-byte tag. -/
def tierRuns (pmtu tile n : Nat) : List (Nat × Nat) :=
  let run := max 1 (pmtu / max 1 tile) * max 1 tile
  (List.range ((n + run - 1) / run)).map (fun i => (i * run, min run (n - i * run))) ++ [(n, 16)]

/-- PMTU of the base connection to a peer. -/
def Chan.peerPmtu (c : Chan) (peer : Nat) : Nat :=
  match c.baseConn peer with
  | some k => (c.conn k).pmtu
  | none => pmtuBytes (c.basePmtu (c.flag Reg.FAB_FMT_CFG 0))

/-- The runs of an object of a context, towards a peer. -/
def Chan.runsTo (c : Chan) (slot peer n : Nat) : List (Nat × Nat) := tierRuns (c.peerPmtu peer) (c.geom (c.entry slot).profile).tileBytes n

/-- A FETCH_SEQ for the group in hand, with so many operations outstanding and a deadline. -/
def Chan.armMove (c : Chan) (slot n hedge : Nat) : Nat × Chan :=
  let q := c.tiers.fetchSeq
  let c := { c with tiers := { c.tiers with fetchSeq := (q + 1) % 2 ^ 32 } }
  (q, c.setMove slot (fun m => { m with left := n, seq := q, due := c.time + hedge, data := [], failed := false, plain := none }))

/-- HEDGE_T1 and HEDGE_T2 in ns. -/
def Chan.hedgeT1 (c : Chan) : Nat := c.orD Reg.TIER_HEDGE 63 48 500 * 1000

/-- HEDGE_T2. -/
def Chan.hedgeT2 (c : Chan) : Nat := c.orD Reg.TIER_HEDGE 47 32 2000 * 1000

/-! ### Reading and writing a group -/

/-- The read of the group in hand from its tier begins: loads from the lease, or host reads, whose bytes come with TIER_GROUP_WRITTEN. -/
def Chan.readGroup (c : Chan) (slot : Nat) (o : TierObj) : Chan :=
  let c := c.setMove slot (fun m => { m with reading := true })
  if o.t1 then
    match c.tiers.leases.find o.lease with
    | none => c.tierReadFailed slot 5
    | some l =>
      let runs := c.runsTo slot l.peer o.length
      let (q, c) := c.armMove slot runs.length c.hedgeT1
      runs.foldl (fun c r => c.issueWork l.peer (baseLoad (.tier slot q) l.peer l.region (o.addr + r.1) r.2)) c
  else (c.armMove slot 0 c.hedgeT2).2

/-- The group in hand sealed into its object record and written to the target (R340 to R342); a host write that fails ends the move. -/
def Chan.writeGroup (c : Chan) (slot n : Nat) (o : TierObj) (body : List Byte) : Chan :=
  let e := c.entry slot
  let key := (c.storageKey e.tslot).getD []
  let ((iv, ct, tag), c) := c.sealWith key (objectAad e.req e.tag e.epoch o.group (if o.t1 then 1 else 2)) body
  let c := { c with tiers := { c.tiers with objs := c.tiers.objs.put n { o with iv := iv, tag := tag, epoch := e.epoch, body := body } } }
  let c := c.setMove slot (fun m => { m with reading := false })
  let bytes := ct ++ tag
  if o.t1 then
    match c.tiers.leases.find o.lease with
    | none => c.endMove slot 0xA1
    | some l =>
      let runs := c.runsTo slot l.peer o.length
      let (q, c) := c.armMove slot runs.length 0
      runs.foldl (fun c r => c.issueWork l.peer (baseOp (.tier slot q) 1 l.peer l.region (o.addr + r.1) ((bytes.drop r.1).take r.2))) c
  else
    let (_, c) := c.armMove slot 0 0
    let runs := tierRuns 8192 (c.geom e.profile).tileBytes o.length
    let (ok, c) := runs.foldl (fun acc r =>
      if !acc.1 then acc else (let (ok, c') := acc.2.hostWrite .pf (o.addr + r.1) ((bytes.drop r.1).take r.2); if ok then (true, c') else (false, acc.2))) (true, c)
    if ok then c else (c.dmaError .pf o.addr ((c.dmaFault .pf).getD 7) 0xA001).endMove slot 0xB2

/-! ### The steps of one group (R342) -/

/-- Frames for every part of a group, charged to T0; none where one cannot be had. -/
def Chan.moveFrames (c : Chan) (slot g : Nat) : List Nat → AMap Nat → Option (AMap Nat × Chan)
  | [], fs => some (fs, c)
  | i :: t, fs =>
    let geo := c.geom (c.entry slot).profile
    match c.findFrame ((g + i) % c.pchs) geo.gran with
    | none => none
    | some f => Chan.moveFrames ((c.useFrame f geo.gran).touch slot (fun e => { e with ch0 := e.ch0 + geo.gran })) slot g t (fs.put i f)

/-- The lease that takes the group in hand: the one named, or the lowest borrowed one with room; and where in it. -/
def Chan.pickLease (c : Chan) (named n : Nat) : Option (Nat × Nat) :=
  let fits := fun (i : Nat) => match c.tiers.leases.find i with
    | some l => if l.granted ∧ !l.lent ∧ !l.recalling then (c.leaseRoom i n).map (fun a => (i, a)) else none
    | none => none
  if named = 0xFFFF then (c.tiers.leases.map Prod.fst).findSome? fits else fits named

/-- Space in T1 or T2 for an object of n bytes (R342): the lease and the address, or the status that says why there is none. -/
def Chan.tierSpace (c : Chan) (m : TierMove) (n : Nat) : Except Nat (Nat × Nat) :=
  let room := (n + 16 + 4095) / 4096 * 4096
  if m.target = 1 then
    if m.lease ≠ 0xFFFF && (c.tiers.leases.find m.lease).any (fun l => l.recalling) then .error 0xA8
    else match c.pickLease m.lease room with
      | some x => .ok x
      | none => .error 0xA1
  else if c.tiers.t2Removing.isSome then .error 0xA7
  else match c.t2Room room with
    | some a => .ok (0, a)
    | none => .error 0xA7

/-- Step 1 towards T1 or T2: the quota, the record and the space, charged; or the status that ends the move. -/
def Chan.takeObj (c : Chan) (slot g : Nat) (m : TierMove) (n : Nat) : Except (Nat × Chan) Chan :=
  let e := c.entry slot
  let gran := (n + 16 + 4095) / 4096
  if !c.quotaAllows e.tslot m.target gran then .error (0xA0, c.tierQuotaEvent e.tslot m.target)
  else match c.tierSpace m n with
    | .error st => .error (st, c)
    | .ok (lease, addr) => match c.newObj with
      | none => .error (0xAA, c)
      | some (k, c) =>
        let o : TierObj := { t1 := decide (m.target = 1), valid := false, lease := lease, addr := addr, length := n, iv := [], tag := [], group := g, epoch := e.epoch,
                             slot := slot, body := [] }
        let c := { c with tiers := { c.tiers with objs := c.tiers.objs.put k o } }
        let c := c.touch slot (fun e => if m.target = 1 then { e with ch1 := e.ch1 + gran } else { e with ch2 := e.ch2 + gran })
        .ok (c.setMove slot (fun m => { m with obj := some k }))

/-- Step 1 towards T0: the quota and the frames, charged. -/
def Chan.takeFrames (c : Chan) (slot g : Nat) : Except (Nat × Chan) Chan :=
  let e := c.entry slot
  let geo := c.geom e.profile
  let n := geo.layers * geo.parts
  if !c.quotaAllows e.tslot 0 (n * geo.gran) then .error (0xA0, c.tierQuotaEvent e.tslot 0)
  else match c.moveFrames slot g (List.range n) [] with
    | none => .error (0x30, c)
    | some (fs, c) => .ok (c.setMove slot (fun m => { m with frames := fs }))

/-- The next group of a move begins, groups already in the target tier being skipped; the move ends after the last, or where something has stopped it. -/
def Chan.nextGroup (c : Chan) (slot : Nat) : Nat → Chan
  | 0 => c
  | n + 1 =>
    match c.tiers.moves.find slot with
    | none => c
    | some m =>
      let g := m.next
      let r := (c.map slot).grp g
      if m.stop.isSome then c.endMove slot (m.stop.getD 0)
      else if m.last ≤ g then c.endMove slot 0
      else if r.loc = tierLoc m.target then (c.setMove slot (fun m => { m with next := g + 1 })).nextGroup slot n
      else
        let geo := c.geom (c.entry slot).profile
        match (if m.target = 0 then c.takeFrames slot g else c.takeObj slot g m geo.bodyBytes) with
        | .error (st, c) => c.endMove slot st
        | .ok c =>
          if r.loc = .t0 then
            let (ok, c) := c.eccReads (c.groupRanges slot g) 4
            if !ok then (c.endMove slot 0x22).fault slot 2
            else match (c.tiers.moves.find slot).bind (fun m => m.obj) with
              | some k => match c.tiers.objs.find k with
                | some o => c.writeGroup slot k o (geo.pack (c.groupBody slot g (c.entry slot).committed))
                | none => c
              | none => c
          else match c.tiers.objs.find (r.frames.getD 0 0) with
            | some o => c.readGroup slot o
            | none => c.tierReadFailed slot 5

/-- Steps 3 to 5: the record is switched, the charge journalled, and the old home released; the next group follows. -/
def Chan.switchGroup (c : Chan) (slot : Nat) (body : List Byte) : Chan :=
  match c.tiers.moves.find slot with
  | none => c
  | some m =>
    let g := m.next
    let r := (c.map slot).grp g
    let geo := c.geom (c.entry slot).profile
    let old := r.frames.map Prod.snd
    let c := c.setMap slot ((c.map slot).setRec g { r with loc := tierLoc m.target, frames := match m.obj with | some k => [(0, k)] | none => m.frames })
    let c := match m.obj with
      | some k => { c with tiers := { c.tiers with objs := c.tiers.objs.modify k (fun o => { o with valid := true }) } }
      | none => c.storeBody slot g (geo.unpack body)
    let c := c.setMove slot (fun m => { m with next := g + 1, moved := m.moved + 1, obj := none, frames := [], reading := false, plain := none })
    let c := c.update slot 4 id
    let c := c.dropRead slot
    let c := if r.loc = .t0 then
        let gran := (old.map c.granOf).sum
        ((c.cullFrames old).touch slot (fun e => { e with ch0 := e.ch0 - gran })).bump Reg.TIER_CNT 63 32 1
      else
        let c := c.freeObj slot (old.headD 0)
        if m.target = 0 then c.bump Reg.TIER_CNT 31 0 1 else c
    c.nextGroup slot (m.last - g + 1)

/-! ### TIER_MOVE -/

/-- May the groups FIRST to FIRST + COUNT − 1 move (R342): none SHARED, none that attachers copy, all FULL but in a SEALED or PARKED context? -/
def Chan.movable (c : Chan) (slot first count : Nat) : Bool :=
  let e := c.entry slot
  !(e.prefixOwner && decide (0 < e.refs)) &&
    (List.range count).all (fun i => let r := (c.map slot).grp (first + i); !r.shared && (r.full || decide (e.state = .sealed ∨ e.state = .parked)))

/-- The statuses of R342 and R359, in order. -/
def Chan.moveRefusal (c : Chan) (slot first count target lease : Nat) : Option Nat :=
  let e := c.entry slot
  if !(decide (e.state = .sealed ∨ e.state = .parked) || decide (e.state = .decoding ∧ e.sub = 0 ∧ e.provisional = 0)) then some 0x22
  else if (c.tiers.moves.find slot).isSome then some 0x22
  else if count = 0 ∨ 2 ^ 18 < count ∨ 2 < target ∨ groupsOf e.committed < first + count then some 0x28
  else if !c.movable slot first count then some 0xA4
  else if target = 1 && lease ≠ 0xFFFF && !((c.tiers.leases.find lease).any (fun l => l.granted && !l.lent && !l.recalling)) then some 0xA1
  else if target = 1 && lease = 0xFFFF && !(c.tiers.leases.anyOf (fun _ l => l.granted && !l.lent && !l.recalling)) then some 0xA1
  else if target = 2 && (decide (c.tiers.t2Units = 0) || c.tiers.t2Removing.isSome) then some 0xA7
  else if (c.storageKey e.tslot).isNone then some 0xA5
  else none

/-- tier.move. -/
def Chan.tierMove (c : Chan) (src : Src) (slot first count target lease : Nat) : Chan :=
  match c.moveRefusal slot first count target lease with
  | some st => c.complete src st 0
  | none =>
    let m : TierMove := { cmd := src, next := first, last := first + count, target := target, lease := lease, moved := 0, obj := none, frames := [], reading := false,
                          left := 0, seq := 2 ^ 32, due := 0, data := [], failed := false, plain := none, stop := none }
    { c with tiers := { c.tiers with moves := c.tiers.moves.put slot m } }.nextGroup slot (count + 1)

/-- TIER_MOVE. -/
def execTierMove (c : ChId) (src : Src) (h first count target lease : Nat) (s : State) : Host.Outcome State Fault Refusal :=
  onChS c (fun x => x.ctxCommand src ⟨false, false, false⟩ (fun x => x.withCtx src h (fun slot => x.tierMove src slot first count target lease))) s

/-! ### TIER_GROUP_WRITTEN -/

/-- What has been read of the group in hand, opened with the AAD of its object (R341): none where the tag fails. -/
def Chan.openGroup (c : Chan) (slot : Nat) (o : TierObj) (bytes : List Byte) : Option (List Byte) :=
  let e := c.entry slot
  gcmOpen ((c.storageKey e.tslot).getD []) o.iv (objectAad e.req e.tag o.epoch o.group (if o.t1 then 1 else 2)) (bytes.take o.length) ((bytes.drop o.length).take 16)

/-- The body of a group that has been read: it goes to T0 and is switched, or is sealed and written to the target, whose write ends with a command of its own. -/
def Chan.bodyRead (c : Chan) (slot : Nat) (m : TierMove) (body : List Byte) : Chan :=
  match m.obj with
  | none => c.switchGroup slot body
  | some k => match c.tiers.objs.find k with
    | none => c
    | some o => c.writeGroup slot k o body

/-- The group in hand of a move whose read or write has ended. `object` is what a host read brought: the object's bytes with its tag where the home is T2, the read
behind the posted writes where the target is. -/
def Chan.groupWritten (c : Chan) (slot : Nat) (m : TierMove) (object : Fetched (List Byte)) : Chan :=
  match c.moveObj slot m with
  | none => if m.reading then c.tierReadFailed slot 5 else c
  | some o =>
    if m.reading then
      match m.plain with
      | some b => c.bodyRead slot m b
      | none =>
        if o.t1 then
          if m.left ≠ 0 ∨ m.failed then c
          else match c.openGroup slot o (m.data.flatMap Prod.snd) with
            | some b => c.bodyRead slot m b
            | none => (c.setMove slot (fun m => { m with failed := true })).tierReadFailed slot 4
        else if m.failed then c
        else match object with
          | .ok bytes => match c.openGroup slot o bytes with
            | some b => c.bodyRead slot m b
            | none => (c.setMove slot (fun m => { m with failed := true })).tierReadFailed slot 4
          | .failed cause => ((c.dmaError .pf o.addr cause 0xA001).setMove slot (fun m => { m with failed := true })).tierReadFailed slot 5
    else if o.t1 then (if m.left = 0 ∧ !m.failed then c.switchGroup slot o.body else c)
    else match object with
      | .ok _ => c.switchGroup slot o.body
      | .failed cause => (c.dmaError .pf o.addr cause 0xA001).endMove slot 0xB2

/-- TIER_GROUP_WRITTEN. -/
def execTierGroupWritten (c : ChId) (slot : Nat) (object : Fetched (List Byte)) (s : State) : Host.Outcome State Fault Refusal :=
  onChS c (fun x => if !x.serves then x else match x.tiers.moves.find slot with
    | some m => x.groupWritten slot m object
    | none => x) s

end Sys2Proof.Machine
end

