-- ==== Sys2Proof/Machine/Tiers.lean ====
section
/-! DEFINITION. Leases, the T2 pool, fragment sets at their holders, and the tier messages (R346 to R357). -/
namespace Sys2Proof.Machine
open Sys2Proof

/-! ### Answers (R354) -/

/-- An answer to a tier message, kept for 100 ms. -/
def Chan.tierAnswer (c : Chan) (peer ty : Nat) (m : TierMsg) : Chan :=
  let c := { c with tiers := { c.tiers with answered := ⟨peer, m.reqNum, ty, m, c.time + 100 * ms⟩ :: c.tiers.answered.filter (fun a => decide (c.time < a.until_)) } }
  c.sendTier peer ty m

/-- REFUSE with a reason. -/
def Chan.tierRefuse (c : Chan) (peer : Nat) (m : TierMsg) (reason : Nat) : Chan := c.tierAnswer peer 0x0B { m with reason := reason, check := 0 }

/-- A tier request of a peer with a session: one that was answered within 100 ms is answered the same again. -/
def Chan.tierAsked (c : Chan) (peer : Nat) (m : TierMsg) (fresh : Chan → Chan) : Chan :=
  if !c.serves ∨ c.eid.isNone ∨ !c.session peer then c
  else match c.tiers.answered.find? (fun a => decide (a.peer = peer ∧ a.reqNum = m.reqNum ∧ c.time < a.until_)) with
    | some a => c.sendTier peer a.ty a.msg
    | none => fresh c

/-- The request that an answer ends: of one of the TYPEs given, to that peer. -/
def Chan.tierReply (c : Chan) (peer : Nat) (m : TierMsg) (tys : List Nat) (k : Chan → TierReq → Chan) : Chan :=
  if !c.serves then c
  else match c.tiers.reqs.find m.reqNum with
    | some q => if q.peer = peer ∧ tys.contains q.ty then k (c.dropTierReq m.reqNum) q else c
    | none => c

/-! ### Leases (R346, R347) -/

/-- A lease entry replaced. -/
def Chan.setLease (c : Chan) (i : Nat) (l : Lease) : Chan := { c with tiers := { c.tiers with leases := c.tiers.leases.put i l } }

/-- The lowest free lease entry. -/
def Chan.freeLease (c : Chan) : Option Nat := (List.range 256).find? (fun i => (c.tiers.leases.find i).isNone)

/-- Slabs that may be lent: unassigned ones beyond LEND_RESERVE. -/
def Chan.idleSlabs (c : Chan) : Nat := c.slabTotal - c.pool.slabs.length - c.pool.taken.length - c.fget Reg.TIER_LEND_CFG 49 32

/-- tier.lend: the region registered for the borrower, and LEND sent. -/
def Chan.tierLend (c : Chan) (src : Src) (peer n : Nat) : Chan :=
  if n = 0 ∨ 65536 < n ∨ 2 ^ 18 ≤ peer then c.complete src 0x28 0
  else match c.eid with
    | none => c.complete src 0x2A 0
    | some me =>
      if peer = me then c.complete src 0x44 0
      else if !c.session peer then c.complete src 0x49 0
      else if c.idleSlabs < n then c.complete src 0xA1 0
      else match c.freeLease, c.takeSlabs n 3 with
        | some i, some (slabs, c') =>
          (match c'.register { Region.init with kind := .lease i, pd := 0, rights := 3, ownerCheck := true, ownerEid := peer, slabs := slabs, size := n * (2 * mib) } with
            | none => c.complete src 0xA1 0
            | some (r, c) =>
              let c := c.setLease i { granted := false, recalling := false, lent := true, slabs := n, peer := peer, region := r, cmd := some src, recallEnd := none,
                                      force := false, reqNum := 0 }
              c.tierRequest peer 1 { TierMsg.blank with region := c.regionField r, length := n * (2 * mib) } (.lease i))
        | _, _ => c.complete src 0xA1 0

/-- TIER_LEND. -/
def execTierLend (c : ChId) (src : Src) (peer slabs : Nat) (s : State) : Host.Outcome State Fault Refusal :=
  onChS c (fun x => x.command src ⟨true, false, false⟩ (fun x => x.tierLend src peer slabs)) s

/-- A lent lease ends: its region is revoked, and its entry is free. -/
def Chan.endLent (c : Chan) (i : Nat) (cmd : Option Src) : Chan :=
  match c.tiers.leases.find i with
  | none => c
  | some l =>
    let c := { c with tiers := { c.tiers with leases := c.tiers.leases.del i } }
    let c := c.revokePoint l.region cmd
    if (c.region l.region).st = .revoking ∧ !c.regionBusy l.region then c.revokeEnd l.region else c

/-- The borrower takes no lease: tier.lend fails, and the slabs return. -/
def Chan.lendFailed (c : Chan) (i : Nat) : Chan :=
  match c.tiers.leases.find i with
  | none => c
  | some l => ((c.setLease i { l with cmd := none }).endLent i none).completeOpt l.cmd 0xA2 0

/-- LEND at the borrower. -/
def execLend (c : ChId) (peer : Nat) (m : TierMsg) (s : State) : Host.Outcome State Fault Refusal :=
  onChS c (fun x => x.tierAsked peer m (fun x =>
    if x.rel.mode = .shadow then x.tierRefuse peer m 8
    else match x.freeLease with
      | none => x.tierRefuse peer m 7
      | some i =>
        (x.setLease i { granted := true, recalling := false, lent := false, slabs := m.length / (2 * mib), peer := peer, region := m.region, cmd := none,
                        recallEnd := none, force := false, reqNum := 0 }).tierAnswer peer 2 m)) s

/-- LEND_ACK: the lease is active, and tier.lend completes with its index. -/
def execLendAck (c : ChId) (peer : Nat) (m : TierMsg) (s : State) : Host.Outcome State Fault Refusal :=
  onChS c (fun x => x.tierReply peer m [1] (fun x q => match q.what with
    | .lease i => match x.tiers.leases.find i with
      | some l => ((x.setLease i { l with granted := true, cmd := none }).event 0xA002 none i (l.peer + l.slabs * 2 ^ 32)).completeOpt l.cmd 0 i
      | none => x
    | _ => x)) s

/-- tier.recall: RECALL is sent, and RECALL_TIME starts. -/
def Chan.tierRecall (c : Chan) (src : Src) (i : Nat) (force : Bool) : Chan :=
  match c.tiers.leases.find i with
  | none => c.complete src 0xA1 0
  | some l =>
    if !l.lent then c.complete src 0xA1 0
    else if !l.granted ∨ l.cmd.isSome then c.complete src 0xA8 0
    else
      let time := c.orD Reg.TIER_LEND_CFG 15 0 1000 * ms
      let c := c.setLease i { l with recalling := true, cmd := some src, recallEnd := some (c.time + time), force := force }
      c.tierRequest l.peer 3 { TierMsg.blank with region := c.regionField l.region, length := l.slabs * (2 * mib) } (.lease i)

/-- TIER_RECALL. -/
def execTierRecall (c : ChId) (src : Src) (lease : Nat) (force : Bool) (s : State) : Host.Outcome State Fault Refusal :=
  onChS c (fun x => x.command src ⟨true, false, false⟩ (fun x => x.tierRecall src lease force)) s

/-- RECALL_TIME_EXPIRY: tier.recall completes with 0xA8; with FORCE the region is revoked all the same. -/
def execRecallTimeExpiry (c : ChId) (lease : Nat) (s : State) : Host.Outcome State Fault Refusal :=
  onChS c (fun x => match x.tiers.leases.find lease with
    | none => x
    | some l => match l.recallEnd with
      | none => x
      | some t =>
        let x := (x.reach t).setLease lease { l with cmd := none, recallEnd := none }
        (if l.force then x.endLent lease none else x).completeOpt l.cmd 0xA8 0) s

/-- The borrowed lease that a REGION field of a lender names. -/
def Chan.borrowed (c : Chan) (peer region : Nat) : Option Nat :=
  (c.tiers.leases.keysWhere (fun _ l => decide (l.peer = peer ∧ l.region = region) && !l.lent)).head?

/-- RECALL at the borrower: no new objects, the event, and RECALL_DONE once the lease holds no object. -/
def execRecall (c : ChId) (peer : Nat) (m : TierMsg) (s : State) : Host.Outcome State Fault Refusal :=
  onChS c (fun x => x.tierAsked peer m (fun x => match x.borrowed peer m.region with
    | none => x.tierRefuse peer m 6
    | some i => match x.tiers.leases.find i with
      | none => x
      | some l =>
        let x := x.setLease i { l with recalling := true, reqNum := m.reqNum }
        let x := if l.recalling then x else x.event 0xA004 none i (x.tiers.objs.countP (fun e => e.2.inLease i))
        x.leaseDrained i)) s

/-- RECALL_DONE at the lender: the region is revoked, which completes tier.recall. -/
def execRecallDone (c : ChId) (peer : Nat) (m : TierMsg) (s : State) : Host.Outcome State Fault Refusal :=
  onChS c (fun x =>
    if !x.serves then x
    else match (x.tiers.leases.keysWhere (fun _ l => l.lent && l.recalling && decide (l.peer = peer ∧ x.regionField l.region = m.region))).head? with
      | some i => (x.dropTierReq m.reqNum).endLent i ((x.tiers.leases.find i).bind (fun l => l.cmd))
      | none => x) s

/-! ### The T2 pool (R349) -/

/-- tier.t2.pool. -/
def Chan.tierT2Pool (c : Chan) (src : Src) (addr units : Nat) (remove force : Bool) : Chan :=
  if !remove then
    if addr % (2 * mib) ≠ 0 ∨ units = 0 ∨ 2 ^ 32 < units ∨ 2 ^ 64 < addr + units * (2 * mib) then c.complete src 0x28 0
    else if c.tiers.t2Units ≠ 0 then c.complete src 0xA7 0
    else { c with tiers := { c.tiers with t2Base := addr, t2Units := units } }.complete src 0 0
  else if c.tiers.t2Units = 0 then c.complete src 0xA7 0
  else if force then
    let waiting := c.tiers.t2Removing
    let (_, c) := { c with tiers := { c.tiers with t2Removing := none } }.loseObjects (fun o => !o.t1)
    ({ c with tiers := { c.tiers with t2Base := 0, t2Units := 0 } }.completeOpt waiting 0 0).complete src 0 0
  else if c.tiers.t2Removing.isSome then c.complete src 0xA7 0
  else
    let left := c.tiers.objs.countP (fun e => !e.2.t1)
    let c := { c with tiers := { c.tiers with t2Removing := some src } }
    if left = 0 then c.poolDrained else c.event 0xA009 none 0 left

/-- TIER_T2_POOL. -/
def execTierT2Pool (c : ChId) (src : Src) (addr units : Nat) (remove force : Bool) (s : State) : Host.Outcome State Fault Refusal :=
  onChS c (fun x => x.command src ⟨true, false, false⟩ (fun x => x.tierT2Pool src addr units remove force)) s

/-! ### Location lists (R356) -/

/-- A fragment location list. -/
def locBytes (req tag epoch red groups len : Nat) (digest : List Byte) (holders : List (Nat × Nat)) : List Byte :=
  leBytes 8 req ++ leBytes 4 tag ++ leBytes 4 epoch ++ leBytes 1 red ++ leBytes 1 holders.length ++ leBytes 6 0 ++ leBytes 4 groups ++ leBytes 4 len ++ digest ++
  List.replicate 32 0 ++ holders.flatMap (fun h => leBytes 8 (h.1 + h.2 * 2 ^ 24))

/-- A list written to host memory ends its command. -/
def Chan.listOut (c : Chan) (src : Src) (addr : Nat) (data : List Byte) (n : Nat) : Chan :=
  if data.isEmpty then c.complete src 0 n
  else
    let (ok, c') := c.hostWrite src.fn addr data
    if ok then c'.complete src 0 n else (c'.srcError src addr ((c.dmaFault src.fn).getD 7)).complete src 0xB2 n

/-- TIER_FRAG_WHERE: the home's own list. -/
def execTierFragWhere (c : ChId) (src : Src) (h addr : Nat) (s : State) : Host.Outcome State Fault Refusal :=
  onChS c (fun x => x.ctxCommand src ⟨false, false, false⟩ (fun x => x.withCtx src h (fun slot => match x.tiers.homes.find slot with
    | none => x.complete src 0xA9 0
    | some w =>
      let e := x.entry slot
      x.listOut src addr (locBytes e.req e.tag w.epoch w.red (groupsOf e.committed) e.committed (x.manifestDigest slot w.epoch (x.handle slot))
        (w.holders.map (fun y => (y.eid, y.index)))) w.holders.length))) s

/-- The list of one held set, from its header, with the holder's own entry. -/
def Chan.setList (c : Chan) (f : FragSet) : List Byte :=
  let head := c.regionRead (c.region f.region) 0 256
  let at_ := fun (off n : Nat) => leVal ((head.drop off).take n)
  locBytes f.req f.tag f.epoch f.red (at_ 24 4) (at_ 28 4) ((head.drop 64).take 64) [(c.fget Reg.CHN_EID 17 0, f.index)]

/-- TIER_FRAG_LIST: a list for every set held. -/
def execTierFragList (c : ChId) (src : Src) (addr max : Nat) (s : State) : Host.Outcome State Fault Refusal :=
  onChS c (fun x => x.command src ⟨true, false, false⟩ (fun x =>
    let sets := ((x.tiers.sets.map Prod.snd).filter (fun f => f.isSealed)).take max
    x.listOut src addr (sets.flatMap x.setList) sets.length)) s

/-! ### Sets at a holder (R352, R353) -/

/-- A held set released: its region is revoked, its space is free, and the event is raised. -/
def Chan.dropSet (c : Chan) (k : Nat) (byDrop : Bool) : Chan :=
  match c.tiers.sets.find k with
  | none => c
  | some f =>
    let c := { c.dropRegion f.region with tiers := { (c.dropRegion f.region).tiers with sets := c.tiers.sets.del k } }
    c.event 0xA008 none f.req (f.epoch + b2n byDrop * 2 ^ 63)

/-- TIER_FRAG_DROP. -/
def execTierFragDrop (c : ChId) (src : Src) (req tag epoch : Nat) (s : State) : Host.Outcome State Fault Refusal :=
  onChS c (fun x => x.command src ⟨true, false, false⟩ (fun x =>
    let ks := x.tiers.sets.keysWhere (fun _ f => decide (f.req = req ∧ f.tag = tag ∧ f.epoch = epoch))
    if ks.isEmpty then x.complete src 0xA9 0 else (ks.foldl (fun x k => x.dropSet k true) x).complete src 0 0)) s

/-- Is a held set one of a request, tag and epoch? -/
def FragSet.isOf (f : FragSet) (m : TierMsg) : Bool := decide (f.req = m.req ∧ f.tag = m.tag ∧ f.epoch = m.epoch)

/-- Why a holder refuses a FRAG_OPEN, if it does. -/
def Chan.openRefusal (c : Chan) (peer : Nat) (m : TierMsg) : Option Nat :=
  if c.rel.mode = .shadow then some 8
  else if c.role.cur ≠ .cache then some 1
  else if !c.offModule peer then some 4
  else if c.tiers.sets.anyOf (fun _ f => f.isOf m && decide (f.index ≠ m.index)) then some 3
  else none

/-- Space for a fragment of n bytes in the fragment area, as an offset. -/
def Chan.fragRoom (c : Chan) (n : Nat) : Option Nat :=
  if n = 0 then none else freeRange (c.tiers.sets.map (fun e => (e.2.base, up4k e.2.length))) (up4k n) (c.fragGib * 1024 * mib)

/-- FRAG_OPEN at a holder; a set of the same request, tag, epoch and INDEX is replaced. -/
def execFragOpen (c : ChId) (peer : Nat) (m : TierMsg) (s : State) : Host.Outcome State Fault Refusal :=
  onChS c (fun x => x.tierAsked peer m (fun x => match x.openRefusal peer m with
    | some r => x.tierRefuse peer m r
    | none =>
      let x := (x.tiers.sets.keysWhere (fun _ f => f.isOf m)).foldl (fun x k => x.dropSet k false) x
      match x.fragRoom m.length with
      | none => x.tierRefuse peer m 2
      | some base =>
        let k := x.tiers.nextSet
        match x.register { Region.init with kind := .frag k, pd := 0, rights := 3, ownerCheck := true, ownerEid := peer, base := x.fragBase + base, size := m.length } with
        | none => x.tierRefuse peer m 2
        | some (r, x) =>
          let f : FragSet := { req := m.req, tag := m.tag, epoch := m.epoch, index := m.index, red := m.red, home := peer, region := r, base := base, length := m.length,
                               isSealed := false }
          let x := { x with tiers := { x.tiers with sets := x.tiers.sets.put k f, nextSet := k + 1 } }
          x.tierAnswer peer 6 { m with region := x.regionField r })) s

/-- FRAG_SEAL at a holder: the digest of what it received decides. -/
def execFragSeal (c : ChId) (peer : Nat) (m : TierMsg) (s : State) : Host.Outcome State Fault Refusal :=
  onChS c (fun x => x.tierAsked peer m (fun x => match (x.tiers.sets.keysWhere (fun _ f => f.isOf m && decide (f.index = m.index ∧ f.home = peer))).head? with
    | none => x.tierRefuse peer m 6
    | some k => match x.tiers.sets.find k with
      | none => x
      | some f =>
        if beVal ((sha512t256 (x.regionRead (x.region f.region) 0 f.length)).take 16) = m.check then
          { x with tiers := { x.tiers with sets := x.tiers.sets.put k { f with isSealed := true } } }.tierAnswer peer 8 { m with check := 0 }
        else x.tierRefuse peer m 5)) s

/-- The sets that a FRAG_FREE releases: those of an epoch below the one named, whoever sends it; else the one of that epoch, for its home. -/
def Chan.freedBy (c : Chan) (peer : Nat) (m : TierMsg) : List Nat :=
  let old := c.tiers.sets.keysWhere (fun _ f => decide (f.req = m.req ∧ f.tag = m.tag ∧ f.epoch < m.epoch))
  if old.isEmpty then c.tiers.sets.keysWhere (fun _ f => f.isOf m && decide (f.home = peer)) else old

/-- FRAG_FREE at a holder. -/
def execFragFree (c : ChId) (peer : Nat) (m : TierMsg) (s : State) : Host.Outcome State Fault Refusal :=
  onChS c (fun x => x.tierAsked peer m (fun x =>
    let ks := x.freedBy peer m
    if ks.isEmpty then x.tierRefuse peer m 6 else (ks.foldl (fun x k => x.dropSet k false) x).tierAnswer peer 0x0A m)) s

/-- FRAG_READ at a holder: the region of a set. -/
def execFragRead (c : ChId) (peer : Nat) (m : TierMsg) (s : State) : Host.Outcome State Fault Refusal :=
  onChS c (fun x => x.tierAsked peer m (fun x => match (x.tiers.sets.keysWhere (fun _ f => f.isOf m && f.isSealed && decide (f.index = m.index))).head? with
    | none => x.tierRefuse peer m 6
    | some k => match x.tiers.sets.find k with
      | none => x
      | some f => x.tierAnswer peer 0x0D { m with red := f.red, region := x.regionField f.region, length := f.length })) s

/-! ### Answers at the home and at the reader -/

/-- FRAG_OPEN_ACK: the home stores the header, the manifest and the shares. -/
def execFragOpenAck (c : ChId) (peer : Nat) (m : TierMsg) (s : State) : Host.Outcome State Fault Refusal :=
  onChS c (fun x => x.tierReply peer m [5] (fun x q => match q.what with
    | .home slot i => (x.setHolder slot i (fun y => { y with region := m.region, step := 1 })).storeFrag slot i
    | _ => x)) s

/-- FRAG_SEAL_ACK: with the last of them the set is written. -/
def execFragSealAck (c : ChId) (peer : Nat) (m : TierMsg) (s : State) : Host.Outcome State Fault Refusal :=
  onChS c (fun x => x.tierReply peer m [7] (fun x q => match q.what with
    | .home slot i =>
      let x := x.setHolder slot i (fun y => { y with step := 3 })
      match x.tiers.writing.find slot with
      | some w => if w.holders.length = schemeN w.red ∧ w.holders.all (fun y => decide (y.step = 3)) then x.setDone slot else x
      | none => x
    | _ => x)) s

/-- FRAG_FREE_ACK. -/
def execFragFreeAck (c : ChId) (peer : Nat) (m : TierMsg) (s : State) : Host.Outcome State Fault Refusal :=
  onCh c (fun x => x.tierReply peer m [9] (fun x _ => x)) s

/-- FRAG_READ_ACK: the reader fetches. -/
def execFragReadAck (c : ChId) (peer : Nat) (m : TierMsg) (s : State) : Host.Outcome State Fault Refusal :=
  onChS c (fun x => x.tierReply peer m [0x0C] (fun x q => match q.what with
    | .share slot i => match x.tiers.reads.find slot with
      | some r => (x.setRead slot (r.upd i (fun y => { y with region := m.region }))).askShares slot
      | none => x
    | _ => x)) s

/-- What a request that is refused, or never answered, brings: tier.lend fails; a lease that the borrower does not know is over; another holder is tried; another
share is fetched. -/
def Chan.tierRefused (c : Chan) (q : TierReq) (reason : Nat) (silent : Bool) : Chan :=
  match q.what with
  | .lease i =>
    if q.ty = 1 then c.lendFailed i
    else if silent then c
    else c.endLent i ((c.tiers.leases.find i).bind (fun l => l.cmd))
  | .home slot i => c.holderLost slot i reason
  | .free => c
  | .share slot i => c.hedge slot i true

/-- TIER_REFUSE. -/
def execTierRefuse (c : ChId) (peer : Nat) (m : TierMsg) (s : State) : Host.Outcome State Fault Refusal :=
  onChS c (fun x => x.tierReply peer m [1, 3, 5, 7, 9, 0x0C] (fun x q => x.tierRefused q m.reason false)) s

/-! ### Time -/

/-- TIER_MSG_RETRY: sent again, up to 8 times; then as a refusal with reason 0x06. -/
def execTierMsgRetry (c : ChId) (req : Nat) (s : State) : Host.Outcome State Fault Refusal :=
  onChS c (fun x => match x.tiers.reqs.find req with
    | none => x
    | some q =>
      if !x.serves then x
      else
        let x := x.reach q.due
        if q.tries < 8 then
          ({ x with tiers := { x.tiers with reqs := x.tiers.reqs.put req { q with tries := q.tries + 1, due := x.time + ms } } }).sendTier q.peer q.ty q.msg
        else (x.dropTierReq req).tierRefused q 6 true) s

/-- The hedge deadline of a share of the stripe in hand, or of the read of a group in T1 or T2 that a set may stand in for (R355). -/
def Chan.hedgeDue (c : Chan) (slot stripe share : Nat) : Chan :=
  match c.tiers.reads.find slot with
  | some r =>
    if r.unit = stripe + 1 ∨ (r.unit = 0 ∧ stripe = 0) then
      match r.chosen.find? (fun x => decide (x.index = share)) with
      | some x => if r.whole x ∧ !x.head.isEmpty then c else (c.reach r.due).hedge slot share false
      | none => c
    else c
  | none => match c.tiers.moves.find slot, c.mayHedge slot with
    | some m, some h => if m.reading ∧ m.plain.isNone ∧ m.next = stripe * schemeK h.red + share ∧ share < schemeK h.red then (c.reach m.due).hedgeMove slot m.next h else c
    | _, _ => c

/-- HEDGE_DEADLINE. -/
def execHedgeDeadline (c : ChId) (slot stripe share : Nat) (s : State) : Host.Outcome State Fault Refusal :=
  onChS c (fun x => if x.serves then x.hedgeDue slot stripe share else x) s

end Sys2Proof.Machine
end

