-- ==== Sys2Proof/Machine/Dispatch.lean ====
section
/-! DEFINITION. One arm per command: the meaning of each is one direct call. -/
namespace Sys2Proof.Machine
open Sys2Proof

def exec (i : Instr) (s : State) : Host.Outcome State Fault Refusal :=
  match i with
  | .fnStop c src n => Sys2Proof.Machine.execFnStop c src n s
  | .fnStart c src n => Sys2Proof.Machine.execFnStart c src n s
  | .roleStop c src budget => Sys2Proof.Machine.execRoleStop c src budget s
  | .roleLoad c src img => Sys2Proof.Machine.execRoleLoad c src img s
  | .roleStart c src => Sys2Proof.Machine.execRoleStart c src s
  | .roleStopped c => Sys2Proof.Machine.execRoleStopped c s
  | .roleStopAbandoned c => Sys2Proof.Machine.execRoleStopAbandoned c s
  | .fnStateStop c n => Sys2Proof.Machine.execFnStateStop c n s
  | .fnStateStart c n => Sys2Proof.Machine.execFnStateStart c n s
  | .functionQuiesced c n => Sys2Proof.Machine.execFunctionQuiesced c n s
  | .chnEidWrite c a => Sys2Proof.Machine.execChnEidWrite c a s
  | .registerWrite w off a => Sys2Proof.Machine.execRegisterWrite w off a s
  | .ctxPeekSelWrite c a => Sys2Proof.Machine.execCtxPeekSelWrite c a s
  | .hubLinkDown c => Sys2Proof.Machine.execHubLinkDown c s
  | .hubLinkRestored c lost ns => Sys2Proof.Machine.execHubLinkRestored c lost ns s
  | .ctxOpen c src req prio budget profile red flags => Sys2Proof.Machine.execCtxOpen c src req prio budget profile red flags s
  | .ctxSeal c src h => Sys2Proof.Machine.execCtxSeal c src h s
  | .sealComplete c slot => Sys2Proof.Machine.execSealComplete c slot s
  | .ctxRetire c src h => Sys2Proof.Machine.execCtxRetire c src h s
  | .drainComplete c slot => Sys2Proof.Machine.execDrainComplete c slot s
  | .ctxQuery c src h => Sys2Proof.Machine.execCtxQuery c src h s
  | .ctxFind c src req => Sys2Proof.Machine.execCtxFind c src req s
  | .ctxSet c src h mask prio budget red => Sys2Proof.Machine.execCtxSet c src h mask prio budget red s
  | .ctxSignal c src h amount => Sys2Proof.Machine.execCtxSignal c src h amount s
  | .deadlineReached c slot => Sys2Proof.Machine.execDeadlineReached c slot s
  | .tombstoneEnd c slot => Sys2Proof.Machine.execTombstoneEnd c slot s
  | .startupSlotHoldEnd c => Sys2Proof.Machine.execStartupSlotHoldEnd c s
  | .journalWriteFail c slot cause => Sys2Proof.Machine.execJournalWriteFail c slot cause s
  | .snapshotDue c => Sys2Proof.Machine.execSnapshotDue c s
  | .pgWindow c src h pd fillAddr => Sys2Proof.Machine.execPgWindow c src h pd fillAddr s
  | .pgAttach c src h owner n => Sys2Proof.Machine.execPgAttach c src h owner n s
  | .pgExport c src h layer first log2 dest => Sys2Proof.Machine.execPgExport c src h layer first log2 dest s
  | .pgImport c src h ext => Sys2Proof.Machine.execPgImport c src h ext s
  | .pgScale c src p table => Sys2Proof.Machine.execPgScale c src p table s
  | .unitPlaced c slot layer token unit => Sys2Proof.Machine.execUnitPlaced c slot layer token unit s
  | .frameCleared c ok => Sys2Proof.Machine.execFrameCleared c ok s
  | .hoOffer c src h dst push stripe member => Sys2Proof.Machine.execHoOffer c src h dst push stripe member s
  | .hoCancel c src h force => Sys2Proof.Machine.execHoCancel c src h force s
  | .hoRebuild c src p => Sys2Proof.Machine.execHoRebuild c src p s
  | .hoProbe c src req => Sys2Proof.Machine.execHoProbe c src req s
  | .offer c peer m tagOk => Sys2Proof.Machine.execOffer c peer m tagOk s
  | .take c peer m tagOk => Sys2Proof.Machine.execTake c peer m tagOk s
  | .refuse c peer m tagOk => Sys2Proof.Machine.execRefuse c peer m tagOk s
  | .manifest c peer m tagOk => Sys2Proof.Machine.execManifest c peer m tagOk s
  | .accept c peer m tagOk => Sys2Proof.Machine.execAccept c peer m tagOk s
  | .release c peer m tagOk => Sys2Proof.Machine.execRelease c peer m tagOk s
  | .abort c peer m tagOk => Sys2Proof.Machine.execAbort c peer m tagOk s
  | .cancel c peer m tagOk => Sys2Proof.Machine.execCancel c peer m tagOk s
  | .superseded c peer m tagOk => Sys2Proof.Machine.execSuperseded c peer m tagOk s
  | .fenceMessage c peer m tagOk => Sys2Proof.Machine.execFenceMessage c peer m tagOk s
  | .fenceReply c peer m tagOk => Sys2Proof.Machine.execFenceReply c peer m tagOk s
  | .offerRetryExpiry c slot => Sys2Proof.Machine.execOfferRetryExpiry c slot s
  | .acceptRetrySource c slot => Sys2Proof.Machine.execAcceptRetrySource c slot s
  | .acceptRetryDest c slot => Sys2Proof.Machine.execAcceptRetryDest c slot s
  | .transferIdleSource c slot => Sys2Proof.Machine.execTransferIdleSource c slot s
  | .transferIdleDest c slot => Sys2Proof.Machine.execTransferIdleDest c slot s
  | .stuckTimeExpiry c slot => Sys2Proof.Machine.execStuckTimeExpiry c slot s
  | .transferBodiesDone c slot => Sys2Proof.Machine.execTransferBodiesDone c slot s
  | .digestVerified c slot => Sys2Proof.Machine.execDigestVerified c slot s
  | .releaseComplete c slot => Sys2Proof.Machine.execReleaseComplete c slot s
  | .fenceRetry c slot => Sys2Proof.Machine.execFenceRetry c slot s
  | .fenceTimeExpiry c slot => Sys2Proof.Machine.execFenceTimeExpiry c slot s
  | .rebuildDecoded c slot => Sys2Proof.Machine.execRebuildDecoded c slot s
  | .cruQueueCreate c src pd slots kib => Sys2Proof.Machine.execCruQueueCreate c src pd slots kib s
  | .cruQueueDelete c src q => Sys2Proof.Machine.execCruQueueDelete c src q s
  | .queueDeleteDone c q => Sys2Proof.Machine.execQueueDeleteDone c q s
  | .cruJob c src img reply => Sys2Proof.Machine.execCruJob c src img reply s
  | .cruRowop c src op => Sys2Proof.Machine.execCruRowop c src op s
  | .rowopDone c => Sys2Proof.Machine.execRowopDone c s
  | .jobAccept c q => Sys2Proof.Machine.execJobAccept c q s
  | .jobComplete c job => Sys2Proof.Machine.execJobComplete c job s
  | .refreshDue c pch => Sys2Proof.Machine.execRefreshDue c pch s
  | .baseDieHot c stack temp => Sys2Proof.Machine.execBaseDieHot c stack temp s
  | .cruHoldMaxClear c => Sys2Proof.Machine.execCruHoldMaxClear c s
  | .spcBegin c src r => Sys2Proof.Machine.execSpcBegin c src r s
  | .spcVerify c src r => Sys2Proof.Machine.execSpcVerify c src r s
  | .spcAbandon c src r => Sys2Proof.Machine.execSpcAbandon c src r s
  | .spcGovern c src h reset limit => Sys2Proof.Machine.execSpcGovern c src h reset limit s
  | .specBeginRecord c port via r => Sys2Proof.Machine.execSpecBeginRecord c port via r s
  | .specVerifyRecord c port via r => Sys2Proof.Machine.execSpecVerifyRecord c port via r s
  | .specAbandonRecord c port via r => Sys2Proof.Machine.execSpecAbandonRecord c port via r s
  | .verifyCommit c slot => Sys2Proof.Machine.execVerifyCommit c slot s
  | .gafLoad c src img => Sys2Proof.Machine.execGafLoad c src img s
  | .gafUnload c src prog => Sys2Proof.Machine.execGafUnload c src prog s
  | .gafInvoke c src prog entry params => Sys2Proof.Machine.execGafInvoke c src prog entry params s
  | .gafQuery c src prog => Sys2Proof.Machine.execGafQuery c src prog s
  | .invocationStart c core => Sys2Proof.Machine.execInvocationStart c core s
  | .triggerFire c k => Sys2Proof.Machine.execTriggerFire c k s
  | .waitTimeout c core => Sys2Proof.Machine.execWaitTimeout c core s
  | .cheapPointOverdue c core => Sys2Proof.Machine.execCheapPointOverdue c core s
  | .budgetExceeded c core => Sys2Proof.Machine.execBudgetExceeded c core s
  | .residentRestart c prog entry => Sys2Proof.Machine.execResidentRestart c prog entry s
  | .slotBoundary c => Sys2Proof.Machine.execSlotBoundary c s
  | .frameBoundary c => Sys2Proof.Machine.execFrameBoundary c s
  | .poolQuantumExpiry c core => Sys2Proof.Machine.execPoolQuantumExpiry c core s
  | .preemptionDeferredRelease c core => Sys2Proof.Machine.execPreemptionDeferredRelease c core s
  | .gafSchedSwitch c => Sys2Proof.Machine.execGafSchedSwitch c s
  | .gafPreemptMaxClear c => Sys2Proof.Machine.execGafPreemptMaxClear c s
  | .gafEvcAdd c a => Sys2Proof.Machine.execGafEvcAdd c a s
  | .nop c k op f => Sys2Proof.Machine.execNop c k op f s
  | .iAdd c k f => Sys2Proof.Machine.execIAdd c k f s
  | .iSub c k f => Sys2Proof.Machine.execISub c k f s
  | .iMul c k f => Sys2Proof.Machine.execIMul c k f s
  | .iMulhu c k f => Sys2Proof.Machine.execIMulhu c k f s
  | .iMulhs c k f => Sys2Proof.Machine.execIMulhs c k f s
  | .iDivu c k f => Sys2Proof.Machine.execIDivu c k f s
  | .iRemu c k f => Sys2Proof.Machine.execIRemu c k f s
  | .iAnd c k f => Sys2Proof.Machine.execIAnd c k f s
  | .iOr c k f => Sys2Proof.Machine.execIOr c k f s
  | .iXor c k f => Sys2Proof.Machine.execIXor c k f s
  | .iShl c k f => Sys2Proof.Machine.execIShl c k f s
  | .iShr c k f => Sys2Proof.Machine.execIShr c k f s
  | .iSar c k f => Sys2Proof.Machine.execISar c k f s
  | .iMinu c k f => Sys2Proof.Machine.execIMinu c k f s
  | .iMaxu c k f => Sys2Proof.Machine.execIMaxu c k f s
  | .iAddi c k f => Sys2Proof.Machine.execIAddi c k f s
  | .iAndi c k f => Sys2Proof.Machine.execIAndi c k f s
  | .iOri c k f => Sys2Proof.Machine.execIOri c k f s
  | .iXori c k f => Sys2Proof.Machine.execIXori c k f s
  | .iShli c k f => Sys2Proof.Machine.execIShli c k f s
  | .iShri c k f => Sys2Proof.Machine.execIShri c k f s
  | .iSari c k f => Sys2Proof.Machine.execISari c k f s
  | .iMovi c k f => Sys2Proof.Machine.execIMovi c k f s
  | .iMovhi c k f => Sys2Proof.Machine.execIMovhi c k f s
  | .iExtr c k f => Sys2Proof.Machine.execIExtr c k f s
  | .iInsr c k f => Sys2Proof.Machine.execIInsr c k f s
  | .iClz c k f => Sys2Proof.Machine.execIClz c k f s
  | .iPopc c k f => Sys2Proof.Machine.execIPopc c k f s
  | .iSel c k f => Sys2Proof.Machine.execISel c k f s
  | .iRdtime c k f => Sys2Proof.Machine.execIRdtime c k f s
  | .iRdid c k f => Sys2Proof.Machine.execIRdid c k f s
  | .iCmp c k f => Sys2Proof.Machine.execICmp c k f s
  | .iCmpi c k f => Sys2Proof.Machine.execICmpi c k f s
  | .iPlog c k f => Sys2Proof.Machine.execIPlog c k f s
  | .iPrd c k f => Sys2Proof.Machine.execIPrd c k f s
  | .iBr c k f => Sys2Proof.Machine.execIBr c k f s
  | .iCall c k f => Sys2Proof.Machine.execICall c k f s
  | .iJmp c k f => Sys2Proof.Machine.execIJmp c k f s
  | .iLoop c k f => Sys2Proof.Machine.execILoop c k f s
  | .iEnd c k f => Sys2Proof.Machine.execIEnd c k f s
  | .iLd c k f => Sys2Proof.Machine.execILd c k f s
  | .iSt c k f => Sys2Proof.Machine.execISt c k f s
  | .iVld c k f => Sys2Proof.Machine.execIVld c k f s
  | .iVst c k f => Sys2Proof.Machine.execIVst c k f s
  | .iVadd c k f => Sys2Proof.Machine.execIVadd c k f s
  | .iVsub c k f => Sys2Proof.Machine.execIVsub c k f s
  | .iVmul c k f => Sys2Proof.Machine.execIVmul c k f s
  | .iVand c k f => Sys2Proof.Machine.execIVand c k f s
  | .iVor c k f => Sys2Proof.Machine.execIVor c k f s
  | .iVxor c k f => Sys2Proof.Machine.execIVxor c k f s
  | .iVshl c k f => Sys2Proof.Machine.execIVshl c k f s
  | .iVshr c k f => Sys2Proof.Machine.execIVshr c k f s
  | .iVbcast c k f => Sys2Proof.Machine.execIVbcast c k f s
  | .iVext c k f => Sys2Proof.Machine.execIVext c k f s
  | .iVins c k f => Sys2Proof.Machine.execIVins c k f s
  | .iVperm c k f => Sys2Proof.Machine.execIVperm c k f s
  | .iVfadd c k f => Sys2Proof.Machine.execIVfadd c k f s
  | .iVfmul c k f => Sys2Proof.Machine.execIVfmul c k f s
  | .iVfma c k f => Sys2Proof.Machine.execIVfma c k f s
  | .iVfmax c k f => Sys2Proof.Machine.execIVfmax c k f s
  | .iVfsum c k f => Sys2Proof.Machine.execIVfsum c k f s
  | .iVqnt c k f => Sys2Proof.Machine.execIVqnt c k f s
  | .iVdqnt c k f => Sys2Proof.Machine.execIVdqnt c k f s
  | .iVgfmul c k f => Sys2Proof.Machine.execIVgfmul c k f s
  | .iVgfmac c k f => Sys2Proof.Machine.execIVgfmac c k f s
  | .iDmov c k f => Sys2Proof.Machine.execIDmov c k f s
  | .dmovDone c k stop => Sys2Proof.Machine.execDmovDone c k stop s
  | .iTrd c k f => Sys2Proof.Machine.execITrd c k f s
  | .iTcas c k f => Sys2Proof.Machine.execITcas c k f s
  | .iSwld c k f => Sys2Proof.Machine.execISwld c k f s
  | .iSwst c k f => Sys2Proof.Machine.execISwst c k f s
  | .iSwcas c k f => Sys2Proof.Machine.execISwcas c k f s
  | .iSwadd c k f => Sys2Proof.Machine.execISwadd c k f s
  | .iSig c k f => Sys2Proof.Machine.execISig c k f s
  | .iSigi c k f => Sys2Proof.Machine.execISigi c k f s
  | .iWait c k f => Sys2Proof.Machine.execIWait c k f s
  | .iArm c k f => Sys2Proof.Machine.execIArm c k f s
  | .iDisarm c k f => Sys2Proof.Machine.execIDisarm c k f s
  | .iFence c k f => Sys2Proof.Machine.execIFence c k f s
  | .iCtrrd c k f => Sys2Proof.Machine.execICtrrd c k f s
  | .iSrch c k f => Sys2Proof.Machine.execISrch c k f s
  | .iPfxw c k f => Sys2Proof.Machine.execIPfxw c k f s
  | .iCrypt c k f => Sys2Proof.Machine.execICrypt c k f s
  | .cryptDone c k => Sys2Proof.Machine.execCryptDone c k s
  | .iPalloc c k f => Sys2Proof.Machine.execIPalloc c k f s
  | .iPfree c k f => Sys2Proof.Machine.execIPfree c k f s
  | .iPrx c k f => Sys2Proof.Machine.execIPrx c k f s
  | .iPld c k f => Sys2Proof.Machine.execIPld c k f s
  | .iPst c k f => Sys2Proof.Machine.execIPst c k f s
  | .iPvld c k f => Sys2Proof.Machine.execIPvld c k f s
  | .iPvst c k f => Sys2Proof.Machine.execIPvst c k f s
  | .iPparse c k f => Sys2Proof.Machine.execIPparse c k f s
  | .iPbuild c k f => Sys2Proof.Machine.execIPbuild c k f s
  | .iPtx c k f => Sys2Proof.Machine.execIPtx c k f s
  | .yieldI c k scr pmask vmask smask => Sys2Proof.Machine.execYieldI c k scr pmask vmask smask s
  | .fabPd c src pd slot acl => Sys2Proof.Machine.execFabPd c src pd slot acl s
  | .fabReg c src pd units rights ownerEid ownerCheck => Sys2Proof.Machine.execFabReg c src pd units rights ownerEid ownerCheck s
  | .fabRevoke c src r => Sys2Proof.Machine.execFabRevoke c src r s
  | .revokeComplete c r => Sys2Proof.Machine.execRevokeComplete c r s
  | .regionQuarantineEnd c r => Sys2Proof.Machine.execRegionQuarantineEnd c r s
  | .fabOwner c src r ownerEid ownerCheck => Sys2Proof.Machine.execFabOwner c src r ownerEid ownerCheck s
  | .fabConnOpen c src peer pd target prio pmtu => Sys2Proof.Machine.execFabConnOpen c src peer pd target prio pmtu s
  | .fabConnClose c src conn => Sys2Proof.Machine.execFabConnClose c src conn s
  | .fabOp c src op => Sys2Proof.Machine.execFabOp c src op s
  | .fabRoce c src q => Sys2Proof.Machine.execFabRoce c src q s
  | .fabLaneModeWrite c a => Sys2Proof.Machine.execFabLaneModeWrite c a s
  | .fabConnSelWrite c a => Sys2Proof.Machine.execFabConnSelWrite c a s
  | .fabRegionSelWrite c a => Sys2Proof.Machine.execFabRegionSelWrite c a s
  | .frameReceive c port data fcsOk => Sys2Proof.Machine.execFrameReceive c port data fcsOk s
  | .pfcFrameReceived c port prio quanta => Sys2Proof.Machine.execPfcFrameReceived c port prio quanta s
  | .pauseExpiry c port prio => Sys2Proof.Machine.execPauseExpiry c port prio s
  | .pfcPauseRepeat c port prio => Sys2Proof.Machine.execPfcPauseRepeat c port prio s
  | .pfcWatchdogExpiry c port prio => Sys2Proof.Machine.execPfcWatchdogExpiry c port prio s
  | .watchdogDropEnd c port prio => Sys2Proof.Machine.execWatchdogDropEnd c port prio s
  | .linkUp c port => Sys2Proof.Machine.execLinkUp c port s
  | .linkDown c port => Sys2Proof.Machine.execLinkDown c port s
  | .store c p => Sys2Proof.Machine.execStore c p s
  | .fstore c p => Sys2Proof.Machine.execFstore c p s
  | .load c p => Sys2Proof.Machine.execLoad c p s
  | .loadResp c p => Sys2Proof.Machine.execLoadResp c p s
  | .fadd64 c p => Sys2Proof.Machine.execFadd64 c p s
  | .cswap64 c p => Sys2Proof.Machine.execCswap64 c p s
  | .swap64 c p => Sys2Proof.Machine.execSwap64 c p s
  | .atomicResp c p => Sys2Proof.Machine.execAtomicResp c p s
  | .ack c p => Sys2Proof.Machine.execAck c p s
  | .nak c p => Sys2Proof.Machine.execNak c p s
  | .connReq c p => Sys2Proof.Machine.execConnReq c p s
  | .connAcc c p => Sys2Proof.Machine.execConnAcc c p s
  | .connRej c p => Sys2Proof.Machine.execConnRej c p s
  | .close c p => Sys2Proof.Machine.execClose c p s
  | .closeAck c p => Sys2Proof.Machine.execCloseAck c p s
  | .heartbeat c p => Sys2Proof.Machine.execHeartbeat c p s
  | .eidAssign c port reqNo valid eid sigOk => Sys2Proof.Machine.execEidAssign c port reqNo valid eid sigOk s
  | .eidReply c port reqNo valid eid code => Sys2Proof.Machine.execEidReply c port reqNo valid eid code s
  | .retransmitTimeout c conn => Sys2Proof.Machine.execRetransmitTimeout c conn s
  | .ackDelayExpiry c conn => Sys2Proof.Machine.execAckDelayExpiry c conn s
  | .rnrDelayExpiry c conn => Sys2Proof.Machine.execRnrDelayExpiry c conn s
  | .connReqRetry c conn => Sys2Proof.Machine.execConnReqRetry c conn s
  | .closeRetry c conn => Sys2Proof.Machine.execCloseRetry c conn s
  | .quarantineEnd c conn => Sys2Proof.Machine.execQuarantineEnd c conn s
  | .pd0IdleClose c conn => Sys2Proof.Machine.execPd0IdleClose c conn s
  | .keepaliveExpiry c conn => Sys2Proof.Machine.execKeepaliveExpiry c conn s
  | .roceSend c p => Sys2Proof.Machine.execRoceSend c p s
  | .roceRdmaWrite c p => Sys2Proof.Machine.execRoceRdmaWrite c p s
  | .roceRdmaReadRequest c p => Sys2Proof.Machine.execRoceRdmaReadRequest c p s
  | .roceAcknowledge c p => Sys2Proof.Machine.execRoceAcknowledge c p s
  | .roceCnp c p => Sys2Proof.Machine.execRoceCnp c p s
  | .roceUnsupportedOpcode c p => Sys2Proof.Machine.execRoceUnsupportedOpcode c p s
  | .wireFree c port => Sys2Proof.Machine.execWireFree c port s
  | .gateEntryExpiry c port => Sys2Proof.Machine.execGateEntryExpiry c port s
  | .tmBucketWrite c off a => Sys2Proof.Machine.execTmBucketWrite c off a s
  | .hwmRead c off half => Sys2Proof.Machine.execHwmRead c off half s
  | .sampleDue c => Sys2Proof.Machine.execSampleDue c s
  | .tmSmpCidxWrite c cidx => Sys2Proof.Machine.execTmSmpCidxWrite c cidx s
  | .sojournAlarm c port q => Sys2Proof.Machine.execSojournAlarm c port q s
  | .shaperBucketRefill c port q => Sys2Proof.Machine.execShaperBucketRefill c port q s
  | .pfxChain c src h first count tokens => Sys2Proof.Machine.execPfxChain c src h first count tokens s
  | .pfxPublish c src h seg groups => Sys2Proof.Machine.execPfxPublish c src h seg groups s
  | .pfxLookup c src seg keys results => Sys2Proof.Machine.execPfxLookup c src seg keys results s
  | .pfxWrite c src entry key mask result valid => Sys2Proof.Machine.execPfxWrite c src entry key mask result valid s
  | .pfxUnpin c src owner count => Sys2Proof.Machine.execPfxUnpin c src owner count s
  | .attach c peer m => Sys2Proof.Machine.execAttach c peer m s
  | .attachAck c peer m => Sys2Proof.Machine.execAttachAck c peer m s
  | .attachRefuse c peer m => Sys2Proof.Machine.execAttachRefuse c peer m s
  | .detach c peer m => Sys2Proof.Machine.execDetach c peer m s
  | .detachAck c peer m => Sys2Proof.Machine.execDetachAck c peer m s
  | .attachMsgRetry c req => Sys2Proof.Machine.execAttachMsgRetry c req s
  | .cascadeFrame c f => Sys2Proof.Machine.execCascadeFrame c f s
  | .cascadeTimeout c seq => Sys2Proof.Machine.execCascadeTimeout c seq s
  | .cascadeProbeDue c => Sys2Proof.Machine.execCascadeProbeDue c s
  | .tierMove c src h first count target lease => Sys2Proof.Machine.execTierMove c src h first count target lease s
  | .tierGroupWritten c slot object => Sys2Proof.Machine.execTierGroupWritten c slot object s
  | .tierLend c src peer slabs => Sys2Proof.Machine.execTierLend c src peer slabs s
  | .tierRecall c src lease force => Sys2Proof.Machine.execTierRecall c src lease force s
  | .recallTimeExpiry c lease => Sys2Proof.Machine.execRecallTimeExpiry c lease s
  | .tierT2Pool c src addr units remove force => Sys2Proof.Machine.execTierT2Pool c src addr units remove force s
  | .tierFragWhere c src h addr => Sys2Proof.Machine.execTierFragWhere c src h addr s
  | .tierFragList c src addr max => Sys2Proof.Machine.execTierFragList c src addr max s
  | .tierFragDrop c src req tag epoch => Sys2Proof.Machine.execTierFragDrop c src req tag epoch s
  | .lend c peer m => Sys2Proof.Machine.execLend c peer m s
  | .lendAck c peer m => Sys2Proof.Machine.execLendAck c peer m s
  | .recall c peer m => Sys2Proof.Machine.execRecall c peer m s
  | .recallDone c peer m => Sys2Proof.Machine.execRecallDone c peer m s
  | .fragOpen c peer m => Sys2Proof.Machine.execFragOpen c peer m s
  | .fragOpenAck c peer m => Sys2Proof.Machine.execFragOpenAck c peer m s
  | .fragSeal c peer m => Sys2Proof.Machine.execFragSeal c peer m s
  | .fragSealAck c peer m => Sys2Proof.Machine.execFragSealAck c peer m s
  | .fragFree c peer m => Sys2Proof.Machine.execFragFree c peer m s
  | .fragFreeAck c peer m => Sys2Proof.Machine.execFragFreeAck c peer m s
  | .tierRefuse c peer m => Sys2Proof.Machine.execTierRefuse c peer m s
  | .fragRead c peer m => Sys2Proof.Machine.execFragRead c peer m s
  | .fragReadAck c peer m => Sys2Proof.Machine.execFragReadAck c peer m s
  | .tierMsgRetry c req => Sys2Proof.Machine.execTierMsgRetry c req s
  | .hedgeDeadline c slot stripe share => Sys2Proof.Machine.execHedgeDeadline c slot stripe share s
  | .pcieHotReset => Sys2Proof.Machine.execPcieHotReset s
  | .pcieCorrectableError => Sys2Proof.Machine.execPcieCorrectableError s
  | .pcieCompletionTimeout c r => Sys2Proof.Machine.execPcieCompletionTimeout c r s
  | .pcieErrorCompletion c r kind => Sys2Proof.Machine.execPcieErrorCompletion c r kind s
  | .smbusMctpRequest kind => Sys2Proof.Machine.execSmbusMctpRequest kind s
  | .tenSqDoorbell c w n tail => Sys2Proof.Machine.execTenSqDoorbell c w n tail s
  | .tenCqDoorbell c w n head => Sys2Proof.Machine.execTenCqDoorbell c w n head s
  | .entryTake c w n e => Sys2Proof.Machine.execEntryTake c w n e s
  | .coalTimeExpiry c w n => Sys2Proof.Machine.execCoalTimeExpiry c w n s
  | .tenRingCfgWrite c w n a => Sys2Proof.Machine.execTenRingCfgWrite c w n a s
  | .tenEvqCfgWrite w a => Sys2Proof.Machine.execTenEvqCfgWrite w a s
  | .tenEvqCidxWrite w a => Sys2Proof.Machine.execTenEvqCidxWrite w a s
  | .vectorUnmask w v => Sys2Proof.Machine.execVectorUnmask w v s
  | .pcieConfigWrite w x => Sys2Proof.Machine.execPcieConfigWrite w x s
  | .secCert c src => Sys2Proof.Machine.execSecCert c src s
  | .secAttest c src nonce => Sys2Proof.Machine.execSecAttest c src nonce s
  | .secKeyImport c src rec => Sys2Proof.Machine.execSecKeyImport c src rec s
  | .secKeyDestroy c src kind index => Sys2Proof.Machine.execSecKeyDestroy c src kind index s
  | .secPeer c src eid remove chain binding => Sys2Proof.Machine.execSecPeer c src eid remove chain binding s
  | .secOwn c src keySig => Sys2Proof.Machine.execSecOwn c src keySig s
  | .secCfgWrite c src rec flashOk => Sys2Proof.Machine.execSecCfgWrite c src rec flashOk s
  | .secFwStage c src img => Sys2Proof.Machine.execSecFwStage c src img s
  | .secFwCommit c src raise => Sys2Proof.Machine.execSecFwCommit c src raise s
  | .fwProgramDone c ok => Sys2Proof.Machine.execFwProgramDone c ok s
  | .secRecGo c a img flashOk => Sys2Proof.Machine.execSecRecGo c a img flashOk s
  | .spdmRequest req => Sys2Proof.Machine.execSpdmRequest req s
  | .totalsDue c slot => Sys2Proof.Machine.execTotalsDue c slot s
  | .helloDue c => Sys2Proof.Machine.execHelloDue c s
  | .creditPulse c => Sys2Proof.Machine.execCreditPulse c s
  | .meterAbsent c => Sys2Proof.Machine.execMeterAbsent c s
  | .creditsResumed c => Sys2Proof.Machine.execCreditsResumed c s
  | .meterTotalsFrame f crcOk => Sys2Proof.Machine.execMeterTotalsFrame f crcOk s
  | .meterHelloFrame f crcOk => Sys2Proof.Machine.execMeterHelloFrame f crcOk s
  | .meterSupplyFrame f crcOk => Sys2Proof.Machine.execMeterSupplyFrame f crcOk s
  | .meterUnmeteredFrame f crcOk => Sys2Proof.Machine.execMeterUnmeteredFrame f crcOk s
  | .meterCreditTick => Sys2Proof.Machine.execMeterCreditTick s
  | .meterIntervalBoundary => Sys2Proof.Machine.execMeterIntervalBoundary s
  | .meterLinkGap c => Sys2Proof.Machine.execMeterLinkGap c s
  | .meterInserted m => Sys2Proof.Machine.execMeterInserted m s
  | .mtrDrainSelWrite a => Sys2Proof.Machine.execMtrDrainSelWrite a s
  | .mtrDrainAckWrite ctr => Sys2Proof.Machine.execMtrDrainAckWrite ctr s
  | .mtrRemove => Sys2Proof.Machine.execMtrRemove s
  | .relExpect c src eid remove digest => Sys2Proof.Machine.execRelExpect c src eid remove digest s
  | .relShadow c src eid role sample ops => Sys2Proof.Machine.execRelShadow c src eid role sample ops s
  | .relIsolate c src => Sys2Proof.Machine.execRelIsolate c src s
  | .relInject c src addr kind count => Sys2Proof.Machine.execRelInject c src addr kind count s
  | .relMismatchList c src host max => Sys2Proof.Machine.execRelMismatchList c src host max s
  | .mirrorMessage c m => Sys2Proof.Machine.execMirrorMessage c m s
  | .shadowStall c => Sys2Proof.Machine.execShadowStall c s
  | .peerSilent c k => Sys2Proof.Machine.execPeerSilent c k s
  | .patrolRead c => Sys2Proof.Machine.execPatrolRead c s
  | .rowSpare c row flashOk => Sys2Proof.Machine.execRowSpare c row flashOk s
  | .laneSpare c pch lane flashOk => Sys2Proof.Machine.execLaneSpare c pch lane flashOk s
  | .sramError c e => Sys2Proof.Machine.execSramError c e s
  | .consistencyCheckFail c => Sys2Proof.Machine.execConsistencyCheckFail c s
  | .autoWarmExpiry c => Sys2Proof.Machine.execAutoWarmExpiry c s
  | .busWarning vin => Sys2Proof.Machine.execBusWarning vin s
  | .warningLeft vin low => Sys2Proof.Machine.execWarningLeft vin low s
  | .busResetLevel vin => Sys2Proof.Machine.execBusResetLevel vin s
  | .retentionRecovered vin w0 w1 w2 w3 => Sys2Proof.Machine.execRetentionRecovered vin w0 w1 w2 w3 s
  | .retentionLost vin => Sys2Proof.Machine.execRetentionLost vin s
  | .powerOnReset pufFails => Sys2Proof.Machine.execPowerOnReset pufFails s
  | .inputOvervoltage => Sys2Proof.Machine.execInputOvervoltage s
  | .plugMate => Sys2Proof.Machine.execPlugMate s
  | .plugBreak => Sys2Proof.Machine.execPlugBreak s
  | .paceSample c p => Sys2Proof.Machine.execPaceSample c p s
  | .thermalTrip c ctl base => Sys2Proof.Machine.execThermalTrip c ctl base s
  | .clockSourceFail c source => Sys2Proof.Machine.execClockSourceFail c source s
  | .oscSettled c => Sys2Proof.Machine.execOscSettled c s
  | .clkSrcWrite c a => Sys2Proof.Machine.execClkSrcWrite c a s
  | .pwrPaceClear c => Sys2Proof.Machine.execPwrPaceClear c s
  | .pwrModInputRead half => Sys2Proof.Machine.execPwrModInputRead half s
  | .pwrReqC0 c => Sys2Proof.Machine.execPwrReqC0 c s
  | .pwrReqC1 c => Sys2Proof.Machine.execPwrReqC1 c s
  | .pwrReqC2 c => Sys2Proof.Machine.execPwrReqC2 c s
  | .c2EntryWaitEnd c => Sys2Proof.Machine.execC2EntryWaitEnd c s
  | .pwrReqC3 c force => Sys2Proof.Machine.execPwrReqC3 c force s
  | .pwrReqWarmReset c => Sys2Proof.Machine.execPwrReqWarmReset c s
  | .pwrReqColdReset c => Sys2Proof.Machine.execPwrReqColdReset c s
  | .warmChannelReset c w => Sys2Proof.Machine.execWarmChannelReset c w s
  | .coldChannelReset c pufOk => Sys2Proof.Machine.execColdChannelReset c pufOk s
  | .moduleReset pufFails => Sys2Proof.Machine.execModuleReset pufFails s
  | .coreReset c core => Sys2Proof.Machine.execCoreReset c core s
  | .portReset c port => Sys2Proof.Machine.execPortReset c port s
  | .tenantReset c slot => Sys2Proof.Machine.execTenantReset c slot s
  | .refClockReady c => Sys2Proof.Machine.execRefClockReady c s
  | .fecDegradedWindow c port codewords corrected uncorrectable => Sys2Proof.Machine.execFecDegradedWindow c port codewords corrected uncorrectable s
  | .moistureSensorChange wet => Sys2Proof.Machine.execMoistureSensorChange wet s

end Sys2Proof.Machine
end

