-- ==== Sys2Proof/Machine/Step.lean ====
section
/-! DEFINITION. One step: the command at the front of the queue is carried out with the queue's rest; on an empty queue time passes. -/
namespace Sys2Proof.Machine
open Sys2Proof

/-- The channel after some local time has passed with nothing happening: how much is a free value. -/
def Chan.idle (c : Chan) : Chan := { c.reach (c.time + Config.elapsed c.num c.fresh) with fresh := c.fresh + 1 }

/-- The module after an idle step: only the hub's count, local time and the counters of free values move. -/
def State.idle (s : State) : State :=
  { s with hub := { s.hub with time := s.hub.time + Config.elapsed 4 s.ch0.fresh }, ch0 := s.ch0.idle, ch1 := s.ch1.idle, ch2 := s.ch2.idle, ch3 := s.ch3.idle }

/-- One step of the block. -/
def step (s : State) : Host.Outcome State Fault Refusal :=
  match s.pending with
  | [] => .next s.idle
  | i :: rest => exec i { s with pending := rest }

/-- The state with the command that a word spells put at the front of its queue; unchanged where the word spells none. -/
def State.withFetchWord (s : State) (nbits w : Nat) : State :=
  match decodeTableWord nbits w with
  | some i => { s with pending := i :: s.pending }
  | none => s

end Sys2Proof.Machine
end

