-- ==== Sys2Proof/WellFormed.lean ====
section
/-! DEFINITION. When a command is well formed: every operand lies in the range of the field that carries it, in the spec's record, register or message. A well-formed
command may still name something that does not exist, and then ends with the status that the spec gives. -/
namespace Sys2Proof

/-- Does the value fit a field of `w` bits? -/
def fitsIn (x w : Nat) : Bool := decide (x < 2 ^ w)

/-- The place of a submission entry (R366, R367): sixteen tenant slots, sixteen ring pairs, a 16-bit CID, and RESULT_ADDR on a 64-byte boundary (R374). -/
def srcWf (s : Src) : Bool :=
  s.vf.all (fun t => fitsIn t 4) && fitsIn s.n 4 && fitsIn s.cid 16 && fitsIn s.tslot 4 && fitsIn s.res 64 && decide (s.res % 64 = 0)

/-- A register write carries 64 bits, of which a half write holds only its own half (R16). -/
def accessWf (a : Access) : Bool :=
  match a.half with
  | .both => fitsIn a.val 64
  | .low => fitsIn a.val 32
  | .high => fitsIn a.val 64 && decide (a.val % 2 ^ 32 = 0)

/-- What a read of host memory gave: well-formed data, or one of the causes of event 0xB002 (R383). -/
def fetchedWf {α : Type} (p : α → Bool) (f : Fetched α) : Bool :=
  match f with
  | .ok d => p d
  | .failed c => decide (1 ≤ c ∧ c ≤ 7)

/-- A host or fabric destination (R373). -/
def destWf (d : Dest) : Bool :=
  match d with
  | .host a => fitsIn a 64
  | .fabric a => fitsIn a 64

/-- A register window and its tenant slot (R16). -/
def windowWf (w : Window) : Bool :=
  match w with
  | .hub => true
  | .ch _ => true
  | .vf _ t => fitsIn t 4

/-- The window of a ring pair (R366). -/
def ringWinWf (w : RingWin) : Bool :=
  match w with
  | .pf => true
  | .vf t => fitsIn t 4

/-- The function of an event ring, a vector or a configuration space (R362). -/
def evqWinWf (w : EvqWin) : Bool :=
  match w with
  | .hub => true
  | .pf _ => true
  | .vf _ t => fitsIn t 4

/-- A submission entry (R367). -/
def ringEntryWf (e : RingEntry) : Bool := fitsIn e.code 16 && fitsIn e.cid 16 && fitsIn e.tslot 4

/-- What a read of host memory was for. -/
def readForWf (r : ReadFor) : Bool :=
  match r with
  | .entry w n => ringWinWf w && fitsIn n 4
  | .command src => srcWf src

/-- What a configuration write sets: at most sixteen VFs (R361). -/
def configSetWf (x : ConfigSet) : Bool :=
  match x with
  | .bme _ => true
  | .d3hot _ => true
  | .vfs n => decide (n ≤ 16)

/-- A handoff control message: each field fits its place in R129. -/
def hoMsgWf (m : HoMsg) : Bool :=
  fitsIn m.version 8 && fitsIn m.reason 8 && fitsIn m.ctr 64 && fitsIn m.req 64 && fitsIn m.epoch 32 && fitsIn m.srcH 48 && fitsIn m.dstH 48 &&
  fitsIn m.tag 32 && fitsIn m.profileId 32 && fitsIn m.len 32 && fitsIn m.budget 64 && fitsIn m.stripe 32 && fitsIn m.member 4 && fitsIn m.format 4 &&
  fitsIn m.red 3 && fitsIn m.prio 3 && fitsIn m.region 64 && fitsIn m.groups 32 && decide (m.digest.length = 64)

/-- A row operation (R176, R177): addresses of HBM on 1 KiB boundaries. -/
def rowOpWf (r : RowOp) : Bool :=
  fitsIn r.op 8 && fitsIn r.rows 16 && fitsIn r.dst 64 && fitsIn r.src1 64 && fitsIn r.src2 64 && fitsIn r.pattern 64

/-- A speculation record (R194). -/
def specWf (r : SpecRec) : Bool :=
  fitsIn r.version 8 && fitsIn r.count 16 && fitsIn r.h 48 && fitsIn r.epoch 32 && fitsIn r.base 32 && fitsIn r.reqTag 64 && fitsIn r.replyAddr 64 &&
  fitsIn r.replyKey 32 && fitsIn r.replyGen 16 && r.table.all (fun x => fitsIn x 8)

/-- A connection number or a queue pair: 13 bits (R275, R283). -/
def viaWf (v : Via) : Bool :=
  match v with
  | .fmt n _ => fitsIn n 13
  | .roce q _ => fitsIn q 13

/-- An entry record of an image (R211). -/
def entryRecWf (e : EntryRec) : Bool := fitsIn e.id 16 && fitsIn e.offset 32 && fitsIn e.budget 32

/-- A program image (R211). -/
def imageWf (m : ImageIn) : Bool :=
  fitsIn m.magic 32 && fitsIn m.hdrVersion 8 && fitsIn m.kind 8 && fitsIn m.role 8 && fitsIn m.grants 8 && fitsIn m.version 32 && fitsIn m.keyId 32 &&
  fitsIn m.textBytes 32 && fitsIn m.dataBytes 32 && fitsIn m.scratchBytes 32 && fitsIn m.evcCount 16 && fitsIn m.coresMax 8 && fitsIn m.tenantTag 32 &&
  m.entries.all entryRecWf && fitsIn m.size 32 && decide (m.digest.length = 64)

/-- The fields of an instruction word (R234): D, A, B and X of five bits, and a 32-bit I. -/
def ifieldsWf (f : IFields) : Bool :=
  fitsIn f.gp 3 && fitsIn f.d 5 && fitsIn f.a 5 && fitsIn f.b 5 && fitsIn f.x 5 && fitsIn f.i 32

/-- An FMT packet: each field fits its place in R275. -/
def fmtWf (p : FmtPkt) : Bool :=
  fitsIn p.srcEid 18 && fitsIn p.srcConn 13 && fitsIn p.dstEid 18 && fitsIn p.dstConn 13 && fitsIn p.psn 24 && fitsIn p.syndrome 8 && fitsIn p.reason 8 &&
  fitsIn p.gen 16 && fitsIn p.key 32 && fitsIn p.region 16 && fitsIn p.window 16 && fitsIn p.oplen 32 && fitsIn p.addr 64 && decide (p.data.length ≤ 8192)

/-- A RoCE v2 packet (R296, R297). -/
def roceWf (p : RocePkt) : Bool :=
  fitsIn p.qp 13 && fitsIn p.opcode 8 && fitsIn p.psn 24 && fitsIn p.va 64 && fitsIn p.rkey 32 && fitsIn p.dmaLen 32 && p.imm.all (fun x => fitsIn x 32) &&
  fitsIn p.syndrome 8 && decide (p.data.length ≤ 8192)

/-- The operands of fab.op (R301, R373). -/
def fabOpWf (o : FabOpIn) : Bool :=
  fitsIn o.conn 16 && fitsIn o.opcode 8 && fitsIn o.addr 64 && fitsIn o.key 32 && fitsIn o.gen 16 && fitsIn o.region 16 && fitsIn o.len 32 && fitsIn o.host 64 &&
  fitsIn o.swap 64 && fitsIn o.compare 64 && fetchedWf (fun _ => true) o.data

/-- The operands of fab.roce (R297, R373, R374). -/
def roceInWf (q : RoceIn) : Bool :=
  fitsIn q.pd 16 && fitsIn q.ip 128 && fitsIn q.qpn 24 && fitsIn q.sendPsn 24 && fitsIn q.recvPsn 24 && fitsIn q.mtu 16 && fitsIn q.timeout 8 &&
  fitsIn q.ringRegion 16 && fitsIn q.ringSlots 16 && fitsIn q.slotSize 32 && fitsIn q.word 16 && fitsIn q.prog 8 && fitsIn q.counter 16

/-- An attachment message (R330). -/
def attachMsgWf (m : AttachMsg) : Bool :=
  fitsIn m.reason 8 && fitsIn m.reqNum 64 && fitsIn m.owner 48 && fitsIn m.attacher 48 && fitsIn m.tag 32 && fitsIn m.profileId 32 && fitsIn m.n 32 && fitsIn m.chain 128

/-- A cascade frame (R327). -/
def cascWf (f : CascFrame) : Bool :=
  fitsIn f.pos 3 && fitsIn f.hitPos 3 && fitsIn f.use 2 && fitsIn f.seg 8 && fitsIn f.seq 7 && fitsIn f.tag 32 && fitsIn f.key 128 && fitsIn f.result 32

/-- A tier or fragment message (R354). -/
def tierMsgWf (m : TierMsg) : Bool :=
  fitsIn m.reason 8 && fitsIn m.index 8 && fitsIn m.red 8 && fitsIn m.reqNum 64 && fitsIn m.req 64 && fitsIn m.tag 32 && fitsIn m.epoch 32 && fitsIn m.region 64 &&
  fitsIn m.length 64 && fitsIn m.check 128

/-- A fragment location list (R356). -/
def fragLocWf (l : FragLoc) : Bool :=
  fitsIn l.req 64 && fitsIn l.tag 32 && fitsIn l.epoch 32 && fitsIn l.red 8 && fitsIn l.groups 32 && fitsIn l.len 32 && decide (l.digest.length = 64) &&
  l.holders.all (fun h => fitsIn h.1 18 && fitsIn h.2 4)

/-- The operands of ho.rebuild (R146, R373). -/
def rebuildWf (r : RebuildIn) : Bool :=
  fitsIn r.req 64 && fitsIn r.profile 8 && fitsIn r.red 8 && fitsIn r.len 32 && fitsIn r.epoch 32 && fetchedWf fragLocWf r.list && r.preds.all (fun e => fitsIn e 18)

/-- What a warm reset meets names tenant slots or context slots (R90). -/
def warmWf (w : WarmIn) : Bool := w.badTables.all (fun t => fitsIn t 14) && w.badImages.all (fun t => fitsIn t 14) && w.lost.all (fun q => fitsIn q 64)

/-- An SPDM request over streams 0 to 255 and requester IDs of 16 bits (R403). -/
def spdmWf (r : SpdmReq) : Bool :=
  match r with
  | .ask => true
  | .link => true
  | .selective i lo hi => fitsIn i 8 && fitsIn lo 16 && fitsIn hi 16
  | .stop i => fitsIn i 8

/-- A frame of the count link (R417). -/
def linkFrameWf (f : LinkFrame) : Bool :=
  fitsIn f.slot 4 && fitsIn f.supply 2 && fitsIn f.seq 32 && fitsIn f.stream 32 && fitsIn f.tag 32 && fitsIn f.prompt 64 && fitsIn f.output 64 && fitsIn f.attached 64 &&
  fitsIn f.t0 32 && fitsIn f.out 32 && fitsIn f.unmetered 64

/-- A meter as it is plugged in (R431). -/
def newMeterWf (m : NewMeter) : Bool := fitsIn m.serial 64 && fitsIn m.timeUs 64 && fitsIn m.lastCtr 64 && decide (m.chain.length = 64)

/-- A mirror message (R449). -/
def mirrorWf (m : MirrorMsg) : Bool := fitsIn m.eid 18 && fitsIn m.version 8 && fitsIn m.kind 8 && fitsIn m.opNum 32 && decide (m.result.length = 32 ∧ m.param.length = 8 ∧ m.payload.length ≤ 8128)

/-- An SRAM error names a slot of the table, a core, a packet buffer or an entry of the prefix array (R445). -/
def sramWf (e : SramErr) : Bool :=
  match e with
  | .single => true
  | .entry s _ => fitsIn s 14
  | .scratch k => fitsIn k 6
  | .icache k => fitsIn k 6
  | .packet p => fitsIn p 16
  | .prefixEntry p => fitsIn p 17
  | .keyStore s k i => fitsIn s 4 && fitsIn k 8 && fitsIn i 8
  | .control => true

/-- A pace sample (R467): INDEX is at most 1,024. -/
def paceWf (p : PaceIn) : Bool := decide (p.index ≤ 1024) && fitsIn p.vcore 16 && fitsIn p.draw 16 && fitsIn p.tempCtl 8 && fitsIn p.tempBase 8

/-- Is the command well formed? -/
def Instr.wf : Instr → Bool
  | .fnStop _ src n => srcWf src && fitsIn n 16
  | .fnStart _ src n => srcWf src && fitsIn n 16
  | .roleStop _ src budget => srcWf src && fitsIn budget 32
  | .roleLoad _ src img => srcWf src && fetchedWf imageWf img
  | .roleStart _ src => srcWf src
  | .roleStopped _ => true
  | .roleStopAbandoned _ => true
  | .fnStateStop _ n => fitsIn n 16
  | .fnStateStart _ n => fitsIn n 16
  | .functionQuiesced _ n => fitsIn n 9
  | .chnEidWrite _ a => accessWf a
  | .registerWrite w off a => windowWf w && fitsIn off 64 && accessWf a
  | .ctxPeekSelWrite _ a => accessWf a
  | .hubLinkDown _ => true
  | .hubLinkRestored _ lost ns => fitsIn lost 64 && fitsIn ns 64
  | .ctxOpen _ src req prio budget profile red flags => srcWf src && fitsIn req 64 && fitsIn prio 8 && fitsIn budget 64 && fitsIn profile 8 && fitsIn red 8 && fitsIn flags 8
  | .ctxSeal _ src h => srcWf src && fitsIn h 48
  | .sealComplete _ slot => fitsIn slot 14
  | .ctxRetire _ src h => srcWf src && fitsIn h 48
  | .drainComplete _ slot => fitsIn slot 14
  | .ctxQuery _ src h => srcWf src && fitsIn h 48
  | .ctxFind _ src req => srcWf src && fitsIn req 64
  | .ctxSet _ src h mask prio budget red => srcWf src && fitsIn h 48 && fitsIn mask 8 && fitsIn prio 8 && fitsIn budget 64 && fitsIn red 8
  | .ctxSignal _ src h amount => srcWf src && fitsIn h 48 && fitsIn amount 32
  | .deadlineReached _ slot => fitsIn slot 14
  | .tombstoneEnd _ slot => fitsIn slot 14
  | .startupSlotHoldEnd _ => true
  | .journalWriteFail _ slot cause => fitsIn slot 14 && fitsIn cause 8
  | .snapshotDue _ => true
  | .pgWindow _ src h pd fillAddr => srcWf src && fitsIn h 48 && fitsIn pd 16 && fitsIn fillAddr 64
  | .pgAttach _ src h owner n => srcWf src && fitsIn h 48 && fitsIn owner 48 && fitsIn n 32
  | .pgExport _ src h layer first log2 dest => srcWf src && fitsIn h 48 && fitsIn layer 8 && fitsIn first 32 && fitsIn log2 8 && destWf dest
  | .pgImport _ src h ext => srcWf src && fitsIn h 48 && fetchedWf (fun _ => true) ext
  | .pgScale _ src p table => srcWf src && fitsIn p 8 && fetchedWf (fun _ => true) table
  | .unitPlaced _ slot layer token unit => fitsIn slot 14 && fitsIn layer 8 && fitsIn token 32 && fitsIn unit 16
  | .frameCleared _ _ => true
  | .hoOffer _ src h dst _ stripe member => srcWf src && fitsIn h 48 && fitsIn dst 18 && fitsIn stripe 32 && fitsIn member 8
  | .hoCancel _ src h _ => srcWf src && fitsIn h 48
  | .hoRebuild _ src p => srcWf src && fetchedWf rebuildWf p
  | .hoProbe _ src req => srcWf src && fitsIn req 64
  | .offer _ peer m _ => fitsIn peer 18 && hoMsgWf m
  | .take _ peer m _ => fitsIn peer 18 && hoMsgWf m
  | .refuse _ peer m _ => fitsIn peer 18 && hoMsgWf m
  | .manifest _ peer m _ => fitsIn peer 18 && hoMsgWf m
  | .accept _ peer m _ => fitsIn peer 18 && hoMsgWf m
  | .release _ peer m _ => fitsIn peer 18 && hoMsgWf m
  | .abort _ peer m _ => fitsIn peer 18 && hoMsgWf m
  | .cancel _ peer m _ => fitsIn peer 18 && hoMsgWf m
  | .superseded _ peer m _ => fitsIn peer 18 && hoMsgWf m
  | .fenceMessage _ peer m _ => fitsIn peer 18 && hoMsgWf m
  | .fenceReply _ peer m _ => fitsIn peer 18 && hoMsgWf m
  | .offerRetryExpiry _ slot => fitsIn slot 14
  | .acceptRetrySource _ slot => fitsIn slot 14
  | .acceptRetryDest _ slot => fitsIn slot 14
  | .transferIdleSource _ slot => fitsIn slot 14
  | .transferIdleDest _ slot => fitsIn slot 14
  | .stuckTimeExpiry _ slot => fitsIn slot 14
  | .transferBodiesDone _ slot => fitsIn slot 14
  | .digestVerified _ slot => fitsIn slot 14
  | .releaseComplete _ slot => fitsIn slot 14
  | .fenceRetry _ slot => fitsIn slot 14
  | .fenceTimeExpiry _ slot => fitsIn slot 14
  | .rebuildDecoded _ slot => fitsIn slot 14
  | .cruQueueCreate _ src pd slots kib => srcWf src && fitsIn pd 16 && fitsIn slots 32 && fitsIn kib 16
  | .cruQueueDelete _ src q => srcWf src && fitsIn q 16
  | .queueDeleteDone _ q => fitsIn q 16
  | .cruJob _ src img reply => srcWf src && fetchedWf (fun _ => true) img && fitsIn reply 64
  | .cruRowop _ src op => srcWf src && rowOpWf op
  | .rowopDone _ => true
  | .jobAccept _ q => fitsIn q 16
  | .jobComplete _ job => fitsIn job 64
  | .refreshDue _ pch => fitsIn pch 8
  | .baseDieHot _ stack temp => fitsIn stack 3 && fitsIn temp 8
  | .cruHoldMaxClear _ => true
  | .spcBegin _ src r => srcWf src && fetchedWf specWf r
  | .spcVerify _ src r => srcWf src && fetchedWf specWf r
  | .spcAbandon _ src r => srcWf src && fetchedWf specWf r
  | .spcGovern _ src h _ limit => srcWf src && fitsIn h 48 && fitsIn limit 8
  | .specBeginRecord _ port via r => fitsIn port 5 && viaWf via && specWf r
  | .specVerifyRecord _ port via r => fitsIn port 5 && viaWf via && specWf r
  | .specAbandonRecord _ port via r => fitsIn port 5 && viaWf via && specWf r
  | .verifyCommit _ slot => fitsIn slot 14
  | .gafLoad _ src img => srcWf src && fetchedWf imageWf img
  | .gafUnload _ src prog => srcWf src && fitsIn prog 8
  | .gafInvoke _ src prog entry params => srcWf src && fitsIn prog 8 && fitsIn entry 16 && decide (params.length ≤ 5)
  | .gafQuery _ src prog => srcWf src && fitsIn prog 8
  | .invocationStart _ core => fitsIn core 6
  | .triggerFire _ k => fitsIn k 16
  | .waitTimeout _ core => fitsIn core 6
  | .cheapPointOverdue _ core => fitsIn core 6
  | .budgetExceeded _ core => fitsIn core 6
  | .residentRestart _ prog entry => fitsIn prog 8 && fitsIn entry 16
  | .slotBoundary _ => true
  | .frameBoundary _ => true
  | .poolQuantumExpiry _ core => fitsIn core 6
  | .preemptionDeferredRelease _ core => fitsIn core 6
  | .gafSchedSwitch _ => true
  | .gafPreemptMaxClear _ => true
  | .gafEvcAdd _ a => accessWf a
  | .nop _ k op f => fitsIn k 6 && fitsIn op 8 && ifieldsWf f
  | .iAdd _ k f => fitsIn k 6 && ifieldsWf f
  | .iSub _ k f => fitsIn k 6 && ifieldsWf f
  | .iMul _ k f => fitsIn k 6 && ifieldsWf f
  | .iMulhu _ k f => fitsIn k 6 && ifieldsWf f
  | .iMulhs _ k f => fitsIn k 6 && ifieldsWf f
  | .iDivu _ k f => fitsIn k 6 && ifieldsWf f
  | .iRemu _ k f => fitsIn k 6 && ifieldsWf f
  | .iAnd _ k f => fitsIn k 6 && ifieldsWf f
  | .iOr _ k f => fitsIn k 6 && ifieldsWf f
  | .iXor _ k f => fitsIn k 6 && ifieldsWf f
  | .iShl _ k f => fitsIn k 6 && ifieldsWf f
  | .iShr _ k f => fitsIn k 6 && ifieldsWf f
  | .iSar _ k f => fitsIn k 6 && ifieldsWf f
  | .iMinu _ k f => fitsIn k 6 && ifieldsWf f
  | .iMaxu _ k f => fitsIn k 6 && ifieldsWf f
  | .iAddi _ k f => fitsIn k 6 && ifieldsWf f
  | .iAndi _ k f => fitsIn k 6 && ifieldsWf f
  | .iOri _ k f => fitsIn k 6 && ifieldsWf f
  | .iXori _ k f => fitsIn k 6 && ifieldsWf f
  | .iShli _ k f => fitsIn k 6 && ifieldsWf f
  | .iShri _ k f => fitsIn k 6 && ifieldsWf f
  | .iSari _ k f => fitsIn k 6 && ifieldsWf f
  | .iMovi _ k f => fitsIn k 6 && ifieldsWf f
  | .iMovhi _ k f => fitsIn k 6 && ifieldsWf f
  | .iExtr _ k f => fitsIn k 6 && ifieldsWf f
  | .iInsr _ k f => fitsIn k 6 && ifieldsWf f
  | .iClz _ k f => fitsIn k 6 && ifieldsWf f
  | .iPopc _ k f => fitsIn k 6 && ifieldsWf f
  | .iSel _ k f => fitsIn k 6 && ifieldsWf f
  | .iRdtime _ k f => fitsIn k 6 && ifieldsWf f
  | .iRdid _ k f => fitsIn k 6 && ifieldsWf f
  | .iCmp _ k f => fitsIn k 6 && ifieldsWf f
  | .iCmpi _ k f => fitsIn k 6 && ifieldsWf f
  | .iPlog _ k f => fitsIn k 6 && ifieldsWf f
  | .iPrd _ k f => fitsIn k 6 && ifieldsWf f
  | .iBr _ k f => fitsIn k 6 && ifieldsWf f
  | .iCall _ k f => fitsIn k 6 && ifieldsWf f
  | .iJmp _ k f => fitsIn k 6 && ifieldsWf f
  | .iLoop _ k f => fitsIn k 6 && ifieldsWf f
  | .iEnd _ k f => fitsIn k 6 && ifieldsWf f
  | .iLd _ k f => fitsIn k 6 && ifieldsWf f
  | .iSt _ k f => fitsIn k 6 && ifieldsWf f
  | .iVld _ k f => fitsIn k 6 && ifieldsWf f
  | .iVst _ k f => fitsIn k 6 && ifieldsWf f
  | .iVadd _ k f => fitsIn k 6 && ifieldsWf f
  | .iVsub _ k f => fitsIn k 6 && ifieldsWf f
  | .iVmul _ k f => fitsIn k 6 && ifieldsWf f
  | .iVand _ k f => fitsIn k 6 && ifieldsWf f
  | .iVor _ k f => fitsIn k 6 && ifieldsWf f
  | .iVxor _ k f => fitsIn k 6 && ifieldsWf f
  | .iVshl _ k f => fitsIn k 6 && ifieldsWf f
  | .iVshr _ k f => fitsIn k 6 && ifieldsWf f
  | .iVbcast _ k f => fitsIn k 6 && ifieldsWf f
  | .iVext _ k f => fitsIn k 6 && ifieldsWf f
  | .iVins _ k f => fitsIn k 6 && ifieldsWf f
  | .iVperm _ k f => fitsIn k 6 && ifieldsWf f
  | .iVfadd _ k f => fitsIn k 6 && ifieldsWf f
  | .iVfmul _ k f => fitsIn k 6 && ifieldsWf f
  | .iVfma _ k f => fitsIn k 6 && ifieldsWf f
  | .iVfmax _ k f => fitsIn k 6 && ifieldsWf f
  | .iVfsum _ k f => fitsIn k 6 && ifieldsWf f
  | .iVqnt _ k f => fitsIn k 6 && ifieldsWf f
  | .iVdqnt _ k f => fitsIn k 6 && ifieldsWf f
  | .iVgfmul _ k f => fitsIn k 6 && ifieldsWf f
  | .iVgfmac _ k f => fitsIn k 6 && ifieldsWf f
  | .iDmov _ k f => fitsIn k 6 && ifieldsWf f
  | .dmovDone _ k stop => fitsIn k 6 && stop.all (fun x => fitsIn x 64)
  | .iTrd _ k f => fitsIn k 6 && ifieldsWf f
  | .iTcas _ k f => fitsIn k 6 && ifieldsWf f
  | .iSwld _ k f => fitsIn k 6 && ifieldsWf f
  | .iSwst _ k f => fitsIn k 6 && ifieldsWf f
  | .iSwcas _ k f => fitsIn k 6 && ifieldsWf f
  | .iSwadd _ k f => fitsIn k 6 && ifieldsWf f
  | .iSig _ k f => fitsIn k 6 && ifieldsWf f
  | .iSigi _ k f => fitsIn k 6 && ifieldsWf f
  | .iWait _ k f => fitsIn k 6 && ifieldsWf f
  | .iArm _ k f => fitsIn k 6 && ifieldsWf f
  | .iDisarm _ k f => fitsIn k 6 && ifieldsWf f
  | .iFence _ k f => fitsIn k 6 && ifieldsWf f
  | .iCtrrd _ k f => fitsIn k 6 && ifieldsWf f
  | .iSrch _ k f => fitsIn k 6 && ifieldsWf f
  | .iPfxw _ k f => fitsIn k 6 && ifieldsWf f
  | .iCrypt _ k f => fitsIn k 6 && ifieldsWf f
  | .cryptDone _ k => fitsIn k 6
  | .iPalloc _ k f => fitsIn k 6 && ifieldsWf f
  | .iPfree _ k f => fitsIn k 6 && ifieldsWf f
  | .iPrx _ k f => fitsIn k 6 && ifieldsWf f
  | .iPld _ k f => fitsIn k 6 && ifieldsWf f
  | .iPst _ k f => fitsIn k 6 && ifieldsWf f
  | .iPvld _ k f => fitsIn k 6 && ifieldsWf f
  | .iPvst _ k f => fitsIn k 6 && ifieldsWf f
  | .iPparse _ k f => fitsIn k 6 && ifieldsWf f
  | .iPbuild _ k f => fitsIn k 6 && ifieldsWf f
  | .iPtx _ k f => fitsIn k 6 && ifieldsWf f
  | .yieldI _ k scr pmask vmask smask => fitsIn k 6 && fitsIn scr 7 && fitsIn pmask 7 && fitsIn vmask 16 && fitsIn smask 31
  | .fabPd _ src pd slot _ => srcWf src && fitsIn pd 16 && fitsIn slot 8
  | .fabReg _ src pd units rights ownerEid _ => srcWf src && fitsIn pd 16 && fitsIn units 32 && fitsIn rights 8 && fitsIn ownerEid 18
  | .fabRevoke _ src r => srcWf src && fitsIn r 16
  | .revokeComplete _ r => fitsIn r 16
  | .regionQuarantineEnd _ r => fitsIn r 16
  | .fabOwner _ src r ownerEid _ => srcWf src && fitsIn r 16 && fitsIn ownerEid 18
  | .fabConnOpen _ src peer pd target prio pmtu => srcWf src && fitsIn peer 18 && fitsIn pd 16 && fitsIn target 16 && fitsIn prio 8 && fitsIn pmtu 16
  | .fabConnClose _ src conn => srcWf src && fitsIn conn 16
  | .fabOp _ src op => srcWf src && fetchedWf fabOpWf op
  | .fabRoce _ src q => srcWf src && fetchedWf roceInWf q
  | .fabLaneModeWrite _ a => accessWf a
  | .fabConnSelWrite _ a => accessWf a
  | .fabRegionSelWrite _ a => accessWf a
  | .frameReceive _ port _ _ => fitsIn port 5
  | .pfcFrameReceived _ port prio quanta => fitsIn port 5 && fitsIn prio 3 && fitsIn quanta 16
  | .pauseExpiry _ port prio => fitsIn port 5 && fitsIn prio 3
  | .pfcPauseRepeat _ port prio => fitsIn port 5 && fitsIn prio 3
  | .pfcWatchdogExpiry _ port prio => fitsIn port 5 && fitsIn prio 3
  | .watchdogDropEnd _ port prio => fitsIn port 5 && fitsIn prio 3
  | .linkUp _ port => fitsIn port 5
  | .linkDown _ port => fitsIn port 5
  | .store _ p => fmtWf p
  | .fstore _ p => fmtWf p
  | .load _ p => fmtWf p
  | .loadResp _ p => fmtWf p
  | .fadd64 _ p => fmtWf p
  | .cswap64 _ p => fmtWf p
  | .swap64 _ p => fmtWf p
  | .atomicResp _ p => fmtWf p
  | .ack _ p => fmtWf p
  | .nak _ p => fmtWf p
  | .connReq _ p => fmtWf p
  | .connAcc _ p => fmtWf p
  | .connRej _ p => fmtWf p
  | .close _ p => fmtWf p
  | .closeAck _ p => fmtWf p
  | .heartbeat _ p => fmtWf p
  | .eidAssign _ port reqNo _ eid _ => fitsIn port 5 && fitsIn reqNo 64 && fitsIn eid 18
  | .eidReply _ port reqNo _ eid code => fitsIn port 5 && fitsIn reqNo 64 && fitsIn eid 18 && fitsIn code 8
  | .retransmitTimeout _ conn => fitsIn conn 13
  | .ackDelayExpiry _ conn => fitsIn conn 13
  | .rnrDelayExpiry _ conn => fitsIn conn 13
  | .connReqRetry _ conn => fitsIn conn 13
  | .closeRetry _ conn => fitsIn conn 13
  | .quarantineEnd _ conn => fitsIn conn 13
  | .pd0IdleClose _ conn => fitsIn conn 13
  | .keepaliveExpiry _ conn => fitsIn conn 13
  | .roceSend _ p => roceWf p
  | .roceRdmaWrite _ p => roceWf p
  | .roceRdmaReadRequest _ p => roceWf p
  | .roceAcknowledge _ p => roceWf p
  | .roceCnp _ p => roceWf p
  | .roceUnsupportedOpcode _ p => roceWf p
  | .wireFree _ port => fitsIn port 5
  | .gateEntryExpiry _ port => fitsIn port 5
  | .tmBucketWrite _ off a => fitsIn off 64 && accessWf a
  | .hwmRead _ off _ => fitsIn off 64
  | .sampleDue _ => true
  | .tmSmpCidxWrite _ cidx => fitsIn cidx 32
  | .sojournAlarm _ port q => fitsIn port 5 && fitsIn q 3
  | .shaperBucketRefill _ port q => fitsIn port 5 && q.all (fun x => fitsIn x 3)
  | .pfxChain _ src h first count tokens => srcWf src && fitsIn h 48 && fitsIn first 32 && fitsIn count 32 && fetchedWf (fun l => l.all (fun x => fitsIn x 32)) tokens
  | .pfxPublish _ src h seg groups => srcWf src && fitsIn h 48 && fitsIn seg 8 && fetchedWf (fun l => l.all (fun x => fitsIn x 32)) groups
  | .pfxLookup _ src seg keys results => srcWf src && fitsIn seg 8 && fetchedWf (fun l => l.all (fun x => fitsIn x 128)) keys && fitsIn results 64
  | .pfxWrite _ src entry key mask result _ => srcWf src && fitsIn entry 32 && fitsIn key 128 && fitsIn mask 128 && fitsIn result 32
  | .pfxUnpin _ src owner count => srcWf src && fitsIn owner 48 && fitsIn count 32
  | .attach _ peer m => fitsIn peer 18 && attachMsgWf m
  | .attachAck _ peer m => fitsIn peer 18 && attachMsgWf m
  | .attachRefuse _ peer m => fitsIn peer 18 && attachMsgWf m
  | .detach _ peer m => fitsIn peer 18 && attachMsgWf m
  | .detachAck _ peer m => fitsIn peer 18 && attachMsgWf m
  | .attachMsgRetry _ req => fitsIn req 64
  | .cascadeFrame _ f => cascWf f
  | .cascadeTimeout _ seq => fitsIn seq 7
  | .cascadeProbeDue _ => true
  | .tierMove _ src h first count target lease => srcWf src && fitsIn h 48 && fitsIn first 32 && fitsIn count 32 && fitsIn target 8 && fitsIn lease 16
  | .tierGroupWritten _ slot object => fitsIn slot 14 && fetchedWf (fun _ => true) object
  | .tierLend _ src peer slabs => srcWf src && fitsIn peer 18 && fitsIn slabs 32
  | .tierRecall _ src lease _ => srcWf src && fitsIn lease 16
  | .recallTimeExpiry _ lease => fitsIn lease 16
  | .tierT2Pool _ src addr units _ _ => srcWf src && fitsIn addr 64 && fitsIn units 32
  | .tierFragWhere _ src h addr => srcWf src && fitsIn h 48 && fitsIn addr 64
  | .tierFragList _ src addr max => srcWf src && fitsIn addr 64 && fitsIn max 32
  | .tierFragDrop _ src req tag epoch => srcWf src && fitsIn req 64 && fitsIn tag 32 && fitsIn epoch 32
  | .lend _ peer m => fitsIn peer 18 && tierMsgWf m
  | .lendAck _ peer m => fitsIn peer 18 && tierMsgWf m
  | .recall _ peer m => fitsIn peer 18 && tierMsgWf m
  | .recallDone _ peer m => fitsIn peer 18 && tierMsgWf m
  | .fragOpen _ peer m => fitsIn peer 18 && tierMsgWf m
  | .fragOpenAck _ peer m => fitsIn peer 18 && tierMsgWf m
  | .fragSeal _ peer m => fitsIn peer 18 && tierMsgWf m
  | .fragSealAck _ peer m => fitsIn peer 18 && tierMsgWf m
  | .fragFree _ peer m => fitsIn peer 18 && tierMsgWf m
  | .fragFreeAck _ peer m => fitsIn peer 18 && tierMsgWf m
  | .tierRefuse _ peer m => fitsIn peer 18 && tierMsgWf m
  | .fragRead _ peer m => fitsIn peer 18 && tierMsgWf m
  | .fragReadAck _ peer m => fitsIn peer 18 && tierMsgWf m
  | .tierMsgRetry _ req => fitsIn req 64
  | .hedgeDeadline _ slot stripe share => fitsIn slot 14 && fitsIn stripe 64 && fitsIn share 6
  | .pcieHotReset => true
  | .pcieCorrectableError => true
  | .pcieCompletionTimeout _ r => readForWf r
  | .pcieErrorCompletion _ r _ => readForWf r
  | .smbusMctpRequest kind => fitsIn kind 8
  | .tenSqDoorbell _ w n tail => ringWinWf w && fitsIn n 4 && fitsIn tail 32
  | .tenCqDoorbell _ w n head => ringWinWf w && fitsIn n 4 && fitsIn head 32
  | .entryTake _ w n e => ringWinWf w && fitsIn n 4 && fetchedWf ringEntryWf e
  | .coalTimeExpiry _ w n => ringWinWf w && fitsIn n 4
  | .tenRingCfgWrite _ w n a => ringWinWf w && fitsIn n 4 && accessWf a
  | .tenEvqCfgWrite w a => evqWinWf w && accessWf a
  | .tenEvqCidxWrite w a => evqWinWf w && accessWf a
  | .vectorUnmask w v => evqWinWf w && fitsIn v 11
  | .pcieConfigWrite w x => evqWinWf w && configSetWf x
  | .secCert _ src => srcWf src
  | .secAttest _ src nonce => srcWf src && decide (nonce.length = 32)
  | .secKeyImport _ src rec => srcWf src && fetchedWf (fun _ => true) rec
  | .secKeyDestroy _ src kind index => srcWf src && fitsIn kind 8 && fitsIn index 8
  | .secPeer _ src eid _ chain binding => srcWf src && fitsIn eid 18 && fetchedWf (fun _ => true) chain && binding.all (fetchedWf (fun _ => true))
  | .secOwn _ src keySig => srcWf src && fetchedWf (fun _ => true) keySig
  | .secCfgWrite _ src rec _ => srcWf src && fetchedWf (fun _ => true) rec
  | .secFwStage _ src img => srcWf src && fetchedWf (fun _ => true) img
  | .secFwCommit _ src _ => srcWf src
  | .fwProgramDone _ _ => true
  | .secRecGo _ a img _ => accessWf a && fetchedWf (fun _ => true) img
  | .spdmRequest req => spdmWf req
  | .totalsDue _ slot => fitsIn slot 4
  | .helloDue _ => true
  | .creditPulse _ => true
  | .meterAbsent _ => true
  | .creditsResumed _ => true
  | .meterTotalsFrame f _ => linkFrameWf f
  | .meterHelloFrame f _ => linkFrameWf f
  | .meterSupplyFrame f _ => linkFrameWf f
  | .meterUnmeteredFrame f _ => linkFrameWf f
  | .meterCreditTick => true
  | .meterIntervalBoundary => true
  | .meterLinkGap _ => true
  | .meterInserted m => newMeterWf m
  | .mtrDrainSelWrite a => accessWf a
  | .mtrDrainAckWrite ctr => fitsIn ctr 64
  | .mtrRemove => true
  | .relExpect _ src eid _ digest => srcWf src && fitsIn eid 18 && fitsIn digest 128
  | .relShadow _ src eid role sample ops => srcWf src && fitsIn eid 18 && fitsIn role 8 && fitsIn sample 32 && fitsIn ops 32
  | .relIsolate _ src => srcWf src
  | .relInject _ src addr kind count => srcWf src && fitsIn addr 64 && fitsIn kind 8 && fitsIn count 32
  | .relMismatchList _ src host max => srcWf src && fitsIn host 64 && fitsIn max 32
  | .mirrorMessage _ m => mirrorWf m
  | .shadowStall _ => true
  | .peerSilent _ i => fitsIn i 4
  | .patrolRead _ => true
  | .rowSpare _ row _ => fitsIn row 64
  | .laneSpare _ pch lane _ => fitsIn pch 8 && fitsIn lane 8
  | .sramError _ e => sramWf e
  | .consistencyCheckFail _ => true
  | .autoWarmExpiry _ => true
  | .busWarning vin => fitsIn vin 16
  | .warningLeft vin low => fitsIn vin 16 && fitsIn low 16
  | .busResetLevel vin => fitsIn vin 16
  | .retentionRecovered vin w0 w1 w2 w3 => fitsIn vin 16 && warmWf w0 && warmWf w1 && warmWf w2 && warmWf w3
  | .retentionLost vin => fitsIn vin 16
  | .powerOnReset pufFails => pufFails.all (fun x => decide (x < 4))
  | .inputOvervoltage => true
  | .plugMate => true
  | .plugBreak => true
  | .paceSample _ p => paceWf p
  | .thermalTrip _ ctl base => fitsIn ctl 8 && fitsIn base 8
  | .clockSourceFail _ source => fitsIn source 1
  | .oscSettled _ => true
  | .clkSrcWrite _ a => accessWf a
  | .pwrPaceClear _ => true
  | .pwrModInputRead _ => true
  | .pwrReqC0 _ => true
  | .pwrReqC1 _ => true
  | .pwrReqC2 _ => true
  | .c2EntryWaitEnd _ => true
  | .pwrReqC3 _ _ => true
  | .pwrReqWarmReset _ => true
  | .pwrReqColdReset _ => true
  | .warmChannelReset _ w => warmWf w
  | .coldChannelReset _ _ => true
  | .moduleReset pufFails => pufFails.all (fun x => decide (x < 4))
  | .coreReset _ core => fitsIn core 6
  | .portReset _ port => fitsIn port 5
  | .tenantReset _ slot => fitsIn slot 4
  | .refClockReady _ => true
  | .fecDegradedWindow _ port codewords corrected uncorrectable => fitsIn port 5 && fitsIn codewords 64 && fitsIn corrected 64 && fitsIn uncorrectable 64
  | .moistureSensorChange _ => true

end Sys2Proof
end

