-- ==== Sys2Proof/Safety.lean ====
section
/-! DEFINITION. What the statements speak of: a command that completes, the state a command of one channel leaves, when a channel admits a command, the canonical
form of every memory, and how far a command reaches. -/
namespace Sys2Proof.Machine
open Sys2Proof

/-- The command completes: the step of the command answers a next state, and that state meets `p`. -/
def Does (i : Instr) (s : State) (p : State → Prop) : Prop := ∃ t, exec i s = .next t ∧ p t

/-- The command completes on channel `c`, whose state after it meets `p`. -/
def DoesOn (c : ChId) (i : Instr) (s : State) (p : Chan → Prop) : Prop := Does i s (fun t => p (t.ch c))

/-- The module after a command that leaves channel `c` as `x`: the channel's memories in canonical form, and the events it raised for PF0's ring written by the hub. -/
def State.after (s : State) (c : ChId) (x : Chan) : State := { s.setCh c x.settle with hub := s.hub.events x.toHub }

/-- The module after a happening that reaches every channel: the hub as `h`, and channel `d` as `g d`. -/
def State.afterAll (s : State) (h : Hub) (g : ChId → Chan) : State :=
  { s with ch0 := (g .c0).settle, ch1 := (g .c1).settle, ch2 := (g .c2).settle, ch3 := (g .c3).settle,
           hub := h.events ((g .c0).toHub ++ (g .c1).toHub ++ (g .c2).toHub ++ (g .c3).toHub) }

/-- The module after a command that leaves the hub as `h`. -/
def State.withHub (s : State) (h : Hub) : State := { s with hub := h }

/-- The channel takes the command and its own checks begin (R365, R372, R448): it serves, the caller may call the entry, a shadow takes the command, and
the slot has a tenant tag where one is needed. -/
def Chan.admits (x : Chan) (src : Src) (a : Admit) : Bool :=
  x.serves && (!a.pfOnly || src.vf.isNone) && (decide (x.rel.mode ≠ .shadow) || a.shadowOk) && (!(a.needTag || src.vf.isSome) || decide (x.tag src.slot ≠ 0))

/-- A command on contexts is taken: the table is not being rebuilt (R84, R89). -/
def Chan.admitsCtx (x : Chan) (src : Src) (a : Admit) : Bool := x.admits src a && x.ctx.ready

/-- The channel as an FMT packet finds it that is taken (R277, R283, R311, R454): the channel hears its EID's traffic, the packet passes its tag and the policer, and its connection is OPEN or
CLOSING with its sender. `traffic` says whether it keeps an idle connection from closing. -/
def Chan.comesIn (x : Chan) (p : FmtPkt) (traffic : Bool) : Option Chan :=
  let y := x.heardFrom p.srcEid
  let k := p.dstConn
  if x.hears p && p.prot && p.tagOk && decide ((y.conn k).st = .open_ ∨ (y.conn k).st = .closing) && (y.conn k).isWith p then
    (y.admitFrame k (y.fmtSize (y.conn k) p.data.length) p.ce).map (fun z => if traffic then z.setConn k { z.conn k with lastUse := z.time } else z)
  else none

/-- The channel as a RoCE packet finds it that is taken (R296, R297, R300, R311): the channel serves and has an EID, the packet passes its ICRC and the policer, and its queue pair is OPEN. -/
def Chan.comesInQp (x : Chan) (p : RocePkt) : Option Chan :=
  let k := roceConn p.qp
  if x.serves && x.eid.isSome && decide (0x100000 ≤ p.qp ∧ (x.conn k).st = .open_) && (x.conn k).roce.isSome && p.icrcOk then
    (x.admitFrame k (x.roceSize (x.conn k) (roceExt p.opcode + p.data.length)) p.ce).map (fun z => (z.setConn k { z.conn k with lastUse := z.time }).notify k)
  else none

/-- The handle names the context in a slot, which the caller may reach (R70, R83). -/
def Chan.owns (x : Chan) (src : Src) (h slot : Nat) : Bool :=
  (match x.checkHandle h with | .ok n => decide (n = slot) | .error _ => false) &&
  (match src.vf with | some t => decide ((x.entry slot).tslot = t) | none => true)

/-- Every memory of the channel in the one canonical form, so that equal memories are equal data. -/
def Chan.memoriesWf (x : Chan) : Bool :=
  Memory.wf x.hbm && x.gaf.cores.all (fun e => Memory.wf e.2.scratch) && x.gaf.saved.all (fun e => Memory.wf e.1.scratch) &&
  x.fab.bufs.all (fun e => Memory.wf e.2.data)

/-- A channel between two commands: its memories canonical, and no event for PF0's ring left unwritten. -/
def Chan.tidy (x : Chan) : Bool := x.memoriesWf && x.toHub.isEmpty

/-- A module between two commands: every channel is. -/
def State.tidy (s : State) : Bool := s.ch0.tidy && s.ch1.tidy && s.ch2.tidy && s.ch3.tidy

/-- Core k can issue an instruction of OP and fields f now, and its guard holds (R206, R209, R235, R236): the channel runs, the core runs an invocation of an
installed program, the offset lies in its text and the line with it in the instruction cache, and the word passes R235. -/
def Chan.issues (x : Chan) (k op : Nat) (f : IFields) : Bool :=
  f.fits && x.serves && decide (k < 64 ∧ (x.core k).st = .running) && (x.core k).wait.isNone && !(x.core k).held &&
  (match x.coreProg k with
   | some p => decide ((x.core k).pc < p.textEnd) && (decide (p.imgLen = 0) || (x.core k).lines.contains (p.textAt + (x.core k).pc / 256 * 256))
   | none => false) && wordOk op f && (x.core k).guard f

/-- The instruction that command `i` names, where core k can issue it, changes its core to `h` of it and goes on to the next, and nothing else in the module. -/
def StepsCore (i : Instr) (s : State) (c : ChId) (k op : Nat) (f : IFields) (h : GCore → GCore) : Prop :=
  (s.ch c).issues k op f = true → exec i s = .next (s.after c ((s.ch c).setCore k (h ((s.ch c).core k)).next))

/-- How far a command reaches: one channel (and the hub's event ring), the hub alone, or the whole module. -/
inductive Scope where
  | channel (c : ChId)
  | hub
  | module
  deriving DecidableEq, Repr

/-- The reach of a register window. -/
def windowScope (w : Window) : Scope :=
  match w with
  | .hub => .hub
  | .ch c => .channel c
  | .vf c _ => .channel c

/-- The reach of a function of the host port. -/
def evqScope (w : EvqWin) : Scope :=
  match w with
  | .hub => .hub
  | .pf c => .channel c
  | .vf c _ => .channel c

/-- How far each command reaches (R38: the channels share the hub, the host port and the input, and nothing else). -/
def scopeOf : Instr → Scope
  | .fnStop c _ _ => .channel c
  | .fnStart c _ _ => .channel c
  | .roleStop c _ _ => .channel c
  | .roleLoad c _ _ => .channel c
  | .roleStart c _ => .channel c
  | .roleStopped c => .channel c
  | .roleStopAbandoned c => .channel c
  | .fnStateStop c _ => .channel c
  | .fnStateStart c _ => .channel c
  | .functionQuiesced c _ => .channel c
  | .chnEidWrite c _ => .channel c
  | .registerWrite w _ _ => windowScope w
  | .ctxPeekSelWrite c _ => .channel c
  | .hubLinkDown c => .channel c
  | .hubLinkRestored c _ _ => .channel c
  | .ctxOpen c _ _ _ _ _ _ _ => .channel c
  | .ctxSeal c _ _ => .channel c
  | .sealComplete c _ => .channel c
  | .ctxRetire c _ _ => .channel c
  | .drainComplete c _ => .channel c
  | .ctxQuery c _ _ => .channel c
  | .ctxFind c _ _ => .channel c
  | .ctxSet c _ _ _ _ _ _ => .channel c
  | .ctxSignal c _ _ _ => .channel c
  | .deadlineReached c _ => .channel c
  | .tombstoneEnd c _ => .channel c
  | .startupSlotHoldEnd c => .channel c
  | .journalWriteFail c _ _ => .channel c
  | .snapshotDue c => .channel c
  | .pgWindow c _ _ _ _ => .channel c
  | .pgAttach c _ _ _ _ => .channel c
  | .pgExport c _ _ _ _ _ _ => .channel c
  | .pgImport c _ _ _ => .channel c
  | .pgScale c _ _ _ => .channel c
  | .unitPlaced c _ _ _ _ => .channel c
  | .frameCleared c _ => .channel c
  | .hoOffer c _ _ _ _ _ _ => .channel c
  | .hoCancel c _ _ _ => .channel c
  | .hoRebuild c _ _ => .channel c
  | .hoProbe c _ _ => .channel c
  | .offer c _ _ _ => .channel c
  | .take c _ _ _ => .channel c
  | .refuse c _ _ _ => .channel c
  | .manifest c _ _ _ => .channel c
  | .accept c _ _ _ => .channel c
  | .release c _ _ _ => .channel c
  | .abort c _ _ _ => .channel c
  | .cancel c _ _ _ => .channel c
  | .superseded c _ _ _ => .channel c
  | .fenceMessage c _ _ _ => .channel c
  | .fenceReply c _ _ _ => .channel c
  | .offerRetryExpiry c _ => .channel c
  | .acceptRetrySource c _ => .channel c
  | .acceptRetryDest c _ => .channel c
  | .transferIdleSource c _ => .channel c
  | .transferIdleDest c _ => .channel c
  | .stuckTimeExpiry c _ => .channel c
  | .transferBodiesDone c _ => .channel c
  | .digestVerified c _ => .channel c
  | .releaseComplete c _ => .channel c
  | .fenceRetry c _ => .channel c
  | .fenceTimeExpiry c _ => .channel c
  | .rebuildDecoded c _ => .channel c
  | .cruQueueCreate c _ _ _ _ => .channel c
  | .cruQueueDelete c _ _ => .channel c
  | .queueDeleteDone c _ => .channel c
  | .cruJob c _ _ _ => .channel c
  | .cruRowop c _ _ => .channel c
  | .rowopDone c => .channel c
  | .jobAccept c _ => .channel c
  | .jobComplete c _ => .channel c
  | .refreshDue c _ => .channel c
  | .baseDieHot c _ _ => .channel c
  | .cruHoldMaxClear c => .channel c
  | .spcBegin c _ _ => .channel c
  | .spcVerify c _ _ => .channel c
  | .spcAbandon c _ _ => .channel c
  | .spcGovern c _ _ _ _ => .channel c
  | .specBeginRecord c _ _ _ => .channel c
  | .specVerifyRecord c _ _ _ => .channel c
  | .specAbandonRecord c _ _ _ => .channel c
  | .verifyCommit c _ => .channel c
  | .gafLoad c _ _ => .channel c
  | .gafUnload c _ _ => .channel c
  | .gafInvoke c _ _ _ _ => .channel c
  | .gafQuery c _ _ => .channel c
  | .invocationStart c _ => .channel c
  | .triggerFire c _ => .channel c
  | .waitTimeout c _ => .channel c
  | .cheapPointOverdue c _ => .channel c
  | .budgetExceeded c _ => .channel c
  | .residentRestart c _ _ => .channel c
  | .slotBoundary c => .channel c
  | .frameBoundary c => .channel c
  | .poolQuantumExpiry c _ => .channel c
  | .preemptionDeferredRelease c _ => .channel c
  | .gafSchedSwitch c => .channel c
  | .gafPreemptMaxClear c => .channel c
  | .gafEvcAdd c _ => .channel c
  | .nop c _ _ _ => .channel c
  | .iAdd c _ _ => .channel c
  | .iSub c _ _ => .channel c
  | .iMul c _ _ => .channel c
  | .iMulhu c _ _ => .channel c
  | .iMulhs c _ _ => .channel c
  | .iDivu c _ _ => .channel c
  | .iRemu c _ _ => .channel c
  | .iAnd c _ _ => .channel c
  | .iOr c _ _ => .channel c
  | .iXor c _ _ => .channel c
  | .iShl c _ _ => .channel c
  | .iShr c _ _ => .channel c
  | .iSar c _ _ => .channel c
  | .iMinu c _ _ => .channel c
  | .iMaxu c _ _ => .channel c
  | .iAddi c _ _ => .channel c
  | .iAndi c _ _ => .channel c
  | .iOri c _ _ => .channel c
  | .iXori c _ _ => .channel c
  | .iShli c _ _ => .channel c
  | .iShri c _ _ => .channel c
  | .iSari c _ _ => .channel c
  | .iMovi c _ _ => .channel c
  | .iMovhi c _ _ => .channel c
  | .iExtr c _ _ => .channel c
  | .iInsr c _ _ => .channel c
  | .iClz c _ _ => .channel c
  | .iPopc c _ _ => .channel c
  | .iSel c _ _ => .channel c
  | .iRdtime c _ _ => .channel c
  | .iRdid c _ _ => .channel c
  | .iCmp c _ _ => .channel c
  | .iCmpi c _ _ => .channel c
  | .iPlog c _ _ => .channel c
  | .iPrd c _ _ => .channel c
  | .iBr c _ _ => .channel c
  | .iCall c _ _ => .channel c
  | .iJmp c _ _ => .channel c
  | .iLoop c _ _ => .channel c
  | .iEnd c _ _ => .channel c
  | .iLd c _ _ => .channel c
  | .iSt c _ _ => .channel c
  | .iVld c _ _ => .channel c
  | .iVst c _ _ => .channel c
  | .iVadd c _ _ => .channel c
  | .iVsub c _ _ => .channel c
  | .iVmul c _ _ => .channel c
  | .iVand c _ _ => .channel c
  | .iVor c _ _ => .channel c
  | .iVxor c _ _ => .channel c
  | .iVshl c _ _ => .channel c
  | .iVshr c _ _ => .channel c
  | .iVbcast c _ _ => .channel c
  | .iVext c _ _ => .channel c
  | .iVins c _ _ => .channel c
  | .iVperm c _ _ => .channel c
  | .iVfadd c _ _ => .channel c
  | .iVfmul c _ _ => .channel c
  | .iVfma c _ _ => .channel c
  | .iVfmax c _ _ => .channel c
  | .iVfsum c _ _ => .channel c
  | .iVqnt c _ _ => .channel c
  | .iVdqnt c _ _ => .channel c
  | .iVgfmul c _ _ => .channel c
  | .iVgfmac c _ _ => .channel c
  | .iDmov c _ _ => .channel c
  | .dmovDone c _ _ => .channel c
  | .iTrd c _ _ => .channel c
  | .iTcas c _ _ => .channel c
  | .iSwld c _ _ => .channel c
  | .iSwst c _ _ => .channel c
  | .iSwcas c _ _ => .channel c
  | .iSwadd c _ _ => .channel c
  | .iSig c _ _ => .channel c
  | .iSigi c _ _ => .channel c
  | .iWait c _ _ => .channel c
  | .iArm c _ _ => .channel c
  | .iDisarm c _ _ => .channel c
  | .iFence c _ _ => .channel c
  | .iCtrrd c _ _ => .channel c
  | .iSrch c _ _ => .channel c
  | .iPfxw c _ _ => .channel c
  | .iCrypt c _ _ => .channel c
  | .cryptDone c _ => .channel c
  | .iPalloc c _ _ => .channel c
  | .iPfree c _ _ => .channel c
  | .iPrx c _ _ => .channel c
  | .iPld c _ _ => .channel c
  | .iPst c _ _ => .channel c
  | .iPvld c _ _ => .channel c
  | .iPvst c _ _ => .channel c
  | .iPparse c _ _ => .channel c
  | .iPbuild c _ _ => .channel c
  | .iPtx c _ _ => .channel c
  | .yieldI c _ _ _ _ _ => .channel c
  | .fabPd c _ _ _ _ => .channel c
  | .fabReg c _ _ _ _ _ _ => .channel c
  | .fabRevoke c _ _ => .channel c
  | .revokeComplete c _ => .channel c
  | .regionQuarantineEnd c _ => .channel c
  | .fabOwner c _ _ _ _ => .channel c
  | .fabConnOpen c _ _ _ _ _ _ => .channel c
  | .fabConnClose c _ _ => .channel c
  | .fabOp c _ _ => .channel c
  | .fabRoce c _ _ => .channel c
  | .fabLaneModeWrite c _ => .channel c
  | .fabConnSelWrite c _ => .channel c
  | .fabRegionSelWrite c _ => .channel c
  | .frameReceive c _ _ _ => .channel c
  | .pfcFrameReceived c _ _ _ => .channel c
  | .pauseExpiry c _ _ => .channel c
  | .pfcPauseRepeat c _ _ => .channel c
  | .pfcWatchdogExpiry c _ _ => .channel c
  | .watchdogDropEnd c _ _ => .channel c
  | .linkUp c _ => .channel c
  | .linkDown c _ => .channel c
  | .store c _ => .channel c
  | .fstore c _ => .channel c
  | .load c _ => .channel c
  | .loadResp c _ => .channel c
  | .fadd64 c _ => .channel c
  | .cswap64 c _ => .channel c
  | .swap64 c _ => .channel c
  | .atomicResp c _ => .channel c
  | .ack c _ => .channel c
  | .nak c _ => .channel c
  | .connReq c _ => .channel c
  | .connAcc c _ => .channel c
  | .connRej c _ => .channel c
  | .close c _ => .channel c
  | .closeAck c _ => .channel c
  | .heartbeat c _ => .channel c
  | .eidAssign c _ _ _ _ _ => .channel c
  | .eidReply c _ _ _ _ _ => .channel c
  | .retransmitTimeout c _ => .channel c
  | .ackDelayExpiry c _ => .channel c
  | .rnrDelayExpiry c _ => .channel c
  | .connReqRetry c _ => .channel c
  | .closeRetry c _ => .channel c
  | .quarantineEnd c _ => .channel c
  | .pd0IdleClose c _ => .channel c
  | .keepaliveExpiry c _ => .channel c
  | .roceSend c _ => .channel c
  | .roceRdmaWrite c _ => .channel c
  | .roceRdmaReadRequest c _ => .channel c
  | .roceAcknowledge c _ => .channel c
  | .roceCnp c _ => .channel c
  | .roceUnsupportedOpcode c _ => .channel c
  | .wireFree c _ => .channel c
  | .gateEntryExpiry c _ => .channel c
  | .tmBucketWrite c _ _ => .channel c
  | .hwmRead c _ _ => .channel c
  | .sampleDue c => .channel c
  | .tmSmpCidxWrite c _ => .channel c
  | .sojournAlarm c _ _ => .channel c
  | .shaperBucketRefill c _ _ => .channel c
  | .pfxChain c _ _ _ _ _ => .channel c
  | .pfxPublish c _ _ _ _ => .channel c
  | .pfxLookup c _ _ _ _ => .channel c
  | .pfxWrite c _ _ _ _ _ _ => .channel c
  | .pfxUnpin c _ _ _ => .channel c
  | .attach c _ _ => .channel c
  | .attachAck c _ _ => .channel c
  | .attachRefuse c _ _ => .channel c
  | .detach c _ _ => .channel c
  | .detachAck c _ _ => .channel c
  | .attachMsgRetry c _ => .channel c
  | .cascadeFrame c _ => .channel c
  | .cascadeTimeout c _ => .channel c
  | .cascadeProbeDue c => .channel c
  | .tierMove c _ _ _ _ _ _ => .channel c
  | .tierGroupWritten c _ _ => .channel c
  | .tierLend c _ _ _ => .channel c
  | .tierRecall c _ _ _ => .channel c
  | .recallTimeExpiry c _ => .channel c
  | .tierT2Pool c _ _ _ _ _ => .channel c
  | .tierFragWhere c _ _ _ => .channel c
  | .tierFragList c _ _ _ => .channel c
  | .tierFragDrop c _ _ _ _ => .channel c
  | .lend c _ _ => .channel c
  | .lendAck c _ _ => .channel c
  | .recall c _ _ => .channel c
  | .recallDone c _ _ => .channel c
  | .fragOpen c _ _ => .channel c
  | .fragOpenAck c _ _ => .channel c
  | .fragSeal c _ _ => .channel c
  | .fragSealAck c _ _ => .channel c
  | .fragFree c _ _ => .channel c
  | .fragFreeAck c _ _ => .channel c
  | .tierRefuse c _ _ => .channel c
  | .fragRead c _ _ => .channel c
  | .fragReadAck c _ _ => .channel c
  | .tierMsgRetry c _ => .channel c
  | .hedgeDeadline c _ _ _ => .channel c
  | .pcieHotReset => .module
  | .pcieCorrectableError => .hub
  | .pcieCompletionTimeout c _ => .channel c
  | .pcieErrorCompletion c _ _ => .channel c
  | .smbusMctpRequest _ => .hub
  | .tenSqDoorbell c _ _ _ => .channel c
  | .tenCqDoorbell c _ _ _ => .channel c
  | .entryTake c _ _ _ => .channel c
  | .coalTimeExpiry c _ _ => .channel c
  | .tenRingCfgWrite c _ _ _ => .channel c
  | .tenEvqCfgWrite w _ => evqScope w
  | .tenEvqCidxWrite w _ => evqScope w
  | .vectorUnmask w _ => evqScope w
  | .pcieConfigWrite w _ => evqScope w
  | .secCert c _ => .channel c
  | .secAttest c _ _ => .channel c
  | .secKeyImport c _ _ => .channel c
  | .secKeyDestroy c _ _ _ => .channel c
  | .secPeer c _ _ _ _ _ => .channel c
  | .secOwn c _ _ => .channel c
  | .secCfgWrite c _ _ _ => .channel c
  | .secFwStage c _ _ => .channel c
  | .secFwCommit c _ _ => .channel c
  | .fwProgramDone c _ => .channel c
  | .secRecGo c _ _ _ => .channel c
  | .spdmRequest _ => .module
  | .totalsDue c _ => .channel c
  | .helloDue c => .channel c
  | .creditPulse c => .channel c
  | .meterAbsent c => .channel c
  | .creditsResumed c => .channel c
  | .meterTotalsFrame _ _ => .hub
  | .meterHelloFrame _ _ => .hub
  | .meterSupplyFrame _ _ => .hub
  | .meterUnmeteredFrame _ _ => .hub
  | .meterCreditTick => .hub
  | .meterIntervalBoundary => .hub
  | .meterLinkGap _ => .hub
  | .meterInserted _ => .hub
  | .mtrDrainSelWrite _ => .hub
  | .mtrDrainAckWrite _ => .hub
  | .mtrRemove => .hub
  | .relExpect c _ _ _ _ => .channel c
  | .relShadow c _ _ _ _ _ => .channel c
  | .relIsolate c _ => .channel c
  | .relInject c _ _ _ _ => .channel c
  | .relMismatchList c _ _ _ => .channel c
  | .mirrorMessage c _ => .channel c
  | .shadowStall c => .channel c
  | .peerSilent c _ => .channel c
  | .patrolRead c => .channel c
  | .rowSpare c _ _ => .channel c
  | .laneSpare c _ _ _ => .channel c
  | .sramError c _ => .channel c
  | .consistencyCheckFail c => .channel c
  | .autoWarmExpiry c => .channel c
  | .busWarning _ => .module
  | .warningLeft _ _ => .module
  | .busResetLevel _ => .module
  | .retentionRecovered _ _ _ _ _ => .module
  | .retentionLost _ => .module
  | .powerOnReset _ => .module
  | .inputOvervoltage => .hub
  | .plugMate => .hub
  | .plugBreak => .hub
  | .paceSample c _ => .channel c
  | .thermalTrip c _ _ => .channel c
  | .clockSourceFail c _ => .channel c
  | .oscSettled c => .channel c
  | .clkSrcWrite c _ => .channel c
  | .pwrPaceClear c => .channel c
  | .pwrModInputRead _ => .hub
  | .pwrReqC0 c => .channel c
  | .pwrReqC1 c => .channel c
  | .pwrReqC2 c => .channel c
  | .c2EntryWaitEnd c => .channel c
  | .pwrReqC3 c _ => .channel c
  | .pwrReqWarmReset c => .channel c
  | .pwrReqColdReset c => .channel c
  | .warmChannelReset c _ => .channel c
  | .coldChannelReset c _ => .channel c
  | .moduleReset _ => .module
  | .coreReset c _ => .channel c
  | .portReset c _ => .channel c
  | .tenantReset c _ => .channel c
  | .refClockReady c => .channel c
  | .fecDegradedWindow c _ _ _ _ => .channel c
  | .moistureSensorChange _ => .hub

/-- An entry point of the base programs, as a command calls it: its channel, its caller, what it asks of the two, and whether it needs the context table. -/
structure BaseCall where
  ch : ChId
  src : Src
  gate : Admit
  onTable : Bool
  deriving DecidableEq, Repr

/-- The call of a base-program entry that a command is; the other commands are none. -/
def callOf : Instr → Option BaseCall
  | .fnStop c src _ => some ⟨c, src, ⟨true, false, false⟩, false⟩
  | .fnStart c src _ => some ⟨c, src, ⟨true, false, false⟩, false⟩
  | .roleStop c src _ => some ⟨c, src, ⟨true, false, false⟩, false⟩
  | .roleLoad c src _ => some ⟨c, src, ⟨true, false, false⟩, false⟩
  | .roleStart c src => some ⟨c, src, ⟨true, false, false⟩, false⟩
  | .ctxOpen c src _ _ _ _ _ _ => some ⟨c, src, ⟨false, false, true⟩, true⟩
  | .ctxSeal c src _ => some ⟨c, src, ⟨false, false, false⟩, true⟩
  | .ctxRetire c src _ => some ⟨c, src, ⟨false, true, false⟩, true⟩
  | .ctxQuery c src _ => some ⟨c, src, ⟨false, true, false⟩, true⟩
  | .ctxFind c src _ => some ⟨c, src, ⟨false, true, true⟩, true⟩
  | .ctxSet c src _ _ _ _ _ => some ⟨c, src, ⟨false, false, false⟩, true⟩
  | .ctxSignal c src _ _ => some ⟨c, src, ⟨false, false, false⟩, true⟩
  | .pgWindow c src _ _ _ => some ⟨c, src, ⟨false, false, false⟩, true⟩
  | .pgAttach c src _ _ _ => some ⟨c, src, ⟨false, false, false⟩, true⟩
  | .pgExport c src _ _ _ _ _ => some ⟨c, src, ⟨true, false, false⟩, true⟩
  | .pgImport c src _ _ => some ⟨c, src, ⟨true, false, false⟩, true⟩
  | .pgScale c src _ _ => some ⟨c, src, ⟨true, false, false⟩, true⟩
  | .hoOffer c src _ _ _ _ _ => some ⟨c, src, ⟨false, true, false⟩, true⟩
  | .hoCancel c src _ _ => some ⟨c, src, ⟨false, true, false⟩, true⟩
  | .hoRebuild c src _ => some ⟨c, src, ⟨true, false, true⟩, true⟩
  | .hoProbe c src _ => some ⟨c, src, ⟨false, true, true⟩, true⟩
  | .cruQueueCreate c src _ _ _ => some ⟨c, src, ⟨false, false, true⟩, false⟩
  | .cruQueueDelete c src _ => some ⟨c, src, ⟨false, false, false⟩, false⟩
  | .cruJob c src _ _ => some ⟨c, src, ⟨true, false, false⟩, true⟩
  | .cruRowop c src _ => some ⟨c, src, ⟨true, false, false⟩, false⟩
  | .spcBegin c src _ => some ⟨c, src, ⟨false, true, false⟩, false⟩
  | .spcVerify c src _ => some ⟨c, src, ⟨false, true, false⟩, false⟩
  | .spcAbandon c src _ => some ⟨c, src, ⟨false, true, false⟩, false⟩
  | .spcGovern c src _ _ _ => some ⟨c, src, ⟨false, false, false⟩, true⟩
  | .gafLoad c src _ => some ⟨c, src, ⟨false, false, true⟩, false⟩
  | .gafUnload c src _ => some ⟨c, src, ⟨false, false, false⟩, false⟩
  | .gafInvoke c src _ _ _ => some ⟨c, src, ⟨false, false, false⟩, false⟩
  | .gafQuery c src _ => some ⟨c, src, ⟨false, false, false⟩, false⟩
  | .fabPd c src _ _ _ => some ⟨c, src, ⟨true, false, false⟩, false⟩
  | .fabReg c src _ _ _ _ _ => some ⟨c, src, ⟨false, false, true⟩, false⟩
  | .fabRevoke c src _ => some ⟨c, src, ⟨false, false, false⟩, false⟩
  | .fabOwner c src _ _ _ => some ⟨c, src, ⟨false, false, false⟩, false⟩
  | .fabConnOpen c src _ _ _ _ _ => some ⟨c, src, ⟨false, false, true⟩, false⟩
  | .fabConnClose c src _ => some ⟨c, src, ⟨false, false, false⟩, false⟩
  | .fabOp c src _ => some ⟨c, src, ⟨false, false, false⟩, false⟩
  | .fabRoce c src _ => some ⟨c, src, ⟨false, false, true⟩, false⟩
  | .pfxChain c src _ _ _ _ => some ⟨c, src, ⟨false, false, false⟩, true⟩
  | .pfxPublish c src _ _ _ => some ⟨c, src, ⟨false, false, false⟩, true⟩
  | .pfxLookup c src _ _ _ => some ⟨c, src, ⟨false, false, false⟩, false⟩
  | .pfxWrite c src _ _ _ _ _ => some ⟨c, src, ⟨true, false, false⟩, false⟩
  | .pfxUnpin c src _ _ => some ⟨c, src, ⟨true, false, false⟩, true⟩
  | .tierMove c src _ _ _ _ _ => some ⟨c, src, ⟨false, false, false⟩, true⟩
  | .tierLend c src _ _ => some ⟨c, src, ⟨true, false, false⟩, false⟩
  | .tierRecall c src _ _ => some ⟨c, src, ⟨true, false, false⟩, false⟩
  | .tierT2Pool c src _ _ _ _ => some ⟨c, src, ⟨true, false, false⟩, false⟩
  | .tierFragWhere c src _ _ => some ⟨c, src, ⟨false, false, false⟩, true⟩
  | .tierFragList c src _ _ => some ⟨c, src, ⟨true, false, false⟩, false⟩
  | .tierFragDrop c src _ _ _ => some ⟨c, src, ⟨true, false, false⟩, false⟩
  | .secCert c src => some ⟨c, src, ⟨false, true, false⟩, false⟩
  | .secAttest c src _ => some ⟨c, src, ⟨false, true, false⟩, false⟩
  | .secKeyImport c src _ => some ⟨c, src, ⟨false, true, true⟩, false⟩
  | .secKeyDestroy c src _ _ => some ⟨c, src, ⟨false, true, true⟩, false⟩
  | .secPeer c src _ _ _ _ => some ⟨c, src, ⟨true, true, false⟩, false⟩
  | .secOwn c src _ => some ⟨c, src, ⟨true, true, false⟩, false⟩
  | .secCfgWrite c src _ _ => some ⟨c, src, ⟨true, true, false⟩, false⟩
  | .secFwStage c src _ => some ⟨c, src, ⟨true, true, false⟩, false⟩
  | .secFwCommit c src _ => some ⟨c, src, ⟨true, true, false⟩, false⟩
  | .relExpect c src _ _ _ => some ⟨c, src, ⟨true, true, false⟩, false⟩
  | .relShadow c src _ _ _ _ => some ⟨c, src, ⟨true, true, false⟩, false⟩
  | .relIsolate c src => some ⟨c, src, ⟨true, true, false⟩, false⟩
  | .relInject c src _ _ _ => some ⟨c, src, ⟨true, true, false⟩, false⟩
  | .relMismatchList c src _ _ => some ⟨c, src, ⟨true, true, false⟩, false⟩
  | _ => none

end Sys2Proof.Machine
end

