-- ==== Sys2Proof/Certificates/Slice0/Obligations.lean ====
section
/-! DEFINITION. The statements about the model, for the provers. Each docstring names the rules of the spec that it formalises and, where it rests on
choices of the model's own, the rows of notes/assumptions/ that record them. -/
open Sys2Proof Sys2Proof.Machine

/-- A step takes the command at the front of the queue and is its execution with the queue's rest; on an empty queue (the model's choice, note 8) only time passes: the hub's count and each
channel's local time do not go back, and no register, context, page, frame, ring or output changes. The model's own choices in it: notes 8, 12. -/
def Obligations.Steps : Prop :=
  (∀ (i : Instr) (s : State), step { s with pending := i :: s.pending } = exec i s) ∧
  (∀ (i : Instr) (rest : List Instr) (s : State), s.pending = i :: rest → step s = exec i { s with pending := rest }) ∧
  (∀ s : State, s.pending = [] → ∃ t, step s = .next t ∧ t.pending = [] ∧ t.hub = { s.hub with time := t.hub.time } ∧ s.hub.time ≤ t.hub.time ∧
    ∀ c, (s.ch c).time ≤ (t.ch c).time ∧ t.ch c = { s.ch c with time := (t.ch c).time, fresh := (t.ch c).fresh, mtr := (t.ch c).mtr } ∧
      ((s.ch c).mtr.absent = false → (t.ch c).mtr = (s.ch c).mtr))

/-- R49, R54, R73, R386, R461 and R497, with the choices of notes 1 and 3: after reset no command waits, every channel serves with its table ready, every slot FREE at GENERATION 0, the free
queue of slots 0 to 16,383 in order, and slots withheld for 100 ms; memory lists nothing; every function that is present is STOPPED; the bus is normal, no meter is fitted, and the module is
tidy. The model's own choices in it: notes 1, 2, 3. -/
def Obligations.ResetState : Prop :=
  State.reset.pending = [] ∧ State.reset.tidy = true ∧ State.reset.hub.bus = .normal ∧ State.reset.hub.meter = none ∧
  ∀ c, let x := State.reset.ch c
    x.num = chNum c ∧ x.time = 0 ∧ x.serves = true ∧ x.regsLive = true ∧ x.ctx.ready = true ∧ x.ctx.holdUntil = some 100000000 ∧ x.ctx.freeQ = [(0, 16384)] ∧
    (∀ slot, x.entry slot = Entry.free) ∧ Entry.free.state = .free ∧ Entry.free.gen = 0 ∧ x.hbm = [] ∧ x.eid = none ∧ x.rel.mode = .serving ∧ x.pwr.st = .c0 ∧
    x.actingRole = .unassigned ∧ (∀ t, x.tag t = 0) ∧ (∀ f n, (x.ring f n).en = false) ∧ (∀ n, x.fnState n = .stopped ∨ x.fnState n = .absent)

/-- Every step keeps every memory of every channel in its one canonical form, and leaves no event for PF0's ring unwritten: from every state that is so, not only those that runs reach. The
model's own choices in it: note 10. -/
def Obligations.EveryStepTidy : Prop :=
  ∀ s t : State, s.tidy = true → step s = .next t → t.tidy = true

/-- R38: every command completes, and keeps the queue; one that acts on a channel changes no other channel, and of the hub at most its event ring, its link and its outputs; one that acts on the
hub changes no channel. What a command of a channel does to that channel and to the hub depends on the two alone. The model's own choices in it: note 11. -/
def Obligations.ChannelIsolation : Prop :=
  ∀ (i : Instr) (s : State), ∃ t, exec i s = .next t ∧ t.pending = s.pending ∧
    (∀ c, scopeOf i = .channel c →
      (∀ d, d ≠ c → t.ch d = s.ch d) ∧ t.hub.meter = s.hub.meter ∧ t.hub.bus = s.hub.bus ∧ t.hub.ide = s.hub.ide ∧ t.hub.pci = s.hub.pci ∧ t.hub.vin = s.hub.vin ∧
      t.hub.plugged = s.hub.plugged ∧ t.hub.drainSel = s.hub.drainSel ∧
      ∀ s' : State, s'.ch c = s.ch c → s'.hub = s.hub → ∃ t', exec i s' = .next t' ∧ t'.ch c = t.ch c ∧ t'.hub = t.hub) ∧
    (scopeOf i = .hub → ∀ d, t.ch d = s.ch d)

/-- R84, R89, R365, R372, R387 and R448: of the 67 commands of the base programs, one of a channel that does not serve is ignored; one of a VF that only the PF may call completes with 0x78, one
that a channel in SHADOW does not take with 0x29, one of a slot without a tenant tag with 0xB0, and one on contexts while the table is rebuilt with 0x29: in that order, and nothing else
happens. The model's own choices in it: note 7. -/
def Obligations.Admission : Prop :=
  ∀ (i : Instr) (s : State) (k : BaseCall), callOf i = some k →
    let x := s.ch k.ch
    let ends := fun st => exec i s = .next (s.after k.ch (x.complete k.src st 0))
    let called := k.gate.pfOnly = false ∨ k.src.vf = none
    let taken := called ∧ (x.rel.mode ≠ .shadow ∨ k.gate.shadowOk = true)
    let tagged := (k.gate.needTag = false ∧ k.src.vf = none) ∨ x.tag k.src.slot ≠ 0
    x.fab.ended = [] →
    (x.serves = false → x.sec.mode ≠ .updating → exec i s = .next (s.after k.ch x)) ∧
    (x.serves = true →
      (¬ called → ends 0x78) ∧ (called → ¬ taken → ends 0x29) ∧ (taken → ¬ tagged → ends 0xB0) ∧
      (taken → tagged → k.onTable = true → x.ctx.ready = false → ends 0x29))

/-- R58, R59, R60, R369, R370, R376 and R378: an event, the completion of a command and an interrupt change nothing of a channel but its host port, its outputs, and, of its registers,
CHN_EVT_DROP; each adds its own output, and takes none away; a completion leaves the event rings where no record of it fails, and an event leaves every ring pair. The model's own choices in
it: notes 15, 20. -/
def Obligations.RecordFrames : Prop :=
  ∀ (x : Chan) (code : Nat) (ten : Option Nat) (subject detail : Nat) (src : Src) (status result : Nat) (f : PciFn) (v : Nat),
    let only := fun (y : Chan) => y = { x with host := y.host, out := y.out, regs := y.regs } ∧ (∀ off, off ≠ Reg.CHN_EVT_DROP → y.rd off = x.rd off) ∧ ∃ l, y.out = l ++ x.out
    let e := x.event code ten subject detail
    let d := x.complete src status result
    only e ∧ only d ∧ only (x.interrupt f v) ∧
    .event (eventDef code).code (eventDef code).sev ten subject detail ∈ e.out ∧ .done src status result ∈ d.out ∧
    e.host.rings = x.host.rings ∧ (x.interrupt f v).regs = x.regs ∧
    ((x.dmaFault src.fn = none ∨ (x.ring src.fn src.n).err = true) → d.host.evqs = x.host.evqs ∧ d.regs = x.regs)

/-- R16, R17 and R19: a write to a register of the channel window changes each field that the access reaches by its own access type: RW takes the written bits, RWL takes them only where every
function that owns it is STOPPED, W1C clears the bits written as 1, RO and WO keep; a field that the access does not reach keeps its bits, and every other register is unchanged but
CHN_EVT_DROP, which the locked-write event may count. A write where no register is defined has no effect. -/
def Obligations.RegisterFields : Prop :=
  ∀ (x : Chan) (off : Nat) (a : Access),
    (findReg channelRegs off = none → x.writeReg off a = x) ∧
    ∀ (d : RegDesc) (ix : List Nat), findReg channelRegs off = some (d, ix) → x.absentPortReg off (ix.headD 0) = false →
      let y := x.writeReg off a
      (off ≠ Reg.CHN_EVT_DROP → ∀ f ∈ d.fields, y.fget off f.hi f.lo =
        if reaches a f.hi f.lo = false then x.fget off f.hi f.lo
        else match f.acc with
          | .rw => bits (a.apply (x.rd off)) f.hi f.lo
          | .rwl o => if x.lock o (ix.headD 0) = none then bits (a.apply (x.rd off)) f.hi f.lo else x.fget off f.hi f.lo
          | .w1c => x.fget off f.hi f.lo &&& (2 ^ (f.hi + 1 - f.lo) - 1 - bits (a.apply 0) f.hi f.lo)
          | .ro => x.fget off f.hi f.lo
          | .wo => x.fget off f.hi f.lo) ∧
      ∀ o, o ≠ off → o ≠ Reg.CHN_EVT_DROP → y.rd o = x.rd o

/-- R16, R41, R52, R54, R55 and R366: a register write to a channel window that answers is the write of its fields where no command of its own does it, and none where the window does not answer;
a VF window and PF0 take their ring base registers, of 4 KiB granules, while the ring is disabled; CHN_EID takes effect while every port is STOPPED and raises the locked-write event
otherwise; and a write of CTX_PEEK_SEL captures the image of the entry. The model's own choices in it: notes 9, 30. -/
def Obligations.RegisterWrites : Prop :=
  ∀ (s : State) (c : ChId) (off : Nat) (a : Access) (t i n : Nat) (d : RegDesc) (ix : List Nat),
    let x := s.ch c
    let nx := fun (i : Instr) (y : Chan) => exec i s = .next (s.after c y)
    let v := a.apply (x.rd Reg.CHN_EID)
    let base := fun old => bits (a.apply old) 63 12 * 4096
    let r := x.ring (.vf t) i
    (x.regsLive = true → x.ownRow off = false → (off < 0xB10000 ∨ 0xB20000 ≤ off) → schedOffset off = none → off ≠ Reg.TM_SMP_CFG →
      (∀ j < 16, off ≠ Reg.REL_HB_PEER j) → nx (.registerWrite (.ch c) off a) (x.writeReg off a)) ∧
    (x.regsLive = false → x.sec.mode ≠ .recovery → nx (.registerWrite (.ch c) off a) x) ∧
    (x.serves = true → t < 16 → x.barLive (.vf t) = true → findReg vfRegs off = some (d, ix) → ix.headD 0 = i → r.en = false →
      (d.name = "TEN_SQ_BASE" → nx (.registerWrite (.vf c t) off a) (x.setRing (.vf t) i { r with sqBase := base r.sqBase })) ∧
      (d.name = "TEN_CQ_BASE" → nx (.registerWrite (.vf c t) off a) (x.setRing (.vf t) i { r with cqBase := base r.cqBase }))) ∧
    (s.hub.barLive = true → exec (.registerWrite .hub 0x4000 a) s = .next (s.withHub { s.hub with evq := { s.hub.evq with base := base s.hub.evq.base } })) ∧
    (x.regsLive = true → x.portLock = some n → nx (.chnEidWrite c a) ((x.lockedWrite Reg.CHN_EID n).serveEnded serveFuel)) ∧
    (x.regsLive = true → x.portLock = none → nx (.chnEidWrite c a) ((x.setEid (v.testBit 63) (bits v 17 0)).keepHb.serveEnded serveFuel)) ∧
    (x.regsLive = true → reaches a 13 0 = true →
      let slot := bits (a.apply x.ctx.peekSel) 13 0
      nx (.ctxPeekSelWrite c a) { x with ctx := { x.ctx with peekSel := slot, peekData := (x.entry slot).bytes } })

/-- R44, R46, R47 and R48, for a function that is present and is not the role: STOP of a STOPPED function succeeds with no other effect, in STARTING it is held, in RUNNING it begins STOPPING;
START outside STOPPED fails with RESULT 0x01, at an offending register with RESULT 0x04 and that register, else the function runs and CHN_CFG_EPOCH counts; a STOPPING function that no longer
quiesces is STOPPED. A register command does as the ring command, and has no completion. R32 to R36: role.stop of a running role begins the drain, with its budget of at most 600,000 ms; the
role is STOPPED once no context blocks, and runs on with RESULT 0x05 when the budget is over; role.load needs a STOPPED role and a well-formed, signed role image of this module's key;
role.start takes the role of the image. R41: when the link between the hub and a channel fails, the channel's functions report it, the hub counts the outage and writes event 0x0004; when it
is restored the hub writes event 0x0005 with the outage and the number of transactions lost. No other channel changes. The model's own choices in it: notes 23, 24, 26, 27, 28, 29. -/
def Obligations.FunctionAndRoleCommands : Prop :=
  (∀ (s : State) (c : ChId) (src : Src) (n r : Nat),
    let x := s.ch c
    let nx := fun (i : Instr) (y : Chan) => exec i s = .next (s.after c y)
    let nxS := fun (i : Instr) (y : Chan) => nx i (y.serveEnded serveFuel)
    let up := (x.startEffect n).recompute.nextEpoch
    let isPort : Prop := 0x10 ≤ n ∧ n < 0x30
    let stops := fun (i : Instr) (o : Option Src) =>
      (x.fnState n = .stopped → nx i ((x.fnResult n 0 0).completeOpt o 0 0)) ∧
      (x.fnState n = .starting → nx i (x.setFn n { x.fn n with held := some o })) ∧
      (x.fnState n = .running → ¬ isPort → nx i (x.setFn n { x.fn n with st := .stopping, owner := o })) ∧
      (x.fnState n = .running → isPort → DoesOn c i s (fun y => y.fnState n = .stopping ∧ (y.fn n).owner = o))
    let starts := fun (i : Instr) (o : Option Src) =>
      (x.fnState n ≠ .stopped → nxS i ((x.fnResult n 1 0).completeOpt o 1 0)) ∧
      (x.fnState n = .stopped → x.badReg n = some r →
        nxS i ((((x.fnResult n 4 r).completeOpt o 4 r).fnEvent n .starting .stopped).heldStop n)) ∧
      (x.fnState n = .stopped → x.badReg n = none →
        nxS i (((((up.setFn n { up.fn n with st := .running }).fnResult n 0 0).completeOpt o 0 0).fnEvent n .starting .running).heldStop n))
    x.fnPresent n = true → n ≠ 0 →
    (x.admits src ⟨true, false, false⟩ = true → stops (.fnStop c src n) (some src) ∧ starts (.fnStart c src n) (some src)) ∧
    (x.regsLive = true → n < 512 → stops (.fnStateStop c n) none ∧ starts (.fnStateStart c n) none) ∧
    (x.fnState n = .stopping → x.quiescing n = false →
      let y := ((x.setFn n { x.fn n with st := .stopped, owner := none, result := 0, badReg := 0 }).completeOpt (x.fn n).owner 0 0).fnEvent n .stopping .stopped
      nxS (.functionQuiesced c n) (if 0x10 ≤ n ∧ n < 0x30 then y.portStopped (n - 0x10) else y))) ∧
  (∀ (s : State) (c : ChId) (src : Src) (budget t : Nat) (m : ImageIn),
    let x := s.ch c
    let y := x.reach t
    let nx := fun (i : Instr) (y : Chan) => exec i s = .next (s.after c y)
    let up := (x.startEffect 0).recompute.nextEpoch
    let load := .roleLoad c src (.ok m)
    let adm := x.admits src ⟨true, false, false⟩ = true
    let reads := x.dmaFault src.fn = none
    let formed := imageFormed m = true ∧ m.tenantTag = 0 ∧ m.size ≤ 24 * 1048576
    (adm → x.fnState 0 = .running → nx (.roleStop c src budget)
      { x.setFn 0 { x.fn 0 with st := .stopping, owner := some src } with
        role := { x.role with budgetEnd := if budget = 0 then none else some (x.time + min budget 600000 * 1000000) } }) ∧
    (adm → x.fnState 0 = .stopped → x.badReg 0 = none → nx (.roleStart c src)
      (((((up.setFn 0 { up.fn 0 with st := .running }).fnResult 0 0 0).complete src 0 0).fnEvent 0 .starting .running).heldStop 0)) ∧
    (adm → x.fnState 0 ≠ .stopped → nx load (x.complete src 1 0)) ∧
    (adm → x.fnState 0 = .stopped → reads → ¬ formed → nx load (x.complete src 0x73 0)) ∧
    (adm → x.fnState 0 = .stopped → reads → formed → (m.kind ≠ 1 ∨ m.role = 0) → nx load (x.complete src 0x75 0)) ∧
    (adm → x.fnState 0 = .stopped → reads → formed → m.kind = 1 → m.role ≠ 0 → m.keyId = Config.programKeyId → m.sigOk = false → nx load (x.complete src 0x71 0)) ∧
    (adm → x.fnState 0 = .stopped → reads → formed → m.kind = 1 → m.role ≠ 0 → m.keyId = Config.programKeyId → m.sigOk = true →
      nx load ((x.putRole (roleOf m.role) m.digest (some (roleProg m))).complete src 0 0)) ∧
    (x.fnState 0 = .stopping → x.blocking = 0 → nx (.roleStopped c)
      { ((x.setFn 0 { x.fn 0 with st := .stopped, owner := none, result := 0, badReg := 0 }).completeOpt (x.fn 0).owner 0 0).fnEvent 0 .stopping .stopped with
        role := { x.role with budgetEnd := none } }) ∧
    (x.role.budgetEnd = some t → x.fnState 0 = .stopping → 0 < x.blocking → nx (.roleStopAbandoned c)
      (({ y.setFn 0 { y.fn 0 with st := .running, owner := none } with role := { y.role with budgetEnd := none } }.fnResult 0 5 0).completeOpt (y.fn 0).owner 5 y.blocking))) ∧
  (∀ (s : State) (c : ChId) (lost ns : Nat),
    let x := s.ch c
    let h := s.hub
    let i := chNum c
    let vfs := (List.range (x.pci .pf).numVfs).map PciFn.vf
    let down := { x with host := { x.host with linkUp := false } }
    let hUp := { h with lost := h.lost.set i lost, time := max h.time (h.downAt.getD i 0 + ns) }
    let hDown := { h with downCnt := satAdd 16 h.downCnt 1, lost := h.lost.set i 0, downAt := h.downAt.set i h.time }
    let nx := fun (m : Instr) (h' : Hub) (y : Chan) => exec m s = .next { s.setCh c y.settle with hub := h'.events y.toHub }
    (x.host.linkUp = true → nx (.hubLinkDown c) (hDown.event 0x0004 i 0) ((PciFn.pf :: vfs).foldl (fun y f => y.emit (.aer f 2)) down)) ∧
    (x.host.linkUp = false → nx (.hubLinkRestored c lost ns) (hUp.event 0x0005 i ns) { x with host := { x.host with linkUp := true } }))

/-- R84: ctx.open makes its checks in order, each with its status and no other effect but an event: no endpoint id, the role, role.stop, the operands, an entry of the request that is live or
RETIRED, the quota, no free slot, and metering paused; else the slot at the head of the free queue takes the next generation and the entry of R65, in PREFILLING, or in DECODING with bit 0 of
FLAGS, and the command gives its CTXH and EPOCH 1. The model's own choices in it: notes 33, 37. -/
def Obligations.ContextOpen : Prop :=
  ∀ (s : State) (c : ChId) (src : Src) (req prio budget profile red flags slot gen : Nat) (y : Chan) (e : Nat × Entry) (es : List (Nat × Entry)),
    let x := s.ch c
    let t := src.slot
    let i := Instr.ctxOpen c src req prio budget profile red flags
    let nx := fun (y : Chan) => exec i s = .next (s.after c y)
    let record := fun h epoch => leBytes 8 h ++ leBytes 4 epoch
    let operands := prio ≤ 7 ∧ flags ≤ 3 ∧ profile ≤ 15 ∧ x.profOk profile = true ∧ (x.geom profile).redunOk red = true
    let live := (x.entriesOf t req).filter (fun e => decide (e.2.state ≠ .retired))
    let deadline := if budget = 0 then 0 else x.time + budget
    x.admitsCtx src ⟨false, false, true⟩ = true →
    (x.eid = none → nx (x.complete src 0x2A 0)) ∧
    (x.eid ≠ none → x.roleOpens (flags.testBit 0) = false → nx (x.complete src 0x2E 0)) ∧
    (x.eid ≠ none → x.roleOpens (flags.testBit 0) = true → x.fnState 0 = .stopping → nx (x.complete src 0x2F 0)) ∧
    (x.eid ≠ none → x.roleOpens (flags.testBit 0) = true → x.fnState 0 ≠ .stopping →
      (¬ operands → nx (x.complete src 0x28 0)) ∧
      (operands → live = e :: es → nx (x.completeX src 0x25 (record (x.handle e.1) e.2.epoch))) ∧
      (operands → live = [] → x.entriesOf t req ≠ [] → nx (x.complete src 0x26 0)) ∧
      (operands → x.entriesOf t req = [] →
        (x.quotaFull t = true → nx ((x.quotaEvent t).complete src 0x24 0)) ∧
        (x.quotaFull t = false → x.noSlot = true → nx (x.noSlotEvent.complete src 0x23 0)) ∧
        (x.quotaFull t = false → x.noSlot = false → x.paused t = true → nx (x.complete src 0xD0 0)) ∧
        (x.quotaFull t = false → x.noSlot = false → x.paused t = false → x.nextSlot = some (slot, gen, y) → x.time + budget < 2 ^ 64 →
          let entry := { Entry.free with
            gen := gen, epoch := 1, req := req, tag := x.tag t, tslot := t, prio := prio, profile := profile, format := (x.geom profile).format, red := red, deadline := deadline,
            pgt := mapOf slot, governor := x.govStart, isPrivate := flags.testBit 1 || x.flag (Reg.SEC_TEN_CFG t) 63 }
          let z := y.openSlot slot entry (if flags.testBit 0 = true then .decoding else .prefilling)
          nx (z.completeX src 0 (record (z.handle slot) 1)))))

/-- R65, R67, R70, R75, R82 and R83, for a command whose handle names a context that its caller may reach: ctx.seal waits for what was admitted; ctx.retire of a RETIRED context succeeds and
drains one that is neither OFFERED nor INBOUND; ctx.query gives the 128 bytes of the entry; ctx.set changes what its mask names; ctx.signal raises EVC3 and gives its value. A handle of
another generation or EID completes with 0x20 or 0x21, counted and reported; ctx.find gives the handle of the live entry of a request. The model's own choices in it: notes 32, 33, 34, 35. -/
def Obligations.ContextCommands : Prop :=
  ∀ (s : State) (c : ChId) (src : Src) (h slot req mask prio budget red amount st : Nat) (f : Nat × Entry) (fs : List (Nat × Entry)),
    let x := s.ch c
    let e := x.entry slot
    let nx := fun (i : Instr) (y : Chan) => exec i s = .next (s.after c y)
    let adm := fun a => x.admitsCtx src a = true
    let live := (x.entriesOf src.slot req).filter (fun e => decide (e.2.state ≠ .retired))
    let deadline := if mask.testBit 1 = true then (if budget = 0 then 0 else x.time + budget) else 0
    (x.checkHandle h = .error st → adm ⟨false, true, false⟩ → nx (.ctxQuery c src h) ((x.badHandle st h false).complete src st 0)) ∧
    (adm ⟨false, true, true⟩ → live = f :: fs → nx (.ctxFind c src req) (x.complete src 0 (x.handle f.1))) ∧
    (adm ⟨false, true, true⟩ → x.entriesOf src.slot req = [] → nx (.ctxFind c src req) (x.complete src 0x20 0)) ∧
    (x.owns src h slot = true →
      (adm ⟨false, false, false⟩ → e.state = .prefilling → x.ctx.sealing.find slot = none →
        nx (.ctxSeal c src h) { x with ctx := { x.ctx with sealing := x.ctx.sealing.put slot src } }) ∧
      (adm ⟨false, false, false⟩ → e.state ≠ .prefilling → nx (.ctxSeal c src h) (x.complete src 0x22 0)) ∧
      (adm ⟨false, true, false⟩ → e.state = .retired → nx (.ctxRetire c src h) ((x.complete src 0 0).serveEnded serveFuel)) ∧
      (adm ⟨false, true, false⟩ → (e.state = .offered ∨ e.state = .inbound) → nx (.ctxRetire c src h) ((x.complete src 0x27 0).serveEnded serveFuel)) ∧
      (adm ⟨false, true, false⟩ → (e.state = .prefilling ∨ e.state = .sealed ∨ e.state = .decoding ∨ e.state = .parked ∨ e.state = .faulted) →
        nx (.ctxRetire c src h) ((x.retire slot src).serveEnded serveFuel)) ∧
      (adm ⟨false, true, false⟩ → nx (.ctxQuery c src h) (x.completeX src 0 e.bytes)) ∧
      (adm ⟨false, false, false⟩ → (e.state = .prefilling ∨ e.state = .sealed ∨ e.state = .decoding ∨ e.state = .parked) → mask < 4 → mask ≠ 0 →
        (mask.testBit 0 = true → prio ≤ 7) → x.time + budget < 2 ^ 64 →
        nx (.ctxSet c src h mask prio budget red) (((x.update slot 3 (fun e => e.settings mask prio deadline red)).complete src 0 0).serveEnded serveFuel)) ∧
      (adm ⟨false, false, false⟩ → (e.state = .retired ∨ e.state = .faulted) → nx (.ctxSignal c src h amount) (x.complete src 0x22 0)) ∧
      (adm ⟨false, false, false⟩ → e.state ≠ .retired → e.state ≠ .faulted → e.state ≠ .inbound → 0 < amount → amount < 2 ^ 32 →
        let y := x.addCtr (.bound slot 3) amount
        nx (.ctxSignal c src h amount) (y.complete src 0 (y.entry slot).evc3)))

/-- R65, R67, R69, R73, R76, R86 and R88: the seal completes with the minimum fill once nothing is staged; a drained context is RETIRED; OVERRUN is set once for each DEADLINE; a RETIRED slot is
FREE 100 ms after it entered that state, at the tail of the free queue; slots are withheld until the time of R73; a failed journal write degrades the journal; and a snapshot takes the table
at the present JSEQ into the older buffer. The model's own choices in it: notes 6, 35, 36. -/
def Obligations.ContextTimers : Prop :=
  ∀ (s : State) (c : ChId) (slot cause t : Nat) (src : Src) (r : JRec),
    let x := s.ch c
    let e := x.entry slot
    let j := x.ctx.journal
    let nx := fun (i : Instr) (y : Chan) => exec i s = .next (s.after c y)
    (x.ctx.sealing.find slot = some src → e.state = .prefilling → (x.map slot).staged = [] → nx (.sealComplete c slot) (x.sealNow slot src)) ∧
    (e.state = .draining → x.drained slot = true → e.refs = 0 → nx (.drainComplete c slot) ((x.finalCounts e.tslot).toRetired slot 0 id)) ∧
    (e.state = .draining → x.drained slot = true → e.refs ≠ 0 → e.sub ≠ 1 → nx (.drainComplete c slot) ((x.freeGroups slot e.span).enter slot .draining 1 id)) ∧
    (e.deadline ≠ 0 → e.state ≠ .free → e.state ≠ .retired → x.ctx.deadlineDone.find slot ≠ some e.deadline →
      let y := (x.reach e.deadline).update slot 3 (fun e => { e with overrun := true })
      let z := { y with ctx := { y.ctx with deadlineDone := y.ctx.deadlineDone.put slot e.deadline } }
      nx (.deadlineReached c slot) ((z.bump Reg.CTX_EVENT_CNT 63 32 1).event 0x1003 (some e.tslot) (z.handle slot) e.deadline)) ∧
    (e.state = .retired →
      let y := ((x.reach (e.stateTime + 100000000)).moveTo slot .free 0 id).noHand slot
      nx (.tombstoneEnd c slot) { y with ctx := { y.ctx with freeQ := pushRun y.ctx.freeQ slot } }) ∧
    (x.ctx.holdUntil = some t → let y := x.reach t; nx (.startupSlotHoldEnd c) { y with ctx := { y.ctx with holdUntil := none } }) ∧
    (j.recs.find? (fun r => decide (r.slot = slot ∧ r.cause = cause)) = some r →
      nx (.journalWriteFail c slot cause)
        ({ x with ctx := { x.ctx with journal := { j with degraded := true, ringPos := (j.ringPos + 1) % 1048576 } } }.event 0x1009 none r.seq j.ringPos)) ∧
    DoesOn c (.snapshotDue c) s (fun y =>
      let n := y.ctx.journal
      n.seq = j.seq ∧ n.sinceSnap = 0 ∧ n.degraded = false ∧ y.ctx.entries = x.ctx.entries ∧
      (if j.snapA.seq ≤ j.snapB.seq then n.snapA = ⟨j.seq, x.ctx.entries, true⟩ ∧ n.snapB = j.snapB else n.snapB = ⟨j.seq, x.ctx.entries, true⟩ ∧ n.snapA = j.snapA))

/-- R107, R108, R109, R114, R122 and R123: pg.window of a context that appends gives the base, the region and the lengths of its append window; pg.attach to a fitting owner on this channel
raises PREFIX_REFS and gives 16 × n tokens, and asks an owner on another channel; pg.export writes the extent page with its CRC to the host, which a private context refuses; pg.import checks
that CRC and places the pages; pg.scale loads the table of a valid profile while the role is STOPPED. The model's own choices in it: notes 41, 42, 43. -/
def Obligations.PageCommands : Prop :=
  ∀ (s : State) (c : ChId) (src : Src) (h slot pd r owner n o layer first log2 a p : Nat) (y z w : Chan) (body b : List Byte),
    let x := s.ch c
    let e := x.entry slot
    let geo := x.geom e.profile
    let nx := fun (i : Instr) (y : Chan) => exec i s = .next (s.after c y)
    let nxS := fun (i : Instr) (y : Chan) => nx i (y.serveEnded serveFuel)
    let adm := fun pf => x.admitsCtx src ⟨pf, false, false⟩ = true
    let gs := (List.range (2 ^ log2 / 16)).map (fun i => first / 16 + i)
    let live := gs.flatMap (fun g => (List.range geo.parts).filterMap (fun j => (x.pageAddr slot g layer j 0).map (fun a => (a, geo.partBytes))))
    let head := extentHead geo first layer log2 (x.handle slot) (min (2 ^ log2) (e.committed - first))
    let data := head ++ leBytes 4 (crc32c (head ++ body)) ++ body
    let exports := (e.state = .sealed ∨ e.state = .parked ∨ e.state = .faulted)
    x.owns src h slot = true →
    (adm false → (e.state = .prefilling ∨ e.state = .decoding) → x.pdSlot pd = some e.tslot → x.needWindow slot pd src.vf.isSome = some (r, y) →
      let g := y.geom e.profile
      nx (.pgWindow c src h pd 0) (y.completeX src 0 (leBytes 8 (y.fget Reg.CHN_EID 17 0 * 2 ^ 46 + 2 ^ 44 + slot * 2 ^ 30) ++ leBytes 2 r ++ leBytes 2 0 ++ leBytes 4 (y.region r).key ++
        leBytes 2 (y.region r).gen ++ leBytes 2 0 ++ leBytes 4 g.window ++ leBytes 4 (2 ^ g.recLog2) ++ leBytes 4 e.committed))) ∧
    (adm false → (e.state ≠ .prefilling ∧ e.state ≠ .decoding) → nx (.pgWindow c src h pd 0) (x.complete src 0x22 0)) ∧
    (adm false → x.actingRole ≠ .unassigned → x.attachable slot = true → 0 < n → n ≤ 2 ^ 18 → x.paused e.tslot = false →
      (bits owner 47 30 = x.fget Reg.CHN_EID 17 0 → x.checkHandle owner = .ok o → (src.vf = none ∨ (x.entry o).tslot = e.tslot) →
        (x.ownerFits slot o n = false → nxS (.pgAttach c src h owner n) (x.complete src 0x31 0)) ∧
        (x.ownerFits slot o n = true → x.needBlocks slot n = some y →
          nxS (.pgAttach c src h owner n) (((y.raiseRefs o n).attachTo slot owner n (some o)).complete src 0 (16 * n)))) ∧
      (bits owner 47 30 ≠ x.fget Reg.CHN_EID 17 0 → x.eid ≠ none → x.needBlocks slot n = some y →
        nxS (.pgAttach c src h owner n) (x.attachRequest (bits owner 47 30) false
          { reason := 0, reqNum := 0, owner := owner / 65536 * 65536, attacher := x.handle slot, tag := e.tag, profileId := geo.id, n := n, chain := x.chainFor slot n } (some src)))) ∧
    (adm true → exports → e.isPrivate = true → nxS (.pgExport c src h layer first log2 (.host a)) ((x.privateRefused e.tslot (x.handle slot) 0x2003).complete src 0xC8 0)) ∧
    (adm true → exports → e.isPrivate = false → layer < geo.layers → 5 ≤ log2 → log2 ≤ 12 → first % 2 ^ log2 = 0 → first < 2 ^ 22 →
      x.eccReads live 4 = (true, y) → y.exportPages slot layer gs = (body, z) → z.handle slot = x.handle slot → z.dmaFault src.fn = none →
        nxS (.pgExport c src h layer first log2 (.host a)) ((z.emit (.hostWrite src.fn a data)).complete src 0 data.length)) ∧
    (adm true → e.state ≠ .inbound → nx (.pgImport c src h (.ok b)) (x.complete src 0x22 0)) ∧
    (x.admitsCtx src ⟨true, false, false⟩ = true → x.fnState 0 = .stopped → p ≤ 15 → x.profOk p = true → x.dmaFault src.fn = none →
      nx (.pgScale c src p (.ok b)) ((x.loadScale p b).complete src 0 0)) ∧
    (x.admitsCtx src ⟨true, false, false⟩ = true → x.fnState 0 ≠ .stopped → nx (.pgScale c src p (.ok b)) (x.complete src 0x35 0)) ∧
    (adm true → e.state = .inbound → ((x.hand slot).bind (fun k => k.rebuild)).isSome = true → x.dmaFault src.fn = none →
      let f := fun off n => leVal ((b.drop off).take n)
      let per := geo.parts * geo.partBytes
      let pages := (List.range ((f 32 4 + 15) / 16)).map (fun i => f 4 4 / 16 + i)
      let formed := f 0 4 = geo.id ∧ f 11 1 = geo.format ∧ f 12 4 = geo.partBytes ∧ f 16 1 = geo.parts ∧ f 8 2 < geo.layers ∧ 5 ≤ f 10 1 ∧ f 10 1 ≤ 12 ∧ f 4 4 % 2 ^ f 10 1 = 0 ∧
        f 32 4 ≤ 2 ^ f 10 1 ∧ b.length = 64 + 2 ^ f 10 1 / 16 * per
      (¬ formed → nx (.pgImport c src h (.ok b)) (x.complete src 0x32 0)) ∧
      (formed → f 60 4 ≠ crc32c (b.take 60 ++ b.drop 64) →
        nx (.pgImport c src h (.ok b)) ((x.event 0x2007 none (x.handle slot) (f 4 4 + f 8 2 * 2 ^ 32)).complete src 0x33 0)) ∧
      (formed → f 60 4 = crc32c (b.take 60 ++ b.drop 64) → f 4 4 + f 32 4 ≤ e.committed → x.importRoom slot (f 8 2) pages = some w →
        nx (.pgImport c src h (.ok b)) ((pages.foldl (fun c g => c.importPage slot (f 8 2) g (min 16 (f 32 4 + f 4 4 - 16 * g))
          ((b.drop (64 + (g - f 4 4 / 16) * per)).take per)) w).complete src 0 (f 32 4))))

/-- R105, R118 and R119: the earliest unit staged for a layer, token and unit number is placed once it has a frame: its elements and its scale go to their places in the page, the unit counts as
placed, and its layer's fill and the commit advance; a frame at the head of the cullet list is cleared to zeros and free, or, where clearing fails, withdrawn with event 0x2006. The model's
own choices in it: notes 37, 38. -/
def Obligations.Placement : Prop :=
  ∀ (s : State) (c : ChId) (slot layer token unit f : Nat) (u : Staged) (y : Chan) (fs : List Nat),
    let x := s.ch c
    let geo := x.geom (x.entry slot).profile
    let hd := geo.unitAt unit
    let tile := geo.tileOf hd.1 hd.2.1
    let at_ := geo.rowAt tile.2 (token % 16)
    let put := (y.pageWrite slot (token / 16) layer tile.1 (at_.1 + hd.2.2 * u.elems.length) u.elems).pageWrite slot (token / 16) layer tile.1 (at_.2 + hd.2.2 * u.scale.length) u.scale
    let m := put.map slot
    let k := layer * 2 ^ 22 + token
    let nx := fun (i : Instr) (y : Chan) => exec i s = .next (s.after c y)
    let rest := { x with pool := { x.pool with cullet := fs } }
    ((x.map slot).staged.find? (fun u => decide (u.layer = layer ∧ u.token = token ∧ u.unit = unit)) = some u → x.needFrame slot (token / 16) layer tile.1 = some y → m.region = none →
      nx (.unitPlaced c slot layer token unit) (((put.setMap slot { m with
        staged := m.staged.erase u, placed := if token < m.fillOf layer then m.placed else m.placed.put k (m.placed.getD k 0 ||| 2 ^ unit) }).advance slot layer).unitDone u.conn u.psn)) ∧
    (x.pool.cullet = f :: fs →
      nx (.frameCleared c true) (({ rest with hbm := Memory.clear x.hbm (x.frameAddr f) (x.granOf f * 4096) }.eccWrote (x.frameAddr f) (x.granOf f * 4096)).freeFrame f) ∧
      nx (.frameCleared c false) ({ rest with pool := { rest.pool with withdrawn := x.pool.withdrawn ++ [f] } }.event 0x2006 none f (x.granOf f)))

/-- R141, R143, R144 and R150: ho.offer of a context that may be offered makes it OFFERED with its region and sends OFFER (returning with 0x49 where no session stands), and refuses the others,
each with its status; ho.cancel before AWAIT_ACCEPT returns the context and completes ho.offer with 0x4C, and in AWAIT_ACCEPT sends CANCEL and waits; ho.probe lists the entries of a request.
The model's own choices in it: notes 45, 46, 54. -/
def Obligations.HandoffCommands : Prop :=
  ∀ (s : State) (c : ChId) (src : Src) (h slot dst stripe member r req : Nat) (push force : Bool) (y : Chan) (k : Handoff),
    let x := s.ch c
    let e := x.entry slot
    let d := dst % 2 ^ 18
    let nx := fun (i : Instr) (y : Chan) => exec i s = .next (s.after c y)
    let nxS := fun (i : Instr) (y : Chan) => nx i (y.serveEnded serveFuel)
    let offer := Instr.hoOffer c src h dst push stripe member
    let adm := x.admitsCtx src ⟨false, true, false⟩ = true
    let may := e.state = .sealed ∨ e.state = .parked ∨ (e.state = .decoding ∧ e.sub = 0 ∧ e.provisional = 0)
    let room := x.countCtx (fun e => decide (e.state = .offered)) < x.hoLimit 15 0
    let sent := fun (y : Chan) (region : Option Nat) (word : Nat) =>
      let z := (y.stopMove slot 0xAB).enter slot .offered 0 (fun e => { e with ret := retCode e.state, peer := d * 2 ^ 30, fault := 0 })
      let w := z.setHand slot { Handoff_start (y.offerOf slot push stripe member word) (some src) with region := region, due := z.time + z.offerRetry }
      (w.session d = true → nxS offer (w.sendOffer slot false)) ∧ (w.session d = false → nxS offer (w.returnOffer slot 0x49 0))
    let l := x.ofRequest req (x.tag src.slot)
    (adm → x.eid = none → nxS offer (x.complete src 0x44 0)) ∧
    (adm → x.eid ≠ none → x.riding = true → nxS offer (x.complete src 0xF0 0)) ∧
    (adm → x.eid ≠ none → x.riding = false → x.owns src h slot = true →
      (¬ may → nxS offer (x.complete src 0x22 0)) ∧
      (may → e.refs ≠ 0 → nxS offer (x.complete src 0x42 0)) ∧
      (may → e.refs = 0 → e.epoch = 0xFFFFFFFF → nxS offer (x.complete src 0x43 0)) ∧
      (may → e.refs = 0 → e.epoch ≠ 0xFFFFFFFF → d = x.fget Reg.CHN_EID 17 0 → nxS offer (x.complete src 0x44 0)) ∧
      (may → e.refs = 0 → e.epoch ≠ 0xFFFFFFFF → d ≠ x.fget Reg.CHN_EID 17 0 → ¬ room → nxS offer (x.complete src 0x4B 0)) ∧
      (may → e.refs = 0 → e.epoch ≠ 0xFFFFFFFF → d ≠ x.fget Reg.CHN_EID 17 0 → room →
        (push = true → sent x none 0) ∧
        (push = false → x.baseRegion (.transfer slot) 1 (x.transferSpan slot) d true = some (r, y) → sent y (some r) (y.regionField r)))) ∧
    (adm → x.owns src h slot = true → x.hand slot = some k →
      (e.state = .offered → e.sub < 2 → nxS (.hoCancel c src h force) (((x.cancelEnds slot 0).returnOffer slot 0x4C 0).complete src 0 0)) ∧
      (e.state = .offered → e.sub = 2 → force = false → k.cancel = [] →
        let z := x.sendHo (bits e.peer 47 30) 8 (HoMsg_about k.offer 0 e.peer)
        nxS (.hoCancel c src h force) (z.setHand slot { k with cancel := [src], cancelDue := z.time + z.stuckTime })) ∧
      (e.state ≠ .offered ∨ e.sub = 3 → nxS (.hoCancel c src h force) (x.complete src 0x22 0))) ∧
    (x.admitsCtx src ⟨false, true, true⟩ = true →
      nx (.hoProbe c src req) (x.completeX src 0 (leBytes 2 l.length ++ leBytes 6 0 ++ l.flatMap (fun e =>
        leBytes 8 (x.handle e.1) ++ leBytes 1 e.2.state.code ++ leBytes 1 e.2.sub ++ leBytes 2 0 ++ leBytes 4 e.2.epoch ++ leBytes 4 (e.2.punty.getD 0) ++ leBytes 4 0 ++ leBytes 8 e.2.peer))))

/-- R65, R136, R137, R139 and R142, at the source of a handoff, for messages of the peer that it offered the context to: TAKE begins the transfer, REFUSE and ABORT return the context with 0x41,
or 0x45 for a digest mismatch, ACCEPT at e + 1 takes the epoch and enters RELEASING, SUPERSEDED makes the context FAULTED; and the timers repeat OFFER, give up, end a pending cancel, move to
AWAIT_ACCEPT and end the release. The model's own choices in it: notes 46, 47, 49. -/
def Obligations.HandoffSource : Prop :=
  ∀ (s : State) (c : ChId) (peer slot : Nat) (m : HoMsg) (h : Handoff),
    let x := s.ch c
    let e := x.entry slot
    let nxS := fun (i : Instr) (y : Chan) => exec i s = .next (s.after c (y.serveEnded serveFuel))
    let begun := x.moveTo slot .offered 1 (fun e => { e with peer := m.dstH })
    let took := begun.setHand slot { h with moved := 0, peerRegion := m.region, idleDue := begun.time + begun.transferIdle, stuck := false }
    let refused := (x.cancelEnds slot 0).returnOffer slot (if m.reason = 9 then 0x45 else 0x41) m.reason
    let late := x.reach h.due
    let le := late.entry slot
    let waits := x.moveTo slot .offered 2 id
    let gone := ((x.dropHandRegion slot).freeSet slot).toRetired slot 1 id
    let ended := ((gone.sendHo (bits e.peer 47 30) 6 { HoMsg_about h.offer 0 e.peer with epoch := e.epoch }).cancelEnds slot 0x46).offerEnds slot 0 0
    e.state = .offered → x.hand slot = some h →
    (x.serves = true → x.eid ≠ none → m.version = 1 → x.ctx.ready = true → x.checkHandle m.srcH = .ok slot → bits e.peer 47 30 = peer →
      (m.epoch = e.epoch → e.sub = 0 → nxS (.take c peer m true) (if h.offer.push = true then took.pushNext slot else took)) ∧
      (m.epoch = e.epoch → e.sub ≠ 3 → nxS (.refuse c peer m true) refused) ∧
      (m.epoch = e.epoch → e.sub = 2 → h.cancel ≠ [] → nxS (.abort c peer m true) ((x.cancelEnds slot 0).returnOffer slot 0x4C m.reason)) ∧
      (m.epoch = e.epoch → e.sub ≠ 3 → h.cancel = [] → nxS (.abort c peer m true) refused) ∧
      (m.epoch = e.epoch + 1 → e.sub ≠ 3 → m.dstH = e.peer →
        nxS (.accept c peer m true) ((x.cancelEnds slot 0x46).moveTo slot .offered 3 (fun e => { e with epoch := m.epoch, peer := m.dstH }))) ∧
      nxS (.superseded c peer m true) (((x.cancelEnds slot 0x4A).returnOffer slot 0x4A 0 (some 6)).event 0x3009 (some e.tslot) (x.handle slot) m.epoch)) ∧
    (e.sub = 0 → h.tries < late.offerTries → nxS (.offerRetryExpiry c slot) ((late.setHand slot { h with tries := h.tries + 1, due := late.time + late.offerRetry }).sendOffer slot true)) ∧
    (e.sub = 0 → late.offerTries ≤ h.tries → nxS (.offerRetryExpiry c slot) (late.returnOffer slot (if late.session (bits le.peer 47 30) then 0x40 else 0x49) 0)) ∧
    (e.sub = 1 → nxS (.transferIdleSource c slot) ((x.reach h.idleDue).returnOffer slot 0x40 0)) ∧
    (e.sub = 1 → x.bodiesMoved slot = true → nxS (.transferBodiesDone c slot) ((waits.setHand slot { h with due := waits.time + waits.acceptRetry, stuck := false }).sendManifest slot)) ∧
    (e.sub = 2 → h.cancel = [] → late.time ≤ le.stateTime + late.stuckTime →
      nxS (.acceptRetrySource c slot) ((late.setHand slot { h with due := late.time + late.acceptRetry }).sendOffer slot true)) ∧
    (e.sub = 2 → h.cancel ≠ [] → nxS (.stuckTimeExpiry c slot) ((x.reach h.cancelDue).cancelEnds slot 0x40)) ∧
    (e.sub = 3 → nxS (.releaseComplete c slot) (((ended.noHand slot).bump Reg.HO_CNT 63 32 1).event 0x3001 (some e.tslot) (ended.handle slot) e.peer))

/-- R132, R138, R139 and R140, at the destination: OFFER of a request that no entry answers is admitted into the next slot, which becomes INBOUND and is answered by TAKE, or refused with the
reason that R138 gives; CANCEL of a handoff not yet accepted aborts it; MANIFEST gives the digest; a digest that does not match aborts it with reason 0x09, one that does is followed by
ACCEPT; RELEASE, or the last ACCEPT retry, lets the context arrive at epoch e + 1. The model's own choices in it: notes 47, 48, 49, 50, 51. -/
def Obligations.HandoffDestination : Prop :=
  ∀ (s : State) (c : ChId) (peer slot gen t p dl r : Nat) (ov : Bool) (m : HoMsg) (h : Handoff) (y z w v : Chan),
    let x := s.ch c
    let e := x.entry slot
    let nxS := fun (i : Instr) (y : Chan) => exec i s = .next (s.after c (y.serveEnded serveFuel))
    let hears := x.serves = true ∧ x.eid ≠ none ∧ m.version = 1
    let arrives := fun (x : Chan) (code : Nat) =>
      (((x.dropHandRegion slot).bump Reg.HO_CNT 31 0 1).event code (some (x.entry slot).tslot) (((x.dropHandRegion slot).bump Reg.HO_CNT 31 0 1).handle slot) ((x.entry slot).peer % 2 ^ 48)).arrive slot
        ((x.entry slot).epoch + 1)
    let mine := x.ctx.ready = true ∧ x.checkHandle m.dstH = .ok slot ∧ e.peer = m.srcH ∧ h.rebuild = none
    let taken := fun (v : Chan) (region : Option Nat) => v.setHand slot { Handoff_start m none with region := region, peerRegion := m.region, idleDue := v.time + v.transferIdle }
    (hears → x.ctx.ready = false → nxS (.offer c peer m true) (x.refuse peer m 3)) ∧
    (hears → x.ctx.ready = true → x.answerOffer peer m false = none →
      (x.riding = true → nxS (.offer c peer m true) (x.refuse peer m 0x10)) ∧
      (x.riding = false → x.admitReason m.tag = .error r → r ≠ 3 → r ≠ 4 → nxS (.offer c peer m true) (x.refuse peer m r)) ∧
      (x.riding = false → x.admitReason m.tag = .ok t → x.profileOf m.profileId m.format = some p → x.nextSlot = some (slot, gen, y) → y.arrivalDeadline m.budget = (dl, ov, z) →
        z.takeIn slot (x.inboundEntry m t slot gen p dl ov) = some w → x.countCtx (fun e => decide (e.state = .inbound)) < x.hoLimit 47 32 →
        (m.push = false → nxS (.offer c peer m true) (((taken w none).sendHo peer 2 { HoMsg_about m 0 (w.handle slot) with push := false, region := 0 }).pullNext slot)) ∧
        (m.push = true → w.baseRegion (.inbound slot) 2 (w.transferSpan slot) peer true = some (r, v) →
          nxS (.offer c peer m true) ((taken v (some r)).sendHo peer 2 { HoMsg_about m 0 (v.handle slot) with push := true, region := v.regionField r })))) ∧
    (hears → x.ctx.ready = true → (x.ofRequest m.req m.tag).find? (fun e => decide (e.2.state = .inbound ∧ e.2.peer = m.srcH ∧ e.2.epoch = m.epoch)) = some (slot, e) → e.sub ≠ 3 →
      nxS (.cancel c peer m true) (x.abortInbound slot 0x0C 0)) ∧
    (e.state = .inbound → x.hand slot = some h →
      (hears → mine → e.sub ≤ 1 → m.epoch = e.epoch → nxS (.manifest c peer m true) ((x.setHand slot { h with digestIn := m.digest }).verifyIf slot)) ∧
      (hears → mine → e.sub = 3 → m.epoch = e.epoch + 1 → nxS (.release c peer m true) (arrives x 0x3002)) ∧
      (e.sub < 2 → h.rebuild = none → nxS (.transferIdleDest c slot) (((x.reach h.idleDue).peerLost slot 0x0A).abortInbound slot 0x0A 0)) ∧
      (e.sub = 2 → x.receivedDigest slot e.committed h.manifest ≠ h.digestIn → nxS (.digestVerified c slot)
        (((x.bump Reg.HO_FAIL_CNT 31 16 1).event 0x3005 (some e.tslot) (x.handle slot) (groupsOf e.committed)).abortInbound slot 9 0)) ∧
      (e.sub = 2 → x.receivedDigest slot e.committed h.manifest = h.digestIn → x.needsSet slot h = false →
        let n := x.moveTo slot .inbound 3 id
        nxS (.digestVerified c slot) ((n.setHand slot { h with tries := 1, due := n.time + n.acceptRetry }).sendAccept (bits e.peer 47 30) h.offer (n.handle slot))) ∧
      (let d := x.reach h.due
       (e.sub = 3 → h.tries < d.acceptTries → nxS (.acceptRetryDest c slot)
        ((d.setHand slot { h with tries := h.tries + 1, due := d.time + d.acceptRetry }).sendAccept (bits (d.entry slot).peer 47 30) h.offer (d.handle slot))) ∧
       (e.sub = 3 → d.acceptTries ≤ h.tries → nxS (.acceptRetryDest c slot) (arrives d 0x3007))))

/-- R146, R147, R148 and R357: ho.rebuild takes the next slot as INBOUND and fences every predecessor; FENCE is answered with whether an entry of the request holds the punty, and ends one that
is inbound otherwise; a reply is recorded, HELD ends the rebuild with 0x47 and a later epoch with 0x4A; FENCE_TIME lets it go on with FORCE and ends it with 0x48 without; and the context
arrives at E + 1 once every group is there. The model's own choices in it: notes 51, 52, 53, 54. -/
def Obligations.ContextRebuild : Prop :=
  ∀ (s : State) (c : ChId) (src : Src) (peer slot gen t : Nat) (m : HoMsg) (q : RebuildIn) (l : FragLoc) (k : Handoff) (r : Machine.Rebuild) (y w d : Chan),
    let x := s.ch c
    let e := x.entry slot
    let nxS := fun (i : Instr) (y : Chan) => exec i s = .next (s.after c (y.serveEnded serveFuel))
    let hears := x.serves = true ∧ x.eid ≠ none ∧ m.version = 1
    let tag := x.tag src.slot
    let geo := x.geom q.profile
    let entry := { Entry.free with
      gen := gen, epoch := q.epoch, req := q.req, tag := tag, tslot := src.slot, profile := q.profile, format := geo.format, red := q.red, committed := q.len,
      isPrivate := x.flag (Reg.SEC_TEN_CFG src.slot) 63, pgt := mapOf slot }
    let start := { lastEpoch := q.epoch, preds := q.preds.map (fun e => ⟨e, none⟩), force := q.force, retryDue := w.time + w.offerRetry, timeDue := w.time + w.fenceTime, fenced := false, list := l : Machine.Rebuild }
    let own := x.ofRequest m.req m.tag
    let punties := own.filterMap (fun e => e.2.punty)
    let epoch := punties.foldl max 0
    let replied := { r with preds := r.preds.map (fun p => if p.eid = peer then { p with reply := some (false, m.epoch) } else p) }
    let again := { r with retryDue := (x.reach r.retryDue).time + (x.reach r.retryDue).offerRetry }
    let z := (d.dropRead slot).arrive slot (r.lastEpoch + 1)
    (x.admitsCtx src ⟨true, false, true⟩ = true → x.eid ≠ none → x.riding = false → x.dmaFault src.fn = none → q.list = .ok l → q.epoch ≠ 0xFFFFFFFF → x.admitReason tag = .ok t →
      (x.ofRequest q.req tag).find? (fun e => decide (e.2.state ≠ .retired)) = none → x.nextSlot = some (slot, gen, y) → q.profile ≤ 15 → x.profOk q.profile = true → geo.redunOk q.red = true →
      q.preds.length ≤ 4 → y.takeIn slot entry = some w → x.countCtx (fun e => decide (e.state = .inbound)) < x.hoLimit 47 32 →
      nxS (.hoRebuild c src (.ok q)) ((w.sendFences slot start).fenceOn slot (Handoff_start hoBlank (some src)) start)) ∧
    (hears → x.ctx.ready = true → punties ≠ [] → nxS (.fenceMessage c peer m true)
      (let a := x.sendHo peer 0x0B { hoBlank with reason := 1, req := m.req, tag := m.tag, epoch := epoch }
       a.event 0x300B (a.slotOfTag m.tag) m.req (1 + epoch * 2 ^ 32))) ∧
    (x.hand slot = some k → k.rebuild = some r → e.state = .inbound →
      (hears → own = [(slot, e)] → r.fenced = false → r.preds.any (fun p => p.eid == peer) = true →
        (m.reason = 1 → nxS (.fenceReply c peer m true) (x.abortInbound slot 0 0x47)) ∧
        (m.reason ≠ 1 → r.lastEpoch < m.epoch → nxS (.fenceReply c peer m true) (x.abortInbound slot 0 0x4A)) ∧
        (m.reason ≠ 1 → m.epoch ≤ r.lastEpoch → nxS (.fenceReply c peer m true) (x.fenceOn slot k replied))) ∧
      (r.fenced = false → nxS (.fenceRetry c slot) (((x.reach r.retryDue).setHand slot { k with rebuild := some again }).sendFences slot again)) ∧
      (r.fenced = false → nxS (.fenceTimeExpiry c slot) (if r.force = true then (x.reach r.timeDue).rebuildRead slot k r else (x.reach r.timeDue).abortInbound slot 0 0x48)) ∧
      (r.fenced = true → x.rebuildDigest slot r = (some false, d) → nxS (.rebuildDecoded c slot) ((d.bump Reg.HO_FAIL_CNT 31 16 1).abortInbound slot 0 0x45)) ∧
      (r.fenced = true → x.rebuildDigest slot r = (some true, d) → d.needsSet slot k = false → z.role.cur ≠ .cache → k.cmd = some src →
        nxS (.rebuildDecoded c slot) (((z.bump Reg.HO_REBUILD_CNT 63 32 1).event 0x300C (some e.tslot) (d.handle slot) (r.lastEpoch + 1)).completeX src 0
          (leBytes 8 (d.handle slot) ++ leBytes 4 (r.lastEpoch + 1)))))

/-- R155, R158, R160 and R163: cru.queue.create gives the lowest free queue slabs and a key that the spec leaves open; cru.queue.delete marks the delete point of a queue of the caller's tenant,
and completes when every posted job has been replied; a posted job is copied and accepted in order, and a host job is accepted while there is room; a job whose descriptor or handle fails
R163 is accepted with that status. The model's own choices in it: notes 57, 58. -/
def Obligations.AttentionQueues : Prop :=
  ∀ (s : State) (c : ChId) (src : Src) (pd slots kib q reply k : Nat) (y z : Chan) (l : List Nat) (image : List Byte) (posts : List (Nat × Nat)) (ok : Bool),
    let x := s.ch c
    let t := src.slot
    let u := x.queue q
    let n := ringSlabs slots kib
    let key := y.draw.1 % 2 ^ 32
    let made := y.draw.2.setQueue q { AttnQueue.init with st := .active, tenant := t, pd := pd, key := key, kib := kib, slots := slots, slabs := l }
    let nx := fun (i : Instr) (y : Chan) => exec i s = .next (s.after c y)
    let create := Instr.cruQueueCreate c src pd slots kib
    let sized := 16 ≤ slots ∧ slots ≤ 4096 ∧ 2 ^ slots.log2 = slots ∧ 4 ≤ kib ∧ kib ≤ 64 ∧ kib % 4 = 0
    let b := u.cidx % u.slots * (u.kib * 1024)
    (x.admits src ⟨false, false, true⟩ = true →
      (¬ sized → nx create (x.complete src 0x28 0)) ∧
      (sized → x.pdSlot pd ≠ some t → nx create (x.complete src 0x5B 0)) ∧
      (sized → x.pdSlot pd = some t → (List.range 1024).find? (fun q => decide ((x.queue q).st = .free)) = some q → x.quotaAllows t 0 (512 * n) = true → x.takeSlabs n 2 = some (l, y) →
        nx create (made.checkLow.completeX src 0 (leBytes 2 q ++ leBytes 2 0 ++ leBytes 4 key ++ leBytes 8 (made.fget Reg.CHN_EID 17 0 * 2 ^ 46 + 2 * 2 ^ 44 + q * 2 ^ 32))))) ∧
    (x.admits src ⟨false, false, false⟩ = true →
      ((src.vf ≠ none ∧ u.tenant ≠ t) → nx (.cruQueueDelete c src q) (x.complete src 0x28 0)) ∧
      (u.st = .active → (src.vf = none ∨ u.tenant = t) → nx (.cruQueueDelete c src q) (x.setQueue q { u with st := .deleting, delSrc := some src, drained := 0 }))) ∧
    (u.st = .deleting → u.pidx = u.cidx → x.cru.jobs.anyOf (fun _ j => decide (j.queue = some q)) = false → x.replyPending q = false →
      nx (.queueDeleteDone c q) ((((x.giveSlabs u.slabs).setQueue q AttnQueue.init).completeOpt u.delSrc 0 0).event 0x4009 (some u.tenant) q u.drained)) ∧
    (x.serves = true → u.st ≠ .free → u.pidx ≠ u.cidx → x.jobRoom = true → x.eccReads (x.regionRanges u.ring b (u.kib * 1024)) 1 = (ok, z) → popPost u.posts = (k, posts) →
      nx (.jobAccept c q) ((z.setQueue q { u with cidx := (u.cidx + 1) % 65536, posts := posts }).acceptJob (some q) none
        (if ok = true then z.regionRead u.ring b (u.kib * 1024) else []) 0 k ok)) ∧
    (x.admitsCtx src ⟨true, false, false⟩ = true → x.dmaFault src.fn = none →
      (x.cru.waiting = [] → x.jobRoom = true → nx (.cruJob c src (.ok image) reply) ({ x with cru := { x.cru with waiting := [] } }.acceptJob none (some src) image reply 0 true)) ∧
      (x.jobRoom = false → nx (.cruJob c src (.ok image) reply) { x with cru := { x.cru with waiting := x.cru.waiting ++ [(src, image, reply)] } }))

/-- R158, R166, R173, R174 and R181: an accepted job that resolved is answered with the rows that attention over its span gives, status 0x00, or 0x50 with REMOTE_END where part of the span lies
elsewhere, and EVC1 of its context counts; a job accepted with a status, or whose unit is offline by then, is answered with that status and no rows. R176, R177, R178, R179 and R180: a row
operation whose operands meet R176 and whose rows no context owns waits its turn, and completes with its row count once its rows are written; the others are refused with 0x59 and 0x5A; a
refresh due is serviced; the refresh rate of a stack doubles above 85 °C and returns to normal below 83 °C; and a write clears CRU_HOLD_MAX. The model's own choices in it: notes 55, 56, 59. -/
def Obligations.AttentionJobsAndRows : Prop :=
  (∀ (s : State) (c : ChId) (job : Nat) (j : Job) (y : Chan),
    let x := s.ch c
    let d := attnDesc j.image
    let taken := { x with cru := { x.cru with jobs := x.cru.jobs.del job } }
    let a := y.attend j d
    let status := if j.remoteEnd ≠ 0 then 0x50 else 0
    let nx := fun (i : Instr) (y : Chan) => exec i s = .next (s.after c y)
    let refused := fun st => taken.replyJob job j d st [] (attnTrailer d.tag st 0 0 0 0 0 0)
    let dark := j.frames.any (fun f => taken.unitOff (taken.pchOf (taken.frameAddr f.2))) = true
    let trailer := attnTrailer d.tag status (b2n a.empty) (d.rows ((y.mirrorAttend j d).addCtr (.bound j.slot 1) 1 |>.geom j.profile)) j.spanEnd j.epoch j.remoteEnd j.owner
    x.cru.jobs.find job = some j →
    (j.status ≠ 0 → nx (.jobComplete c job) ((refused j.status).pumpHost 1)) ∧
    (j.status = 0 → dark → nx (.jobComplete c job) ((refused 0x56).unholdFrames.pumpHost 1)) ∧
    (j.status = 0 → ¬ dark → taken.eccReads (taken.jobRanges j d) 1 = (true, y) → (x.entry j.slot).gen = j.gen → (x.entry j.slot).state ≠ .free → a.nans = 0 → a.sats = 0 →
      nx (.jobComplete c job) ((((y.mirrorAttend j d).addCtr (.bound j.slot 1) 1).replyJob job j d status a.rows trailer).unholdFrames.pumpHost 1))) ∧
  (∀ (s : State) (c : ChId) (src : Src) (op : RowOp) (r : RowRun) (rest : List RowRun) (pch stack temp : Nat),
    let x := s.ch c
    let nx := fun (i : Instr) (y : Chan) => exec i s = .next (s.after c y)
    let owned := (List.range op.rows).any (fun n => x.ctxOwned (op.dst + n * 1024))
    let done := (List.range r.op.rows).foldl (fun x n => x.rowopRow r.op n) { x with cru := { x.cru with rowops := rest } }
    let hot := fun b => { x with cru := { x.cru with hot := setBits x.cru.hot stack stack b } }
    (x.admits src ⟨true, false, false⟩ = true →
      (x.rowopOk op = false → nx (.cruRowop c src op) (x.complete src 0x59 0)) ∧
      (x.rowopOk op = true → owned = true → nx (.cruRowop c src op) (x.complete src 0x5A 0)) ∧
      (x.rowopOk op = true → owned = false → nx (.cruRowop c src op) { x with cru := { x.cru with rowops := x.cru.rowops ++ [⟨op, some src⟩] } })) ∧
    (x.cru.rowops = r :: rest → nx (.rowopDone c) ((done.bump Reg.CRU_ROWOP_CNT 63 0 r.op.rows).completeOpt r.src 0 r.op.rows)) ∧
    (pch < x.pchs → nx (.refreshDue c pch) { x with cru := { x.cru with refreshes := x.cru.refreshes + 1 } }) ∧
    (stack < x.pchs / 64 → 85 < temp → x.cru.hot.testBit stack = false → nx (.baseDieHot c stack temp) ((hot 1).event 0x4006 none stack (1 + temp % 256 * 256))) ∧
    (stack < x.pchs / 64 → temp < 83 → x.cru.hot.testBit stack = true → nx (.baseDieHot c stack temp) ((hot 0).event 0x4006 none stack (temp % 256 * 256))) ∧
    (stack < x.pchs / 64 → 83 ≤ temp → temp ≤ 85 → nx (.baseDieHot c stack temp) x) ∧
    (x.regsLive = true → nx (.cruHoldMaxClear c) (x.fset Reg.CRU_HOLD_MAX 31 0 0)))

/-- R83, R185, R186, R190, R193, R195, R196 and R204, for a record of the host, and for one that came to the port of the context's tenant on an authorised connection: the checks run in order,
each with its status; BEGIN opens a draft and leaves the context PROVISIONAL with its node count; VERIFY of a valid path leaves it VERIFYING; ABANDON sets every fill to COMMITTED_LEN, closes
the draft and leaves it PLAIN, and counts what it truncates. The model's own choices in it: notes 60, 61. -/
def Obligations.SpeculationRecords : Prop :=
  ∀ (s : State) (c : ChId) (src : Src) (port slot op : Nat) (via : Via) (r : SpecRec) (ps : List (Option Nat)) (d : Draft),
    let x := s.ch c
    let e := x.entry slot
    let m := x.map slot
    let layers := (x.geom e.profile).layers
    let nx := fun (i : Instr) (y : Chan) => exec i s = .next (s.after c y)
    let peer := ReplyTo.peer via r.replyAddr r.replyKey r.replyGen
    let ready := x.rel.mode ≠ .shadow ∧ x.ctx.ready = true ∧ x.checkHandle r.h = .ok slot
    let host := ready ∧ x.admits src ⟨false, true, false⟩ = true ∧ x.dmaFault src.fn = none ∧ x.owns src r.h slot = true
    let fabric := ready ∧ x.serves = true ∧ x.eid ≠ none ∧ e.tslot = port ∧ x.specAuthorised via slot = true
    let hostCmd := if op = 1 then Instr.spcBegin c src (.ok r) else if op = 2 then .spcVerify c src (.ok r) else .spcAbandon c src (.ok r)
    let record := if op = 1 then Instr.specBeginRecord c port via r else if op = 2 then .specVerifyRecord c port via r else .specAbandonRecord c port via r
    let gives := fun (z : ReplyTo → Chan) => (host → nx hostCmd (z (.host src))) ∧ (fabric → nx record (z peer))
    let refused := fun st => gives (fun q => x.specEnd q (some slot) op r.reqTag st 0 0)
    let plain := x.actingRole = .generation ∧ e.state = .decoding ∧ r.epoch = e.epoch ∧ r.base = e.committed
    1 ≤ op → op ≤ 3 →
    (x.actingRole ≠ .generation → refused 0x2E) ∧
    (x.actingRole = .generation → e.state ≠ .decoding → refused 0x22) ∧
    (x.actingRole = .generation → e.state = .decoding → e.sub = 2 → refused 0x6C) ∧
    (x.actingRole = .generation → e.state = .decoding → e.sub ≠ 2 → r.epoch ≠ e.epoch → refused 0x61) ∧
    (x.actingRole = .generation → e.state = .decoding → e.sub ≠ 2 → r.epoch = e.epoch → r.base ≠ e.committed → refused 0x60) ∧
    (plain → op = 1 → e.sub = 1 → refused 0x66) ∧
    (plain → op = 1 → e.sub = 0 → (∀ l, l < layers → m.fillOf l = e.committed) → r.version = 1 → 1 ≤ r.count → r.count ≤ 256 → draftParents r.count r.anchor r.tree r.table = some ps →
      (govLimit e.governor = 0 → refused 0x63) ∧
      (govLimit e.governor ≠ 0 → r.count ≤ x.maxNodes → r.count ≤ (x.geom e.profile).window → draftDepth ps r.anchor ≤ govLimit e.governor → e.committed + r.count ≤ 2 ^ 22 →
        let opened := { x with drafts := x.drafts.put slot ⟨e.committed, r.anchor, ps, none⟩ }.moveTo slot .decoding 1 (fun e => { e with provisional := r.count })
        gives (fun q => (opened.bump Reg.SPC_TOKEN_CNT 63 32 (r.count - b2n r.anchor)).specEnd q (some slot) 1 r.reqTag 0 0 0))) ∧
    (plain → op = 2 → e.sub = 0 → refused 0x67) ∧
    (plain → op = 2 → e.sub = 1 → x.drafts.find slot = some d → r.version = 1 → r.count ≤ 64 → r.count ≤ r.table.length →
      (pathOk d (r.table.take r.count) = false → refused 0x65) ∧
      (pathOk d (r.table.take r.count) = true → x.paused e.tslot = false →
        gives (fun q => { x.moveTo slot .decoding 2 id with drafts := x.drafts.put slot { d with verify := some (r.table.take r.count, q, r.reqTag) } }))) ∧
    (plain → op = 3 → e.sub = 0 → refused 0x67) ∧
    (plain → op = 3 → e.sub = 1 → r.version = 1 → r.count = 0 →
      let y := x.discardStaged slot
      let z := y.setMap slot ((y.map slot).setFill (y.geom e.profile).layers e.committed)
      let w := { z with drafts := z.drafts.del slot }.moveTo slot .decoding 0 (fun e => { e with provisional := 0 })
      gives (fun q => ((w.bump Reg.SPC_VERIFY_CNT 31 0 1).bump Reg.SPC_TRUNC_CNT 63 0 e.provisional).specEnd q (some slot) 3 r.reqTag 0 0 e.provisional))

/-- R190, R200 and R203: once nothing admitted before the VERIFY is left to place, a path with a row that is not complete leaves the draft open with 0x6B; where no frame may be had for a copy,
with 0x6D; and a path whose rows stand where they belong, or are copied there, is committed: COMMITTED_LEN becomes base + k, every fill with it, the governor is updated where D ≥ 1, the
draft is closed, and the context is PLAIN. spc.govern sets the governor. The model's own choices in it: note 61. -/
def Obligations.VerifyCommit : Prop :=
  ∀ (s : State) (c : ChId) (src : Src) (h slot tag limit : Nat) (reset : Bool) (dest : ReplyTo) (d : Draft) (path : List Nat) (y z : Chan),
    let x := s.ch c
    let e := x.entry slot
    let nx := fun (i : Instr) (y : Chan) => exec i s = .next (s.after c y)
    let moves := (List.range path.length).filterMap (fun j => if path.getD j 0 = j then none else some (d.base + path.getD j 0, d.base + j))
    let whole := ∀ a ∈ path, x.rowComplete slot (d.base + a) = true
    let copied := moves.foldl (fun acc m => if acc.1 = true then acc.2.copyRow slot m.1 m.2 else acc) (true, y)
    let a := path.length - b2n d.anchor
    let depth := draftDepth d.parents d.anchor
    let placed := let w := z.commitTo slot (d.base + path.length) (fun e => { e with provisional := 0 })
      let w := w.setMap slot ((w.map slot).setFill (w.geom (z.entry slot).profile).layers (d.base + path.length))
      { w with drafts := w.drafts.del slot }
    let gov := (placed.entry slot).governor
    let left := fun (w : Chan) => (((w.bump Reg.SPC_VERIFY_CNT 63 32 1).bump Reg.SPC_TOKEN_CNT 31 0 a).bump Reg.SPC_TRUNC_CNT 63 0 (d.parents.length - path.length) |>.moveTo slot .decoding 0 id).specEnd
      dest (some slot) 2 tag 0 a (d.parents.length - path.length)
    (x.drafts.find slot = some { d with verify := some (path, dest, tag) } → e.state = .decoding → e.sub = 2 → (x.map slot).staged = [] →
      (¬ whole → nx (.verifyCommit c slot) (x.verifyBack slot 0x6B)) ∧
      (whole → x.copyFrames slot (moves.map Prod.snd) = (.quota, y) → nx (.verifyCommit c slot) ((y.tierQuotaEvent (y.entry slot).tslot 0).verifyBack slot 0x6D)) ∧
      (whole → x.copyFrames slot (moves.map Prod.snd) = (.exhausted, y) → nx (.verifyCommit c slot) (y.verifyBack slot 0x6D)) ∧
      (whole → x.copyFrames slot (moves.map Prod.snd) = (.ready, y) → copied = (true, z) → depth = 0 → nx (.verifyCommit c slot) (left (placed.touch slot (fun e => { e with governor := gov })))) ∧
      (whole → x.copyFrames slot (moves.map Prod.snd) = (.ready, y) → copied = (true, z) → depth ≠ 0 → (placed.govern gov a depth).2 = false →
        nx (.verifyCommit c slot) (left (placed.touch slot (fun e => { e with governor := (placed.govern gov a depth).1 })))) ∧
      (whole → x.copyFrames slot (moves.map Prod.snd) = (.ready, y) → copied = (false, z) → nx (.verifyCommit c slot) (z.faultNow slot 2))) ∧
    (x.admitsCtx src ⟨false, false, false⟩ = true → x.owns src h slot = true →
      let i := Instr.spcGovern c src h reset limit
      let set := fun v => (x.touch slot (fun e => { e with governor := v })).complete src 0 v
      (e.state ≠ .decoding → nx i (x.complete src 0x22 0)) ∧
      (e.state = .decoding → reset = true → nx i (set x.govStart)) ∧
      (e.state = .decoding → reset = false → x.maxDepth < limit → nx i (x.complete src 0x28 0)) ∧
      (e.state = .decoding → reset = false → limit ≤ x.maxDepth → nx i (set (setBits e.governor 31 25 limit))))

/-- R198 and R200: after a VERIFY that accepted A tokens of a draft of depth D, A ≤ D, GOVERNOR is a 32-bit word, its LIMIT is at most the greatest of 1, the LIMIT before and MAX_DEPTH, its
ZERO_RUN is zero exactly where something was accepted, its ACC never leaves the range up to 256, and its LIMIT becomes zero exactly where drafting is disabled, with HOLD then set from
SPC_GOV_CFG. -/
def Obligations.GovernorBounds : Prop :=
  ∀ (x : Chan) (v a d : Nat),
    let w := (x.govern v a d).1
    1 ≤ d → a ≤ d → bits v 24 16 ≤ 256 →
    w < 2 ^ 32 ∧ govLimit w ≤ max 1 (max (govLimit v) x.maxDepth) ∧ bits w 24 16 ≤ 256 ∧
    (bits w 15 8 = 0 ↔ 0 < a) ∧ ((x.govern v a d).2 = true → govLimit w = 0) ∧ (govLimit w = 0 → (x.govern v a d).2 = true ∨ govLimit v = 0) ∧
    bits w 7 0 = (if (x.govern v a d).2 = true then x.fget Reg.SPC_GOV_CFG 55 48 else bits v 7 0)

/-- R211, R212, R213, R215, R217 and R231: gaf.load checks the image in order (its form 0x73, its tenant 0x75, its key 0x72, its signature 0x71, its version 0x7B, room 0x74, counters 0x76), each
refusal with event 0x6002, and installs what passes in the lowest free tenant slot, at the lowest address and counters that are free; gaf.unload removes a program with no invocation (0x79);
gaf.invoke makes an invocation of a callable entry wait for a core with the slot and the entry in s1; gaf.query gives the record. R219, R225, R226 and R228: a slot that ends gives way to the
next used slot, and the last to a new frame, which judges a pending switch; the cores whose owner changes are preempted; an invocation of the pool that ran for QUANTUM yields where another
slot has work; a deferred preemption is requested once a save area is free; a write of SWITCH, of CLEAR and of GAF_EVC_ADD has its effect. The model's own choices in it: notes 63, 65, 66. -/
def Obligations.ProgramsAndSchedule : Prop :=
  (∀ (s : State) (c : ChId) (src : Src) (m : ImageIn) (ki a evc n entry : Nat) (key : ProgKey) (p : Prog) (en : EntryRec) (params : List W64) (i : Nat),
    let x := s.ch c
    let t := src.slot
    let nx := fun (i : Instr) (y : Chan) => exec i s = .next (s.after c y)
    let load := Instr.gafLoad c src (.ok m)
    let refused := fun st => nx load ((x.event 0x6002 (some t) 0 st).complete src st 0)
    let form := imageFormed m = true
    let ours := m.kind = 3 ∧ m.tenantTag = x.tag t
    let reached := x.prog n = some p ∧ p.kind = .tenant ∧ (src.vf = none ∨ src.vf = some p.tenant)
    let adm := fun a => x.admits src a = true
    let free := (List.range 28).find? (fun i => (x.prog (4 + i)).isNone)
    (adm ⟨false, false, true⟩ → x.dmaFault src.fn = none →
      (¬ form → refused 0x73) ∧
      (form → ¬ ours → refused 0x75) ∧
      (form → ours → x.progKey t m.keyId = none → refused 0x72) ∧
      (form → ours → x.progKey t m.keyId = some (ki, key) → m.sigOk = false → refused 0x71) ∧
      (form → ours → x.progKey t m.keyId = some (ki, key) → m.sigOk = true → m.version < key.floor → refused 0x7B) ∧
      (form → ours → x.progKey t m.keyId = some (ki, key) → m.sigOk = true → key.floor ≤ m.version → (free = none ∨ x.imageRoom m.size = none) → refused 0x74) ∧
      (form → ours → x.progKey t m.keyId = some (ki, key) → m.sigOk = true → key.floor ≤ m.version → free = some i → x.imageRoom m.size = some a →
        (4 ≤ (x.progsOf t).length → refused 0x74) ∧
        ((x.progsOf t).length < 4 → x.counterRoom m.evcCount = none → refused 0x76) ∧
        ((x.progsOf t).length < 4 → x.counterRoom m.evcCount = some evc → nx load (x.install src m (4 + i) ki a evc)))) ∧
    (adm ⟨false, false, false⟩ →
      (x.prog n = none → ∀ i, i = Instr.gafUnload c src n ∨ i = Instr.gafInvoke c src n entry params ∨ i = Instr.gafQuery c src n → nx i (x.complete src 0x77 0)) ∧
      (reached → x.progBusy n = true → nx (.gafUnload c src n) (x.complete src 0x79 0)) ∧
      (reached → x.progBusy n = false → nx (.gafUnload c src n) ((x.dropProg n false).complete src 0 0)) ∧
      (reached → p.faulted = true → nx (.gafInvoke c src n entry params) (x.complete src 0x7A 0)) ∧
      (reached → p.faulted = false → p.entries.find? (fun e => e.id == entry) = none → nx (.gafInvoke c src n entry params) (x.complete src 0x77 0)) ∧
      (reached → p.faulted = false → p.entries.find? (fun e => e.id == entry) = some en → (if src.vf = none then en.pfCall else en.vfCall) = false →
        nx (.gafInvoke c src n entry params) (x.complete src 0x78 0)) ∧
      (reached → p.faulted = false → p.entries.find? (fun e => e.id == entry) = some en → (if src.vf = none then en.pfCall else en.vfCall) = true →
        let v : Invocation := ⟨n, entry, false, src.vf.isNone, t, x.gaf.nextInv, some src, w64 (n + entry % 65536 * 65536) :: params.take 5⟩
        let y := { x with gaf := { x.gaf with queue := x.gaf.queue ++ [v], nextInv := x.gaf.nextInv + 1 } }
        nx (.gafInvoke c src n entry params) (y.reclaim p.tenant)) ∧
      (x.prog n = some p → (src.vf = none ∨ (p.kind = .tenant ∧ src.vf = some p.tenant)) → nx (.gafQuery c src n) (x.completeX src 0 (x.progRecord n p))))) ∧
  (∀ (s : State) (c : ChId) (core i fault code at_ : Nat) (kept : Bool) (l : List Nat) (inv : Invocation) (a : Access),
    let x := s.ch c
    let g := x.core core
    let nx := fun (i : Instr) (y : Chan) => exec i s = .next (s.after c y)
    let used := x.usedSlots x.tableB
    let b := !x.tableB
    let late := x.reach x.gaf.slotEnd
    let next := fun (y : Chan) (slot : Nat) => { y with gaf := { y.gaf with curSlot := slot, slotEnd := y.time + y.slotLen y.tableB slot * 1000 } }
    let unasked := late.fset Reg.GAF_SCHED_CTRL 62 62 0
    let began := fun (y : Chan) => (next y ((y.usedSlots y.tableB).headD 0)).reassign late.coreOwner
    let switched := let y := unasked.fset Reg.GAF_SCHED_CTRL 61 61 (b2n b)
      { y with gaf := { y.gaf with runBase := y.fget Reg.GAF_SCHED_CTRL 6 0 } }.event 0x6004 none (b2n b) (y.frameLen b)
    let y := x.reach (g.started + x.quantum)
    let us := min ((x.time - at_) / 1000) (2 ^ 32 - 1)
    (x.serves = true →
      (used.find? (fun i => decide (x.gaf.curSlot < i)) = some i → nx (.slotBoundary c) ((next late i).reassign late.coreOwner)) ∧
      (used = [] → nx (.slotBoundary c) x) ∧
      (used = l ++ [x.gaf.curSlot] → (∀ i ∈ l, i < x.gaf.curSlot) →
        ∀ f, f = Instr.slotBoundary c ∨ f = Instr.frameBoundary c →
          (late.flag Reg.GAF_SCHED_CTRL 62 = false → nx f (began late)) ∧
          (late.flag Reg.GAF_SCHED_CTRL 62 = true → late.tableFault b = some (fault, code) → nx f (began (unasked.event 0x6005 none (b2n b) (fault + code * 256)))) ∧
          (late.flag Reg.GAF_SCHED_CTRL 62 = true → late.tableFault b = none → nx f (began switched))) ∧
      (g.inv = some inv → x.coreOwner core ≠ x.ownerOf inv → x.ownerOf inv < 16 →
        let rival := y.runnable.any (fun r => decide (r.2.1 < 16 ∧ r.2.1 ≠ x.ownerOf inv) && !r.2.2)
        (rival = true → nx (.poolQuantumExpiry c core) (y.requestPreempt core false)) ∧
        (rival = false → nx (.poolQuantumExpiry c core) (y.setCore core { g with started := y.time }))) ∧
      (g.deferred = some (at_, kept) → (if kept = true then 1 else 65) ≤ 256 - x.areasUsed →
        (us ≤ x.fget Reg.GAF_PREEMPT_DEFER 31 0 → nx (.preemptionDeferredRelease c core) (x.requestPreempt core kept)) ∧
        (x.fget Reg.GAF_PREEMPT_DEFER 31 0 < us → nx (.preemptionDeferredRelease c core) ((x.fset Reg.GAF_PREEMPT_DEFER 31 0 us).requestPreempt core kept)))) ∧
    (x.regsLive = true →
      nx (.gafSchedSwitch c) (x.fset Reg.GAF_SCHED_CTRL 62 62 1) ∧
      nx (.gafPreemptMaxClear c) (x.fset Reg.GAF_PREEMPT_MAX 31 0 0) ∧
      (a.half = .both → bits a.val 31 0 ≠ 0 → nx (.gafEvcAdd c a) (x.addCtr (.num (bits a.val 63 48)) (bits a.val 31 0))) ∧
      (a.half ≠ .both → nx (.gafEvcAdd c a) x)))

/-- R215, R218, R221, R223 and R226: an idle core takes the invocation it runs next; an armed counter that reached its target invokes its entry with the reference and the value; a wait that
timed out ends with 1; a preemption that found no cheap point for 100 µs takes exception 8, an entry that ran for its budget exception 9; a resident entry of a base or role program is
invoked again, or the program becomes faulted. The model's own choices in it: notes 6, 66. -/
def Obligations.Invocations : Prop :=
  ∀ (s : State) (c : ChId) (k n t rd target : Nat) (ctr : Ctr) (h asked prog entry v b : Nat) (p : Prog) (tr : Trigger) (i : Invocation),
    let x := s.ch c
    let g := x.core k
    let nx := fun (i : Instr) (y : Chan) => exec i s = .next (s.after c y)
    let key := prog * 65536 + entry
    let freed := { x with gaf := { x.gaf with restarts := x.gaf.restarts.del key } }
    let due := fun (y : Chan) (code : Nat) => if g.wait = none then y.exception k code g.pc else y.setCore k { g with dueExc := some (g.dueExc.getD code) }
    x.serves = true →
    (k < 64 → g.inv = none → (x.riding = false ∨ k < x.baseCores) → x.pick k = some n → nx (.invocationStart c k) (x.place k n)) ∧
    (x.gaf.triggers.find k = some tr → tr.target ≤ x.ctrVal tr.ctr → (tr.h = 0 ∨ x.named tr.ctr tr.h = true) → x.prog tr.prog = some p → p.faulted = false →
      let y := { x with gaf := { x.gaf with triggers := x.gaf.triggers.del k } }
      nx (.triggerFire c k) (y.invoke tr.prog tr.entry false (!p.isTenant) p.tenant none [w64 tr.ref, w64 (x.ctrVal tr.ctr)])) ∧
    (g.st = .waiting → g.wait = some (.counter ctr h target (some t) rd) → nx (.waitTimeout c k) ((x.reach t).setCore k (g.endWait rd false (max x.time t)))) ∧
    (g.preempt = some asked → g.st = .running → g.held = false → nx (.cheapPointOverdue c k) (due (x.reach (asked + 100000)) 8)) ∧
    (g.inv = some i → x.budgetOf i = b → 0 < b → g.st = .running → g.held = false → nx (.budgetExceeded c k) (due (x.reach (g.since + (b - g.ran))) 9)) ∧
    (entry < 65536 → x.gaf.restarts.find key = some v → x.prog prog = some p →
      (256 ≤ v → nx (.residentRestart c prog entry) (freed.progFault prog (v % 256))) ∧
      (v < 256 → nx (.residentRestart c prog entry) ((freed.event 0x6007 none prog (entry + v * 65536)).invoke prog entry true true p.tenant none [])))

/-- R234 and R259: OP and every field of an instruction word read back what its encoding puts there, every word is the encoding of what it reads as, and the four fields of a YIELD word likewise;
no OP that R235 lists is a YIELD's. -/
def Obligations.InstructionWords : Prop :=
  (∀ (op : Nat) (f : IFields), op < 256 → f.fits = true → opOf (wordOf op f) = op ∧ fieldsOf (wordOf op f) = f) ∧
  (∀ w : W64, wordOf (opOf w) (fieldsOf w) = w ∧ opOf w < 256 ∧ (fieldsOf w).fits = true) ∧
  (∀ scr pm vm sm, scr < 128 → pm < 128 → vm < 65536 → sm < 2 ^ 31 → yieldOf (yieldWord scr pm vm sm) = (scr, pm, vm, sm) ∧ 0xE0 ≤ opOf (yieldWord scr pm vm sm)) ∧
  (∀ op f, wordOk op f = true → op < 0xE0)

/-- R240: every scalar and predicate instruction that its core can issue and whose guard holds writes the register that the table names with the value that it gives, goes on to the next
instruction, and changes nothing else in the module. A write to s0 or p0 is discarded (R206), which `setS` and `setP` say of every destination. The model's own choices in it: note 64. -/
def Obligations.ScalarTable : Prop :=
  ∀ (s : State) (c : ChId) (k : Nat) (f : IFields),
    StepsCore (.nop c k 0 f) s c k 0x00 f (fun g => g) ∧
    StepsCore (.iAdd c k f) s c k 0x01 f (fun g => g.setS f.d (g.sreg f.a + g.sreg f.b)) ∧
    StepsCore (.iSub c k f) s c k 0x02 f (fun g => g.setS f.d (g.sreg f.a - g.sreg f.b)) ∧
    StepsCore (.iMul c k f) s c k 0x03 f (fun g => g.setS f.d (BitVec.ofNat 64 ((g.sreg f.a).toNat * (g.sreg f.b).toNat))) ∧
    StepsCore (.iMulhu c k f) s c k 0x04 f (fun g => g.setS f.d (BitVec.ofNat 64 ((g.sreg f.a).toNat * (g.sreg f.b).toNat / 2 ^ 64))) ∧
    StepsCore (.iMulhs c k f) s c k 0x05 f (fun g => g.setS f.d (BitVec.ofInt 64 ((g.sreg f.a).toInt * (g.sreg f.b).toInt / 2 ^ 64))) ∧
    StepsCore (.iDivu c k f) s c k 0x06 f
      (fun g => g.setS f.d (if g.sreg f.b = 0 then 0xFFFFFFFFFFFFFFFF else BitVec.ofNat 64 ((g.sreg f.a).toNat / (g.sreg f.b).toNat))) ∧
    StepsCore (.iRemu c k f) s c k 0x07 f
      (fun g => g.setS f.d (if g.sreg f.b = 0 then g.sreg f.a else BitVec.ofNat 64 ((g.sreg f.a).toNat % (g.sreg f.b).toNat))) ∧
    StepsCore (.iAnd c k f) s c k 0x08 f (fun g => g.setS f.d (g.sreg f.a &&& g.sreg f.b)) ∧
    StepsCore (.iOr c k f) s c k 0x09 f (fun g => g.setS f.d (g.sreg f.a ||| g.sreg f.b)) ∧
    StepsCore (.iXor c k f) s c k 0x0A f (fun g => g.setS f.d (g.sreg f.a ^^^ g.sreg f.b)) ∧
    StepsCore (.iShl c k f) s c k 0x0B f (fun g => g.setS f.d (g.sreg f.a <<< ((g.sreg f.b).toNat % 64))) ∧
    StepsCore (.iShr c k f) s c k 0x0C f (fun g => g.setS f.d (g.sreg f.a >>> ((g.sreg f.b).toNat % 64))) ∧
    StepsCore (.iSar c k f) s c k 0x0D f (fun g => g.setS f.d ((g.sreg f.a).sshiftRight ((g.sreg f.b).toNat % 64))) ∧
    StepsCore (.iMinu c k f) s c k 0x0E f (fun g => g.setS f.d (BitVec.ofNat 64 (min (g.sreg f.a).toNat (g.sreg f.b).toNat))) ∧
    StepsCore (.iMaxu c k f) s c k 0x0F f (fun g => g.setS f.d (BitVec.ofNat 64 (max (g.sreg f.a).toNat (g.sreg f.b).toNat))) ∧
    StepsCore (.iAddi c k f) s c k 0x10 f (fun g => g.setS f.d (g.sreg f.a + (BitVec.ofNat 32 f.i).signExtend 64)) ∧
    StepsCore (.iAndi c k f) s c k 0x11 f (fun g => g.setS f.d (g.sreg f.a &&& BitVec.ofNat 64 f.i)) ∧
    StepsCore (.iOri c k f) s c k 0x12 f (fun g => g.setS f.d (g.sreg f.a ||| BitVec.ofNat 64 f.i)) ∧
    StepsCore (.iXori c k f) s c k 0x13 f (fun g => g.setS f.d (g.sreg f.a ^^^ BitVec.ofNat 64 f.i)) ∧
    StepsCore (.iShli c k f) s c k 0x14 f (fun g => g.setS f.d (g.sreg f.a <<< (f.i % 64))) ∧
    StepsCore (.iShri c k f) s c k 0x15 f (fun g => g.setS f.d (g.sreg f.a >>> (f.i % 64))) ∧
    StepsCore (.iSari c k f) s c k 0x16 f (fun g => g.setS f.d ((g.sreg f.a).sshiftRight (f.i % 64))) ∧
    StepsCore (.iMovi c k f) s c k 0x17 f (fun g => g.setS f.d (BitVec.ofNat 64 f.i)) ∧
    StepsCore (.iMovhi c k f) s c k 0x18 f (fun g => g.setS f.d (BitVec.ofNat 64 ((g.sreg f.d).toNat % 2 ^ 32 + 2 ^ 32 * f.i))) ∧
    StepsCore (.iExtr c k f) s c k 0x19 f
      (fun g => g.setS f.d (BitVec.ofNat 64 ((g.sreg f.a).toNat >>> (f.i % 64) % 2 ^ (if f.i / 256 % 64 = 0 then 64 else f.i / 256 % 64)))) ∧
    StepsCore (.iInsr c k f) s c k 0x1A f (fun g => g.setS f.d (insr f.i (g.sreg f.a) (g.sreg f.d))) ∧
    StepsCore (.iClz c k f) s c k 0x1B f (fun g => g.setS f.d (BitVec.ofNat 64 (clz (g.sreg f.a)))) ∧
    StepsCore (.iPopc c k f) s c k 0x1C f (fun g => g.setS f.d (BitVec.ofNat 64 ((List.range 64).countP (fun n => (g.sreg f.a).getLsbD n)))) ∧
    StepsCore (.iSel c k f) s c k 0x1D f (fun g => g.setS f.d (if g.pred f.x = true then g.sreg f.a else g.sreg f.b)) ∧
    StepsCore (.iRdtime c k f) s c k 0x1E f (fun g => g.setS f.d (BitVec.ofNat 64 (s.ch c).time)) ∧
    StepsCore (.iRdid c k f) s c k 0x1F f (fun g => g.setS f.d (match f.i with
      | 0 => BitVec.ofNat 64 k
      | 1 => BitVec.ofNat 64 ((s.ch c).rd Reg.CHN_EID)
      | 2 => BitVec.ofNat 64 (s.ch c).num
      | 3 => BitVec.ofNat 64 ((g.inv.map (fun i => i.prog)).getD 0)
      | _ => BitVec.ofNat 64 ((g.inv.map (fun i => i.number)).getD 0))) ∧
    StepsCore (.iCmp c k f) s c k 0x20 f (fun g => g.setP f.d (match f.x with
      | 0 => decide (g.sreg f.a = g.sreg f.b)
      | 1 => decide (g.sreg f.a ≠ g.sreg f.b)
      | 2 => decide ((g.sreg f.a).toNat < (g.sreg f.b).toNat)
      | 3 => decide ((g.sreg f.b).toNat ≤ (g.sreg f.a).toNat)
      | 4 => decide ((g.sreg f.a).toInt < (g.sreg f.b).toInt)
      | _ => decide ((g.sreg f.b).toInt ≤ (g.sreg f.a).toInt))) ∧
    StepsCore (.iCmpi c k f) s c k 0x21 f (fun g => g.setP f.d (condHolds f.x (g.sreg f.a) ((BitVec.ofNat 32 f.i).signExtend 64))) ∧
    StepsCore (.iPlog c k f) s c k 0x22 f (fun g => g.setP f.d (match f.x with
      | 0 => g.pred f.a && g.pred f.b
      | 1 => g.pred f.a || g.pred f.b
      | 2 => g.pred f.a != g.pred f.b
      | 3 => g.pred f.a && !g.pred f.b
      | _ => !g.pred f.a)) ∧
    StepsCore (.iPrd c k f) s c k 0x23 f (fun g => g.setS f.d (BitVec.ofNat 64 g.predByte))

/-- R240, the four operations whose table entry is a statement about bits: INSR, EXTR's companion, replaces w bits of d from bit I[5:0] by the low bits of a, with the bits above 63 dropped and
every other bit kept; CLZ counts the leading zeros, 64 of zero; PRD reads p7 to p0 with bit 0 as 1; MOVHI replaces the upper half. R206: s0 reads zero and p0 reads 1; a write to s0 or p0 is
discarded; a write to any other register is what that register then reads, and every other register of the core reads as before, vectors included. R244: 64 over 2^W lanes of 8 × 2^W bits,
lane i above lane i − 1; the lane of a vector built from lanes is the low bits of the one it was built from. -/
def Obligations.RegistersAndLanes : Prop :=
  ((∀ (i : Nat) (a d : W64) (n : Nat), n < 64 →
    (insr i a d).getLsbD n =
      if i % 64 ≤ n ∧ n < i % 64 + (if i / 256 % 64 = 0 then 64 else i / 256 % 64) then a.getLsbD (n - i % 64) else d.getLsbD n) ∧
  (∀ a : W64, a = 0 → clz a = 64) ∧
  (∀ a : W64, a ≠ 0 → clz a < 64 ∧ 2 ^ (63 - clz a) ≤ a.toNat ∧ a.toNat < 2 ^ (64 - clz a)) ∧
  (∀ (g : GCore) (n : Nat), n < 8 → g.predByte.testBit n = (decide (n = 0) || g.p.testBit n)) ∧
  (∀ g : GCore, g.predByte < 256)) ∧
  (∀ (g : GCore) (d n : Nat) (v : W64) (w : BitVec 512) (b : Bool),
    g.sreg 0 = 0 ∧ g.pred 0 = true ∧
    (g.setS d v).sreg n = (if n = d ∧ d ≠ 0 then v else g.sreg n) ∧
    (g.setP d b).pred n = (if n = d ∧ d ≠ 0 then b else g.pred n) ∧
    (g.setV d w).vreg n = (if n = d then w else g.vreg n) ∧
    (g.setS d v).v = g.v ∧ (g.setS d v).p = g.p ∧ (g.setS d v).pc = g.pc ∧ (g.setS d v).scratch = g.scratch ∧
    (g.setP d b).s = g.s ∧ (g.setP d b).v = g.v ∧ (g.setP d b).pc = g.pc ∧ (g.setP d b).scratch = g.scratch ∧
    (g.setV d w).s = g.s ∧ (g.setV d w).p = g.p ∧ (g.setV d w).pc = g.pc ∧ (g.setV d w).scratch = g.scratch) ∧
  (∀ (w i : Nat) (h : Nat → Nat), w < 4 → i < 64 / 2 ^ w →
    lane w (ofLanes w h) i = h i % 2 ^ (8 * 2 ^ w) ∧ (∀ v : BitVec 512, ∀ n, n < 8 * 2 ^ w → (lane w v i).testBit n = v.getLsbD (8 * 2 ^ w * i + n)))

/-- R241 and R242: a branch that its core can issue goes to its target, CALL leaving the offset after it in sD and LOOP the counted-down value, and nothing else in the module changes; a target
that is no instruction of the text raises exception 0x01 at the branch, which then has no other effect. R208 and R243: LD, ST, VLD and VST at a + sext(I), which lies below the program's
SCRATCH_BYTES and is a multiple of the access size: the value loaded or the bytes stored, and nothing else in the module changes; an address at or above SCRATCH_BYTES raises exception 0x03,
a misaligned one below it 0x04. The model's own choices in it: note 64. -/
def Obligations.BranchesAndScratch : Prop :=
  (∀ (s : State) (c : ChId) (k : Nat) (f : IFields) (p : Prog) (t : Nat),
    let x := s.ch c
    let g := x.core k
    let inText := fun (a : Int) => a % 8 = 0 ∧ 0 ≤ a ∧ a < p.textEnd
    let rel : Int := g.pc + (BitVec.ofNat 32 f.i).toInt * 8
    let faults := fun i => exec i s = .next (s.after c (x.exception k 1 g.pc))
    let goes := fun i h => exec i s = .next (s.after c (x.setCore k { (h : GCore) with pc := t }))
    x.coreProg k = some p →
    (x.issues k 0x40 f = true → (inText rel ∧ rel = t → goes (.iBr c k f) g) ∧ (¬ inText rel → faults (.iBr c k f))) ∧
    (x.issues k 0x41 f = true → (inText rel ∧ rel = t → goes (.iCall c k f) (g.setS f.d (BitVec.ofNat 64 (g.pc + 8)))) ∧ (¬ inText rel → faults (.iCall c k f))) ∧
    (x.issues k 0x42 f = true →
      (inText (g.sreg f.a).toNat ∧ (g.sreg f.a).toNat = t → goes (.iJmp c k f) g) ∧ (¬ inText (g.sreg f.a).toNat → faults (.iJmp c k f))) ∧
    (x.issues k 0x43 f = true →
      (g.sreg f.d - 1 = 0 → exec (.iLoop c k f) s = .next (s.after c (x.setCore k (g.setS f.d 0).next))) ∧
      (g.sreg f.d - 1 ≠ 0 → (inText rel ∧ rel = t → goes (.iLoop c k f) (g.setS f.d (g.sreg f.d - 1))) ∧ (¬ inText rel → faults (.iLoop c k f))))) ∧
  (∀ (s : State) (c : ChId) (k : Nat) (f : IFields) (p : Prog),
    let x := s.ch c
    let g := x.core k
    let a := (g.sreg f.a + (BitVec.ofNat 32 f.i).signExtend 64).toNat
    let n := 2 ^ (f.x % 4)
    let v := leVal (Memory.read g.scratch a n)
    let at_ := fun (i : Instr) (size : Nat) (h : GCore) =>
      (a < p.scratch ∧ a % size = 0 → exec i s = .next (s.after c (x.setCore k h.next))) ∧
      (p.scratch ≤ a → exec i s = .next (s.after c (x.exception k 3 g.pc))) ∧
      (a < p.scratch ∧ a % size ≠ 0 → exec i s = .next (s.after c (x.exception k 4 g.pc)))
    x.coreProg k = some p →
    (x.issues k 0x50 f = true →
      at_ (.iLd c k f) n (g.setS f.d (if f.x.testBit 2 = true ∧ v.testBit (8 * n - 1) = true then BitVec.ofNat 64 (v + (2 ^ 64 - 2 ^ (8 * n))) else BitVec.ofNat 64 v))) ∧
    (x.issues k 0x51 f = true → at_ (.iSt c k f) n { g with scratch := Memory.write g.scratch a (leBytes n (g.sreg f.b).toNat) }) ∧
    (x.issues k 0x52 f = true → at_ (.iVld c k f) 64 (g.setV f.d (BitVec.ofNat 512 (leVal (Memory.read g.scratch a 64))))) ∧
    (x.issues k 0x53 f = true → at_ (.iVst c k f) 64 { g with scratch := Memory.write g.scratch a (leBytes 64 (g.vreg f.b).toNat) }))

/-- R244, R245, R246 and R247: every vector instruction that its core can issue and whose guard holds writes the register that the table names, lane by lane or byte by byte, goes on to the next
instruction, and changes nothing else in the module. The model's own choices in it: notes 39, 64. -/
def Obligations.VectorTable : Prop :=
  ∀ (s : State) (c : ChId) (k : Nat) (f : IFields),
    let lanes := fun (w : Nat) (h : GCore → Nat → Nat) => fun (g : GCore) => g.setV f.d (ofLanes w (h g))
    StepsCore (.iVadd c k f) s c k 0x60 f (lanes f.x (fun g i => lane f.x (g.vreg f.a) i + lane f.x (g.vreg f.b) i)) ∧
    StepsCore (.iVsub c k f) s c k 0x61 f (lanes f.x (fun g i => lane f.x (g.vreg f.a) i + 2 ^ (8 * 2 ^ f.x) - lane f.x (g.vreg f.b) i)) ∧
    StepsCore (.iVmul c k f) s c k 0x62 f (lanes f.x (fun g i => lane f.x (g.vreg f.a) i * lane f.x (g.vreg f.b) i)) ∧
    StepsCore (.iVand c k f) s c k 0x63 f (fun g => g.setV f.d (g.vreg f.a &&& g.vreg f.b)) ∧
    StepsCore (.iVor c k f) s c k 0x64 f (fun g => g.setV f.d (g.vreg f.a ||| g.vreg f.b)) ∧
    StepsCore (.iVxor c k f) s c k 0x65 f (fun g => g.setV f.d (g.vreg f.a ^^^ g.vreg f.b)) ∧
    StepsCore (.iVshl c k f) s c k 0x66 f (lanes f.x (fun g i => lane f.x (g.vreg f.a) i <<< (f.i % 64))) ∧
    StepsCore (.iVshr c k f) s c k 0x67 f (lanes f.x (fun g i => lane f.x (g.vreg f.a) i >>> (f.i % 64))) ∧
    StepsCore (.iVbcast c k f) s c k 0x68 f (lanes f.x (fun g _ => (g.sreg f.a).toNat)) ∧
    StepsCore (.iVext c k f) s c k 0x69 f (fun g => g.setS f.d (BitVec.ofNat 64 (lane f.x (g.vreg f.a) f.i))) ∧
    StepsCore (.iVins c k f) s c k 0x6A f (lanes f.x (fun g i => if i = f.i then (g.sreg f.a).toNat else lane f.x (g.vreg f.d) i)) ∧
    StepsCore (.iVperm c k f) s c k 0x6B f (lanes 0 (fun g i => lane 0 (g.vreg f.a) (lane 0 (g.vreg f.b) i % 64))) ∧
    StepsCore (.iVfadd c k f) s c k 0x6C f (lanes 2 (fun g i => fp32Add (lane 2 (g.vreg f.a) i) (lane 2 (g.vreg f.b) i))) ∧
    StepsCore (.iVfmul c k f) s c k 0x6D f (lanes 2 (fun g i => fp32Mul (lane 2 (g.vreg f.a) i) (lane 2 (g.vreg f.b) i))) ∧
    StepsCore (.iVfma c k f) s c k 0x6E f (lanes 2 (fun g i => fp32Fma (lane 2 (g.vreg f.a) i) (lane 2 (g.vreg f.b) i) (lane 2 (g.vreg f.d) i))) ∧
    StepsCore (.iVfmax c k f) s c k 0x6F f (lanes 2 (fun g i => fp32Max (lane 2 (g.vreg f.a) i) (lane 2 (g.vreg f.b) i))) ∧
    StepsCore (.iVfsum c k f) s c k 0x70 f (fun g => g.setS f.d (BitVec.ofNat 64 (fp32Add (sumTree (g.vreg f.a) 0) (sumTree (g.vreg f.a) 8)))) ∧
    StepsCore (.iVqnt c k f) s c k 0x71 f (fun g => (g.setV f.d (quantVec f.i (g.vreg f.a) (g.sreg f.b)).1).setS f.x (quantVec f.i (g.vreg f.a) (g.sreg f.b)).2) ∧
    StepsCore (.iVdqnt c k f) s c k 0x72 f (fun g =>
      (g.setV f.d (ofLanes 2 (fun n => dqElem f.i (g.vreg f.a) (g.sreg f.b) n))).setV (f.d + 1) (ofLanes 2 (fun n => dqElem f.i (g.vreg f.a) (g.sreg f.b) (n + 16)))) ∧
    StepsCore (.iVgfmul c k f) s c k 0x73 f (lanes 0 (fun g i => gf (lane 0 (g.vreg f.a) i) (lane 0 (g.vreg f.b) i))) ∧
    StepsCore (.iVgfmac c k f) s c k 0x74 f (lanes 0 (fun g i => lane 0 (g.vreg f.d) i ^^^ gf (lane 0 (g.vreg f.a) i) (f.i % 256)))

/-- R251: TRD reads a word of the entry that a valid handle names, where the program may read it, and sets pX; TCAS of a base or role program compares a word and replaces it only where it is
equal, and the change is journalled where R86 asks for it; without the table-read grant either raises exception 0x02. R207 and R251: SWLD reads, SWST writes, SWCAS compares and replaces, and
SWADD adds to the shared word at an index below 8,192 of the program's own set, giving the old value; an index from 8,192 up raises exception 0x06, and a program without the table-read grant
exception 0x02. Nothing else in the module changes. R254: SRCH of a segment that the program may search gives the hit bit and RESULT of the search, counted; PFXW of a base or role program
writes or clears an entry of a RUNNING segment and says so in pD, and leaves an entry of one that is not. The model's own choices in it: note 64. -/
def Obligations.TableAndSearchInstructions : Prop :=
  (∀ (s : State) (c : ChId) (k : Nat) (f : IFields) (p : Prog) (slot : Nat),
    let x := s.ch c
    let g := x.core k
    let h := (g.sreg f.a).toNat
    let e := x.entry slot
    let nx := fun (i : Instr) (y : Chan) => exec i s = .next (s.after c y)
    x.coreProg k = some p →
    (x.issues k 0x90 f = true → p.grants.testBit 1 = false → nx (.iTrd c k f) (x.exception k 2 g.pc)) ∧
    (x.issues k 0x90 f = true → p.grants.testBit 1 = true → h < 2 ^ 48 → x.checkHandle h = .ok slot →
      ((p.isTenant = true → e.tslot = p.tenant) → nx (.iTrd c k f) (x.setCore k ((g.setS f.d (e.word f.i)).setP f.x true).next)) ∧
      (p.isTenant = true → e.tslot ≠ p.tenant → nx (.iTrd c k f) (x.setCore k ((g.setS f.d 0).setP f.x false).next))) ∧
    (x.issues k 0x91 f = true → p.grants.testBit 1 = true → (p.isTenant = true ∨ 12 ≤ f.i) → nx (.iTcas c k f) (x.exception k 6 g.pc)) ∧
    (x.issues k 0x91 f = true → p.grants.testBit 1 = true → p.isTenant = false → f.i < 12 → h < 2 ^ 48 → x.checkHandle h = .ok slot →
      let e' := e.setWord f.i (g.sreg f.x).toNat
      let d := (g.setS f.d (e.word f.i)).next
      (e.word f.i ≠ g.sreg f.b → nx (.iTcas c k f) (x.setCore k d)) ∧
      (e.word f.i = g.sreg f.b → e'.state = e.state → e'.sub = e.sub →
        nx (.iTcas c k f) ((if journalled e e' = true then x.journal slot 3 e' else x.setEntry slot e').setCore k d)) ∧
      (e.word f.i = g.sreg f.b → (e'.state ≠ e.state ∨ e'.sub ≠ e.sub) →
        nx (.iTcas c k f) (((if journalled e e' = true then x.journal slot 3 e' else x.setEntry slot e').addCtr (.bound slot 2) 1).setCore k d)))) ∧
  (∀ (s : State) (c : ChId) (k : Nat) (f : IFields) (p : Prog),
    let x := s.ch c
    let g := x.core k
    let own := if p.isTenant = true then p.tenant else 16
    let near := (g.sreg f.a + (BitVec.ofNat 32 f.i).signExtend 64).toNat
    let at_ := (g.sreg f.a).toNat
    let word := fun n => BitVec.ofNat 64 (x.gaf.words.getD (own * 8192 + n) 0)
    let put := fun (n : Nat) (v : W64) => { x with gaf := { x.gaf with words := x.gaf.words.set 0 (own * 8192 + n) v.toNat } }
    let nx := fun (i : Instr) (y : Chan) => exec i s = .next (s.after c y)
    let all := fun (op n : Nat) (i : Instr) (y : Chan) => x.issues k op f = true →
      (p.grants.testBit 1 = true → n < 8192 → nx i y) ∧ (p.grants.testBit 1 = true → 8192 ≤ n → nx i (x.exception k 6 g.pc)) ∧
      (p.grants.testBit 1 = false → nx i (x.exception k 2 g.pc))
    x.coreProg k = some p →
    all 0x92 near (.iSwld c k f) (x.setCore k (g.setS f.d (word near)).next) ∧
    all 0x93 near (.iSwst c k f) ((put near (g.sreg f.b)).setCore k g.next) ∧
    all 0x94 at_ (.iSwcas c k f) ((if word at_ = g.sreg f.b then put at_ (g.sreg f.x) else x).setCore k (g.setS f.d (word at_)).next) ∧
    all 0x95 at_ (.iSwadd c k f) ((put at_ (word at_ + g.sreg f.b)).setCore k (g.setS f.d (word at_)).next)) ∧
  (∀ (s : State) (c : ChId) (k : Nat) (f : IFields) (p : Prog),
    let x := s.ch c
    let g := x.core k
    let seg := (g.sreg f.b).toNat
    let key := (g.vreg f.a).toNat % 2 ^ 128
    let e := (g.sreg f.a).toNat
    let v := (g.vreg f.b).toNat
    let r := (g.sreg f.x).toNat
    let now := if r.testBit 32 = true then x.pfx.entries.put e ⟨v % 2 ^ 128, v / 2 ^ 128 % 2 ^ 128, r % 2 ^ 32⟩ else x.pfx.entries.del e
    let nx := fun (i : Instr) (y : Chan) => exec i s = .next (s.after c y)
    x.coreProg k = some p → p.grants.testBit 2 = true →
    (x.issues k 0xB0 f = true → seg < 256 → (p.isTenant = true → x.segOwner seg = p.tenant) → x.cascades seg = false →
      nx (.iSrch c k f) ((x.countLookup (x.pfxSearch seg key)).setCore k
        (g.setS f.d (match x.pfxSearch seg key with | some n => BitVec.ofNat 64 (2 ^ 63 + n % 2 ^ 32) | none => 0)).next)) ∧
    (x.issues k 0xB1 f = true → p.isTenant = false → e ≤ 131071 → x.running (0x100 + e / 512) = true →
      nx (.iPfxw c k f) ({ x with pfx := { x.pfx with entries := now }}.setCore k (g.setP f.d true).next)) ∧
    (x.issues k 0xB1 f = true → p.isTenant = false → e ≤ 131071 → x.running (0x100 + e / 512) = false → nx (.iPfxw c k f) (x.setCore k (g.setP f.d false).next)) ∧
    (x.issues k 0xB1 f = true → p.isTenant = true → nx (.iPfxw c k f) (x.exception k 2 g.pc)))

/-- R256, R257 and R258, for a base or role program with the packet grant: PALLOC takes a free buffer or gives zero, PFREE frees a buffer that a program holds, PRX takes the frame at the head of
a receive ring or gives zero, PLD and PVLD read and PST and PVST write bytes of a buffer, PPARSE gives the summary of a frame, PBUILD puts headers before a payload, and PTX queues a frame on
a RUNNING port with room. A tenant program, or one without the grant, takes exception 0x02. The model's own choices in it: notes 37, 64, 69. -/
def Obligations.PacketInstructions : Prop :=
  ∀ (s : State) (c : ChId) (k : Nat) (f : IFields) (p : Prog) (h : Nat) (t : List Nat) (b : PktBuf),
    let x := s.ch c
    let g := x.core k
    let r := (g.sreg f.a).toNat
    let rh := r % 2 ^ 16
    let len := r / 2 ^ 16 % 2 ^ 14
    let off := (g.sreg f.b + (BitVec.ofNat 32 f.i).signExtend 64).toNat
    let nx := fun (i : Instr) (y : Chan) => exec i s = .next (s.after c y)
    x.coreProg k = some p →
    ((p.grants.testBit 4 = false ∨ p.isTenant = true) →
      (x.issues k 0xD0 f = true → nx (.iPalloc c k f) (x.exception k 2 g.pc)) ∧ (x.issues k 0xD2 f = true → nx (.iPrx c k f) (x.exception k 2 g.pc))) ∧
    (p.grants.testBit 4 = true → p.isTenant = false →
      (x.issues k 0xD0 f = true → x.freeHandle = some h →
        nx (.iPalloc c k f) ({ x with fab := { x.fab with bufs := x.fab.bufs.put h ⟨0, [], true, none⟩, bufOwner := x.fab.bufOwner.put h g.progSlot }}.setCore k
          (g.setS f.d (BitVec.ofNat 64 h)).next)) ∧
      (x.issues k 0xD0 f = true → x.freeHandle = none → nx (.iPalloc c k f) (x.setCore k (g.setS f.d 0).next)) ∧
      (x.issues k 0xD1 f = true → x.heldBuf rh = some b → nx (.iPfree c k f) ((x.freeBuf rh).setCore k g.next)) ∧
      (x.issues k 0xD2 f = true → r / 8 < x.ports → (x.port (r / 8)).rings.getD (r % 8) [] = [] → nx (.iPrx c k f) (x.setCore k (g.setS f.d 0).next)) ∧
      (x.issues k 0xD2 f = true → r / 8 < x.ports → (x.port (r / 8)).rings.getD (r % 8) [] = h :: t → x.fab.bufs.find h = some b →
        DoesOn c (.iPrx c k f) s (fun y => (y.core k).sreg f.d = (if f.d = 0 then 0 else BitVec.ofNat 64 (h + b.len * 2 ^ 16)) ∧ (y.core k).pc = g.pc + 8 ∧
          (y.port (r / 8)).rings.getD (r % 8) [] = t ∧ y.fab.bufOwner.find h = some g.progSlot)) ∧
      (x.issues k 0xD3 f = true → nx (.iPld c k f) (x.setCore k (g.setS f.d (BitVec.ofNat 64 (beVal (x.bufRead rh off (2 ^ f.x))))).next)) ∧
      (x.issues k 0xD4 f = true → nx (.iPst c k f) ((x.bufWrite rh off (beBytes (2 ^ f.d) (g.sreg f.x).toNat)).setCore k g.next)) ∧
      (x.issues k 0xD5 f = true → nx (.iPvld c k f) (x.setCore k (g.setV f.d (BitVec.ofNat 512 (leVal (x.bufRead rh off 64)))).next)) ∧
      (x.issues k 0xD6 f = true → nx (.iPvst c k f) ((x.bufWrite rh off (leBytes 64 (g.vreg f.x).toNat)).setCore k g.next)) ∧
      (x.issues k 0xD7 f = true → x.heldBuf rh = some b →
        nx (.iPparse c k f) (x.setCore k (g.setV f.d (BitVec.ofNat 512 (leVal ((parseFrame (x.bufRead rh 0 (min 10240 len))).bytes b.fcs)))).next)) ∧
      (x.issues k 0xD8 f = true → x.heldBuf rh = some b → headerBytes (leBytes 64 (g.vreg f.b).toNat) + (g.sreg f.x).toNat ≤ 9216 →
        let tm := leBytes 64 (g.vreg f.b).toNat
        let n := headerBytes tm + (g.sreg f.x).toNat
        let y := x.bufWrite rh 0 (buildHeaders tm (x.bufRead rh (headerBytes tm) (g.sreg f.x).toNat))
        nx (.iPbuild c k f) ({ y with fab := { y.fab with bufs := y.fab.bufs.modify rh (fun b => { b with len := n }) }}.setCore k
          (g.setS f.d (BitVec.ofNat 64 (r - len * 65536 + n * 65536))).next)) ∧
      (x.issues k 0xD9 f = true → x.heldBuf rh = some b → len ≤ 9216 →
        let n := (g.sreg f.b).toNat % 32
        let q := (g.sreg f.b).toNat / 256 % 16
        (g.sreg f.b).toNat = n + q * 256 → x.hasPort n = true → x.running (0x10 + n) = true → (x.qframes n q).length < x.maxFrames n q →
        nx (.iPtx c k f) (({ x with fab := { x.fab with bufOwner := x.fab.bufOwner.del rh }}.pushFrame n q
          { data := x.bufRead rh 0 len, size := len + 4, conn := none, buf := some rh, at_ := x.time }).setCore k g.next)))

/-- R218, R252 and R253, on a core with no asynchronous work and no exception due, and a reference that names a counter: SIG and SIGI add to it, up to 2^64 − 1; CTRRD reads it; WAIT goes on at
once where the target is reached, else the core waits; ARM keeps a trigger and gives its number, or fires it at once; DISARM frees a trigger of its own program. R214, R237, R249, R250, R255
and R259, on a core with no exception due: FENCE with nothing outstanding goes on; END releases the core and, for a commanded invocation, completes its command with s1 and s2; YIELD with
nothing pending goes on; DMOV and CRYPT that are well formed are accepted and go on; and where the invocation does not wait, an accepted operation that ends leaves the list, a move that
stops short deferring exception 0x05. The model's own choices in it: notes 62, 64, 67, 68. -/
def Obligations.EventAndAsyncInstructions : Prop :=
  (∀ (s : State) (c : ChId) (k : Nat) (f : IFields) (p : Prog) (ctr : Ctr) (h n : Nat) (i : Invocation) (t : Trigger),
    let x := s.ch c
    let g := x.core k
    let ref := (g.sreg f.a).toNat
    let target := (g.sreg f.b).toNat
    let ran := g.ran + (x.time - g.since)
    let nx := fun (i : Instr) (y : Chan) => exec i s = .next (s.after c y)
    let adds := fun (i : Instr) (m : Nat) => DoesOn c i s (fun y => y.ctrVal ctr = min (x.ctrVal ctr + m) (2 ^ 64 - 1) ∧
      (y.core k).pc = g.pc + 8 ∧ (y.core k).st = .running ∧ (y.core k).s = g.s)
    x.coreProg k = some p → g.asyncs = [] → g.excs = [] → g.dueExc = none → g.inv = some i → x.ctrVal ctr < 2 ^ 64 →
    (x.issues k 0xA0 f = true → x.ctrRef p ref true = (some (ctr, h), x) → adds (.iSig c k f) (target % 2 ^ 32)) ∧
    (x.issues k 0xA1 f = true → x.ctrRef p ref true = (some (ctr, h), x) → adds (.iSigi c k f) f.i) ∧
    (x.issues k 0xA6 f = true → x.ctrRef p ref false = (some (ctr, h), x) → nx (.iCtrrd c k f) (x.setCore k (g.setS f.d (BitVec.ofNat 64 (x.ctrVal ctr))).next)) ∧
    (x.issues k 0xA2 f = true → x.ctrRef p ref false = (some (ctr, h), x) → target ≤ x.ctrVal ctr →
      nx (.iWait c k f) (x.setCore k { (g.setP f.d true).next with ran := ran, since := x.time })) ∧
    (x.issues k 0xA2 f = true → x.ctrRef p ref false = (some (ctr, h), x) → x.ctrVal ctr < target → g.preempt = none →
      let endAt := if g.sreg f.x = 0 then none else some (x.time + (g.sreg f.x).toNat)
      nx (.iWait c k f) (x.setCore k { g with st := .waiting, wait := some (.counter ctr h target endAt f.d), ran := ran, held := x.riding && x.schedulable k })) ∧
    (x.issues k 0xA3 f = true → x.ctrRef p ref false = (some (ctr, h), x) → x.freeTrigger = some n →
      p.entries.any (fun e => e.id == f.i && e.armable) = true → x.ctrVal ctr < target →
      nx (.iArm c k f) ({ x with gaf := { x.gaf with triggers := x.gaf.triggers.put n ⟨ctr, ref, h, target, i.prog, f.i⟩ } }.setCore k
        (g.setS f.d (BitVec.ofNat 64 n)).next)) ∧
    (x.issues k 0xA4 f = true → x.gaf.triggers.find ref = some t → t.prog = i.prog →
      nx (.iDisarm c k f) ({ x with gaf := { x.gaf with triggers := x.gaf.triggers.del ref } }.setCore k g.next)) ∧
    (x.issues k 0xA6 f = true → x.ctrRef p ref false = (none, x) → nx (.iCtrrd c k f) (x.exception k 7 g.pc))) ∧
  (∀ (s : State) (c : ChId) (k : Nat) (f : IFields) (p : Prog) (i : Invocation) (d : DmovDesc) (e : CryptDesc) (y : Chan) (l : List AsyncOp) (off n : Nat) (ok : Bool),
    let x := s.ch c
    let g := x.core k
    let a := (g.sreg f.a).toNat
    let b := Memory.read g.scratch a 64
    let nx := fun (i : Instr) (y : Chan) => exec i s = .next (s.after c y)
    x.coreProg k = some p → g.inv = some i → g.dueExc = none →
    (x.issues k 0xA5 f = true → g.asyncs = [] → g.excs = [] → nx (.iFence c k f) (x.setCore k g.next)) ∧
    (x.issues k 0x44 f = true → g.asyncs = [] → g.excs = [] → i.resident = true → nx (.iEnd c k f) (x.setCore k GCore.init)) ∧
    (x.issues k 0x44 f = true → g.asyncs = [] → g.excs = [] → i.resident = false →
      nx (.iEnd c k f) ((x.setCore k GCore.init).completeOpt i.src ((g.sreg 1).toNat % 256) (g.sreg 2).toNat)) ∧
    (∀ scr pm vm sm, x.issues k 0 ⟨false, 0, 0, 0, 0, 0, 0⟩ = true → scr ≤ 64 → pm < 128 → vm < 65536 → sm < 2 ^ 31 → g.excs = [] → x.riding = false → g.preempt = none →
      nx (.yieldI c k scr pm vm sm) (x.setCore k g.next)) ∧
    (x.issues k opDmov f = true → g.asyncs.length < 16 → p.grants.testBit 0 = true → a < p.scratch → a % 64 = 0 → x.judgeMove k p b = (some d, y) →
      nx (.iDmov c k f) (y.setCore k { g with asyncs := g.asyncs ++ [AsyncOp.dmov g.pc d] }.next)) ∧
    (x.issues k opCrypt f = true → g.asyncs.length < 16 → p.grants.testBit 3 = true → a < p.scratch → a % 64 = 0 → x.judgeCrypt p g a = (.ok e, y) →
      nx (.iCrypt c k f) (y.setCore k { g with asyncs := g.asyncs ++ [AsyncOp.crypt g.pc e] }.next)) ∧
    (x.serves = true → g.asyncs = .dmov off d :: l → x.runMove k d n = (ok, y) → (y.core k).asyncs = g.asyncs → (y.core k).wait = none → (y.core k).preempt = none →
      nx (.dmovDone c k (some n)) (y.setCore k { y.core k with asyncs := l, excs := if ok = true then (y.core k).excs else (y.core k).excs ++ [(off, 5)] })) ∧
    (x.serves = true → g.asyncs = .crypt off e :: l → g.wait = none → g.preempt = none →
      nx (.cryptDone c k) (x.setCore k { g with asyncs := l, scratch := (cryptResult e).foldl (fun m r => Memory.write m r.1 r.2) g.scratch })))

/-- R265, R266, R267, R270 and R271: a received frame shorter than 64 bytes is dropped, one that is too long or fails its FCS is counted, and a good one of a port that is not STOPPED is steered;
a PFC frame pauses or resumes a lossless priority; a pause runs out at its time; a pause sent is repeated while the buffers stay at or above XON; the watchdog reports a pause that lasts and
drops the priority where it is told to; and the dropping ends 10 ms after the pause. The model's own choices in it: notes 74, 76, 77. -/
def Obligations.PortFrames : Prop :=
  ∀ (s : State) (c : ChId) (n p quanta t : Nat) (data : List Byte) (ok : Bool) (h r : Nat),
    let x := s.ch c
    let u := x.port n
    let size := data.length + 4
    let q := parseFrame data
    let up := x.serves = true ∧ x.hasPort n = true ∧ u.link = .up
    let live := up ∧ x.fnState (0x10 + n) ≠ .stopped
    let clean := q.etype ≠ 0x8808 ∧ (q.v6 = true → q.isUdp = true → q.dport = x.fget Reg.FAB_FMT_CFG 31 16 → q.udpOk = true)
    let nx := fun (i : Instr) (y : Chan) => exec i s = .next (s.after c y)
    let late := x.reach t
    let wd := x.fget (Reg.FAB_PFC_CFG n) 7 0
    let stormy := x.reach (t + wd * 10 * ms + 1)
    let drop := (x.fget (Reg.FAB_PFC_CFG n) 55 48).testBit p
    (up → size < 64 → nx (.frameReceive c n data ok) x) ∧
    (up → 64 ≤ size → x.maxFrame n < size → nx (.frameReceive c n data ok) (x.bump (Reg.FAB_PORT_DROP n) 63 48 1)) ∧
    (up → 64 ≤ size → size ≤ x.maxFrame n → ok = false → nx (.frameReceive c n data ok) (x.bump (Reg.FAB_PORT_DROP n) 47 32 1)) ∧
    (live → 64 ≤ size → size ≤ x.maxFrame n → ok = true → clean →
      (x.freeHandle = none → let y := x.bump (Reg.FAB_PORT_DROP n) 31 16 1; nx (.frameReceive c n data ok) (y.event 0x7009 none n (y.fget (Reg.FAB_PORT_DROP n) 31 16))) ∧
      (x.freeHandle = some h → x.steer data q q.prio = .ring r → (u.rings.getD r []).length < 512 →
        let y := { x with fab := { x.fab with bufs := x.fab.bufs.put h ⟨data.length, Memory.write [] 0 data, true, some (n, q.prio)⟩ } }
        let z := y.setPort n { u with rings := u.rings.set [] r (u.rings.getD r [] ++ [h]), held := u.held.set 0 q.prio (u.held.getD q.prio 0 + 1) }
        nx (.frameReceive c n data ok) (z.xoff n q.prio)) ∧
      (x.freeHandle = some h → x.steer data q q.prio = .ring r → 512 ≤ (u.rings.getD r []).length → nx (.frameReceive c n data ok) (x.bump (Reg.FAB_PORT_DROP n) 31 16 1)) ∧
      (x.freeHandle = some h → x.steer data q q.prio = .other → nx (.frameReceive c n data ok) (x.bump (Reg.FAB_PORT_DROP n) 31 16 1))) ∧
    (live → p ≤ 7 → x.lossless n p = true →
      nx (.pfcFrameReceived c n p 0) (x.setPort n (u.resumed p x.time)) ∧
      (quanta ≠ 0 → nx (.pfcFrameReceived c n p quanta) (x.setPort n { u with
        rxPaused := u.rxPaused.put p (x.time + (quanta * 512 + x.portRate - 1) / x.portRate),
        pausedSince := if (u.rxPaused.find p).isSome then u.pausedSince else u.pausedSince.put p x.time,
        dropping := if (u.dropping.find p).isSome then u.dropping.put p 0 else u.dropping }))) ∧
    (u.rxPaused.find p = some t → nx (.pauseExpiry c n p) (late.setPort n (u.resumed p (max x.time t)))) ∧
    (u.txPaused.find p = some t →
      ((late.xon n ≤ u.held.getD p 0 ∨ x.fnState (0x10 + n) = .stopping) → nx (.pfcPauseRepeat c n p) (late.pausePartner n p)) ∧
      (u.held.getD p 0 < late.xon n → x.fnState (0x10 + n) ≠ .stopping → nx (.pfcPauseRepeat c n p) late)) ∧
    (u.pausedSince.find p = some t → wd ≠ 0 → p ∉ u.stormed → x.hasPort n = true →
      let y := stormy.setPort n { u with stormed := p :: u.stormed, dropping := if drop = true then u.dropping.put p 0 else u.dropping }
      let z := y.event 0x7004 none n (2 ^ p)
      nx (.pfcWatchdogExpiry c n p) (if drop = true then z.dropPrio n p else z)) ∧
    (u.dropping.find p = some t → t ≠ 0 → nx (.watchdogDropEnd c n p) (late.setPort n { u with dropping := u.dropping.del p }))

/-- R55, R263, R264, R268, R276, R286 and R303: a link that comes up is reported and carries what waits; a link that goes down drops its queued frames and its connections move; 1 s of FEC counts
is judged; a write of the lane mode while a port is not STOPPED, or of the mode 3, is discarded with the locked-write event, and another regroups the lanes; an EID assignment with a good
signature is applied while every port is STOPPED, and is answered either way. The model's own choices in it: notes 31, 76, 79. -/
def Obligations.PortLinks : Prop :=
  ∀ (s : State) (c : ChId) (n words fixed bad reqNo eid code : Nat) (valid ok : Bool) (a : Access),
    let x := s.ch c
    let u := x.port n
    let e := eid % 2 ^ 18
    let nx := fun (i : Instr) (y : Chan) => exec i s = .next (s.after c y)
    let nxS := fun (i : Instr) (y : Chan) => nx i (y.serveEnded serveFuel)
    let counted := (x.bump (Reg.FAB_PORT_FEC n) 63 32 bad).bump (Reg.FAB_PORT_FEC n) 31 0 fixed
    let mode := bits (a.apply 0) 1 0
    let down := (x.setPort n { u with link := .down, rxPaused := [], pausedSince := [], stormed := [], txPaused := [], dropping := [] }).dropQueued n
    let assign := Instr.eidAssign c n reqNo valid eid ok
    (x.serves = true → x.hasPort n = true → u.link ≠ .up →
      let y := (x.setPort n { u with link := .up }).event 0x7002 none n (x.fget Reg.FAB_LANE_MODE 1 0)
      nx (.linkUp c n) (y.moveConns.2.carryOn.keepHb)) ∧
    (x.hasPort n = true → u.link ≠ .down → nx (.linkDown c n) ((down.moveConns.2.event 0x7001 none n down.moveConns.1).carryOn)) ∧
    (x.serves = true → x.hasPort n = true →
      ((0 < bad ∨ words < fixed * 100000) → nx (.fecDegradedWindow c n words fixed bad) (counted.event 0x7003 none n bad)) ∧
      (bad = 0 → fixed * 100000 ≤ words → nx (.fecDegradedWindow c n words fixed bad) counted)) ∧
    (x.regsLive = true → reaches a 1 0 = true →
      (∀ p, x.portLock = some p → nx (.fabLaneModeWrite c a) (x.lockedWrite Reg.FAB_LANE_MODE p)) ∧
      (x.portLock = none → mode = 3 → nx (.fabLaneModeWrite c a) (x.lockedWrite Reg.FAB_LANE_MODE 0x10)) ∧
      (x.portLock = none → mode ≠ 3 → mode = x.fget Reg.FAB_LANE_MODE 1 0 → nx (.fabLaneModeWrite c a) x) ∧
      (x.portLock = none → mode ≠ 3 → mode ≠ x.fget Reg.FAB_LANE_MODE 1 0 → nx (.fabLaneModeWrite c a) (x.regroup mode))) ∧
    (x.serves = true → x.hasPort n = true → u.link = .up →
      ((x.sec.fmKey = none ∨ ok = false) → nxS assign ((x.event 0x700A none e 2).eidReply n reqNo 2)) ∧
      (x.sec.fmKey ≠ none → ok = true → x.portLock = none → nxS assign (((x.setEid valid e).keepHb).eidReply n reqNo 0)) ∧
      (∀ p, x.sec.fmKey ≠ none → ok = true → x.portLock = some p → nxS assign (((x.lockedWrite Reg.CHN_EID p).event 0x700A none e 1).eidReply n reqNo 1))) ∧
    nx (.eidReply c n reqNo valid eid code) x

/-- R278, R279 and R281: fab.pd assigns a protection domain that nothing uses; fab.reg gives the lowest unassigned slabs under a fresh key at the next generation, charged to tier T0; fab.revoke
sets the revoke point, and the region goes with its last operation to a quarantine that ends at its time, keeping its generation; fab.owner changes the owner; and the selectors show a
connection and a region. The model's own choices in it: notes 37, 80. -/
def Obligations.RegionCommands : Prop :=
  ∀ (s : State) (c : ChId) (src : Src) (pd slot units rights eid r : Nat) (acl check : Bool) (slabs : List Nat) (y z : Chan) (a : Access),
    let x := s.ch c
    let t := src.slot
    let u := x.region r
    let nx := fun (i : Instr) (y : Chan) => exec i s = .next (s.after c y)
    let adm := fun a => x.admits src a = true
    let shaped := 1 ≤ units ∧ units ≤ 128 ∧ rights ≤ 7 ∧ eid < 2 ^ 18
    let made := { Region.init with kind := .slabs, pd := pd, rights := rights, ownerCheck := check, ownerEid := eid, slabs := slabs, size := units * (2 * mib), tenant := t, byVf := src.vf.isSome }
    let ours := u.pd ≠ 0 ∧ (src.vf = none ∨ u.tenant = t)
    let reg := Instr.fabReg c src pd units rights eid check
    (adm ⟨true, false, false⟩ →
      (15 < slot → slot ≠ 0xFF → nx (.fabPd c src pd slot acl) (x.complete src 0x28 0)) ∧
      (slot ≤ 15 ∨ slot = 0xFF → (pd = 0 ∨ 1023 < pd) → nx (.fabPd c src pd slot acl) (x.complete src 0x87 0)) ∧
      (slot ≤ 15 → x.tag slot ≠ 0 → 1 ≤ pd → pd ≤ 1023 → x.pdUsed pd = true → nx (.fabPd c src pd slot acl) (x.complete src 0x88 0)) ∧
      (slot ≤ 15 → x.tag slot ≠ 0 → 1 ≤ pd → pd ≤ 1023 → x.pdUsed pd = false →
        nx (.fabPd c src pd slot acl) ({ x with fab := { x.fab with pds := x.fab.pds.put pd ⟨slot, acl⟩ } }.complete src 0 0)) ∧
      (1 ≤ pd → pd ≤ 1023 → x.pdUsed pd = false → nx (.fabPd c src pd 0xFF acl) ({ x with fab := { x.fab with pds := x.fab.pds.del pd } }.complete src 0 0))) ∧
    (adm ⟨false, false, true⟩ →
      (x.pdSlot pd ≠ some t → nx reg (x.complete src 0x87 0)) ∧
      (x.pdSlot pd = some t → ¬ shaped → nx reg (x.complete src 0x28 0)) ∧
      (x.pdSlot pd = some t → shaped → x.quotaAllows t 0 (512 * units) = false → nx reg ((x.tierQuotaEvent t 0).complete src 0xA0 0)) ∧
      (x.pdSlot pd = some t → shaped → x.quotaAllows t 0 (512 * units) = true → x.takeSlabs units 1 = none → nx reg (x.complete src 0x86 0)) ∧
      (x.pdSlot pd = some t → shaped → x.quotaAllows t 0 (512 * units) = true → x.takeSlabs units 1 = some (slabs, y) → y.register made = some (r, z) →
        let v := z.region r
        nx reg (z.checkLow.completeX src 0 (leBytes 2 r ++ leBytes 2 0 ++ leBytes 4 v.key ++ leBytes 2 v.gen ++ leBytes 6 0 ++ leBytes 8 (z.regionAddr r))))) ∧
    (adm ⟨false, false, false⟩ → ours →
      (u.st = .valid → nx (.fabRevoke c src r) (x.revokePoint r (some src))) ∧
      (u.st = .revoking → nx (.fabRevoke c src r) (x.complete src 0x8B 0)) ∧
      (u.st = .valid → eid < 2 ^ 18 → nx (.fabOwner c src r eid check) ((x.setRegion r { u with ownerEid := eid, ownerCheck := check }).complete src 0 0))) ∧
    (u.st = .revoking → x.regionBusy r = false → nx (.revokeComplete c r) (x.revokeEnd r)) ∧
    (u.st = .quarantined → nx (.regionQuarantineEnd c r) ((x.reach u.endAt).setRegion r { Region.init with key := u.key, gen := u.gen })) ∧
    (x.regsLive = true → reaches a 12 0 = true →
      let y := x.writeReg Reg.FAB_CONN_SEL a
      let k := y.conn (y.fget Reg.FAB_CONN_SEL 12 0)
      nx (.fabConnSelWrite c a) ((y.wr Reg.FAB_CONN_VIEW0 k.view0).wr Reg.FAB_CONN_VIEW1 k.view1)) ∧
    (x.regsLive = true → reaches a 15 0 = true →
      let y := x.writeReg Reg.FAB_REGION_SEL a
      nx (.fabRegionSelWrite c a) (y.wr Reg.FAB_REGION_VIEW (y.region (y.fget Reg.FAB_REGION_SEL 15 0)).view))

/-- R283, R292, R296 and R297: fab.conn.open of a peer with a session takes the next connection number and opens it; fab.conn.close acts by the connection's state; fab.op issues an operation
valid on an OPEN connection that the caller may use, a STORE with the bytes of the host buffer; fab.roce opens a queue pair at once; each refusal has its status. The model's own choices in
it: notes 78, 80, 81. -/
def Obligations.ConnectionCommands : Prop :=
  ∀ (s : State) (c : ChId) (src : Src) (peer pd target prio pmtu k : Nat) (o : FabOpIn) (data : List Byte) (y : Chan) (q : RoceIn) (ctr : Option Nat),
    let x := s.ch c
    let t := src.slot
    let u := x.conn k
    let nx := fun (i : Instr) (y : Chan) => exec i s = .next (s.after c y)
    let nxS := fun (i : Instr) (y : Chan) => nx i (y.serveEnded serveFuel)
    let open_ := Instr.fabConnOpen c src peer pd target prio pmtu
    let close := Instr.fabConnClose c src k
    let op := Instr.fabOp c src (.ok o)
    let roce := Instr.fabRoce c src (.ok q)
    let adm := fun a => x.admits src a = true
    let shaped := prio ≤ 7 ∧ pmtu ≤ 3 ∧ target ≤ 1023 ∧ peer < 2 ^ 18
    let psn := q.sendPsn % psnMod
    let rpsn := q.recvPsn % psnMod
    let qp : RoceQp := { ip := q.ip, qpn := q.qpn, timeout := q.timeout, ringRegion := q.ringRegion, ringSlots := q.ringSlots, slotSize := q.slotSize,
                         word := q.word, counter := ctr, prog := q.prog, pidx := 0, msgKind := 0, msgLen := 0, got := 0, va := 0, rkey := 0, lastCnp := none, msn := 0 }
    (adm ⟨false, false, true⟩ →
      (x.eid = none → nx open_ (x.complete src 0x8C 0)) ∧
      (x.eid ≠ none → x.pdSlot pd ≠ some t → nx open_ (x.complete src 0x87 0)) ∧
      (x.eid ≠ none → x.pdSlot pd = some t → ¬ shaped → nx open_ (x.complete src 0x28 0)) ∧
      (x.eid ≠ none → x.pdSlot pd = some t → shaped → x.session peer = false → nx open_ (x.complete src 0x8A 0)) ∧
      (x.eid ≠ none → x.pdSlot pd = some t → shaped → x.session peer = true → x.nextConn = none → nx open_ (x.complete src 0x83 0)) ∧
      (x.eid ≠ none → x.pdSlot pd = some t → shaped → x.session peer = true → x.nextConn = some (k, y) →
        nx open_ (y.startOpen k peer pd target prio (min pmtu (y.basePmtu (y.flag Reg.FAB_FMT_CFG 0))) (some src)))) ∧
    (adm ⟨false, false, false⟩ → 8191 < k → nxS close (x.complete src 0x87 0)) ∧
    (adm ⟨false, false, false⟩ → k ≤ 8191 → x.connFor src k = true →
      (u.st = .closed → nxS close (x.complete src 0x82 0)) ∧
      (u.st = .quarantine → nxS close (x.complete src 0 0)) ∧
      (u.st = .error → nxS close ((x.connQuarantine k).complete src 0 0)) ∧
      (u.st = .reqSent → nxS close (((x.completeOpt u.openCmd 0x82 0).failOps k 0x82 |>.connQuarantine k).complete src 0 0)) ∧
      (u.st = .open_ → u.roce ≠ none → nxS close (((x.failOps k 0x82).connQuarantine k).complete src 0 0)) ∧
      (u.st = .open_ → u.roce = none → nxS close ((x.setConn k { u with closeCmd := [src] }).startClose k)) ∧
      (u.st = .closing → nxS close (x.setConn k { u with closeCmd := u.closeCmd ++ [src] }))) ∧
    (adm ⟨false, false, false⟩ → x.dmaFault src.fn = none →
      (x.eid = none → nxS op (x.complete src 0x8C 0)) ∧
      (x.eid ≠ none → (8191 < o.conn ∨ x.connFor src o.conn = false) → nxS op (x.complete src 0x87 0)) ∧
      (x.eid ≠ none → o.conn ≤ 8191 → x.connFor src o.conn = true → (src.vf ≠ none ∨ (x.connSlot o.conn).any (fun t => x.flag (Reg.SEC_TEN_CFG t) 63) = false) →
        ((x.conn o.conn).st ≠ .open_ → nxS op (x.complete src 0x82 0)) ∧
        ((x.conn o.conn).st = .open_ → fabOpOk o (x.conn o.conn) = false → nxS op (x.complete src 0x89 0)) ∧
        ((x.conn o.conn).st = .open_ → fabOpOk o (x.conn o.conn) = true → (o.opcode = 3 ∨ o.opcode = 5 ∨ o.opcode = 6 ∨ o.opcode = 7) →
          nxS op ((x.issue o.conn (fabOpTx o src [])).flush o.conn)) ∧
        ((x.conn o.conn).st = .open_ → fabOpOk o (x.conn o.conn) = true → o.opcode ≠ 3 → o.opcode ≠ 5 → o.opcode ≠ 6 → o.opcode ≠ 7 → o.data = .ok data →
          nxS op ((x.issue o.conn (fabOpTx o src data)).flush o.conn)))) ∧
    (adm ⟨false, false, true⟩ → x.dmaFault src.fn = none → x.eid ≠ none → x.pdSlot q.pd = some t →
      (x.flag (Reg.SEC_TEN_CFG t) 63 = true → nx roce ((x.privateRefused t q.pd 0x7008).complete src 0xC8 0)) ∧
      (x.flag (Reg.SEC_TEN_CFG t) 63 = false → (q.mtu = 1024 ∨ q.mtu = 2048 ∨ q.mtu = 4096) → q.timeout ≤ 31 → q.word ≤ 8191 → x.ringFits q = true → x.recvCounter q t = some ctr →
        x.nextConn = some (k, y) →
        let z := y.setConn k { Conn.init with
          st := .open_, roce := some qp, pd := q.pd, pmtu := q.mtu, initPsn := psn, nx := psn, una := psn, ep := rpsn, peerInit := rpsn, cwnd := y.winInit, peerWin := 65535,
          rto := 4096 * 2 ^ q.timeout, v6 := decide (q.ip / 2 ^ 32 ≠ 0xFFFF), ours := true, byVf := src.vf.isSome, port := (y.portFor k).getD 0, lastUse := y.time }
        nx roce (z.completeX src 0 (leBytes 4 (0x100000 + k) ++ leBytes 2 k ++ leBytes 2 0))))

/-- R275, R277, R280, R287, R288, R289, R290 and R292: a packet that fails its tag or lacks PROT is counted and reported; one that is taken on its connection is judged where its PSN is the one
expected: a store is applied and accepted, a load and an atomic are answered and accepted, and a refusal is answered with its syndrome and reason; an earlier PSN is a duplicate, acknowledged
once and answered again for a load; a later one draws one sequence NAK; ACK and NAK release, refuse or resend what they name; and an answer reaches its operation. The model's own choices in
it: notes 14, 75, 81, 82. -/
def Obligations.FabricPackets : Prop :=
  ∀ (s : State) (c : ChId) (p : FmtPkt) (y z : Chan) (units old : Nat) (bytes : List Byte) (r : Refuse),
    let x := s.ch c
    let k := p.dstConn
    let nxS := fun (i : Instr) (y : Chan) => exec i s = .next (s.after c (y.serveEnded serveFuel))
    let a := fun (flagged : Bool) => { conn := k, psn := p.psn, off := p.addr % 2 ^ 46, region := p.region, key := p.key, gen := some p.gen, eid := p.srcEid, flagged := flagged : Acc }
    let d := psnSub p.psn (y.conn k).ep
    let store := fun (flagged : Bool) => if flagged = true then Instr.fstore c p else .store c p
    let swap := fun old => if old = beVal ((p.data.drop 8).take 8) then some (beVal (p.data.take 8)) else none
    let late := let w := y.setConn k { y.conn k with dupRun := false }
      if (y.conn k).nakSent = true then w else let v := w.sendNak k 1 (y.conn k).ep 0; v.setConn k { v.conn k with nakSent := true }
    let again := fun (f : Chan → Chan) => let w := f (y.bump Reg.FAB_RX_CNT 31 0 1)
      let v := if (y.conn k).dupRun = true then w else w.sendAck k
      v.setConn k { v.conn k with dupRun := true }
    let refused := fun (i : Instr) (w : Chan) (r : Refuse) => nxS i (w.refused k p.psn p.addr p.srcEid r)
    let atomic := fun (i : Instr) (n : Nat) (f : Nat → Option Nat) =>
      (d = 0 → p.data.length ≠ n → refused i y (4, 0)) ∧
      (d = 0 → p.data.length = n → y.judgeAtomic (a false) f = (z, .error r) → refused i z r) ∧
      (d = 0 → p.data.length = n → y.judgeAtomic (a false) f = (z, .ok old) →
        let w := z.setConn k { z.conn k with atomics := ((p.psn, old) :: (z.conn k).atomics).take z.atomicMax }
        nxS i ((w.sendAtomicResp k p.psn old).accepted k p.psn 1 p.ar 0)) ∧
      (2 ^ 23 ≤ d → (y.conn k).atomics.find? (fun e => decide (e.1 = p.psn)) = some (p.psn, old) → nxS i (again (fun w => w.sendAtomicResp k p.psn old)))
    let shaped := p.addr % 8 = 0 ∧ p.oplen % 8 = 0 ∧ 8 ≤ p.oplen ∧ p.oplen ≤ 1048576 ∧ p.data = []
    (x.hears p = true → (p.prot = false ∨ p.tagOk = false) →
      ∀ i, i = Instr.store c p ∨ i = .fstore c p ∨ i = .load c p ∨ i = .loadResp c p ∨ i = .fadd64 c p ∨ i = .cswap64 c p ∨ i = .swap64 c p ∨ i = .atomicResp c p ∨ i = .ack c p ∨ i = .nak c p →
        nxS i ((x.bump Reg.FAB_RX_CNT 63 32 1).eventEvery ms 0x7008 p.srcEid none p.srcEid (fun n => n))) ∧
    (x.comesIn p true = some y →
      (0 < d → d < 2 ^ 23 → ∀ i, i = Instr.store c p ∨ i = .fstore c p ∨ i = .load c p ∨ i = .fadd64 c p ∨ i = .cswap64 c p ∨ i = .swap64 c p → nxS i late) ∧
      (∀ flagged : Bool,
        (2 ^ 23 ≤ d → nxS (store flagged) (again id)) ∧
        (d = 0 → FmtPkt_storeOk p (y.conn k) flagged = false → refused (store flagged) y (4, 0)) ∧
        (d = 0 → FmtPkt_storeOk p (y.conn k) flagged = true → y.judgeStore (a flagged) false p.data = (z, .error r) → refused (store flagged) z r) ∧
        (d = 0 → FmtPkt_storeOk p (y.conn k) flagged = true → y.judgeStore (a flagged) false p.data = (z, .ok units) → nxS (store flagged) (z.accepted k p.psn 1 p.ar units))) ∧
      (d = 0 → ¬ shaped → refused (.load c p) y (4, 0)) ∧
      (d = 0 → shaped → y.judgeLoad (a false) p.oplen = (z, .error r) → refused (.load c p) z r) ∧
      (d = 0 → shaped → y.judgeLoad (a false) p.oplen = (z, .ok bytes) → nxS (.load c p) ((z.sendLoadResp k p.psn bytes).accepted k p.psn 1 p.ar 0)) ∧
      atomic (.fadd64 c p) 8 (fun old => some (old + beVal (p.data.take 8))) ∧
      atomic (.cswap64 c p) 16 swap ∧
      atomic (.swap64 c p) 8 (fun _ => some (beVal (p.data.take 8))) ∧
      nxS (.loadResp c p) ((y.answered k p.psn p.oplen false p.data).flush k) ∧
      nxS (.atomicResp c p) ((y.answered k p.psn 0 true (p.data.take 8)).flush k)) ∧
    (x.comesIn p false = some y →
      let w := y.setConn k { y.conn k with peerWin := p.window }
      nxS (.ack c p) (((w.acked k p.psn).cutWindow k p.ece (y.conn k)).flush k) ∧
      nxS (.nak c p) (((w.nakked k p.syndrome p.psn p.reason).cutWindow k p.ece (y.conn k)).flush k))

/-- R283, R284 and R285: a CONN_REQ that the checks pass opens a connection and is answered with CONN_ACC, a repeated one is answered again, and another is refused with its reason; CONN_ACC
opens what asked, CONN_REJ ends it with 0x81; CLOSE is answered, and ends the connection with the operations that wait; CLOSE_ACK ends a close; and one for no such connection is answered
with CONN_REJ. R283, R285, R287, R288, R289, R290 and R292: a retransmission timeout halves the window, doubles its time up to 65 ms and sends again from the oldest unacknowledged packet, or
after the last retry puts the connection in ERROR; where all is acknowledged, the loads not yet answered are issued again; an acknowledgement delayed is sent; a sender that was told to wait
goes back; CONN_REQ and CLOSE are sent 8 times more; a number leaves quarantine as the last to be used again; and a base connection idle for 10 s closes. The model's own choices in it: notes
6, 82, 101. -/
def Obligations.ConnectionExchanges : Prop :=
  (∀ (s : State) (c : ChId) (p : FmtPkt) (n reason : Nat) (y : Chan),
    let x := (s.ch c).heardFrom p.srcEid
    let k := p.dstConn
    let u := x.conn k
    let nxS := fun (i : Instr) (y : Chan) => exec i s = .next (s.after c (y.serveEnded serveFuel))
    let (_, target, source, prio, pmtu) := connFields p.data
    let born := fun (y : Chan) (r : Nat) =>
      let v6 := y.flag Reg.FAB_FMT_CFG 0
      { Conn.init with
        st := .open_, prio := prio % 8, pd := target, target := source, peer := p.srcEid, peerConn := p.srcConn, initPsn := r, nx := r, una := r,
        pmtu := pmtuBytes (min pmtu (y.basePmtu v6)), v6 := v6, ours := false, port := (y.portFor n).getD 0 }
    (s.ch c).hears p = true → p.prot = true → p.tagOk = true →
    (x.connRepeat p = some n → nxS (.connReq c p) (x.sendConn n 0x21)) ∧
    (x.connRepeat p = none → x.connReason p = some reason → nxS (.connReq c p) ((x.event 0x700B none p.srcEid reason).sendRej p reason)) ∧
    (x.connRepeat p = none → x.connReason p = none → x.nextConn = some (n, y) →
      let z := y.draw.2
      nxS (.connReq c p) ((((z.setConn n (born z (y.draw.1 % psnMod))).nowOpen n p.psn).sendConn n 0x21).extraBase p.srcEid)) ∧
    (u.st = .reqSent → u.peer = p.srcEid →
      let z := x.setConn k { u with peerConn := p.srcConn, pmtu := min u.pmtu (pmtuBytes pmtu) }
      nxS (.connAcc c p) ((((z.nowOpen k p.psn).completeOpt u.openCmd 0 k).flush k).extraBase p.srcEid)) ∧
    (u.st = .open_ → u.isWith p = true → nxS (.connAcc c p) x ∧ nxS (.closeAck c p) x) ∧
    (u.st = .closed → nxS (.connAcc c p) (x.stray p) ∧ nxS (.closeAck c p) (x.stray p)) ∧
    (u.peer = p.srcEid → u.roce = none →
      (u.st = .reqSent → nxS (.connRej c p) (((x.completeOpt u.openCmd 0x81 p.syndrome).failOps k 0x82).connQuarantine k)) ∧
      ((u.st = .open_ ∨ u.st = .closing) → p.syndrome = 3 → nxS (.connRej c p) (x.connError k 2 false)) ∧
      ((u.st = .open_ ∨ u.st = .closing) → p.syndrome ≠ 3 → nxS (.connRej c p) x)) ∧
    (u.isWith p = true → (u.st = .open_ ∨ u.st = .closing) → nxS (.close c p) (((x.sendOn k id 0x24 []).failOps k 0x82).connQuarantine k)) ∧
    (u.isWith p = true → u.st = .quarantine → nxS (.close c p) (x.sendOn k id 0x24 [])) ∧
    (u.isWith p = false → nxS (.close c p) (x.stray p)) ∧
    (u.isWith p = true → u.st = .closing → u.due ≠ none → nxS (.closeAck c p) (x.connQuarantine k))) ∧
  (∀ (s : State) (c : ChId) (k t : Nat),
    let x := s.ch c
    let u := x.conn k
    let late := x.reach t
    let nx := fun (i : Instr) (y : Chan) => exec i s = .next (s.after c y)
    let nxS := fun (i : Instr) (y : Chan) => nx i (y.serveEnded serveFuel)
    let counted := late.bump Reg.FAB_RETX_CNT 63 32 1
    let limit := if u.roce.isSome = true then 7 else counted.retryMax
    let rto := max u.rto (min (2 * u.rto) (65 * ms))
    let again := { u with retries := u.retries + 1, rto := rto, cwnd := max 1 (u.cwnd / 2), rtoDue := some (max x.time t + rto) }
    let retried := late.setConn k { u with tries := u.tries + 1, due := some (max x.time t + ms) }
    (u.rtoDue = some t → (u.st = .open_ ∨ u.st = .closing) →
      (u.una ≠ u.nx → limit ≤ u.retries → nxS (.retransmitTimeout c k) (counted.connError k 1 false)) ∧
      (u.una ≠ u.nx → u.retries < limit → nxS (.retransmitTimeout c k) ((counted.setConn k again).resend k)) ∧
      (u.una = u.nx → nxS (.retransmitTimeout c k)
        ((late.setConn k { u with rtoDue := some (max x.time t + u.rto), ops := u.ops.map (fun o => if o.sent = true ∧ o.opcode = 3 then o.missing else o) }).flush k))) ∧
    (u.ackDue = some t → nx (.ackDelayExpiry c k) (late.sendAck k)) ∧
    (u.rnrDue = some t → nxS (.rnrDelayExpiry c k) (((late.setConn k { u with rnrDue := none, rtoDue := some (max x.time t + u.rto) }).resend k).flush k)) ∧
    (u.due = some t → u.st = .reqSent →
      (u.tries < 8 → nxS (.connReqRetry c k) (retried.sendConn k 0x20)) ∧
      (8 ≤ u.tries → nxS (.connReqRetry c k) (((late.completeOpt u.openCmd 0x80 0).failOps k 0x82).connQuarantine k))) ∧
    (u.due = some t → u.st = .closing →
      (u.tries < 8 → nxS (.closeRetry c k) (retried.sendClose k)) ∧
      (8 ≤ u.tries → nxS (.closeRetry c k) (late.connQuarantine k))) ∧
    (u.st = .quarantine → let y := (x.reach u.endAt).setConn k Conn.init; nx (.quarantineEnd c k) { y with fab := { y.fab with freeConns := pushRun y.fab.freeConns k } }) ∧
    (x.serves = true → u.st = .open_ → u.pd = 0 → u.roce = none → u.ops = [] →
      (x.hbPeer u.peer = false →
        nxS (.pd0IdleClose c k) (((x.reach (u.lastUse + 10000 * ms)).setConn k { u with st := .closing, due := none, tries := 0 }).closeIfIdle k)) ∧
      (x.hbPeer u.peer = true → nxS (.pd0IdleClose c k) x)))

/-- R296, R298, R299 and R300, for a packet that is taken on its queue pair: a SEND or WRITE in order is applied and accepted, or refused with its syndrome; a READ in order is answered in
packets of the path MTU and uses as many PSNs, and a duplicate is answered again; an acknowledgement releases, waits, resends or ends the queue pair by its syndrome; a CNP halves the window;
and an opcode outside the profile is refused as an invalid request. The model's own choices in it: notes 84, 85. -/
def Obligations.RocePackets : Prop :=
  ∀ (s : State) (c : ChId) (p : RocePkt) (y z : Chan) (units : Nat) (bytes : List Byte) (r : Refuse),
    let x := s.ch c
    let k := roceConn p.qp
    let nx := fun (i : Instr) (y : Chan) => exec i s = .next (s.after c y)
    let nxS := fun (i : Instr) (y : Chan) => nx i (y.serveEnded serveFuel)
    let d := psnSub p.psn (y.conn k).ep
    let sends := p.opcode ≤ 5 ∨ p.opcode = 9 ∨ p.opcode = 0xB
    let writes := 6 ≤ p.opcode ∧ p.opcode ≤ 0xB
    let ends := fun status cause => (((y.release k p.psn).opRefused k p.psn status 0).reap k reapFuel).connError k cause false
    let m := max 1 ((bytes.length + max 1 (z.conn k).pmtu - 1) / max 1 (z.conn k).pmtu)
    x.comesInQp p = some y →
    (∀ i, (i = Instr.roceSend c p ∧ sends) ∨ (i = .roceRdmaWrite c p ∧ writes) →
      (d = 0 → y.message k p = (z, .ok units) → nxS i (z.accepted k p.psn 1 p.ar units)) ∧
      (d = 0 → y.message k p = (z, .error r) → nxS i (z.refused k p.psn p.va 0 r))) ∧
    (p.opcode = 0xC → d = 0 → y.judgeRead k p = (z, .ok bytes) →
      nxS (.roceRdmaReadRequest c p) (((z.setQp k (fun q => { q with msn := (q.msn + 1) % psnMod })).sendReadResp k p.psn bytes).accepted k p.psn m false 0)) ∧
    (p.opcode = 0xC → d = 0 → y.judgeRead k p = (z, .error r) → nxS (.roceRdmaReadRequest c p) (z.refused k p.psn p.va 0 r)) ∧
    (p.opcode = 0x11 → (y.conn k).within p.psn true = true →
      (p.syndrome < 0x20 → nxS (.roceAcknowledge c p) ((y.acked k p.psn).flush k)) ∧
      (0x20 ≤ p.syndrome → p.syndrome < 0x40 → nxS (.roceAcknowledge c p) ((y.notReady k p.psn).flush k)) ∧
      (p.syndrome = 0x60 → nxS (.roceAcknowledge c p) (((y.release k p.psn).bump Reg.FAB_RETX_CNT 31 0 1 |>.resend k).flush k)) ∧
      (p.syndrome = 0x61 → nxS (.roceAcknowledge c p) (ends 0x85 5)) ∧
      (p.syndrome = 0x62 → nxS (.roceAcknowledge c p) (ends 0x84 4)) ∧
      (p.syndrome = 0x63 → nxS (.roceAcknowledge c p) (ends 0x85 5))) ∧
    (p.opcode = 0x81 → nx (.roceCnp c p) (y.setConn k { y.conn k with cwnd := max 1 ((y.conn k).cwnd / 2) })) ∧
    (roceSupported p.opcode = false → d = 0 → nxS (.roceUnsupportedOpcode c p) (y.refused k p.psn 0 0 (4, 0)))

/-- R48, R306, R307, R308, R311, R313, R314, R315 and R319: when the wire of a RUNNING port falls free, the frames that would never fit are discarded and the port selects: the selected head
frame is transmitted where no tenant polices it or the policer judges it green, marked where yellow as its tenant asks, and discarded where red, the port selecting again; a gate entry gives
way to the next; a bucket regains zero; and a head frame past the alarm is reported. R312, R317, R318 and R319: a write of a rate or burst register fills the buckets it governs; the read of
a high-water mark gives it and sets the half that it read to zero; the sample ring takes one record of each RUNNING port in port order at the time due, and the host's consumed index is kept.
The model's own choices in it: notes 9, 83. -/
def Obligations.TrafficScheduling : Prop :=
  (∀ (s : State) (c : ChId) (n q t r burst : Nat) (e : Egress) (f : QFrame) (fs : List QFrame) (y z : Chan) (b : Bucket),
    let x := s.ch c
    let nx := fun (i : Instr) (y : Chan) => exec i s = .next (s.after c y)
    let w := y.setEgress n e
    let g := x.egress n
    let turn := match g.gateIdx with | none => 0 | some i => (i + 1) % max 1 (x.gclLen n)
    let alarm := x.fget (Reg.TM_PORT_ALARM n) 31 0
    let refilled := fun (y : Chan) => Bucket.mk (bucketAt (some b) r burst y.time) y.time
    let late := x.reach (zeroAt b r)
    (x.sends n = true → x.dropHeads n dropFuel 0 = y →
      (y.select n = (none, e) → nx (.wireFree c n) w) ∧
      (y.select n = (some q, e) → w.qframes n q = f :: fs →
        (f.conn.bind w.connSlot = none → nx (.wireFree c n) (w.transmit n q f false)) ∧
        (f.conn.bind w.connSlot = some t → w.police t 1 f.size = (.green, z) → nx (.wireFree c n) (z.transmit n q f false)) ∧
        (f.conn.bind w.connSlot = some t → w.police t 1 f.size = (.yellow, z) → nx (.wireFree c n) (z.transmit n q f (z.yelEcn t 1))) ∧
        (f.conn.bind w.connSlot = some t → w.police t 1 f.size = (.red, z) → nx (.wireFree c n) ((z.popFrame n q).selectSend n x.bufsUsed)))) ∧
    (x.hasPort n = true → x.gclOn n = true → x.running (0x40 + n) = true →
      nx (.gateEntryExpiry c n) ((x.reach g.gateEnd).setEgress n { g with gateIdx := some turn, gateEnd := g.gateEnd + (x.reach g.gateEnd).gclInterval n turn })) ∧
    (x.qframes n q = f :: fs → alarm ≠ 0 → x.hasPort n = true → q < 16 →
      let y := x.reach (f.at_ + alarm + 1)
      nx (.sojournAlarm c n q) (y.eventEvery ms 0x8004 n none n (fun _ => q + min (y.time - f.at_) (2 ^ 32 - 1) * 2 ^ 32))) ∧
    (x.shape (Reg.TM_PORT_SHAPE n) = (r, burst) → g.pBucket = some b → r ≠ 0 → nx (.shaperBucketRefill c n none) (late.setEgress n { g with pBucket := some (refilled late) })) ∧
    (x.shape (Reg.TM_Q_SHAPE n q) = (r, burst) → g.qBucket.find q = some b → r ≠ 0 →
      nx (.shaperBucketRefill c n (some q)) (late.setEgress n { g with qBucket := g.qBucket.put q (refilled late) }))) ∧
  (∀ (s : State) (c : ChId) (off cidx at_ : Nat) (a : Access),
    let x := s.ch c
    let nx := fun (i : Instr) (y : Chan) => exec i s = .next (s.after c y)
    (x.regsLive = true → x.isBucketReg off = true → nx (.tmBucketWrite c off a) ((x.writeReg off a).fillBuckets off)) ∧
    (x.regsLive = true → x.isMark off = true →
      nx (.hwmRead c off .both) ((x.emit (.regRead off (x.rd off))).wr off 0) ∧
      nx (.hwmRead c off .low) ((x.emit (.regRead off (x.fget off 31 0))).fset off 31 0 0) ∧
      nx (.hwmRead c off .high) ((x.emit (.regRead off (x.fget off 63 32))).fset off 63 32 0)) ∧
    (x.flag Reg.TM_SMP_CFG 63 = true → x.serves = true → x.tm.smpDue = some at_ →
      let y := x.reach at_
      let z := { y with tm := { y.tm with smpDue := some (at_ + max 10 (min 1000000 (x.fget Reg.TM_SMP_CFG 31 0)) * 1000) } }
      nx (.sampleDue c) (z.runningPorts.foldl Chan.sampleOne z)) ∧
    (x.regsLive = true → nx (.tmSmpCidxWrite c cidx) (x.fset Reg.TM_SMP_PTR 31 0 cidx)))

/-- R321, R323, R324, R326, R328, R329, R334 and R335: pfx.chain keeps 16 token ids for each group and gives the number of groups that have a key; pfx.publish writes an entry for the chain key
of each group of a SEALED or PARKED context, each in the lowest free entry; pfx.lookup answers at once where no key goes round the ring; pfx.write writes an entry of a RUNNING segment; and
pfx.unpin lowers the references of an owner. The model's own choices in it: notes 70, 71. -/
def Obligations.PrefixCommands : Prop :=
  ∀ (s : State) (c : ChId) (src : Src) (h slot first count seg host entry key mask result n owed : Nat) (toks groups keys : List Nat) (valid : Bool) (y : Chan) (rs : AMap Nat),
    let x := s.ch c
    let e := x.entry slot
    let nx := fun (i : Instr) (y : Chan) => exec i s = .next (s.after c y)
    let chain := Instr.pfxChain c src h first count (.ok toks)
    let publish := Instr.pfxPublish c src h seg (.ok groups)
    let lookup := Instr.pfxLookup c src seg (.ok keys) host
    let kept := (List.range count).foldl (fun c i =>
      { c with pfx := { c.pfx with tokens := c.pfx.tokens.put (tokenKey slot (first + i)) ((toks.drop (16 * i)).take 16) } }) x
    let done := ((List.range 262144).find? (fun g => decide (((kept.map slot).grp g).chain = 0))).getD 262144
    let chained := kept.chainFrom slot chainFuel done
    let sized := 1 ≤ count ∧ count ≤ 4096 ∧ first + count ≤ 262144
    let mine := x.segFor src seg = true ∧ x.segUse seg = 1
    let stored := e.state = .sealed ∨ e.state = .parked
    let named := ∀ g ∈ groups, ((x.map slot).grp g).chain ≠ 0
    let value := if valid = true then some { key := key % 2 ^ 128, mask := mask % 2 ^ 128, result := result % 2 ^ 32 } else none
    let short := (y.event 0x9003 (if y.segOwner seg < 16 then some (y.segOwner seg) else none) seg (groups.length - n)).complete src 0x91 n
    (x.admitsCtx src ⟨false, false, false⟩ = true → x.owns src h slot = true →
      (¬ sized → nx chain (x.complete src 0x28 0)) ∧
      (sized → x.dmaFault src.fn = none → nx chain (chained.complete src 0 (chained.keyed slot first count))) ∧
      (x.dmaFault src.fn = none → ¬ stored → nx publish (x.complete src 0x22 0)) ∧
      (x.dmaFault src.fn = none → stored → ¬ mine → nx publish (x.complete src 0x90 0)) ∧
      (x.dmaFault src.fn = none → stored → mine → x.running (0x100 + seg) = false → nx publish (x.complete src 0x92 0)) ∧
      (x.dmaFault src.fn = none → stored → mine → x.running (0x100 + seg) = true → groups.length ≤ 64 → ¬ named → nx publish (x.complete src 0x93 0)) ∧
      (x.dmaFault src.fn = none → stored → mine → x.running (0x100 + seg) = true → groups.length ≤ 64 → named → x.publish slot seg groups = (n, y) →
        nx publish (if n = groups.length then y.complete src 0 n else short))) ∧
    (x.admits src ⟨false, false, false⟩ = true → x.dmaFault src.fn = none →
      (x.segFor src seg = false → nx lookup (x.complete src 0x90 0)) ∧
      (x.segFor src seg = true → 64 < keys.length → nx lookup (x.complete src 0x28 0)) ∧
      (x.segFor src seg = true → keys.length ≤ 64 → x.lookupKeys src host seg 0 keys = (rs, 0, y) → nx lookup (y.lookupDone src host keys.length rs)) ∧
      (x.segFor src seg = true → keys.length ≤ 64 → x.lookupKeys src host seg 0 keys = (rs, owed, y) → owed ≠ 0 →
        nx lookup { y with pfx := { y.pfx with cmds := y.pfx.cmds ++ [{ src := src, host := host, results := rs, owed := owed, total := keys.length }] } })) ∧
    (x.admits src ⟨true, false, false⟩ = true →
      (131071 < entry → nx (.pfxWrite c src entry key mask result valid) (x.complete src 0x28 0)) ∧
      (entry ≤ 131071 → x.running (0x100 + entry / 512) = false → nx (.pfxWrite c src entry key mask result valid) (x.complete src 0x92 0)) ∧
      (entry ≤ 131071 → x.running (0x100 + entry / 512) = true → nx (.pfxWrite c src entry key mask result valid) ((x.pfxPut entry value).complete src 0 0))) ∧
    (x.admitsCtx src ⟨true, false, false⟩ = true → x.owns src h slot = true →
      (e.refs < count → nx (.pfxUnpin c src h count) (x.complete src 0x94 0)) ∧
      (count ≤ e.refs → 0 < count → let y := x.lowerRefs slot count; nx (.pfxUnpin c src h count) (y.complete src 0 (y.entry slot).refs)) ∧
      (count = 0 → nx (.pfxUnpin c src h count) (x.complete src 0 e.refs)))

/-- R122, R330, R331 and R332: ATTACH at the owner's channel raises its references and is answered with ATTACH_ACK, or refused with the first reason; DETACH lowers them, and is always answered;
the same request again is answered the same and counts nothing; an acknowledgement attaches the context that asked, or gives the reference back; a message unanswered is sent 8 times. The
model's own choices in it: notes 72, 73. -/
def Obligations.AttachExchange : Prop :=
  ∀ (s : State) (c : ChId) (peer slot n : Nat) (m : AttachMsg) (r : Nat) (q : AttachReq) (a : AttachAnswer) (y : Chan),
    let x := s.ch c
    let nxS := fun (i : Instr) (y : Chan) => exec i s = .next (s.after c (y.serveEnded serveFuel))
    let hears := x.serves = true ∧ x.ctx.ready = true
    let earlier := x.pfx.answered.find? (fun a => decide (a.peer = peer ∧ a.reqNum = m.reqNum ∧ x.time < a.until_))
    let owner := bits m.owner 29 16
    let answer := fun (y : Chan) (ty : Nat) (m : AttachMsg) =>
      { y with pfx := { y.pfx with answered := { peer := peer, reqNum := m.reqNum, ty := ty, msg := m, until_ := y.time + 100 * ms } :: y.pfx.answered.filter (fun a => decide (y.time < a.until_)) } }.sendAttach peer ty m
    let asked := fun (detach : Bool) => x.serves = true ∧ x.pfx.reqs.find m.reqNum = some q ∧ q.peer = peer ∧ q.isDetach = detach
    let rest := { x with pfx := { x.pfx with reqs := x.pfx.reqs.del m.reqNum } }
    let back := fun (y : Chan) (st : Nat) => (y.attachRequest peer true { q.msg with owner := m.owner, reason := 0 } none).completeOpt q.cmd st 0
    let late := x.reach q.due
    let gone := { late with pfx := { late.pfx with reqs := late.pfx.reqs.del n } }
    let reported := gone.event 0x9004 (gone.slotOfTag q.msg.tag) q.msg.attacher (q.msg.owner / 65536 * 65536)
    (hears → earlier = some a → ∀ i, i = Instr.attach c peer m ∨ i = Instr.detach c peer m → nxS i (x.sendAttach peer a.ty a.msg)) ∧
    (hears → earlier = none → x.attachReason owner m = some r → nxS (.attach c peer m) (answer x 3 { m with reason := r })) ∧
    (hears → earlier = none → x.attachReason owner m = none →
      let y := x.raiseRefs owner m.n
      nxS (.attach c peer m) (answer y 2 { m with reason := 0, owner := y.handle owner })) ∧
    (hears → earlier = none → x.ownerSlot m.owner = some slot → nxS (.detach c peer m) (answer (x.lowerRefs slot 1) 5 m)) ∧
    (hears → earlier = none → x.ownerSlot m.owner = none → nxS (.detach c peer m) (answer x 5 m)) ∧
    (asked false → nxS (.attachRefuse c peer m) (rest.completeOpt q.cmd 0x31 0)) ∧
    (asked false → rest.checkHandle q.msg.attacher = .error r → nxS (.attachAck c peer m) (back rest 0x20)) ∧
    (asked false → rest.checkHandle q.msg.attacher = .ok slot → rest.attachable slot = false → nxS (.attachAck c peer m) (back rest 0x22)) ∧
    (asked false → rest.checkHandle q.msg.attacher = .ok slot → rest.attachable slot = true → rest.needBlocks slot q.msg.n = none → nxS (.attachAck c peer m) (back rest 0x30)) ∧
    (asked false → rest.checkHandle q.msg.attacher = .ok slot → rest.attachable slot = true → rest.needBlocks slot q.msg.n = some y →
      nxS (.attachAck c peer m) ((y.attachTo slot m.owner q.msg.n none).completeOpt q.cmd 0 (16 * q.msg.n))) ∧
    (asked true → rest.checkHandle q.msg.attacher = .ok slot → (rest.entry slot).prefixAttached = true → (rest.map slot).attachment.1 = q.msg.owner →
      nxS (.detachAck c peer m) (rest.update slot 3 (fun e => { e with prefixAttached := false, peer := 0 }))) ∧
    (x.serves = true → x.pfx.reqs.find n = some q → q.tries < 8 →
      let y := { late with pfx := { late.pfx with reqs := late.pfx.reqs.put n { q with tries := q.tries + 1, due := late.time + ms } } }
      nxS (.attachMsgRetry c n) (y.sendAttach q.peer (if q.isDetach = true then 4 else 1) q.msg)) ∧
    (x.serves = true → x.pfx.reqs.find n = some q → 8 ≤ q.tries → q.isDetach = false → nxS (.attachMsgRetry c n) (reported.completeOpt q.cmd 0x31 0))

/-- R326 and R327: a frame of another member goes on with this member's hit where it is the best so far; the channel's own frame ends the wait of its lookup with the hit that it carries; a frame
that does not come back in time is counted and its lookup ends with the local result, and after three in a row the cascade is down; a probe that comes back brings it up again, and one goes
out every 1 ms while it is down. The model's own choices in it: note 73. -/
def Obligations.Cascade : Prop :=
  ∀ (s : State) (c : ChId) (f : CascFrame) (w : CascWait) (seq r : Nat),
    let x := s.ch c
    let nx := fun (i : Instr) (y : Chan) => exec i s = .next (s.after c y)
    let taken := x.serves = true ∧ f.crcOk = true ∧ x.cascState ≠ 0
    let mine := x.pfx.waits.find? (fun w => decide (w.seq = f.seq ∧ w.probe = f.probe)) = some w
    let heard := { x with pfx := { x.pfx with miss := 0 } }
    let up := { x with pfx := { x.pfx with waits := x.pfx.waits.erase w, miss := 0 } }
    let found := x.segUse f.seg = f.use ∧ f.use ≠ 2 ∧ x.flag (Reg.PFX_SEG_CFG f.seg) 61 = true ∧ x.segTag f.seg = f.tag ∧ x.pfxSearch f.seg f.key = some r
    let late := let y := (x.reach w.due).bump Reg.PFX_CASC_CNT 63 32 1; { y with pfx := { y.pfx with miss := y.pfx.miss + 1 } }
    let down := { late with pfx := { late.pfx with casc := 2, downAt := late.time, probeDue := late.time + ms } }.event 0x9001 none late.cascPos (late.fget Reg.PFX_CASC_CNT 63 32)
    let over_ := fun (y : Chan) => if w.probe = true then { y with pfx := { y.pfx with waits := y.pfx.waits.erase w } } else y.lookupBack w w.local_
    let due := x.reach x.pfx.probeDue
    (taken → f.pos ≠ x.cascPos → f.probe = true → nx (.cascadeFrame c f) (x.emit (.matchOut (cascBytes f)))) ∧
    (taken → f.pos ≠ x.cascPos → f.probe = false → found → (f.hit = false ∨ x.cascPos < f.hitPos) →
      nx (.cascadeFrame c f) (x.emit (.matchOut (cascBytes { f with hit := true, hitPos := x.cascPos, result := r })))) ∧
    (taken → f.pos ≠ x.cascPos → f.probe = false → found → f.hit = true → f.hitPos ≤ x.cascPos → nx (.cascadeFrame c f) (x.emit (.matchOut (cascBytes f)))) ∧
    (taken → f.pos = x.cascPos → mine → w.probe = false →
      (f.hit = true → f.hitPos ≠ x.cascPos → nx (.cascadeFrame c f) ((heard.bump Reg.PFX_CASC_CNT 31 0 1).lookupBack w (some f.result))) ∧
      (f.hit = true → f.hitPos = x.cascPos → nx (.cascadeFrame c f) (heard.lookupBack w (some f.result))) ∧
      (f.hit = false → nx (.cascadeFrame c f) (heard.lookupBack w none))) ∧
    (taken → f.pos = x.cascPos → mine → w.probe = true → x.pfx.casc = 2 →
      nx (.cascadeFrame c f) ({ up with pfx := { up.pfx with casc := 1 } }.event 0x9002 none x.cascPos (x.time - x.pfx.downAt))) ∧
    ((x.serves = false ∨ f.crcOk = false ∨ x.cascState = 0) → nx (.cascadeFrame c f) x) ∧
    (x.pfx.waits.find? (fun w => decide (w.seq = seq)) = some w →
      (3 ≤ late.pfx.miss → late.cascState = 1 → nx (.cascadeTimeout c seq) (over_ down)) ∧
      ((late.pfx.miss < 3 ∨ late.cascState ≠ 1) → nx (.cascadeTimeout c seq) (over_ late))) ∧
    (x.serves = true → x.cascState = 2 → nx (.cascadeProbeDue c) ({ due with pfx := { due.pfx with probeDue := due.time + ms } }.cascSend (.core 0 0) 0 0 none true))

/-- R337, R341, R342, R343 and R355: tier.move of groups that may move starts with the first group, and each refusal has its status; when the group in hand has been read, its bytes are opened
under the AAD of its object, and it goes on to its target, or fails with the tag; when it has been written it is switched and the next follows; and a hedge deadline fetches another share.
The model's own choices in it: notes 86, 87. -/
def Obligations.TierMoves : Prop :=
  ∀ (s : State) (c : ChId) (src : Src) (h slot first count target lease st stripe share k : Nat) (m : TierMove) (o : TierObj) (bytes body : List Byte) (cause : Nat) (r : ShareRead) (f : Share),
    let x := s.ch c
    let nxS := fun (i : Instr) (y : Chan) => exec i s = .next (s.after c (y.serveEnded serveFuel))
    let start : TierMove := { cmd := src, next := first, last := first + count, target := target, lease := lease, moved := 0, obj := none, frames := [], reading := false,
                              left := 0, seq := 2 ^ 32, due := 0, data := [], failed := false, plain := none, stop := none }
    let on := x.serves = true ∧ x.tiers.moves.find slot = some m ∧ x.moveObj slot m = some o
    let written := Instr.tierGroupWritten c slot (.ok bytes)
    let read := o.t1 = false ∧ m.reading = true ∧ m.plain = none ∧ m.failed = false
    let failed := { x with tiers := { x.tiers with moves := x.tiers.moves.modify slot (fun m => { m with failed := true }) } }
    (x.admitsCtx src ⟨false, false, false⟩ = true → x.owns src h slot = true →
      (x.moveRefusal slot first count target lease = some st → nxS (.tierMove c src h first count target lease) (x.complete src st 0)) ∧
      (x.moveRefusal slot first count target lease = none →
        nxS (.tierMove c src h first count target lease) ({ x with tiers := { x.tiers with moves := x.tiers.moves.put slot start } }.nextGroup slot (count + 1)))) ∧
    (on → read → x.openGroup slot o bytes = some body → m.obj = none → nxS written (x.switchGroup slot body)) ∧
    (on → read → x.openGroup slot o bytes = some body → m.obj = some k → x.tiers.objs.find k = some o → nxS written (x.writeGroup slot k o body)) ∧
    (on → read → x.openGroup slot o bytes = none → nxS written (failed.tierReadFailed slot 4)) ∧
    (on → m.reading = false → o.t1 = true → m.left = 0 → m.failed = false → nxS written (x.switchGroup slot o.body)) ∧
    (on → m.reading = false → o.t1 = false → nxS written (x.switchGroup slot o.body) ∧
      nxS (.tierGroupWritten c slot (.failed cause)) ((x.dmaError .pf o.addr cause 0xA001).endMove slot 0xB2)) ∧
    (x.serves = true → x.tiers.reads.find slot = some r → r.unit = stripe + 1 → r.chosen.find? (fun y => decide (y.index = share)) = some f →
      ((r.whole f = false ∨ f.head = []) → nxS (.hedgeDeadline c slot stripe share) ((x.reach r.due).hedge slot share false)) ∧
      (r.whole f = true → f.head ≠ [] → nxS (.hedgeDeadline c slot stripe share) x))

/-- R346, R347, R349 and R354: tier.lend registers slabs that are idle for the borrower and sends LEND, which the borrower takes as a lease or refuses; LEND_ACK activates it; tier.recall sends
RECALL, which the borrower answers once its lease holds no object, and the region is revoked; RECALL_TIME ends the command with 0xA8; a request that is refused or unanswered after 8 sends
ends; and tier.t2.pool adds and removes the pool. The model's own choices in it: notes 37, 89. -/
def Obligations.Leases : Prop :=
  ∀ (s : State) (c : ChId) (src : Src) (peer n i me r t addr units req : Nat) (slabs : List Nat) (force : Bool) (m : TierMsg) (l : Lease) (q : TierReq) (y z : Chan),
    let x := s.ch c
    let nxS := fun (i : Instr) (y : Chan) => exec i s = .next (s.after c (y.serveEnded serveFuel))
    let pf := x.admits src ⟨true, false, false⟩ = true
    let lend := Instr.tierLend c src peer n
    let callIn := Instr.tierRecall c src i force
    let pool := fun (remove : Bool) => Instr.tierT2Pool c src addr units remove force
    let sized := 1 ≤ n ∧ n ≤ 65536 ∧ peer < 2 ^ 18
    let lent := { granted := false, recalling := false, lent := true, slabs := n, peer := peer, region := r, cmd := some src, recallEnd := none, force := false, reqNum := 0 : Lease }
    let taken := { granted := true, recalling := false, lent := false, slabs := m.length / (2 * mib), peer := peer, region := m.region, cmd := none, recallEnd := none, force := false, reqNum := 0 : Lease }
    let asked := x.serves = true ∧ x.eid ≠ none ∧ x.session peer = true ∧ x.tiers.answered.find? (fun a => decide (a.peer = peer ∧ a.reqNum = m.reqNum ∧ x.time < a.until_)) = none
    let answers := fun (tys : List Nat) => x.serves = true ∧ x.tiers.reqs.find m.reqNum = some q ∧ q.peer = peer ∧ tys.contains q.ty = true
    let rest := { x with tiers := { x.tiers with reqs := x.tiers.reqs.del m.reqNum } }
    let due := x.reach q.due
    let called := x.setLease i { l with recalling := true, cmd := some src, recallEnd := some (x.time + x.orD Reg.TIER_LEND_CFG 15 0 1000 * ms), force := force }
    let called_ := x.setLease i { l with recalling := true, reqNum := m.reqNum }
    let expired := (x.reach t).setLease i { l with cmd := none, recallEnd := none }
    (pf → ¬ sized → nxS lend (x.complete src 0x28 0)) ∧
    (pf → sized → x.eid = none → nxS lend (x.complete src 0x2A 0)) ∧
    (pf → sized → x.eid = some me → peer = me → nxS lend (x.complete src 0x44 0)) ∧
    (pf → sized → x.eid = some me → peer ≠ me → x.session peer = false → nxS lend (x.complete src 0x49 0)) ∧
    (pf → sized → x.eid = some me → peer ≠ me → x.session peer = true → x.idleSlabs < n → nxS lend (x.complete src 0xA1 0)) ∧
    (pf → sized → x.eid = some me → peer ≠ me → x.session peer = true → n ≤ x.idleSlabs → x.freeLease = some i → x.takeSlabs n 3 = some (slabs, y) →
      y.register { Region.init with kind := .lease i, pd := 0, rights := 3, ownerCheck := true, ownerEid := peer, slabs := slabs, size := n * (2 * mib) } = some (r, z) →
      let w := z.setLease i lent
      nxS lend (w.tierRequest peer 1 { TierMsg.blank with region := w.regionField r, length := n * (2 * mib) } (.lease i))) ∧
    (asked → x.rel.mode = .shadow → nxS (.lend c peer m) (x.tierRefuse peer m 8)) ∧
    (asked → x.rel.mode ≠ .shadow → x.freeLease = none → nxS (.lend c peer m) (x.tierRefuse peer m 7)) ∧
    (asked → x.rel.mode ≠ .shadow → x.freeLease = some i → nxS (.lend c peer m) ((x.setLease i taken).tierAnswer peer 2 m)) ∧
    (answers [1] → q.what = .lease i → x.tiers.leases.find i = some l →
      nxS (.lendAck c peer m) (((rest.setLease i { l with granted := true, cmd := none }).event 0xA002 none i (l.peer + l.slabs * 2 ^ 32)).completeOpt l.cmd 0 i)) ∧
    (answers [1, 3, 5, 7, 9, 0x0C] → nxS (.tierRefuse c peer m) (rest.tierRefused q m.reason false)) ∧
    (pf → x.tiers.leases.find i = none → nxS callIn (x.complete src 0xA1 0)) ∧
    (pf → x.tiers.leases.find i = some l → l.lent = true → (l.granted = false ∨ l.cmd ≠ none) → nxS callIn (x.complete src 0xA8 0)) ∧
    (pf → x.tiers.leases.find i = some l → l.lent = true → l.granted = true → l.cmd = none →
      nxS callIn (called.tierRequest l.peer 3 { TierMsg.blank with region := called.regionField l.region, length := l.slabs * (2 * mib) } (.lease i))) ∧
    (asked → x.borrowed peer m.region = none → nxS (.recall c peer m) (x.tierRefuse peer m 6)) ∧
    (asked → x.borrowed peer m.region = some i → x.tiers.leases.find i = some l → l.recalling = true → nxS (.recall c peer m) (called_.leaseDrained i)) ∧
    (asked → x.borrowed peer m.region = some i → x.tiers.leases.find i = some l → l.recalling = false →
      nxS (.recall c peer m) ((called_.event 0xA004 none i (x.tiers.objs.countP (fun e => e.2.inLease i))).leaseDrained i)) ∧
    (x.serves = true → (x.tiers.leases.keysWhere (fun _ l => l.lent && l.recalling && decide (l.peer = peer ∧ x.regionField l.region = m.region))).head? = some i → x.tiers.leases.find i = some l →
      nxS (.recallDone c peer m) (rest.endLent i l.cmd)) ∧
    (x.tiers.leases.find i = some l → l.recallEnd = some t →
      nxS (.recallTimeExpiry c i) ((if l.force = true then expired.endLent i none else expired).completeOpt l.cmd 0xA8 0)) ∧
    (x.tiers.reqs.find req = some q → x.serves = true →
      (q.tries < 8 → nxS (.tierMsgRetry c req)
        ({ due with tiers := { due.tiers with reqs := due.tiers.reqs.put req { q with tries := q.tries + 1, due := due.time + ms } } }.sendTier q.peer q.ty q.msg)) ∧
      (8 ≤ q.tries → nxS (.tierMsgRetry c req) ({ due with tiers := { due.tiers with reqs := due.tiers.reqs.del req } }.tierRefused q 6 true))) ∧
    (pf → x.tiers.t2Units ≠ 0 → addr % (2 * mib) = 0 → 1 ≤ units → units ≤ 2 ^ 32 → addr + units * (2 * mib) ≤ 2 ^ 64 → nxS (pool false) (x.complete src 0xA7 0)) ∧
    (pf → x.tiers.t2Units = 0 → addr % (2 * mib) = 0 → 1 ≤ units → units ≤ 2 ^ 32 → addr + units * (2 * mib) ≤ 2 ^ 64 →
      nxS (pool false) ({ x with tiers := { x.tiers with t2Base := addr, t2Units := units } }.complete src 0 0)) ∧
    (pf → x.tiers.t2Units = 0 → nxS (pool true) (x.complete src 0xA7 0)) ∧
    (pf → x.tiers.t2Units ≠ 0 → force = false → x.tiers.t2Removing = none →
      let left := x.tiers.objs.countP (fun e => !e.2.t1)
      let w := { x with tiers := { x.tiers with t2Removing := some src } }
      nxS (pool true) (if left = 0 then w.poolDrained else w.event 0xA009 none 0 left))

/-- R350, R351, R352, R353, R354 and R356: a holder opens a set where it may, in the lowest room, in place of one of the same request, tag, epoch and index; it seals the set where its digest
agrees; it releases a set for its home, or older ones for anyone; it gives the region of a sealed set; the home's and the reader's acknowledgements carry their work on; and the host gets the
lists, and drops what it names. The model's own choices in it: notes 88, 90. -/
def Obligations.FragmentSets : Prop :=
  ∀ (s : State) (c : ChId) (src : Src) (h slot addr most req tag epoch peer reason base r k i : Nat) (m : TierMsg) (f : FragSet) (q : TierReq) (w : HomeSet) (v : ShareRead) (y : Chan) (ks : List Nat),
    let x := s.ch c
    let e := x.entry slot
    let nx := fun (i : Instr) (y : Chan) => exec i s = .next (s.after c y)
    let nxS := fun (i : Instr) (y : Chan) => nx i (y.serveEnded serveFuel)
    let pf := x.admits src ⟨true, false, false⟩ = true
    let asked := x.serves = true ∧ x.eid ≠ none ∧ x.session peer = true ∧ x.tiers.answered.find? (fun a => decide (a.peer = peer ∧ a.reqNum = m.reqNum ∧ x.time < a.until_)) = none
    let answers := fun (ty : Nat) => x.serves = true ∧ x.tiers.reqs.find m.reqNum = some q ∧ q.peer = peer ∧ q.ty = ty
    let rest := { x with tiers := { x.tiers with reqs := x.tiers.reqs.del m.reqNum } }
    let room := (x.tiers.sets.keysWhere (fun _ f => f.isOf m)).foldl (fun x k => x.dropSet k false) x
    let region := { Region.init with kind := .frag room.tiers.nextSet, pd := 0, rights := 3, ownerCheck := true, ownerEid := peer, base := room.fragBase + base, size := m.length }
    let opened : FragSet := { req := m.req, tag := m.tag, epoch := m.epoch, index := m.index, red := m.red, home := peer, region := r, base := base, length := m.length, isSealed := false }
    let held := { y with tiers := { y.tiers with sets := y.tiers.sets.put room.tiers.nextSet opened, nextSet := room.tiers.nextSet + 1 } }
    let sums := beVal ((sha512t256 (x.regionRead (x.region f.region) 0 f.length)).take 16) = m.check
    let sealing := (x.tiers.sets.keysWhere (fun _ f => f.isOf m && decide (f.index = m.index ∧ f.home = peer))).head?
    let wanted := (x.tiers.sets.keysWhere (fun _ f => f.isOf m && f.isSealed && decide (f.index = m.index))).head?
    let sealed3 := rest.setHolder slot i (fun y => { y with step := 3 })
    let named := x.tiers.sets.keysWhere (fun _ f => decide (f.req = req ∧ f.tag = tag ∧ f.epoch = epoch))
    (asked → x.openRefusal peer m = some reason → nxS (.fragOpen c peer m) (x.tierRefuse peer m reason)) ∧
    (asked → x.openRefusal peer m = none → room.fragRoom m.length = none → nxS (.fragOpen c peer m) (room.tierRefuse peer m 2)) ∧
    (asked → x.openRefusal peer m = none → room.fragRoom m.length = some base → room.register region = some (r, y) →
      nxS (.fragOpen c peer m) (held.tierAnswer peer 6 { m with region := held.regionField r })) ∧
    (asked → sealing = none → nxS (.fragSeal c peer m) (x.tierRefuse peer m 6)) ∧
    (asked → sealing = some k → x.tiers.sets.find k = some f → ¬ sums → nxS (.fragSeal c peer m) (x.tierRefuse peer m 5)) ∧
    (asked → sealing = some k → x.tiers.sets.find k = some f → sums →
      nxS (.fragSeal c peer m) ({ x with tiers := { x.tiers with sets := x.tiers.sets.put k { f with isSealed := true } } }.tierAnswer peer 8 { m with check := 0 })) ∧
    (asked → x.freedBy peer m = [] → nxS (.fragFree c peer m) (x.tierRefuse peer m 6)) ∧
    (asked → x.freedBy peer m = k :: ks → nxS (.fragFree c peer m) (((k :: ks).foldl (fun x k => x.dropSet k false) x).tierAnswer peer 0x0A m)) ∧
    (asked → wanted = none → nxS (.fragRead c peer m) (x.tierRefuse peer m 6)) ∧
    (asked → wanted = some k → x.tiers.sets.find k = some f → nxS (.fragRead c peer m) (x.tierAnswer peer 0x0D { m with red := f.red, region := x.regionField f.region, length := f.length })) ∧
    (answers 5 → q.what = .home slot i → nxS (.fragOpenAck c peer m) ((rest.setHolder slot i (fun y => { y with region := m.region, step := 1 })).storeFrag slot i)) ∧
    (answers 7 → q.what = .home slot i → sealed3.tiers.writing.find slot = some w →
      (w.holders.length = schemeN w.red → (∀ y ∈ w.holders, y.step = 3) → nxS (.fragSealAck c peer m) (sealed3.setDone slot)) ∧
      ((∃ y ∈ w.holders, y.step ≠ 3) → nxS (.fragSealAck c peer m) sealed3)) ∧
    (answers 9 → nx (.fragFreeAck c peer m) rest) ∧
    (answers 0x0C → q.what = .share slot i → x.tiers.reads.find slot = some v →
      nxS (.fragReadAck c peer m) ((rest.setRead slot (v.upd i (fun y => { y with region := m.region }))).askShares slot)) ∧
    (x.admitsCtx src ⟨false, false, false⟩ = true → x.owns src h slot = true →
      (x.tiers.homes.find slot = none → nxS (.tierFragWhere c src h addr) (x.complete src 0xA9 0)) ∧
      (x.tiers.homes.find slot = some w → nxS (.tierFragWhere c src h addr)
        (x.listOut src addr (locBytes e.req e.tag w.epoch w.red (groupsOf e.committed) e.committed (x.manifestDigest slot w.epoch (x.handle slot)) (w.holders.map (fun y => (y.eid, y.index))))
          w.holders.length))) ∧
    (pf → let l := ((x.tiers.sets.map Prod.snd).filter (fun f => f.isSealed)).take most
      nxS (.tierFragList c src addr most) (x.listOut src addr (l.flatMap x.setList) l.length)) ∧
    (pf → named = [] → nxS (.tierFragDrop c src req tag epoch) (x.complete src 0xA9 0)) ∧
    (pf → named = k :: ks → nxS (.tierFragDrop c src req tag epoch) (((k :: ks).foldl (fun x k => x.dropSet k true) x).complete src 0 0))

/-- R366, R367, R368, R370, R371, R375 and R378: a doorbell moves the tail or the head of an enabled pair, or puts it in error with its cause; an entry that may be taken advances SQ_HEAD and
waits for its completion, one that names no entry point completes with 0x77, and one that cannot be read puts the pair in error; the vector is raised when the coalescing time is over; and a
write of TEN_RING_CFG enables a pair at zero with what it then holds, refuses to enable an ACTIVE one, or stops it. The model's own choices in it: notes 13, 92. -/
def Obligations.RingPairs : Prop :=
  ∀ (s : State) (c : ChId) (w : RingWin) (n v t : Nat) (e : RingEntry) (cause : Nat) (a : Access),
    let x := s.ch c
    let f := winFn w
    let r := x.ring f n
    let nx := fun (i : Instr) (y : Chan) => exec i s = .next (s.after c y)
    let usable := x.barLive f = true ∧ n < 16 ∧ r.en = true ∧ r.err = false
    let size := 2 ^ r.lCqLog2
    let filled := (r.cqTail + size - r.cqHead) % size
    let given := (v % 65536 + size - r.cqHead) % size
    let takes := x.serves = true ∧ n < 16 ∧ x.mayTake f n = true
    let taken := x.setRing f n { r with sqHead := (r.sqHead + 1) % 2 ^ r.lSqLog2, taken := r.taken ++ [⟨e.code, e.cid⟩] }
    let src : Src := { vf := match f with | .vf t => some t | .pf => none, n := n, cid := e.cid, tslot := e.tslot, res := 0 }
    let word := a.apply r.word
    let r1 := if (a.apply 0).testBit 61 = true then { r with err := false, cause := 0 } else r
    let r2 := { r1 with
      vector := bits word 44 40, coalTime := bits word 39 24, coalCount := bits word 23 16, cqLog2 := if r.en = true then r.cqLog2 else bits word 9 5,
      sqLog2 := if r.en = true then r.sqLog2 else bits word 4 0 }
    (usable → v % 65536 < 2 ^ r.lSqLog2 → nx (.tenSqDoorbell c w n v) (x.setRing f n { r with sqTail := v % 65536 })) ∧
    (usable → 2 ^ r.lSqLog2 ≤ v % 65536 → nx (.tenSqDoorbell c w n v) (x.ringError f n 1 (v % 65536))) ∧
    (usable → v % 65536 < size → given ≤ filled → nx (.tenCqDoorbell c w n v) (x.setRing f n { r with cqHead := v % 65536 })) ∧
    (usable → (size ≤ v % 65536 ∨ filled < given) → nx (.tenCqDoorbell c w n v) (x.ringError f n 2 (v % 65536))) ∧
    (takes → x.dmaFault f = none → nx (.entryTake c w n (.failed cause)) (x.ringError f n 3 r.sqHead)) ∧
    (takes → x.dmaFault f = none → (e.fence = false ∨ r.taken = []) → knownCode e.code = true → nx (.entryTake c w n (.ok e)) taken) ∧
    (takes → x.dmaFault f = none → (e.fence = false ∨ r.taken = []) → knownCode e.code = false → nx (.entryTake c w n (.ok e)) (taken.complete src 0x77 0)) ∧
    (takes → x.dmaFault f = none → e.fence = true → r.taken ≠ [] → nx (.entryTake c w n (.ok e)) x) ∧
    (r.oldest = some t → nx (.coalTimeExpiry c w n) (((x.reach (t + r.coalTime * 1000)).setRing f n { r with unsignalled := 0, oldest := none }).interrupt f r.vector)) ∧
    (x.barLive f = true → n < 16 →
      (reaches a 63 63 = false → nx (.tenRingCfgWrite c w n a) (x.setRing f n r2)) ∧
      (reaches a 63 63 = true → word.testBit 63 = true → r.active = false → nx (.tenRingCfgWrite c w n a) (x.setRing f n { r2 with
        en := true, lSqBase := r.sqBase, lCqBase := r.cqBase, lSqLog2 := ringLog2 r2.sqLog2, lCqLog2 := ringLog2 r2.cqLog2, cqHead := 0, cqTail := 0, sqTail := 0, sqHead := 0, phase := true,
        unsignalled := 0, oldest := none })) ∧
      (reaches a 63 63 = true → word.testBit 63 = true → r.active = true → nx (.tenRingCfgWrite c w n a) (x.ringError f n 5 0)) ∧
      (reaches a 63 63 = true → word.testBit 63 = false → r.taken = [] → nx (.tenRingCfgWrite c w n a) (x.setRing f n { r2 with en := false, err := false, cause := 0 })) ∧
      (reaches a 63 63 = true → word.testBit 63 = false → r.taken ≠ [] → nx (.tenRingCfgWrite c w n a) (x.setRing f n { r2 with en := false })))

/-- R361, R362, R376, R378, R379, R381 and R499: an event ring enabled starts at zero with what it then holds; a CIDX returned raises the vector again while records remain; a vector unmasked
sends what was pending; a configuration write sets its field, and fewer VFs take theirs with them; a bad completion puts the pair in error or ends the command with 0xB1, and is reported on
its function. The model's own choices in it: notes 4, 93. -/
def Obligations.HostFunctions : Prop :=
  ∀ (s : State) (c : ChId) (a : Access) (t v n : Nat) (on : Bool) (q : RingWin) (src : Src) (f : PciFn) (w : EvqWin) (k : BadCompletion),
    let x := s.ch c
    let h := s.hub
    let nx := fun (i : Instr) (y : Chan) => exec i s = .next (s.after c y)
    let nh := fun (i : Instr) (y : Hub) => exec i s = .next (s.withHub y)
    let here := (f = .pf ∧ w = .pf c) ∨ (f = .vf t ∧ w = .vf c t)
    let old := x.evq f
    let vec := x.host.vecs.getD (f.index * 32 + v) Vec.init
    let unmasked := { x with host := { x.host with vecs := x.host.vecs.set Vec.init (f.index * 32 + v) ⟨false, false⟩ } }
    let cause := match k with | .ur => 2 | .ca => 3 | .poisoned => 4
    let severity := match k with | .poisoned => 1 | _ => 2
    (here → x.barLive f = true →
      nx (.tenEvqCfgWrite w a) (x.setEvq f (old.cfg a)) ∧
      (old.en = false → (a.apply old.word).testBit 63 = true → let r := old.cfg a
        r.en = true ∧ r.lBase = old.base ∧ r.pidx = 0 ∧ r.cidx = 0 ∧ r.seq = 0) ∧
      ((old.consume a).2 = true → nx (.tenEvqCidxWrite w a) ((x.setEvq f (old.consume a).1).interrupt f old.vector)) ∧
      ((old.consume a).2 = false → nx (.tenEvqCidxWrite w a) (x.setEvq f (old.consume a).1)) ∧
      (v ≤ 16 → vec.masked = true → vec.pending = true → nx (.vectorUnmask w v) (unmasked.interrupt f v)) ∧
      (v ≤ 16 → (vec.masked = false ∨ vec.pending = false) → nx (.vectorUnmask w v) unmasked)) ∧
    (here → h.bus ≠ .lost → x.fnExists f = true →
      nx (.pcieConfigWrite w (.bme on)) (x.setPci f { x.pci f with bme := on }) ∧
      nx (.pcieConfigWrite w (.d3hot on)) (x.setPci f { x.pci f with d3hot := on }) ∧
      (f = .pf → n ≤ 16 → nx (.pcieConfigWrite w (.vfs n)) ((x.setPci f { x.pci f with numVfs := n }).dropVfs n)) ∧
      (f ≠ .pf → nx (.pcieConfigWrite w (.vfs n)) x)) ∧
    (h.barLive = true →
      nh (.tenEvqCfgWrite .hub a) { h with evq := h.evq.cfg a, sevs := if h.evq.en = false ∧ (h.evq.cfg a).en = true then [] else h.sevs } ∧
      (reaches a 31 0 = false → nh (.tenEvqCidxWrite .hub a) { h with sevs := h.sevs.take ((h.evq.pidx + 2 ^ 32 - h.evq.cidx) % 2 ^ 32) }) ∧
      (h.vec.masked = true → h.vec.pending = true → nh (.vectorUnmask .hub 0) ({ h with vec := ⟨false, false⟩ }.interrupt)) ∧
      (h.vec.masked = false → nh (.vectorUnmask .hub 0) { h with vec := ⟨false, false⟩ })) ∧
    (h.bus ≠ .lost → nh (.pcieConfigWrite .hub (.bme on)) { h with pci := { h.pci with bme := on } } ∧ nh .pcieCorrectableError { h with out := .aer .pf 0 :: h.out }) ∧
    (x.serves = true → n < 16 → x.mayTake (winFn q) n = true →
      nx (.pcieCompletionTimeout c (.entry q n)) ((x.emit (.aer (winFn q) 2)).ringError (winFn q) n 3 (x.ring (winFn q) n).sqHead) ∧
      nx (.pcieErrorCompletion c (.entry q n) k) ((x.emit (.aer (winFn q) severity)).ringError (winFn q) n 3 (x.ring (winFn q) n).sqHead)) ∧
    (x.serves = true → (x.ring src.fn src.n).taken.any (fun e => decide (e.cid = src.cid)) = true →
      nx (.pcieCompletionTimeout c (.command src)) ((x.emit (.aer src.fn 2)).readFailedFor src 1) ∧
      nx (.pcieErrorCompletion c (.command src) k) ((x.emit (.aer src.fn severity)).readFailedFor src cause))

/-- R388, R390, R391, R392, R395, R396, R398 and R404: sec.cert gives the chain; sec.attest gives the report signed with the alias key, and to a VF a fresh import key with it; sec.key.import
uses that key up, and installs what unwraps under it (0xC5, 0xC6 and 0xC7 else); sec.key.destroy removes one; sec.peer keeps a chain and a binding that verify, or removes them; sec.own needs
the old owner's signature; sec.cfg.write a well-formed record signed by the owner. R401, R403, R407 and R408: an image is staged where its form, its signature and its version pass; a commit
of a staged image on a channel at rest enters UPDATING, ends its connections and erases the image area; programming that succeeds awaits the warm reset, and one that fails leaves RECOVERY;
GO in RECOVERY programs the image that passes and awaits the reset, or gives its status; an SPDM request sets the protected streams and is answered by the lowest channel in SERVING. The
model's own choices in it: notes 14, 94, 95, 96, 97. -/
def Obligations.KeysAndFirmware : Prop :=
  (∀ (s : State) (c : ChId) (src : Src) (nonce r b chain bind key : List Byte) (kind index eid t : Nat) (imp : List Byte × List Byte) (flashOk : Bool),
    let x := s.ch c
    let nx := fun (i : Instr) (y : Chan) => exec i s = .next (s.after c y)
    let adm := fun a => x.admits src a = true
    let challenge := (nonce ++ List.replicate 32 0).take 32
    let y := x.nextSeal.2
    let u := src.slot
    let used := x.setKeys u { x.keysOf u with importKey := none }
    let failed := fun (z : Chan) (st : Nat) => (z.event 0xC005 (some u) (0x30 + u) st).complete src st 0
    let e := eid % 2 ^ 18
    let allowed := match x.sec.flash.owner with | none => true | some k => signs k (slice b 0 32 ++ x.deviceKeyId ++ ascii "VXF-OWN") (slice b 32 64)
    let owned := { x with sec := { x.sec with flash := { x.sec.flash with owner := some (slice b 0 32) } } }
    (adm ⟨false, true, false⟩ → nx (.secCert c src) (x.completeX src 0 x.chain)) ∧
    (adm ⟨false, true, false⟩ → src.vf = none → nx (.secAttest c src nonce) (y.completeX src 0 (y.report none challenge (leBytes 32 0) x.nextSeal.1))) ∧
    (adm ⟨false, true, false⟩ → src.vf = some t →
      let z := (y.freshImport t challenge).2
      nx (.secAttest c src nonce) (z.completeX src 0 (z.report (some t) challenge (y.freshImport t challenge).1 x.nextSeal.1))) ∧
    (adm ⟨false, true, true⟩ → x.dmaFault src.fn = none →
      ((x.keysOf u).importKey = none → nx (.secKeyImport c src (.ok r)) (failed (x.bump Reg.SEC_FAIL_CNT 63 32 1) 0xC5)) ∧
      ((x.keysOf u).importKey = some imp → used.unwrap u imp r = none → nx (.secKeyImport c src (.ok r)) (failed (used.bump Reg.SEC_FAIL_CNT 63 32 1) 0xC6)) ∧
      ((x.keysOf u).importKey = some imp → used.unwrap u imp r = some key → keyNamed (field r 1 1) (field r 2 1) = false → nx (.secKeyImport c src (.ok r)) (failed used 0xC7)) ∧
      ((x.keysOf u).importKey = some imp → used.unwrap u imp r = some key → keyNamed (field r 1 1) (field r 2 1) = true →
        let z := used.setKeys u ((used.keysOf u).install (field r 1 1) (field r 2 1) key (field r 4 4) (field r 8 4))
        nx (.secKeyImport c src (.ok r)) ((z.event 0xC004 (some u) (field r 1 1 + field r 2 1 * 256) (leVal (kcvOf key))).complete src 0 (leVal (kcvOf key))))) ∧
    (adm ⟨false, true, true⟩ → keyNamed kind index = true → nx (.secKeyDestroy c src kind index) ((x.setKeys u ((x.keysOf u).destroy kind index)).complete src 0 0)) ∧
    (adm ⟨false, true, true⟩ → keyNamed kind index = false → nx (.secKeyDestroy c src kind index) (x.complete src 0xC7 0)) ∧
    (adm ⟨true, true, false⟩ →
      nx (.secPeer c src eid true (.ok chain) none) ({ x with sec := { x.sec with peers := x.sec.peers.del e } }.complete src 0 0) ∧
      (x.dmaFault src.fn = none → chainOk chain = true → x.bindingOk e chain bind = true → ((x.sec.peers.find e).isSome = true ∨ x.sec.peers.length < 4096) →
        nx (.secPeer c src eid false (.ok chain) (some (.ok bind))) ({ x with sec := { x.sec with peers := x.sec.peers.put e ⟨chain, bind⟩ } }.keepHb.complete src 0 0)) ∧
      (x.dmaFault src.fn = none → (chainOk chain = false ∨ x.bindingOk e chain bind = false) →
        nx (.secPeer c src eid false (.ok chain) (some (.ok bind))) (((x.bump Reg.SEC_PEERS 31 0 1).event 0xC007 none e 0xC1).complete src 0xC1 0)) ∧
      (x.dmaFault src.fn = none → allowed = false → nx (.secOwn c src (.ok b)) (x.complete src 0xCC 0)) ∧
      (x.dmaFault src.fn = none → allowed = true →
        nx (.secOwn c src (.ok b)) ((owned.event 0xC009 none (leVal ((ownerIdOf x.sec.flash.owner).take 8)) (leVal ((ownerIdOf (some (slice b 0 32))).take 8))).completeX src 0 (ownerIdOf (some (slice b 0 32))))) ∧
      (x.dmaFault src.fn = none → x.cfgFormed r = false → nx (.secCfgWrite c src (.ok r) flashOk) (x.complete src 0xC4 0)) ∧
      (x.dmaFault src.fn = none → x.cfgFormed r = true → x.cfgSigned r = false → nx (.secCfgWrite c src (.ok r) flashOk) (x.complete src 0xC2 0)) ∧
      (x.dmaFault src.fn = none → x.cfgFormed r = true → x.cfgSigned r = true →
        nx (.secCfgWrite c src (.ok r) false) (x.complete src 0xCB 0) ∧
        nx (.secCfgWrite c src (.ok r) true) ({ x with sec := { x.sec with flash := { x.sec.flash with cfg := r } } }.complete src 0 0)))) ∧
  (∀ (s : State) (c : ChId) (src owner : Src) (b : List Byte) (st k : Nat) (raise flashOk : Bool) (f : StagedFw) (a : Access) (req : SpdmReq),
    let x := s.ch c
    let nx := fun (i : Instr) (y : Chan) => exec i s = .next (s.after c y)
    let staged := fun (v : Option StagedFw) => { x with sec := { x.sec with staged := v } }
    let ended := (x.fab.conns.keysWhere (fun _ y => y.live)).foldl (fun x k => x.connError k 6 false) x
    let y := x.writeReg Reg.SEC_REC_CTRL a
    let img := b.take (y.fget Reg.SEC_REC_CTRL 27 0)
    let went := y.programFlash (stagedOf img) (match y.sec.commit with | some (_, r) => r | none => false)
    let m := ideAfter s.hub.ide req
    (x.admits src ⟨true, true, false⟩ = true → x.dmaFault src.fn = none →
      (x.fwFault b = some st → nx (.secFwStage c src (.ok b)) (((staged none).event 0xC002 none (field b 8 4) st).complete src st 0)) ∧
      (x.fwFault b = none → nx (.secFwStage c src (.ok b)) ((staged (some (stagedOf b))).complete src 0 (field b 8 4)))) ∧
    (x.admits src ⟨true, true, false⟩ = true →
      (x.mayCommit = false → nx (.secFwCommit c src raise) (x.complete src 0xC9 0)) ∧
      (x.mayCommit = true → nx (.secFwCommit c src raise)
        { ended with sec := { ended.sec with mode := .updating, commit := some (src, raise), flash := { ended.sec.flash with fwValid := false } } })) ∧
    (x.sec.staged = some f → x.sec.commit = some (owner, raise) → x.sec.mode = .updating → x.pwr.pending = none →
      nx (.fwProgramDone c true) ((x.programFlash f raise).awaitReset 7) ∧
      nx (.fwProgramDone c false) { x with sec := { x.sec with mode := .recovery } }) ∧
    (x.sec.mode = .recovery → x.host.linkUp = true → (x.pci .pf).d3hot = false → x.pwr.pending = none →
      (a.covers 63 63 = false → nx (.secRecGo c a (.ok b) flashOk) y) ∧
      (a.covers 63 63 = true → (a.apply 0).testBit 63 = true → y.dmaFault .pf = none →
        (y.fwFault img = some st → nx (.secRecGo c a (.ok b) flashOk) (y.fset Reg.SEC_REC_CTRL 55 48 st)) ∧
        (y.fwFault img = none → nx (.secRecGo c a (.ok b) false) (y.fset Reg.SEC_REC_CTRL 55 48 0xCB)) ∧
        (y.fwFault img = none → nx (.secRecGo c a (.ok b) true) (went.awaitReset went.recoveryReset)))) ∧
    (s.responder = some k → s.hub.bus ≠ .lost → ∃ t, exec (.spdmRequest req) s = .next t ∧
      t.hub.ide = m ∧ t.hub.out = .pin "SPDM response" k :: s.hub.out ∧
      ∀ d, t.ch d = { s.ch d with host := { (s.ch d).host with ide := ideSlots m (s.ch d).num } }.settle) ∧
    (s.responder = none → exec (.spdmRequest req) s = .next s))

/-- R413, R416, R418, R419, R428, R429 and R430: a TOTALS frame goes out where a slot's totals have changed or 10 ms have passed, and HELLO every second, each against a credit; a credit counts
up to 64, and a frame that waits goes out against it; after 10 ms without one the meter is absent, what was not sent is kept as unmetered, residents are marked and paused slots named; and
when credits resume a new stream begins with HELLO and the unmetered amounts. The model's own choices in it: notes 6, 98. -/
def Obligations.MeterLink : Prop :=
  ∀ (s : State) (c : ChId) (slot ty : Nat) (f : LinkFrame) (rest : List (Nat × LinkFrame)),
    let x := s.ch c
    let nx := fun (i : Instr) (y : Chan) => exec i s = .next (s.after c y)
    let open_ := x.sec.mode ≠ .failed ∧ x.pwr.st ≠ .c3 ∧ x.mtr.absent = false
    let counted := { x with mtr := { x.mtr with credits := min 64 (x.mtr.credits + 1), lastPulse := x.time, present := !x.mtr.absent } }
    let late := x.reach (x.mtr.lastPulse + 10 * ms)
    let off := { late with mtr := { late.mtr with present := false, absent := true, absentAt := late.time, credits := 0, owed := [], tot := late.mtr.tot.mapVals (fun _ t => { t with
      uPrompt := t.uPrompt + (t.prompt - t.sent.1), uOutput := t.uOutput + (t.output - t.sent.2.1), uAttached := t.uAttached + (t.attached - t.sent.2.2.1),
      prompt := t.sent.1, output := t.sent.2.1, attached := t.sent.2.2.1 }) } }
    let marked := (off.ctx.entries.foldl (fun x e => if e.2.state.resident = true then x.markUnmetered e.1 else x) off).event 0xD001 none 0 late.mtr.frames
    let back := { x with mtr := { x.mtr with present := true, absent := false, lastPulse := x.time } }.newStream.sendHello
    let told := (List.range 16).foldl (fun (a : Chan × Nat) t => ((a.1.sendUnmetered t).1, a.2 + b2n (a.1.sendUnmetered t).2)) (back, 0)
    (open_ → slot < 16 → x.tag slot ≠ 0 → x.mtr.credits ≠ 0 → (x.totals slot).sent ≠ x.totalsNow slot → nx (.totalsDue c slot) (x.sendTotals slot)) ∧
    (open_ → slot < 16 → x.tag slot ≠ 0 → x.mtr.credits ≠ 0 → (x.totals slot).sent = x.totalsNow slot →
      nx (.totalsDue c slot) ((x.reach ((x.totals slot).lastSent + 10 * ms)).sendTotals slot)) ∧
    ((¬ open_ ∨ x.tag slot = 0 ∨ x.mtr.credits = 0) → nx (.totalsDue c slot) x) ∧
    (open_ → x.mtr.credits ≠ 0 → nx (.helloDue c) (x.reach x.mtr.helloDue).sendHello) ∧
    ((¬ open_ ∨ x.mtr.credits = 0) → nx (.helloDue c) x) ∧
    (x.mtr.owed = [] → nx (.creditPulse c) counted) ∧
    (x.mtr.owed = (ty, f) :: rest → x.mtr.absent = false → (x.sec.mode ≠ .failed ∧ (x.pwr.st ≠ .c3 ∨ ty = 3)) →
      nx (.creditPulse c) ({ counted with mtr := { counted.mtr with owed := rest } }.sendLink ty f)) ∧
    (x.mtr.absent = false → nx (.meterAbsent c) ((List.range 16).foldl (fun x t => if x.paused t = true then x.event 0xD004 (some t) (0x30 + t) 0 else x) marked)) ∧
    (x.mtr.absent = true → nx (.meterAbsent c) x) ∧
    (x.mtr.absent = true → x.mtr.credits ≠ 0 → nx (.creditsResumed c)
      (let y := ((List.range 16).filter x.paused).foldl (fun z t => z.event 0xD005 (some t) (0x30 + t) ((x.time - x.mtr.absentAt) / ms)) told.1
       y.event 0xD002 none y.mtr.stream told.2)) ∧
    (x.mtr.absent = false → nx (.creditsResumed c) x)

/-- R419, R420, R422, R423, R425, R431, R432 and R435: the meter takes in a frame whose CRC is right, answers it with a credit and counts its tokens and residency, or discards and counts one
whose CRC is wrong; it records falling totals, new streams, supply events and unmetered reports; every millisecond brings each channel a credit; at an interval's end the open accounts become
records, unless storage is extended; 100 ms without a frame is a gap; a slot's new stream ends the residency of its older ones (log entry 99); insertion, draining, acknowledgement and
removal of a meter do what R425 and R431 say. The model's own choices in it: notes 99, 100. -/
def Obligations.MeterRecords : Prop :=
  ∀ (s : State) (c : ChId) (f : LinkFrame) (m : Meter) (t0 t : Nat) (a : Access) (n : Nat) (w : NewMeter),
    let h := s.hub
    let ch := chNum f.ch
    let nh := fun (i : Instr) (y : Hub) => exec i s = .next (s.withHub y)
    let bad := h.withMeter (fun m => { m with discards := m.discards + 1 })
    let m1 := { m with lastFrame := AMap.put m.lastFrame ch m.timeUs }
    let takes := fun (y : Meter) => (h.withMeter (fun _ => y)).credit ch
    let old := m.slots.find? (fun y => decide (y.ch = ch ∧ y.stream = f.stream ∧ y.slot = f.slot))
    let o := old.getD ⟨ch, f.stream, f.slot, f.tag, 0, 0, 0, 0, 0, m.timeUs, true⟩
    let fell := f.prompt < o.prompt ∨ f.output < o.output ∨ f.attached < o.attached
    let older := fun (y : MeterSlot) => decide (y.ch = ch ∧ y.slot = f.slot ∧ y.stream ≠ f.stream)
    let ended := (m.slots.filter older).foldl (fun m y => m.accrue y m.timeUs) m1
    let m1' := { ended with slots := ended.slots.map (fun y => if older y = true then { y with t0 := 0, out := 0 } else y) }
    let acc := m1'.account ch f.tag
    let dt := m1'.timeUs - o.at_
    let m2 := m1'.setAccount { acc with
      prompt := acc.prompt + (f.prompt - o.prompt), output := acc.output + (f.output - o.output), attached := acc.attached + (f.attached - o.attached),
      resT0 := acc.resT0 + o.t0 * dt, resOut := acc.resOut + o.out * dt, slot := f.slot, stream := f.stream, isFirst := acc.isFirst || old.isNone }
    let began := m1.write { RecordIn.blank 3 (ch + 16 * f.slot) m.nowMs with ev := 2, stream := f.stream }
    let supplied := m1.write { RecordIn.blank 2 ch m.nowMs with start := t0, vmin := m.vmin }
    let tick := fun (h : Hub) => (((h.credit 0).credit 1).credit 2).credit 3
    let m3 := { m with timeUs := (m.timeUs / 10000000 + 1) * 10000000 }
    let gap := (m.slots.filter (fun x => decide (x.ch = chNum c))).foldl (fun m x => m.accrue x (t + 10000)) m
    let fresh : Meter := {
      serial := w.serial, timeUs := w.timeUs, start := w.timeUs / 10000000 * 10000, slots := [], accs := [], records := [], lastCtr := w.lastCtr,
      chain := if w.lastCtr = 0 then List.replicate 64 0 else w.chain, acked := w.lastCtr, extended := false, extendedOpen := false, removing := none, withheld := false,
      faults := 0, discards := 0, lastFrame := [], gap := [], supplyAt := [], supplySince := [], vmin := 0, highRaised := false }
    let acked := { m with acked := max m.acked (min n m.lastCtr) }
    let freed := if acked.extended = true ∧ acked.unacked + 1048576 ≤ 16777216 then { acked with extended := false, withheld := false }.put { RecordIn.blank 3 0 m.nowMs with ev := 6 }
      else if acked.unacked < 16777216 then { acked with withheld := false } else acked
    let closed := (m.closeIntervals true).put { RecordIn.blank 3 0 m.nowMs with ev := 4 }
    (h.meter = some m →
      nh (.meterTotalsFrame f false) bad ∧ nh (.meterHelloFrame f false) bad ∧ nh (.meterSupplyFrame f false) bad ∧ nh (.meterUnmeteredFrame f false) bad ∧
      (fell → nh (.meterTotalsFrame f true) (takes ({ m1 with faults := m.faults + 1 }.write { RecordIn.blank 3 (ch + 16 * f.slot) m.nowMs with ev := 3, stream := f.stream }))) ∧
      (¬ fell → nh (.meterTotalsFrame f true) (takes { m2 with slots := m2.slots.filter (fun z => !decide (z.ch = ch ∧ z.stream = f.stream ∧ z.slot = f.slot)) ++
        [⟨ch, f.stream, f.slot, f.tag, f.prompt, f.output, f.attached, f.t0, f.out, m2.timeUs, false⟩] })) ∧
      (m.slots.any (fun y => decide (y.ch = ch ∧ y.stream = f.stream)) = true → nh (.meterHelloFrame f true) (takes m1)) ∧
      (m.slots.any (fun y => decide (y.ch = ch ∧ y.stream = f.stream)) = false →
        nh (.meterHelloFrame f true) (takes { began with slots := began.slots ++ [⟨ch, f.stream, 16, 0, 0, 0, 0, 0, 0, began.timeUs, true⟩] })) ∧
      (f.supply.testBit 0 = true → nh (.meterSupplyFrame f true) (takes { m1 with
        supplyAt := AMap.put m.supplyAt ch m.nowMs, vmin := if m.supplyAt.isEmpty = true then h.vin / 25 else min m.vmin (h.vin / 25), supplySince := if m.supplySince.contains ch = true then m.supplySince else m.supplySince ++ [ch] })) ∧
      (f.supply.testBit 0 = false → f.supply.testBit 1 = true → AMap.find m.supplyAt ch = some t0 →
        nh (.meterSupplyFrame f true) (takes { supplied with supplyAt := AMap.del supplied.supplyAt ch })) ∧
      nh (.meterUnmeteredFrame f true) (takes (m1.write { RecordIn.blank 4 (ch + 16 * f.slot) m.nowMs with
        tag := f.tag, stream := f.stream, prompt := f.prompt, output := f.output, attached := f.attached, resT0 := f.unmetered })) ∧
      nh .meterCreditTick (tick (h.withMeter (fun m => { m with timeUs := m.timeUs + 1000 }))) ∧
      (m.extended = true → nh .meterIntervalBoundary (h.withMeter (fun _ => { m3.slots.foldl (fun m x => m.accrue x m.timeUs) m3 with extendedOpen := true }))) ∧
      (m.extended = false → nh .meterIntervalBoundary (h.withMeter (fun _ => m3.closeIntervals false))) ∧
      (AMap.find m.lastFrame (chNum c) = some t → nh (.meterLinkGap c) (h.withMeter (fun _ => { gap with
        timeUs := max gap.timeUs (t + 100000), lastFrame := AMap.del gap.lastFrame (chNum c),
        slots := gap.slots.map (fun x => if x.ch = chNum c then { x with t0 := 0, out := 0 } else x),
        gap := if gap.gap.contains (chNum c) = true then gap.gap else gap.gap ++ [chNum c] }))) ∧
      (AMap.find m.lastFrame (chNum c) = none → nh (.meterLinkGap c) (h.withMeter (fun m => m))) ∧
      nh (.mtrDrainAckWrite n) (h.withMeter (fun _ => if m.removing.any (fun r => decide (r ≤ freed.acked)) = true then { freed with withheld := true } else freed)) ∧
      (m.removing = none → nh .mtrRemove ({ h with meter := some { closed with removing := some closed.lastCtr } }.event 0xD011 0 closed.lastCtr)) ∧
      (m.removing ≠ none → nh .mtrRemove h)) ∧
    nh (.meterInserted w) (tick { h with meter := some (fresh.write { RecordIn.blank 3 0 fresh.nowMs with ev := 1 }) }) ∧
    nh (.mtrDrainSelWrite a) { h with drainSel := a.apply h.drainSel, drainData := h.drained (a.apply h.drainSel) }

/-- R449, R450, R452, R453, R454: a heartbeat of 128 bytes is judged against its sender's expectation and acknowledged; an idle PD 0 connection and a silent peer are noticed; rel.expect keeps at
most 4,096 expectations, rel.mismatch.list returns those marked; rel.shadow begins and ends an admission; a mirror message that agrees counts, and the last one ends the admission, while one
that differs isolates the shadow; a second without one is a stall. The model's own choices in it: notes 101, 102, 103, 104, 107. -/
def Obligations.PeersAndShadow : Prop :=
  ∀ (s : State) (c : ChId) (src : Src) (p : FmtPkt) (k i eid digest host most sample ops role : Nat) (remove : Bool) (m : MirrorMsg) (r : List Byte) (y : Chan),
    let x := s.ch c
    let nx := fun (i : Instr) (y : Chan) => exec i s = .next (s.after c y)
    let takes := x.admits src ⟨true, true, false⟩ = true
    let z := x.conn k
    let peer := x.fget (Reg.REL_HB_PEER i) 17 0
    let late := x.reach (x.rel.heard.getD peer 0 + x.hbLoss)
    let expects := if remove = true then x.rel.expects.del eid else x.rel.expects.put eid ⟨digest, false, none⟩
    let marked := (x.rel.expects.keysWhere (fun _ e => e.marked)).take most
    let wrote := x.hostWrite src.fn host (marked.flatMap (leBytes 4))
    let heard := { x with rel := { x.rel with lastMirror := x.time, stalled := false } }
    let one := { heard with rel := { heard.rel with count := x.rel.count + 1 } }
    let judges := x.serves = true ∧ x.rel.mode = .shadow ∧ x.rel.part = 1 ∧ m.eid = x.rel.peer ∧ m.version = 1 ∧ m.payload.length ≤ 8128 ∧ x.mirrorResult m = some r
    let still := x.reach (x.rel.lastMirror + 1000 * ms)
    (x.comesIn p false = some y → p.data.length = 128 →
      exec (.heartbeat c p) s = .next (s.after c (((y.inOrder p.dstConn p.psn (fun x => (x.judgeHeartbeat p.srcEid p.data).accepted p.dstConn p.psn 1 p.ar 0) id)).serveEnded serveFuel))) ∧
    (x.comesIn p false = some y → p.data.length ≠ 128 →
      exec (.heartbeat c p) s = .next (s.after c ((y.inOrder p.dstConn p.psn (fun x => x.refused p.dstConn p.psn p.addr p.srcEid (4, 0)) id).serveEnded serveFuel))) ∧
    (z.st = .open_ → z.pd = 0 → z.roce = none → x.serves = true → nx (.keepaliveExpiry c k) ((x.reach (max z.lastUse z.hbAt + x.keepalive)).sendHeartbeat k)) ∧
    (i < 16 → x.flag (Reg.REL_HB_PEER i) 63 = true → x.rel.silent.contains peer = false → x.serves = true →
      nx (.peerSilent c i) ({ late with rel := { late.rel with silent := peer :: late.rel.silent } }.event 0xE00B none peer 0)) ∧
    (takes → (remove = true ∨ x.rel.expects.find eid ≠ none ∨ x.rel.expects.length < 4096) →
      nx (.relExpect c src eid remove digest) ({ x with rel := { x.rel with expects := expects } }.complete src 0 expects.length)) ∧
    (takes → remove = false → x.rel.expects.find eid = none → 4096 ≤ x.rel.expects.length → nx (.relExpect c src eid remove digest) (x.complete src 0xE1 x.rel.expects.length)) ∧
    (takes →
      (marked = [] → nx (.relMismatchList c src host most) (x.complete src 0 0)) ∧
      (marked ≠ [] → wrote.1 = true → nx (.relMismatchList c src host most) (wrote.2.complete src 0 marked.length)) ∧
      (marked ≠ [] → wrote.1 = false → nx (.relMismatchList c src host most) ((wrote.2.srcError src host ((x.dmaFault src.fn).getD 7)).complete src 0xB2 marked.length))) ∧
    (takes →
      (x.rel.mode = .shadow → nx (.relShadow c src eid 0 sample ops) ((x.promote true).complete src 0 0)) ∧
      (x.rel.mode ≠ .shadow → nx (.relShadow c src eid 0 sample ops) ({ x with rel := { x.rel with part := 0 } }.complete src 0 0)) ∧
      ((role = 1 ∧ x.rel.mode = .shadow ∨ role = 2 ∧ x.rel.mode ≠ .shadow) → x.session eid = true →
        nx (.relShadow c src eid role sample ops) ((x.admission role eid sample ops).complete src 0 0)) ∧
      ((role = 1 ∧ x.rel.mode = .shadow ∨ role = 2 ∧ x.rel.mode ≠ .shadow) → x.session eid = false → nx (.relShadow c src eid role sample ops) (x.complete src 0xE2 0)) ∧
      (x.rel.mode ≠ .shadow → nx (.relShadow c src eid 1 sample ops) (x.complete src 0xE4 0)) ∧
      (x.rel.mode = .shadow → nx (.relShadow c src eid 2 sample ops) (x.complete src 0xE0 0))) ∧
    (judges → sha512t256 r = m.result → x.rel.count + 1 < x.rel.ops → nx (.mirrorMessage c m) one) ∧
    (judges → sha512t256 r = m.result → x.rel.ops ≤ x.rel.count + 1 → nx (.mirrorMessage c m) (one.promote false)) ∧
    (judges → sha512t256 r ≠ m.result → nx (.mirrorMessage c m) ((heard.isolate 5).event 0xE00D none (x.rel.peer % 2 ^ 18) (m.kind % 256 + m.opNum % 2 ^ 32 * 2 ^ 32))) ∧
    ((x.rel.mode ≠ .shadow ∨ x.rel.part ≠ 1 ∨ m.eid ≠ x.rel.peer) → nx (.mirrorMessage c m) x) ∧
    (x.rel.mode = .shadow → x.rel.stalled = false → x.serves = true →
      nx (.shadowStall c) ({ still with rel := { still.rel with stalled := true } }.event 0xE00E none (still.rel.peer % 2 ^ 18) still.rel.count))

/-- R438 to R447, R458 and R459: the patrol reads on to the next codeword in error, corrects it or withdraws a free frame, and ends its pass; a failing row is copied to a spare while 1,024 last,
a lane replaced while two last and its pseudo-channel degraded after that; memory errors on the die are counted, and a double-bit error acts on what it strikes; a failed consistency check
and rel.isolate isolate the channel, which resets itself warm after 10 ms within AUTO_LIMIT; rel.inject puts errors where no context's memory lies. The model's own choices in it: notes 44,
103, 105, 106, 107. -/
def Obligations.Repair : Prop :=
  ∀ (s : State) (c : ChId) (src : Src) (row pch lane addr kind count k f t n : Nat) (flashOk : Bool) (e : SramErr) (y : Chan),
    let x := s.ch c
    let nx := fun (i : Instr) (y : Chan) => exec i s = .next (s.after c y)
    let nxS := fun (i : Instr) (y : Chan) => exec i s = .next (s.after c (y.serveEnded serveFuel))
    let takes := x.admits src ⟨true, true, false⟩ = true
    let seen := (x.rel.cw.keysWhere (fun k _ => decide (x.rel.patrolAt ≤ k))).head?
    let used := x.sparesUsed (x.pchOf (row * 1024))
    let copied := (x.eccRead (row * 1024) 1024 10).2
    let spared := { copied with rel := { copied.rel with rows := copied.rel.rows ++ [row], rowCe := copied.rel.rowCe.del row, rowUe := copied.rel.rowUe.erase row } }
    let inFlash := { spared with sec := { spared.sec with flash := { spared.sec.flash with rows := spared.sec.flash.rows ++ [row] } } }
    let lanes := x.rel.lanes.countP (fun l => l.1 == pch)
    let laned := { x with rel := { x.rel with lanes := x.rel.lanes ++ [(pch, lane)] } }
    let laneFlash := { laned with sec := { laned.sec with flash := { laned.sec.flash with lanes := laned.sec.flash.lanes ++ [(pch, lane)] } } }
    let left := (lane % 256 + (1 - lanes) * 256)
    let awake := x.hbmAwake = true
    let powered := x.pwr.st ≠ .c3 ∧ x.pwr.st ≠ .held
    let inside := addr < x.hbmMib * mib ∧ x.ctxOwned (addr / 1024 * 1024) = false ∧ 1 ≤ kind ∧ kind ≤ 3
    let at_ := fun (y : Chan) (ok : Bool) => { y with rel := { y.rel with patrolAt := k + 1, patrolCe := if ok = true then y.rel.patrolCe + 1 else y.rel.patrolCe } }
    (awake → seen = none → nx (.patrolRead c) ({ x with rel := { x.rel with patrolAt := 0, patrolCe := 0 } }.event 0xE008 none 0 x.rel.patrolCe)) ∧
    (awake → seen = some k → x.readCw k 10 = (true, y) → nx (.patrolRead c) (at_ y true)) ∧
    (awake → seen = some k → x.readCw k 10 = (false, y) → (at_ y false).culletAt (64 * k) = some f → nx (.patrolRead c) ((at_ y false).withdrawFrame f)) ∧
    (awake → seen = some k → x.readCw k 10 = (false, y) → (at_ y false).culletAt (64 * k) = none → nx (.patrolRead c) (at_ y false)) ∧
    (¬ awake → nx (.patrolRead c) x ∧ nx (.rowSpare c row flashOk) x ∧ nx (.laneSpare c pch lane flashOk) x) ∧
    (awake → x.rowFails row = true → row * 1024 < x.hbmMib * mib →
      (1024 ≤ used → nx (.rowSpare c row flashOk) ((x.exhaustedEvent (x.pchOf (row * 1024)) 0).withdrawAt (row * 1024))) ∧
      (used < 1024 → nx (.rowSpare c row true) (inFlash.event 0xE002 none (row * 1024) (1023 - used))) ∧
      (used < 1024 → nx (.rowSpare c row false) ((spared.event 0xE002 none (row * 1024) (1023 - used)).event 0xE006 none (row * 1024) 0xCB))) ∧
    (x.rowFails row = false → nx (.rowSpare c row flashOk) x) ∧
    (awake → pch < x.pchs →
      (2 ≤ lanes → nx (.laneSpare c pch lane flashOk) ((x.exhaustedEvent pch 1).degrade pch)) ∧
      (lanes < 2 → nx (.laneSpare c pch lane true) (laneFlash.event 0xE003 none pch left)) ∧
      (lanes < 2 → nx (.laneSpare c pch lane false) ((laned.event 0xE003 none pch left).event 0xE006 none pch 0xCB))) ∧
    (powered → nxS (.sramError c .single) (x.bump Reg.REL_SRAM_CNT 31 0 1)) ∧
    (powered → e ≠ .single → nxS (.sramError c e) ((x.bump Reg.REL_SRAM_CNT 63 32 1).doubleBit e)) ∧
    ((x.pwr.st = .c0 ∨ x.pwr.st = .c1) → nx (.consistencyCheckFail c) (x.isolate 3)) ∧
    (x.sec.mode ≠ .updating → takes → nx (.relIsolate c src) (x.isolate 4)) ∧
    (x.sec.mode = .updating → src.vf = none → nx (.relIsolate c src) (x.complete src 0xE4 0)) ∧
    (takes → inside → x.inject addr kind count = (n, y) → nx (.relInject c src addr kind count) (y.complete src 0 n)) ∧
    (takes → ¬ inside → nx (.relInject c src addr kind count) (x.complete src 0xE3 0)) ∧
    (x.rel.isoAt = some t → x.rel.mode = .isolated → x.flag Reg.REL_ISO_CFG 63 = true → x.fget Reg.REL_STATE 15 8 ≠ 5 → x.pwr.pending = none →
      x.rel.isoTimes.length ≤ x.orD Reg.REL_ISO_CFG 7 0 1 → nx (.autoWarmExpiry c) ((x.reach (t + 10 * ms)).awaitReset 6)) ∧
    (x.rel.isoAt = some t → (x.flag Reg.REL_ISO_CFG 63 = false ∨ x.fget Reg.REL_STATE 15 8 = 5 ∨ x.orD Reg.REL_ISO_CFG 7 0 1 < x.rel.isoTimes.length) → nx (.autoWarmExpiry c) x)

/-- R39, R461 to R466, R481, R486, R487 and R491: as the bus falls through 47.0 V every channel enters ride-through, and it leaves after 100 µs at 48.0 V; below 43.0 V the channels are held in
retention and the meter writes its open records (R432, log entry 99), from which 48.0 V recovers them by a warm reset each, and 36.0 V loses all but flash; overvoltage and a broken plug
disconnect the input; a read of PWR_MOD_INPUT restarts VMIN; the sensor drives LEAK_N; and the hub answers on SMBus. The model's own choices in it: notes 99, 108, 109, 110, 120. -/
def Obligations.InputAndManagement : Prop :=
  ∀ (s : State) (vin low kind : Nat) (w : ChId → WarmIn) (wet : Bool) (half : Half),
    let h := s.hub
    let nh := fun (i : Instr) (y : Hub) => exec i s = .next (s.withHub y)
    let nall := fun (i : Instr) (y : Hub) (g : ChId → Chan) => exec i s = .next (s.afterAll y g)
    let span := fun (n : Nat) => min n (2 ^ 32 - 1)
    let seen := fun (low : Nat) => { h with vin := vin, vmin := min h.vmin (min vin low), meter := h.meter.map (fun (m : Meter) => m.saw (min vin low)) }
    let recover := Instr.retentionRecovered vin (w .c0) (w .c1) (w .c2) (w .c3)
    (h.bus = .normal → vin < 4700 → nall (.busWarning vin) ({ seen vin with bus := .warning, busAt := h.time }.event 0xF001 0 vin) (fun d => (s.ch d).enterRide vin)) ∧
    ((h.bus ≠ .normal ∨ 4700 ≤ vin) → exec (.busWarning vin) s = .next s) ∧
    (h.bus = .warning → 4800 ≤ vin → h.plugged = true → nall (.warningLeft vin low)
      ({ seen low with bus := .normal, overvoltage := false }.event 0xF002 0 (span (h.time - h.busAt) + min h.vmin low % 65536 * 2 ^ 32)) (fun d => (s.ch d).leaveRide low)) ∧
    ((h.bus ≠ .warning ∨ vin < 4800) → exec (.warningLeft vin low) s = .next s) ∧
    ((h.bus = .normal ∨ h.bus = .warning) → vin < 4300 → nall (.busResetLevel vin)
      ({ seen vin with bus := .below, busAt := h.time, pwrgd := false, out := .pin "PWRGD" 0 :: h.out }.withMeter Meter.inputFails)
      (fun d => let x := s.ch d
        if x.pwr.st = .c3 then { x with pwr := { x.pwr with ride := false } }
        else { x with pwr := { x.pwr with st := .held, heldAt := x.time, ride := false, c2Due := none, busy := decide (x.pwr.busy = true ∧ x.pwr.pending.isSome = true) } })) ∧
    (h.bus = .below → 4800 ≤ vin → h.plugged = true → nall recover
      ({ seen vin with bus := .normal, overvoltage := false }.event 0xF003 0 (span (h.time - h.busAt)))
      (fun d => let x := s.ch d
        (if x.pwr.st = .c3 ∨ x.pwr.pending = some 3 ∨ x.pwr.pending = some 8 then x.sendSupply 2
         else ((x.warmReset 5 (w d)).sendSupply 2).event 0xF003 none 0 (span (x.time - x.pwr.heldAt))).serveEnded serveFuel)) ∧
    (h.bus = .below → vin < 3600 → nall (.retentionLost vin)
      { Hub.reset with out := h.out, bus := .lost, vin := vin, vmin := vin, plugged := h.plugged, overvoltage := h.overvoltage, leak := h.leak, pwrgd := false,
                       meter := h.meter.map (fun (m : Meter) => { m with supplyAt := [], supplySince := [] }) }
      (fun d => (s.ch d).unpowered false .held)) ∧
    ((h.bus ≠ .below ∨ (3600 ≤ vin ∧ vin < 4800)) → exec recover s = .next s ∧ exec (.retentionLost vin) s = .next s) ∧
    (h.plugged = true → h.overvoltage = false → nh .inputOvervoltage { h with overvoltage := true, out := .pin "INPUT_PROTECTION" 0 :: h.out }) ∧
    ((h.plugged = false ∨ h.overvoltage = true) → nh .inputOvervoltage h) ∧
    (h.plugged = false → nh .plugMate { h with plugged := true, out := .pin "INPUT_PROTECTION" 1 :: h.out }) ∧
    (h.plugged = true → nh .plugMate h ∧ nh .plugBreak { h with plugged := false, overvoltage := false, out := .pin "INPUT_PROTECTION" 0 :: h.out }) ∧
    (h.plugged = false → nh .plugBreak h) ∧
    (h.barLive = true → nh (.pwrModInputRead half) { h with
      out := .regRead Reg.PWR_MOD_INPUT (halfOf half (h.vin % 65536 + h.bus.code * 65536 + h.vmin % 65536 * 2 ^ 32)) :: h.out, vmin := if half = .low then h.vmin else h.vin }) ∧
    (h.leak ≠ wet → nh (.moistureSensorChange wet) { h with leak := wet, out := .pin "LEAK_N" (b2n !wet) :: h.out }) ∧
    (h.leak = wet → nh (.moistureSensorChange wet) h) ∧
    (h.bus ≠ .lost → nh (.smbusMctpRequest kind) { h with out := .pin "SMBus MCTP response" kind :: h.out })

/-- R467, R469, R470, R471 and R472: a pace sample gives INDEX, its lowest, the voltage and the temperatures, with pace-low as INDEX falls below 768 and power-cap as the draw exceeds the cap; at
110 °C or 100 °C the channel enters C2; a clock source that fails makes its domains coast, and takes the links down with the SerDes domain; and a domain takes the source asked for if that is
READY. R469, R477, R478, R479 and R481: a request while one runs, in reset or in retention is discarded with 0xF3; C0 and C1 change at once, or wake C2 unless a thermal trip holds it, and C0
wakes C3 by a cold reset; C2 waits for its handoffs, and is abandoned with 0xF1 where one remains; C3 is refused with 0xF2 while contexts are held, unless FORCE is set; a reset request
starts its reset. The model's own choices in it: notes 114, 115, 117, 118. -/
def Obligations.PaceClocksAndPower : Prop :=
  (∀ (s : State) (c : ChId) (p : PaceIn) (ctl base source t : Nat) (a : Access),
    let x := s.ch c
    let nx := fun (i : Instr) (y : Chan) => exec i s = .next (s.after c y)
    let awake := x.pwr.st = .c0 ∨ x.pwr.st = .c1
    let measured := { x.pwr with vcore := p.vcore, tempCtl := p.tempCtl, tempBase := p.tempBase }
    let cap := x.fget Reg.PWR_LIMIT 15 0
    let excess := max 200 (min 470 cap) < p.draw ∧ p.index ≤ 768
    let sampled := { x with pwr := { measured with index := p.index, minIndex := min x.pwr.minIndex p.index, capped := decide excess } }
    let lowered := sampled.eventEvery ms 0xF006 0 none p.index (fun _ => p.tempCtl % 256 + p.tempBase % 256 * 256)
    let low := 768 ≤ x.pwr.index ∧ p.index < 768
    let hot := { x with pwr := { x.pwr with tripped := true, tempCtl := ctl, tempBase := base } }.event 0xF008 none (b2n (decide (100 ≤ base))) (if 100 ≤ base then base else ctl)
    let lost := (List.range 3).filter (fun d => decide (x.fget Reg.CLK_SRC d d = source) && !x.pwr.coast.testBit d)
    let dead := { x with pwr := { x.pwr with
      refReady := x.pwr.refReady && decide (source ≠ 0), oscReady := x.pwr.oscReady && decide (source ≠ 1), coast := lost.foldl (fun m d => setBits m d d 1) x.pwr.coast } }
    let fails := source ≤ 1 ∧ x.pwr.st ≠ .c3 ∧ x.sourceReady source = true
    (x.pwr.st = .c2 → nx (.paceSample c p) { x with pwr := measured }) ∧
    (awake → ¬ low → (¬ excess ∨ x.pwr.capped = true) → nx (.paceSample c p) sampled) ∧
    (awake → low → (¬ excess ∨ x.pwr.capped = true) → nx (.paceSample c p) lowered) ∧
    (awake → ¬ low → excess → x.pwr.capped = false → nx (.paceSample c p) (sampled.event 0xF007 none cap p.draw)) ∧
    (awake → low → excess → x.pwr.capped = false → nx (.paceSample c p) (lowered.event 0xF007 none cap p.draw)) ∧
    (x.regsLive = true → nx (.pwrPaceClear c) { x with pwr := { x.pwr with minIndex := x.pwr.index } }) ∧
    ((110 ≤ ctl ∨ 100 ≤ base) → awake → x.pwr.tripped = false → nx (.thermalTrip c ctl base) hot.enterC2) ∧
    ((110 ≤ ctl ∨ 100 ≤ base) → x.pwr.st = .c2 → x.pwr.tripped = false → nx (.thermalTrip c ctl base) hot) ∧
    (((ctl < 110 ∧ base < 100) ∨ x.pwr.tripped = true) → nx (.thermalTrip c ctl base) x) ∧
    (fails → lost = [] → nx (.clockSourceFail c source) dead) ∧
    (fails → lost ≠ [] → lost.contains 1 = false → nx (.clockSourceFail c source) (dead.event 0xF009 none source dead.pwr.coast)) ∧
    (fails → lost.contains 1 = true → nx (.clockSourceFail c source) ((List.range x.ports).foldl Chan.linkLost (dead.event 0xF009 none source dead.pwr.coast))) ∧
    (x.pwr.oscDue = some t → nx (.oscSettled c) { x.reach t with pwr := { (x.reach t).pwr with oscReady := true, oscDue := none } }) ∧
    (x.pwr.st ≠ .c3 → nx (.refClockReady c) { x with pwr := { x.pwr with refReady := true } }) ∧
    (x.regsLive = true → reaches a 2 0 = true →
      let want := bits (a.apply (x.rd Reg.CLK_SRC)) 2 0
      nx (.clkSrcWrite c a) ((((x.switchDomain want 0).switchDomain want 1).switchDomain want 2).oscNeed want)) ∧
    (∀ (want d : Nat), let new := bits want d d
      (x.fget Reg.CLK_SRC d d ≠ new → x.sourceReady new = true →
        x.switchDomain want d = (({ x with pwr := { x.pwr with coast := setBits x.pwr.coast d d 0 } }).fset Reg.CLK_SRC d d new).event 0xF00B none d new) ∧
      (x.fget Reg.CLK_SRC d d ≠ new → x.sourceReady new = false → x.switchDomain want d = x.event 0xF00A none d new) ∧
      (x.fget Reg.CLK_SRC d d = new → x.pwr.coast.testBit d = false → x.switchDomain want d = x))) ∧
  (∀ (s : State) (c : ChId) (st : PwrState) (force : Bool) (t : Nat),
    let x := s.ch c
    let nx := fun (i : Instr) (y : Chan) => exec i s = .next (s.after c y)
    let result := fun (y : Chan) (r : Nat) => { y with pwr := { y.pwr with result := r } }
    let starts := fun (code : Nat) => { x with pwr := { x.pwr with pending := some code, st := .held, c2Due := none, busy := true } }
    let free := s.hub.barLive = true ∧ x.pwr.busy = false ∧ x.pwr.st ≠ .held
    let active := x.pwr.st = .c0 ∨ x.pwr.st = .c1
    let tripHolds := x.pwr.tripped = true ∧ (95 ≤ x.pwr.tempCtl ∨ 95 ≤ x.pwr.tempBase)
    let ask := fun (st : PwrState) => if st = .c1 then Instr.pwrReqC1 c else Instr.pwrReqC0 c
    let goes := st = .c0 ∨ st = .c1
    let holds := x.ctx.entries.anyOf (fun _ e => decide (e.state ≠ .free ∧ e.state ≠ .retired)) = true
    let waited := if x.handoffsOpen = true ∨ x.cru.jobs ≠ [] then x.reach t else x
    let given := { waited with pwr := { waited.pwr with st := waited.pwr.c2Prior, c2Due := none, busy := false, result := 0xF1 } }
    (s.hub.barLive = true → (x.pwr.busy = true ∨ x.pwr.st = .held) →
      nx (.pwrReqC0 c) (result x 0xF3) ∧ nx (.pwrReqC1 c) (result x 0xF3) ∧ nx (.pwrReqC2 c) (result x 0xF3) ∧ nx (.pwrReqC3 c force) (result x 0xF3) ∧
      nx (.pwrReqWarmReset c) (result x 0xF3) ∧ nx (.pwrReqColdReset c) (result x 0xF3)) ∧
    (free → goes → x.pwr.st = st → nx (ask st) (result x 0)) ∧
    (free → goes → active → x.pwr.st ≠ st → nx (ask st) (result ({ x with pwr := { x.pwr with st := st } }.event 0xF005 none st.code x.pwr.st.code) 0)) ∧
    (free → goes → x.pwr.st = .c2 → tripHolds → nx (ask st) (result x 0xF3)) ∧
    (free → goes → x.pwr.st = .c2 → ¬ tripHolds → nx (ask st) (result (x.leaveC2 st) 0)) ∧
    (free → x.pwr.st = .c3 → nx (.pwrReqC0 c) (starts 8) ∧ nx (.pwrReqC1 c) (result x 0xF3) ∧ nx (.pwrReqC2 c) (result x 0xF3) ∧ nx (.pwrReqC3 c force) (result x 0) ∧
      nx (.pwrReqWarmReset c) (result x 0xF3) ∧ nx (.pwrReqColdReset c) (result x 0xF3)) ∧
    (free → active → x.sec.mode = .serving → nx (.pwrReqC2 c) { x with pwr := { x.pwr with busy := true, c2Prior := x.pwr.st, c2Due := some (x.time + 1000 * ms) } }.holdCores) ∧
    (x.pwr.c2Due = some t → x.handoffsOpen = true →
      nx (.c2EntryWaitEnd c) (if x.pwr.ride = true then given else given.releaseCores)) ∧
    (x.pwr.c2Due = some t → x.handoffsOpen = false → nx (.c2EntryWaitEnd c) waited.enterC2) ∧
    (x.pwr.c2Due = none → nx (.c2EntryWaitEnd c) x) ∧
    (free → x.pwr.st ≠ .c3 → x.sec.mode ≠ .updating → ¬ tripHolds →
      (force = false → holds → nx (.pwrReqC3 c force) (result x 0xF2)) ∧
      ((force = true ∨ ¬ holds) → nx (.pwrReqC3 c force) (result ((x.loseKeys.event 0xF005 none 3 x.pwr.st.code).unpowered true .c3) 0)) ∧
      (x.sec.mode ≠ .failed → nx (.pwrReqWarmReset c) (starts 4)) ∧
      (x.sec.mode = .failed → nx (.pwrReqWarmReset c) (result x 0xF3))) ∧
    (free → x.pwr.st ≠ .c3 → x.sec.mode ≠ .updating → nx (.pwrReqColdReset c) (starts 3)) ∧
    (free → x.sec.mode = .updating → nx (.pwrReqC3 c force) (if x.pwr.st = .c3 then result x 0 else result x 0xF3) ∧ nx (.pwrReqWarmReset c) (result x 0xF3) ∧ nx (.pwrReqColdReset c) (result x 0xF3)))

/-- R89, R380, R474, R475, R476 and R480: each reset that waits runs where the bus is up: a warm one keeps what R480 keeps, takes the image in flash and rebuilds the table, a cold one loses all
outside flash and boots; a module reset and the return of power start the hub and every channel afresh; a core reset ends its invocation with exception 0x0B; a port reset drops its frames
and trains its link; a tenant reset is that of its VF; and a hot reset clears configuration space. The model's own choices in it: notes 108, 110, 112, 113, 116, 119, 120. -/
def Obligations.Resets : Prop :=
  ∀ (s : State) (c : ChId) (w : WarmIn) (k core port slot : Nat) (i : Invocation) (pufOk : Bool) (fails : List Nat),
    let x := s.ch c
    let h := s.hub
    let nx := fun (i : Instr) (y : Chan) => exec i s = .next (s.after c y)
    let nxS := fun (i : Instr) (y : Chan) => nx i (y.serveEnded serveFuel)
    let nall := fun (i : Instr) (y : Hub) (g : ChId → Chan) => exec i s = .next (s.afterAll y g)
    let up := h.bus = .normal ∨ h.bus = .warning
    let waits := fun (k : Nat) => x.pwr.pending = some k ∧ x.pwr.st = .held
    let isolated := decide (x.rel.mode = .isolated)
    let commit := if k = 7 ∨ x.pwr.pending = some 7 then x.sec.commit.map Prod.fst else none
    let cleared := ({ x.warmClear with sec := { x.warmClear.sec with commit := none } }.resetDone k).bump Reg.PWR_RESET_LOG 31 16 1
    let in_ := fun (m : SecMode) => { cleared with sec := { cleared.sec with mode := m } }
    let booted := (x.loseKeys.unpowered true .held).boot k pufOk
    let started := fun (time vin vmin : Nat) => { Hub.reset with
      out := if h.pwrgd = true then h.out else .pin "PWRGD" 1 :: h.out, time := time, vin := vin, vmin := vmin, bus := if h.bus = .warning then .warning else .normal, plugged := h.plugged,
      overvoltage := if h.bus = .lost then false else h.overvoltage, busAt := h.busAt, leak := h.leak, meter := h.meter : Hub }
    let ended := (x.exception core 0x0B (x.core core).pc).setCore core GCore.init
    let told := ended.event 0xF00C none core i.prog
    let plain : Chan := { x with regs := sortBy (fun a b => decide (a.1 ≤ b.1)) (portRegs port x.regs) }
    let idle : Port := (plain.dropQueued port).port port
    let left : Chan := (idle.rings.flatMap (fun r => r.2)).foldl Chan.freeBuf (plain.dropQueued port)
    let link : Chan := Chan.setPort left port Port.init
    let open_ := if link.running (0x40 + port) = true then link.gateStart port else link
    let frames := ((plain.egress port).queues.flatMap (fun q => q.2)).length + ((plain.egress port).wait.flatMap (fun q => q.2)).length
    (up → 4 ≤ k → k ≤ 7 → waits k →
      ((x.sec.mode = .failed ∨ w.pufOk = false) → nxS (.warmChannelReset c w) (in_ .failed)) ∧
      (x.sec.mode ≠ .failed → w.pufOk = true → cleared.sec.flash.fwValid = false → nxS (.warmChannelReset c w) (in_ .recovery)) ∧
      (x.sec.mode ≠ .failed → w.pufOk = true → cleared.sec.flash.fwValid = true → w.lost = none → nxS (.warmChannelReset c w)
        (((((cleared.loadImage.reinstall.regrantSets).rebuild w).startGates).afterWarm isolated).commitDone commit x.sec.fwVersion).resetEvent)) ∧
    (up → (k = 3 ∨ k = 8) → waits k →
      (booted.sec.mode = .serving → nx (.coldChannelReset c pufOk) booted.resetEvent) ∧ (booted.sec.mode ≠ .serving → nx (.coldChannelReset c pufOk) booted)) ∧
    (¬ up → exec (.warmChannelReset c w) s = .next s ∧ exec (.coldChannelReset c pufOk) s = .next s ∧ exec (.moduleReset fails) s = .next s) ∧
    (up → nall (.moduleReset fails) (started h.time h.vin h.vmin) (fun d => (s.ch d).coldReset false 2 (!fails.contains (chNum d)))) ∧
    (h.bus = .lost → h.plugged = true → nall (.powerOnReset fails) (started 0 4800 4800) (fun d => (s.ch d).coldReset false 1 (!fails.contains (chNum d)))) ∧
    (h.bus ≠ .lost → exec (.powerOnReset fails) s = .next s) ∧
    (x.regsLive = true → core < 64 → (x.core core).inv = some i → nx (.coreReset c core) (if told.coreOpen core = true then told.fillCore core else told)) ∧
    (x.regsLive = true → x.hasPort port = true → nx (.portReset c port) ((open_.moveConns.2.carryOn).event 0xF00C none (128 + port) frames)) ∧
    (slot < 16 → x.fnExists (.vf slot) = true → x.host.linkUp = true → x.sec.mode = .serving → (x.pwr.st = .c0 ∨ x.pwr.st = .c1) → nxS (.tenantReset c slot) (x.tenantReset slot)) ∧
    (h.bus ≠ .lost → nall .pcieHotReset { h with pci := Pci.init } (fun d => let y := s.ch d
      { y with host := { y.host with pci := [] } }))
end

