-- ==== Sys2Proof/Laws/Bits.lean ====
section
/-! SUPPORT. Laws of bit ranges and of bytes: reading back what a field was set to, every other bit unchanged, and bytes that hold a number. -/
namespace Sys2Proof

/-- A number with a field replaced, as the field between what lies above and below it. -/
theorem setBits_eq (v hi lo x : Nat) (h : lo ≤ hi + 1) :
    setBits v hi lo x = 2 ^ lo * (2 ^ (hi + 1 - lo) * (v >>> (hi + 1)) + x % 2 ^ (hi + 1 - lo)) + v % 2 ^ lo := by
  simp only [setBits, bits, Nat.shiftRight_eq_div_pow]
  have e : (2 : Nat) ^ (hi + 1) = 2 ^ lo * 2 ^ (hi + 1 - lo) := by rw [← pow_add]; congr 1; omega
  rw [e, ← Nat.div_div_eq_div_mul]
  generalize hw : (2 : Nat) ^ (hi + 1 - lo) = w
  generalize hl : (2 : Nat) ^ lo = l
  have h1 := Nat.div_add_mod v l
  have h2 := Nat.div_add_mod (v / l) w
  have h3 : l * (v / l) = l * (w * (v / l / w)) + v / l % w * l := by
    conv_lhs => rw [← h2]
    ring
  have : v - v / l % w * l = l * (w * (v / l / w)) + v % l := by omega
  rw [this]; ring

/-- Every bit after a field is set: inside it the new value's, outside it as before. -/
theorem testBit_setBits (v hi lo x n : Nat) (h : lo ≤ hi + 1) :
    (setBits v hi lo x).testBit n = if lo ≤ n ∧ n ≤ hi then x.testBit (n - lo) else v.testBit n := by
  rw [setBits_eq v hi lo x h, Nat.testBit_two_pow_mul_add _ (Nat.mod_lt _ (by positivity))]
  by_cases h1 : n < lo
  · simp [h1, show ¬ lo ≤ n by omega]
  · rw [if_neg h1, Nat.testBit_two_pow_mul_add _ (Nat.mod_lt _ (by positivity)), Nat.testBit_mod_two_pow, Nat.testBit_shiftRight]
    by_cases h2 : n ≤ hi
    · simp [h2, show lo ≤ n by omega, show n - lo < hi + 1 - lo by omega]
    · rw [if_neg (by omega), if_neg (by omega)]; congr 1; omega

/-- The field of a number, bit by bit. -/
theorem testBit_bits (v hi lo n : Nat) : (bits v hi lo).testBit n = (decide (n < hi + 1 - lo) && v.testBit (lo + n)) := by
  simp [bits, Nat.testBit_mod_two_pow, Nat.testBit_shiftRight]

/-- A field reads back what it was set to. -/
theorem bits_setBits_self (v hi lo x : Nat) (h : lo ≤ hi + 1) : bits (setBits v hi lo x) hi lo = x % 2 ^ (hi + 1 - lo) := by
  refine Nat.eq_of_testBit_eq fun n => ?_
  rw [testBit_bits, testBit_setBits _ _ _ _ _ h, Nat.testBit_mod_two_pow]
  by_cases hn : n < hi + 1 - lo
  · simp [hn, show lo + n ≤ hi by omega]
  · simp [hn]

/-- A field that another does not meet reads as before. -/
theorem bits_setBits_ne (v hi lo x i j : Nat) (h : lo ≤ hi + 1) (hd : i < lo ∨ hi < j) : bits (setBits v hi lo x) i j = bits v i j := by
  refine Nat.eq_of_testBit_eq fun n => ?_
  rw [testBit_bits, testBit_bits, testBit_setBits _ _ _ _ _ h]
  by_cases hn : n < i + 1 - j
  · rw [if_neg (by omega)]
  · simp [hn]

@[simp] theorem leBytes_length (n v : Nat) : (leBytes n v).length = n := by
  induction n generalizing v with
  | zero => rfl
  | succ n ih => simp [leBytes, ih]

/-- The bytes of a number hold it, in the width that they have. -/
theorem leVal_leBytes (n v : Nat) : leVal (leBytes n v) = v % 256 ^ n := by
  induction n generalizing v with
  | zero => simp [leBytes, leVal, Nat.mod_one]
  | succ n ih =>
    simp only [leBytes, leVal, ih, BitVec.toNat_ofNat]
    rw [show 256 ^ (n + 1) = 256 * 256 ^ n from by rw [Nat.pow_succ, Nat.mul_comm], Nat.mod_mul]

end Sys2Proof
end

