-- ==== Sys2Proof/Laws/Memory.lean ====
section
/-! SUPPORT. Laws of memory: a read after a write, every other byte unchanged, and the canonical form, which every operation that the block uses between two
commands keeps. -/
namespace Sys2Proof.Machine

/-- No listed address below `a`, and the form holds: what the tail of a canonical memory meets. -/
theorem Memory.wf_cons {a : Nat} {v : Byte} {m : Memory} :
    Memory.wf ((a, v) :: m) = true ↔ v ≠ 0 ∧ (∀ e ∈ m.head?, a < e.1) ∧ Memory.wf m = true := by
  cases m with
  | nil => simp [Memory.wf]
  | cons e t =>
    obtain ⟨b, w⟩ := e
    simp only [Memory.wf, Bool.and_eq_true, decide_eq_true_eq, List.head?_cons, Option.mem_def, Option.some.injEq, forall_eq', and_assoc]
    tauto

theorem Memory.head_put (m : Memory) (a c : Nat) (v : Byte) (hc : ∀ e ∈ m.head?, c < e.1) (hw : Memory.wf m = true) (h : c < a) :
    ∀ e ∈ (Memory.put m a v).head?, c < e.1 := by
  induction m with
  | nil =>
    simp only [Memory.put]
    split
    · simp
    · simpa using h
  | cons e t ih =>
    obtain ⟨b, w⟩ := e
    have hb : c < b := hc _ rfl
    obtain ⟨_, ht, hwt⟩ := Memory.wf_cons.1 hw
    simp only [Memory.put]
    split
    · split
      · simpa using hb
      · simpa using h
    · split
      · split
        · intro e he; exact Nat.lt_trans hb (ht e he)
        · simpa using h
      · simpa using hb

/-- A byte stored keeps the canonical form. -/
theorem Memory.wf_put (m : Memory) (a : Nat) (v : Byte) (hw : Memory.wf m = true) : Memory.wf (Memory.put m a v) = true := by
  induction m with
  | nil =>
    simp only [Memory.put]
    split
    · rfl
    · simpa [Memory.wf] using ‹_›
  | cons e t ih =>
    obtain ⟨b, w⟩ := e
    obtain ⟨hv, ht, hwt⟩ := Memory.wf_cons.1 hw
    simp only [Memory.put]
    split
    · split
      · exact hw
      · exact Memory.wf_cons.2 ⟨‹_›, by simpa using ‹a < b›, hw⟩
    · split
      · split
        · exact hwt
        · rename_i h _; subst h; exact Memory.wf_cons.2 ⟨‹_›, ht, hwt⟩
      · exact Memory.wf_cons.2 ⟨hv, Memory.head_put t a b v ht hwt (by omega), ih hwt⟩

/-- The canonical form of any memory is canonical. -/
@[simp] theorem Memory.wf_canon (m : Memory) : Memory.wf (Memory.canon m) = true := by
  induction m with
  | nil => rfl
  | cons e t ih => exact Memory.wf_put _ _ _ ih

/-- In a canonical memory no address below the first listed one is listed. -/
theorem Memory.get_below (m : Memory) (a : Nat) (hw : Memory.wf m = true) (h : ∀ e ∈ m.head?, a < e.1) : Memory.get m a = 0 := by
  induction m with
  | nil => rfl
  | cons e t ih =>
    obtain ⟨b, w⟩ := e
    obtain ⟨_, ht, hwt⟩ := Memory.wf_cons.1 hw
    have hb : a < b := h _ rfl
    simp only [Memory.get, show ¬ b = a by omega, if_false]
    exact ih hwt (fun e he => Nat.lt_trans hb (ht e he))

/-- A byte stored reads back, and every other byte reads as before. -/
theorem Memory.get_put (m : Memory) (a x : Nat) (v : Byte) (hw : Memory.wf m = true) :
    Memory.get (Memory.put m a v) x = if x = a then v else Memory.get m x := by
  induction m with
  | nil =>
    simp only [Memory.put]
    split
    · subst_vars; simp [Memory.get]
    · simp only [Memory.get, eq_comm]
  | cons e t ih =>
    obtain ⟨b, w⟩ := e
    obtain ⟨_, ht, hwt⟩ := Memory.wf_cons.1 hw
    simp only [Memory.put]
    split
    · rename_i hlt
      split
      · rename_i h0; subst h0
        split
        · rename_i h; subst h
          exact Memory.get_below _ _ hw (by simpa using hlt)
        · rfl
      · simp only [Memory.get]
        by_cases h : x = a
        · subst h; simp
        · simp [h, Ne.symm h]
    · split
      · rename_i h; subst h
        split
        · rename_i h0; subst h0
          by_cases h : x = a
          · subst h; simp only [if_true]
            exact Memory.get_below _ _ hwt ht
          · simp [Memory.get, h, Ne.symm h]
        · simp only [Memory.get]
          by_cases h : x = a
          · subst h; simp
          · simp [h, Ne.symm h]
      · simp only [Memory.get, ih hwt]
        by_cases h : b = x
        · subst h; simp [show ¬ b = a by omega]
        · simp [h]

/-- Bringing a memory into canonical form changes what no address reads as. -/
@[simp] theorem Memory.get_canon (m : Memory) (x : Nat) : Memory.get (Memory.canon m) x = Memory.get m x := by
  induction m with
  | nil => rfl
  | cons e t ih =>
    obtain ⟨a, v⟩ := e
    rw [show Memory.canon ((a, v) :: t) = Memory.put (Memory.canon t) a v from rfl, Memory.get_put _ _ _ _ (Memory.wf_canon t), ih]
    simp only [Memory.get, eq_comm]

/-- A canonical memory is its own canonical form. -/
theorem Memory.canon_of_wf (m : Memory) (hw : Memory.wf m = true) : Memory.canon m = m := by
  induction m with
  | nil => rfl
  | cons e t ih =>
    obtain ⟨a, v⟩ := e
    obtain ⟨hv, ht, hwt⟩ := Memory.wf_cons.1 hw
    rw [show Memory.canon ((a, v) :: t) = Memory.put (Memory.canon t) a v from rfl, ih hwt]
    cases t with
    | nil => simp only [Memory.put, if_neg hv]
    | cons e t => obtain ⟨b, w⟩ := e; have : a < b := ht _ rfl; simp only [Memory.put, if_pos this, if_neg hv]

/-- Bytes stored from `a` read back there, and every other byte reads as before. -/
theorem Memory.get_write (l : List Byte) (m : Memory) (a x : Nat) :
    Memory.get (Memory.write m a l) x = if a ≤ x ∧ x < a + l.length then l.getD (x - a) 0 else Memory.get m x := by
  induction l generalizing m a with
  | nil => simp [Memory.write]
  | cons b t ih =>
    simp only [Memory.write, ih, List.length_cons, Memory.get]
    by_cases h : a = x
    · subst h; simp
    · by_cases h1 : a + 1 ≤ x ∧ x < a + 1 + t.length
      · rw [if_pos h1, if_pos (by omega), show x - a = (x - (a + 1)) + 1 by omega]; simp
      · rw [if_neg h1, if_neg h, if_neg (by omega)]

/-- A run cleared reads as zero, and every other byte reads as before. -/
theorem Memory.get_clear (m : Memory) (a n x : Nat) :
    Memory.get (Memory.clear m a n) x = if a ≤ x ∧ x < a + n then 0 else Memory.get m x := by
  induction m with
  | nil => simp [Memory.clear, Memory.get]
  | cons e t ih =>
    obtain ⟨b, w⟩ := e
    simp only [Memory.clear, List.filter_cons] at ih ⊢
    split
    · rename_i h; simp only [decide_eq_true_eq] at h
      simp only [Memory.get, ih]
      by_cases hb : b = x
      · subst hb; simp [show ¬ (a ≤ b ∧ b < a + n) by omega]
      · simp [hb]
    · rename_i h; simp only [decide_eq_true_eq] at h
      rw [ih]; simp only [Memory.get]
      by_cases hb : b = x
      · subst hb; simp [show a ≤ b ∧ b < a + n by omega]
      · simp [hb]

end Sys2Proof.Machine
end

