-- ==== Sys2Proof/Laws/Maps.lean ====
section
/-! SUPPORT. Laws of sparse tables: reading back what was listed, every other key unchanged, and the canonical form kept. -/
namespace Sys2Proof.Machine

@[simp] theorem AMap.find_nil {β : Type} (k : Nat) : AMap.find ([] : AMap β) k = none := rfl

theorem AMap.find_put {β : Type} (m : AMap β) (k j : Nat) (v : β) :
    AMap.find (AMap.put m k v) j = if k = j then some v else AMap.find m j := by
  induction m with
  | nil => simp [AMap.put, AMap.find]
  | cons e t ih =>
    obtain ⟨i, w⟩ := e
    simp only [AMap.put]
    split
    · simp only [AMap.find]
    · split
      · subst_vars; simp only [AMap.find]; split <;> rfl
      · simp only [AMap.find, ih]
        by_cases h : i = j <;> by_cases h' : k = j <;> simp_all

@[simp] theorem AMap.find_put_self {β : Type} (m : AMap β) (k : Nat) (v : β) : AMap.find (AMap.put m k v) k = some v := by
  simp [AMap.find_put]

theorem AMap.find_del {β : Type} (m : AMap β) (k j : Nat) :
    AMap.find (AMap.del m k) j = if k = j then none else AMap.find m j := by
  induction m with
  | nil => simp [AMap.del]
  | cons e t ih =>
    obtain ⟨i, w⟩ := e
    simp only [AMap.del, List.filter_cons] at ih ⊢
    by_cases h : i = k
    · subst h
      simp only [bne_self_eq_false, Bool.false_eq_true, if_false, ih, AMap.find]
      by_cases h' : i = j <;> simp [h']
    · simp only [bne_iff_ne, ne_eq, h, not_false_iff, if_true, AMap.find, ih]
      by_cases h' : k = j
      · subst h'; simp [h]
      · simp [h']

/-- A table with `k` set to `v` reads `v` there and as before everywhere else. -/
theorem AMap.getD_set {β : Type} [DecidableEq β] (m : AMap β) (d : β) (k j : Nat) (v : β) :
    AMap.getD (AMap.set m d k v) j d = if k = j then v else AMap.getD m j d := by
  simp only [AMap.getD, AMap.set]
  split
  · rw [AMap.find_del]; split <;> simp_all
  · rw [AMap.find_put]; split <;> simp_all

@[simp] theorem AMap.getD_set_self {β : Type} [DecidableEq β] (m : AMap β) (d : β) (k : Nat) (v : β) :
    AMap.getD (AMap.set m d k v) k d = v := by simp [AMap.getD_set]

theorem AMap.getD_set_ne {β : Type} [DecidableEq β] (m : AMap β) (d : β) {k j : Nat} (v : β) (h : k ≠ j) :
    AMap.getD (AMap.set m d k v) j d = AMap.getD m j d := by simp [AMap.getD_set, h]

theorem AMap.getD_put {β : Type} (m : AMap β) (d : β) (k j : Nat) (v : β) :
    AMap.getD (AMap.put m k v) j d = if k = j then v else AMap.getD m j d := by
  simp only [AMap.getD, AMap.find_put]; split <;> simp

@[simp] theorem AMap.getD_put_self {β : Type} (m : AMap β) (d : β) (k : Nat) (v : β) : AMap.getD (AMap.put m k v) k d = v := by
  simp [AMap.getD_put]

/-- The last of two listings of one key stands. -/
theorem AMap.put_put {β : Type} (m : AMap β) (k : Nat) (v w : β) : AMap.put (AMap.put m k v) k w = AMap.put m k w := by
  induction m with
  | nil => simp [AMap.put]
  | cons e t ih =>
    obtain ⟨j, u⟩ := e
    simp only [AMap.put]
    split
    · simp [AMap.put]
    · split
      · simp [AMap.put]
      · rename_i h1 h2; simp [AMap.put, h1, h2, ih]

theorem AMap.del_put {β : Type} (m : AMap β) (k : Nat) (v : β) : AMap.del (AMap.put m k v) k = AMap.del m k := by
  induction m with
  | nil => simp [AMap.put, AMap.del]
  | cons e t ih =>
    obtain ⟨j, u⟩ := e
    simp only [AMap.put]
    split
    · simp [AMap.del]
    · split
      · rename_i h; subst h; simp [AMap.del]
      · simp only [AMap.del, List.filter_cons] at ih ⊢; rw [ih]

/-- The last of two writes of one key stands. -/
theorem AMap.set_set {β : Type} [DecidableEq β] (m : AMap β) (d : β) (k : Nat) {v w : β} (h : v ≠ d) : AMap.set (AMap.set m d k v) d k w = AMap.set m d k w := by
  simp only [AMap.set, h, if_false]; split
  · exact AMap.del_put m k v
  · exact AMap.put_put m k v w

@[simp] theorem AMap.getD_nil {β : Type} (k : Nat) (d : β) : AMap.getD ([] : AMap β) k d = d := rfl

end Sys2Proof.Machine
end

