-- ==== Sys2Proof/Laws/State.lean ====
section
/-! SUPPORT. One lemma per update of the state: every field that it does not name is unchanged. The compound operations (an event, a completion) have theirs too, so
that no later proof unfolds them. -/
namespace Sys2Proof.Machine
open Sys2Proof

/-! ### The module -/

@[simp] theorem State.ch_setCh (s : State) (c : ChId) (x : Chan) : (s.setCh c x).ch c = x := by cases c <;> rfl

theorem State.ch_setCh_ne (s : State) {c d : ChId} (x : Chan) (h : d ≠ c) : (s.setCh c x).ch d = s.ch d := by
  cases c <;> cases d <;> first | rfl | exact absurd rfl h

@[simp] theorem State.setCh_hub (s : State) (c : ChId) (x : Chan) : (s.setCh c x).hub = s.hub := by cases c <;> rfl

@[simp] theorem State.setCh_pending (s : State) (c : ChId) (x : Chan) : (s.setCh c x).pending = s.pending := by cases c <;> rfl

@[simp] theorem State.ch_hub (s : State) (h : Hub) (c : ChId) : State.ch { s with hub := h } c = s.ch c := by cases c <;> rfl

@[simp] theorem State.ch_pending (s : State) (l : List Instr) (c : ChId) : State.ch { s with pending := l } c = s.ch c := by cases c <;> rfl

/-! ### One channel -/

@[simp] theorem Chan.wr_frame (c : Chan) (off v : Nat) :
    (c.wr off v).num = c.num ∧ (c.wr off v).g8x = c.g8x ∧ (c.wr off v).time = c.time ∧ (c.wr off v).fresh = c.fresh ∧
    (c.wr off v).out = c.out ∧ (c.wr off v).fns = c.fns ∧ (c.wr off v).role = c.role ∧ (c.wr off v).ctx = c.ctx ∧
    (c.wr off v).maps = c.maps ∧ (c.wr off v).pool = c.pool ∧ (c.wr off v).hbm = c.hbm ∧ (c.wr off v).ho = c.ho ∧
    (c.wr off v).cru = c.cru ∧ (c.wr off v).drafts = c.drafts ∧ (c.wr off v).gaf = c.gaf ∧ (c.wr off v).fab = c.fab ∧
    (c.wr off v).tm = c.tm ∧ (c.wr off v).pfx = c.pfx ∧ (c.wr off v).tiers = c.tiers ∧ (c.wr off v).host = c.host ∧
    (c.wr off v).sec = c.sec ∧ (c.wr off v).mtr = c.mtr ∧ (c.wr off v).rel = c.rel ∧ (c.wr off v).pwr = c.pwr ∧
    (c.wr off v).toHub = c.toHub := ⟨rfl, rfl, rfl, rfl, rfl, rfl, rfl, rfl, rfl, rfl, rfl, rfl, rfl, rfl, rfl, rfl, rfl, rfl, rfl, rfl, rfl, rfl, rfl, rfl, rfl⟩

@[simp] theorem Chan.fset_frame (c : Chan) (off hi lo v : Nat) :
    (c.fset off hi lo v).num = c.num ∧ (c.fset off hi lo v).g8x = c.g8x ∧ (c.fset off hi lo v).time = c.time ∧ (c.fset off hi lo v).fresh = c.fresh ∧
    (c.fset off hi lo v).out = c.out ∧ (c.fset off hi lo v).fns = c.fns ∧ (c.fset off hi lo v).role = c.role ∧ (c.fset off hi lo v).ctx = c.ctx ∧
    (c.fset off hi lo v).maps = c.maps ∧ (c.fset off hi lo v).pool = c.pool ∧ (c.fset off hi lo v).hbm = c.hbm ∧ (c.fset off hi lo v).ho = c.ho ∧
    (c.fset off hi lo v).cru = c.cru ∧ (c.fset off hi lo v).drafts = c.drafts ∧ (c.fset off hi lo v).gaf = c.gaf ∧ (c.fset off hi lo v).fab = c.fab ∧
    (c.fset off hi lo v).tm = c.tm ∧ (c.fset off hi lo v).pfx = c.pfx ∧ (c.fset off hi lo v).tiers = c.tiers ∧ (c.fset off hi lo v).host = c.host ∧
    (c.fset off hi lo v).sec = c.sec ∧ (c.fset off hi lo v).mtr = c.mtr ∧ (c.fset off hi lo v).rel = c.rel ∧ (c.fset off hi lo v).pwr = c.pwr ∧
    (c.fset off hi lo v).toHub = c.toHub := ⟨rfl, rfl, rfl, rfl, rfl, rfl, rfl, rfl, rfl, rfl, rfl, rfl, rfl, rfl, rfl, rfl, rfl, rfl, rfl, rfl, rfl, rfl, rfl, rfl, rfl⟩

@[simp] theorem Chan.bump_frame (c : Chan) (off hi lo n : Nat) :
    (c.bump off hi lo n).num = c.num ∧ (c.bump off hi lo n).g8x = c.g8x ∧ (c.bump off hi lo n).time = c.time ∧ (c.bump off hi lo n).fresh = c.fresh ∧
    (c.bump off hi lo n).out = c.out ∧ (c.bump off hi lo n).fns = c.fns ∧ (c.bump off hi lo n).role = c.role ∧ (c.bump off hi lo n).ctx = c.ctx ∧
    (c.bump off hi lo n).maps = c.maps ∧ (c.bump off hi lo n).pool = c.pool ∧ (c.bump off hi lo n).hbm = c.hbm ∧ (c.bump off hi lo n).ho = c.ho ∧
    (c.bump off hi lo n).cru = c.cru ∧ (c.bump off hi lo n).drafts = c.drafts ∧ (c.bump off hi lo n).gaf = c.gaf ∧ (c.bump off hi lo n).fab = c.fab ∧
    (c.bump off hi lo n).tm = c.tm ∧ (c.bump off hi lo n).pfx = c.pfx ∧ (c.bump off hi lo n).tiers = c.tiers ∧ (c.bump off hi lo n).host = c.host ∧
    (c.bump off hi lo n).sec = c.sec ∧ (c.bump off hi lo n).mtr = c.mtr ∧ (c.bump off hi lo n).rel = c.rel ∧ (c.bump off hi lo n).pwr = c.pwr ∧
    (c.bump off hi lo n).toHub = c.toHub := ⟨rfl, rfl, rfl, rfl, rfl, rfl, rfl, rfl, rfl, rfl, rfl, rfl, rfl, rfl, rfl, rfl, rfl, rfl, rfl, rfl, rfl, rfl, rfl, rfl, rfl⟩

@[simp] theorem Chan.setTotals_frame (c : Chan) (t : Nat) (x : Totals) :
    (c.setTotals t x).num = c.num ∧ (c.setTotals t x).g8x = c.g8x ∧ (c.setTotals t x).time = c.time ∧ (c.setTotals t x).fresh = c.fresh ∧
    (c.setTotals t x).out = c.out ∧ (c.setTotals t x).regs = c.regs ∧ (c.setTotals t x).fns = c.fns ∧ (c.setTotals t x).role = c.role ∧
    (c.setTotals t x).ctx = c.ctx ∧ (c.setTotals t x).maps = c.maps ∧ (c.setTotals t x).pool = c.pool ∧ (c.setTotals t x).hbm = c.hbm ∧
    (c.setTotals t x).ho = c.ho ∧ (c.setTotals t x).cru = c.cru ∧ (c.setTotals t x).drafts = c.drafts ∧ (c.setTotals t x).gaf = c.gaf ∧
    (c.setTotals t x).fab = c.fab ∧ (c.setTotals t x).tm = c.tm ∧ (c.setTotals t x).pfx = c.pfx ∧ (c.setTotals t x).tiers = c.tiers ∧
    (c.setTotals t x).host = c.host ∧ (c.setTotals t x).sec = c.sec ∧ (c.setTotals t x).rel = c.rel ∧ (c.setTotals t x).pwr = c.pwr ∧
    (c.setTotals t x).toHub = c.toHub := ⟨rfl, rfl, rfl, rfl, rfl, rfl, rfl, rfl, rfl, rfl, rfl, rfl, rfl, rfl, rfl, rfl, rfl, rfl, rfl, rfl, rfl, rfl, rfl, rfl, rfl⟩

@[simp] theorem Chan.draw_frame (c : Chan)  :
    (c.draw.2).num = c.num ∧ (c.draw.2).g8x = c.g8x ∧ (c.draw.2).time = c.time ∧ (c.draw.2).out = c.out ∧
    (c.draw.2).regs = c.regs ∧ (c.draw.2).fns = c.fns ∧ (c.draw.2).role = c.role ∧ (c.draw.2).ctx = c.ctx ∧
    (c.draw.2).maps = c.maps ∧ (c.draw.2).pool = c.pool ∧ (c.draw.2).hbm = c.hbm ∧ (c.draw.2).ho = c.ho ∧
    (c.draw.2).cru = c.cru ∧ (c.draw.2).drafts = c.drafts ∧ (c.draw.2).gaf = c.gaf ∧ (c.draw.2).fab = c.fab ∧
    (c.draw.2).tm = c.tm ∧ (c.draw.2).pfx = c.pfx ∧ (c.draw.2).tiers = c.tiers ∧ (c.draw.2).host = c.host ∧
    (c.draw.2).sec = c.sec ∧ (c.draw.2).mtr = c.mtr ∧ (c.draw.2).rel = c.rel ∧ (c.draw.2).pwr = c.pwr ∧
    (c.draw.2).toHub = c.toHub := ⟨rfl, rfl, rfl, rfl, rfl, rfl, rfl, rfl, rfl, rfl, rfl, rfl, rfl, rfl, rfl, rfl, rfl, rfl, rfl, rfl, rfl, rfl, rfl, rfl, rfl⟩

@[simp] theorem Chan.setFn_frame (c : Chan) (n : Nat) (r : FnRec) :
    (c.setFn n r).num = c.num ∧ (c.setFn n r).g8x = c.g8x ∧ (c.setFn n r).time = c.time ∧ (c.setFn n r).fresh = c.fresh ∧
    (c.setFn n r).out = c.out ∧ (c.setFn n r).regs = c.regs ∧ (c.setFn n r).role = c.role ∧ (c.setFn n r).ctx = c.ctx ∧
    (c.setFn n r).maps = c.maps ∧ (c.setFn n r).pool = c.pool ∧ (c.setFn n r).hbm = c.hbm ∧ (c.setFn n r).ho = c.ho ∧
    (c.setFn n r).cru = c.cru ∧ (c.setFn n r).drafts = c.drafts ∧ (c.setFn n r).gaf = c.gaf ∧ (c.setFn n r).fab = c.fab ∧
    (c.setFn n r).tm = c.tm ∧ (c.setFn n r).pfx = c.pfx ∧ (c.setFn n r).tiers = c.tiers ∧ (c.setFn n r).host = c.host ∧
    (c.setFn n r).sec = c.sec ∧ (c.setFn n r).mtr = c.mtr ∧ (c.setFn n r).rel = c.rel ∧ (c.setFn n r).pwr = c.pwr ∧
    (c.setFn n r).toHub = c.toHub := ⟨rfl, rfl, rfl, rfl, rfl, rfl, rfl, rfl, rfl, rfl, rfl, rfl, rfl, rfl, rfl, rfl, rfl, rfl, rfl, rfl, rfl, rfl, rfl, rfl, rfl⟩

@[simp] theorem Chan.emit_frame (c : Chan) (o : Output) :
    (c.emit o).num = c.num ∧ (c.emit o).g8x = c.g8x ∧ (c.emit o).time = c.time ∧ (c.emit o).fresh = c.fresh ∧
    (c.emit o).regs = c.regs ∧ (c.emit o).fns = c.fns ∧ (c.emit o).role = c.role ∧ (c.emit o).ctx = c.ctx ∧
    (c.emit o).maps = c.maps ∧ (c.emit o).pool = c.pool ∧ (c.emit o).hbm = c.hbm ∧ (c.emit o).ho = c.ho ∧
    (c.emit o).cru = c.cru ∧ (c.emit o).drafts = c.drafts ∧ (c.emit o).gaf = c.gaf ∧ (c.emit o).fab = c.fab ∧
    (c.emit o).tm = c.tm ∧ (c.emit o).pfx = c.pfx ∧ (c.emit o).tiers = c.tiers ∧ (c.emit o).host = c.host ∧
    (c.emit o).sec = c.sec ∧ (c.emit o).mtr = c.mtr ∧ (c.emit o).rel = c.rel ∧ (c.emit o).pwr = c.pwr ∧
    (c.emit o).toHub = c.toHub := ⟨rfl, rfl, rfl, rfl, rfl, rfl, rfl, rfl, rfl, rfl, rfl, rfl, rfl, rfl, rfl, rfl, rfl, rfl, rfl, rfl, rfl, rfl, rfl, rfl, rfl⟩

@[simp] theorem Chan.setRing_frame (c : Chan) (f : PciFn) (n : Nat) (r : Ring) :
    (c.setRing f n r).num = c.num ∧ (c.setRing f n r).g8x = c.g8x ∧ (c.setRing f n r).time = c.time ∧ (c.setRing f n r).fresh = c.fresh ∧
    (c.setRing f n r).out = c.out ∧ (c.setRing f n r).regs = c.regs ∧ (c.setRing f n r).fns = c.fns ∧ (c.setRing f n r).role = c.role ∧
    (c.setRing f n r).ctx = c.ctx ∧ (c.setRing f n r).maps = c.maps ∧ (c.setRing f n r).pool = c.pool ∧ (c.setRing f n r).hbm = c.hbm ∧
    (c.setRing f n r).ho = c.ho ∧ (c.setRing f n r).cru = c.cru ∧ (c.setRing f n r).drafts = c.drafts ∧ (c.setRing f n r).gaf = c.gaf ∧
    (c.setRing f n r).fab = c.fab ∧ (c.setRing f n r).tm = c.tm ∧ (c.setRing f n r).pfx = c.pfx ∧ (c.setRing f n r).tiers = c.tiers ∧
    (c.setRing f n r).sec = c.sec ∧ (c.setRing f n r).mtr = c.mtr ∧ (c.setRing f n r).rel = c.rel ∧ (c.setRing f n r).pwr = c.pwr ∧
    (c.setRing f n r).toHub = c.toHub := ⟨rfl, rfl, rfl, rfl, rfl, rfl, rfl, rfl, rfl, rfl, rfl, rfl, rfl, rfl, rfl, rfl, rfl, rfl, rfl, rfl, rfl, rfl, rfl, rfl, rfl⟩

@[simp] theorem Chan.tellHub_frame (c : Chan) (code subject detail : Nat) :
    (c.tellHub code subject detail).num = c.num ∧ (c.tellHub code subject detail).g8x = c.g8x ∧ (c.tellHub code subject detail).time = c.time ∧ (c.tellHub code subject detail).fresh = c.fresh ∧
    (c.tellHub code subject detail).out = c.out ∧ (c.tellHub code subject detail).regs = c.regs ∧ (c.tellHub code subject detail).fns = c.fns ∧ (c.tellHub code subject detail).role = c.role ∧
    (c.tellHub code subject detail).ctx = c.ctx ∧ (c.tellHub code subject detail).maps = c.maps ∧ (c.tellHub code subject detail).pool = c.pool ∧ (c.tellHub code subject detail).hbm = c.hbm ∧
    (c.tellHub code subject detail).ho = c.ho ∧ (c.tellHub code subject detail).cru = c.cru ∧ (c.tellHub code subject detail).drafts = c.drafts ∧ (c.tellHub code subject detail).gaf = c.gaf ∧
    (c.tellHub code subject detail).fab = c.fab ∧ (c.tellHub code subject detail).tm = c.tm ∧ (c.tellHub code subject detail).pfx = c.pfx ∧ (c.tellHub code subject detail).tiers = c.tiers ∧
    (c.tellHub code subject detail).host = c.host ∧ (c.tellHub code subject detail).sec = c.sec ∧ (c.tellHub code subject detail).mtr = c.mtr ∧ (c.tellHub code subject detail).rel = c.rel ∧
    (c.tellHub code subject detail).pwr = c.pwr := ⟨rfl, rfl, rfl, rfl, rfl, rfl, rfl, rfl, rfl, rfl, rfl, rfl, rfl, rfl, rfl, rfl, rfl, rfl, rfl, rfl, rfl, rfl, rfl, rfl, rfl⟩

@[simp] theorem Chan.awaitReset_frame (c : Chan) (code : Nat) :
    (c.awaitReset code).num = c.num ∧ (c.awaitReset code).g8x = c.g8x ∧ (c.awaitReset code).time = c.time ∧ (c.awaitReset code).fresh = c.fresh ∧
    (c.awaitReset code).out = c.out ∧ (c.awaitReset code).regs = c.regs ∧ (c.awaitReset code).fns = c.fns ∧ (c.awaitReset code).role = c.role ∧
    (c.awaitReset code).ctx = c.ctx ∧ (c.awaitReset code).maps = c.maps ∧ (c.awaitReset code).pool = c.pool ∧ (c.awaitReset code).hbm = c.hbm ∧
    (c.awaitReset code).ho = c.ho ∧ (c.awaitReset code).cru = c.cru ∧ (c.awaitReset code).drafts = c.drafts ∧ (c.awaitReset code).gaf = c.gaf ∧
    (c.awaitReset code).fab = c.fab ∧ (c.awaitReset code).tm = c.tm ∧ (c.awaitReset code).pfx = c.pfx ∧ (c.awaitReset code).tiers = c.tiers ∧
    (c.awaitReset code).host = c.host ∧ (c.awaitReset code).sec = c.sec ∧ (c.awaitReset code).mtr = c.mtr ∧ (c.awaitReset code).rel = c.rel ∧
    (c.awaitReset code).toHub = c.toHub := ⟨rfl, rfl, rfl, rfl, rfl, rfl, rfl, rfl, rfl, rfl, rfl, rfl, rfl, rfl, rfl, rfl, rfl, rfl, rfl, rfl, rfl, rfl, rfl, rfl, rfl⟩

@[simp] theorem Chan.settle_frame (c : Chan)  :
    (c.settle).num = c.num ∧ (c.settle).g8x = c.g8x ∧ (c.settle).time = c.time ∧ (c.settle).fresh = c.fresh ∧
    (c.settle).out = c.out ∧ (c.settle).regs = c.regs ∧ (c.settle).fns = c.fns ∧ (c.settle).role = c.role ∧
    (c.settle).ctx = c.ctx ∧ (c.settle).maps = c.maps ∧ (c.settle).pool = c.pool ∧ (c.settle).ho = c.ho ∧
    (c.settle).cru = c.cru ∧ (c.settle).drafts = c.drafts ∧ (c.settle).tm = c.tm ∧ (c.settle).pfx = c.pfx ∧
    (c.settle).tiers = c.tiers ∧ (c.settle).host = c.host ∧ (c.settle).sec = c.sec ∧ (c.settle).mtr = c.mtr ∧
    (c.settle).rel = c.rel ∧ (c.settle).pwr = c.pwr := ⟨rfl, rfl, rfl, rfl, rfl, rfl, rfl, rfl, rfl, rfl, rfl, rfl, rfl, rfl, rfl, rfl, rfl, rfl, rfl, rfl, rfl, rfl⟩

@[simp] theorem Chan.interrupt_frame (c : Chan) (f : PciFn) (v : Nat) :
    (c.interrupt f v).num = c.num ∧ (c.interrupt f v).g8x = c.g8x ∧ (c.interrupt f v).time = c.time ∧ (c.interrupt f v).fresh = c.fresh ∧
    (c.interrupt f v).regs = c.regs ∧ (c.interrupt f v).fns = c.fns ∧ (c.interrupt f v).role = c.role ∧ (c.interrupt f v).ctx = c.ctx ∧
    (c.interrupt f v).maps = c.maps ∧ (c.interrupt f v).pool = c.pool ∧ (c.interrupt f v).hbm = c.hbm ∧ (c.interrupt f v).ho = c.ho ∧
    (c.interrupt f v).cru = c.cru ∧ (c.interrupt f v).drafts = c.drafts ∧ (c.interrupt f v).gaf = c.gaf ∧ (c.interrupt f v).fab = c.fab ∧
    (c.interrupt f v).tm = c.tm ∧ (c.interrupt f v).pfx = c.pfx ∧ (c.interrupt f v).tiers = c.tiers ∧ (c.interrupt f v).sec = c.sec ∧
    (c.interrupt f v).mtr = c.mtr ∧ (c.interrupt f v).rel = c.rel ∧ (c.interrupt f v).pwr = c.pwr ∧ (c.interrupt f v).toHub = c.toHub := by
  simp only [Chan.interrupt]; (repeat' split) <;> simp

@[simp] theorem Chan.postEvent_frame (c : Chan) (f : PciFn) (d : EventDef) (ten : Option Nat) (subject detail : Nat) :
    (c.postEvent f d ten subject detail).num = c.num ∧ (c.postEvent f d ten subject detail).g8x = c.g8x ∧ (c.postEvent f d ten subject detail).time = c.time ∧ (c.postEvent f d ten subject detail).fresh = c.fresh ∧
    (c.postEvent f d ten subject detail).fns = c.fns ∧ (c.postEvent f d ten subject detail).role = c.role ∧ (c.postEvent f d ten subject detail).ctx = c.ctx ∧ (c.postEvent f d ten subject detail).maps = c.maps ∧
    (c.postEvent f d ten subject detail).pool = c.pool ∧ (c.postEvent f d ten subject detail).hbm = c.hbm ∧ (c.postEvent f d ten subject detail).ho = c.ho ∧ (c.postEvent f d ten subject detail).cru = c.cru ∧
    (c.postEvent f d ten subject detail).drafts = c.drafts ∧ (c.postEvent f d ten subject detail).gaf = c.gaf ∧ (c.postEvent f d ten subject detail).fab = c.fab ∧ (c.postEvent f d ten subject detail).tm = c.tm ∧
    (c.postEvent f d ten subject detail).pfx = c.pfx ∧ (c.postEvent f d ten subject detail).tiers = c.tiers ∧ (c.postEvent f d ten subject detail).sec = c.sec ∧ (c.postEvent f d ten subject detail).mtr = c.mtr ∧
    (c.postEvent f d ten subject detail).rel = c.rel ∧ (c.postEvent f d ten subject detail).pwr = c.pwr ∧ (c.postEvent f d ten subject detail).toHub = c.toHub := by
  simp only [Chan.postEvent]; (repeat' split) <;> simp

@[simp] theorem Chan.eventAs_frame (c : Chan) (d : EventDef) (ten : Option Nat) (subject detail : Nat) :
    (c.eventAs d ten subject detail).num = c.num ∧ (c.eventAs d ten subject detail).g8x = c.g8x ∧ (c.eventAs d ten subject detail).time = c.time ∧ (c.eventAs d ten subject detail).fresh = c.fresh ∧
    (c.eventAs d ten subject detail).fns = c.fns ∧ (c.eventAs d ten subject detail).role = c.role ∧ (c.eventAs d ten subject detail).ctx = c.ctx ∧ (c.eventAs d ten subject detail).maps = c.maps ∧
    (c.eventAs d ten subject detail).pool = c.pool ∧ (c.eventAs d ten subject detail).hbm = c.hbm ∧ (c.eventAs d ten subject detail).ho = c.ho ∧ (c.eventAs d ten subject detail).cru = c.cru ∧
    (c.eventAs d ten subject detail).drafts = c.drafts ∧ (c.eventAs d ten subject detail).gaf = c.gaf ∧ (c.eventAs d ten subject detail).fab = c.fab ∧ (c.eventAs d ten subject detail).tm = c.tm ∧
    (c.eventAs d ten subject detail).pfx = c.pfx ∧ (c.eventAs d ten subject detail).tiers = c.tiers ∧ (c.eventAs d ten subject detail).sec = c.sec ∧ (c.eventAs d ten subject detail).mtr = c.mtr ∧
    (c.eventAs d ten subject detail).rel = c.rel ∧ (c.eventAs d ten subject detail).pwr = c.pwr ∧ (c.eventAs d ten subject detail).toHub = c.toHub := by
  simp only [Chan.eventAs]; (repeat' split) <;> simp

@[simp] theorem Chan.event_frame (c : Chan) (code : Nat) (ten : Option Nat) (subject detail : Nat) :
    (c.event code ten subject detail).num = c.num ∧ (c.event code ten subject detail).g8x = c.g8x ∧ (c.event code ten subject detail).time = c.time ∧ (c.event code ten subject detail).fresh = c.fresh ∧
    (c.event code ten subject detail).fns = c.fns ∧ (c.event code ten subject detail).role = c.role ∧ (c.event code ten subject detail).ctx = c.ctx ∧ (c.event code ten subject detail).maps = c.maps ∧
    (c.event code ten subject detail).pool = c.pool ∧ (c.event code ten subject detail).hbm = c.hbm ∧ (c.event code ten subject detail).ho = c.ho ∧ (c.event code ten subject detail).cru = c.cru ∧
    (c.event code ten subject detail).drafts = c.drafts ∧ (c.event code ten subject detail).gaf = c.gaf ∧ (c.event code ten subject detail).fab = c.fab ∧ (c.event code ten subject detail).tm = c.tm ∧
    (c.event code ten subject detail).pfx = c.pfx ∧ (c.event code ten subject detail).tiers = c.tiers ∧ (c.event code ten subject detail).sec = c.sec ∧ (c.event code ten subject detail).mtr = c.mtr ∧
    (c.event code ten subject detail).rel = c.rel ∧ (c.event code ten subject detail).pwr = c.pwr ∧ (c.event code ten subject detail).toHub = c.toHub := by
  simp [Chan.event]

@[simp] theorem Chan.eventEvery_frame (c : Chan) (every code key : Nat) (ten : Option Nat) (subject : Nat) (detail : Nat → Nat) (n : Nat) :
    (c.eventEvery every code key ten subject detail n).num = c.num ∧ (c.eventEvery every code key ten subject detail n).g8x = c.g8x ∧ (c.eventEvery every code key ten subject detail n).time = c.time ∧ (c.eventEvery every code key ten subject detail n).fresh = c.fresh ∧
    (c.eventEvery every code key ten subject detail n).fns = c.fns ∧ (c.eventEvery every code key ten subject detail n).role = c.role ∧ (c.eventEvery every code key ten subject detail n).ctx = c.ctx ∧ (c.eventEvery every code key ten subject detail n).maps = c.maps ∧
    (c.eventEvery every code key ten subject detail n).pool = c.pool ∧ (c.eventEvery every code key ten subject detail n).hbm = c.hbm ∧ (c.eventEvery every code key ten subject detail n).ho = c.ho ∧ (c.eventEvery every code key ten subject detail n).cru = c.cru ∧
    (c.eventEvery every code key ten subject detail n).drafts = c.drafts ∧ (c.eventEvery every code key ten subject detail n).gaf = c.gaf ∧ (c.eventEvery every code key ten subject detail n).fab = c.fab ∧ (c.eventEvery every code key ten subject detail n).tm = c.tm ∧
    (c.eventEvery every code key ten subject detail n).pfx = c.pfx ∧ (c.eventEvery every code key ten subject detail n).tiers = c.tiers ∧ (c.eventEvery every code key ten subject detail n).sec = c.sec ∧ (c.eventEvery every code key ten subject detail n).mtr = c.mtr ∧
    (c.eventEvery every code key ten subject detail n).rel = c.rel ∧ (c.eventEvery every code key ten subject detail n).pwr = c.pwr ∧ (c.eventEvery every code key ten subject detail n).toHub = c.toHub := by
  simp only [Chan.eventEvery]; (repeat' split) <;> simp

@[simp] theorem Chan.dmaError_frame (c : Chan) (f : PciFn) (addr cause code : Nat) :
    (c.dmaError f addr cause code).num = c.num ∧ (c.dmaError f addr cause code).g8x = c.g8x ∧ (c.dmaError f addr cause code).time = c.time ∧ (c.dmaError f addr cause code).fresh = c.fresh ∧
    (c.dmaError f addr cause code).fns = c.fns ∧ (c.dmaError f addr cause code).role = c.role ∧ (c.dmaError f addr cause code).ctx = c.ctx ∧ (c.dmaError f addr cause code).maps = c.maps ∧
    (c.dmaError f addr cause code).pool = c.pool ∧ (c.dmaError f addr cause code).hbm = c.hbm ∧ (c.dmaError f addr cause code).ho = c.ho ∧ (c.dmaError f addr cause code).cru = c.cru ∧
    (c.dmaError f addr cause code).drafts = c.drafts ∧ (c.dmaError f addr cause code).gaf = c.gaf ∧ (c.dmaError f addr cause code).fab = c.fab ∧ (c.dmaError f addr cause code).tm = c.tm ∧
    (c.dmaError f addr cause code).pfx = c.pfx ∧ (c.dmaError f addr cause code).tiers = c.tiers ∧ (c.dmaError f addr cause code).sec = c.sec ∧ (c.dmaError f addr cause code).mtr = c.mtr ∧
    (c.dmaError f addr cause code).rel = c.rel ∧ (c.dmaError f addr cause code).pwr = c.pwr ∧ (c.dmaError f addr cause code).toHub = c.toHub := by
  simp [Chan.dmaError]

@[simp] theorem Chan.hostWrite_frame (c : Chan) (f : PciFn) (addr : Nat) (data : List Byte) :
    ((c.hostWrite f addr data).2).num = c.num ∧ ((c.hostWrite f addr data).2).g8x = c.g8x ∧ ((c.hostWrite f addr data).2).time = c.time ∧ ((c.hostWrite f addr data).2).fresh = c.fresh ∧
    ((c.hostWrite f addr data).2).regs = c.regs ∧ ((c.hostWrite f addr data).2).fns = c.fns ∧ ((c.hostWrite f addr data).2).role = c.role ∧ ((c.hostWrite f addr data).2).ctx = c.ctx ∧
    ((c.hostWrite f addr data).2).maps = c.maps ∧ ((c.hostWrite f addr data).2).pool = c.pool ∧ ((c.hostWrite f addr data).2).hbm = c.hbm ∧ ((c.hostWrite f addr data).2).ho = c.ho ∧
    ((c.hostWrite f addr data).2).cru = c.cru ∧ ((c.hostWrite f addr data).2).drafts = c.drafts ∧ ((c.hostWrite f addr data).2).gaf = c.gaf ∧ ((c.hostWrite f addr data).2).fab = c.fab ∧
    ((c.hostWrite f addr data).2).tm = c.tm ∧ ((c.hostWrite f addr data).2).pfx = c.pfx ∧ ((c.hostWrite f addr data).2).tiers = c.tiers ∧ ((c.hostWrite f addr data).2).host = c.host ∧
    ((c.hostWrite f addr data).2).sec = c.sec ∧ ((c.hostWrite f addr data).2).mtr = c.mtr ∧ ((c.hostWrite f addr data).2).rel = c.rel ∧ ((c.hostWrite f addr data).2).pwr = c.pwr ∧
    ((c.hostWrite f addr data).2).toHub = c.toHub := by
  simp only [Chan.hostWrite]; (repeat' split) <;> simp

@[simp] theorem Chan.ringError_frame (c : Chan) (f : PciFn) (n cause index : Nat) :
    (c.ringError f n cause index).num = c.num ∧ (c.ringError f n cause index).g8x = c.g8x ∧ (c.ringError f n cause index).time = c.time ∧ (c.ringError f n cause index).fresh = c.fresh ∧
    (c.ringError f n cause index).fns = c.fns ∧ (c.ringError f n cause index).role = c.role ∧ (c.ringError f n cause index).ctx = c.ctx ∧ (c.ringError f n cause index).maps = c.maps ∧
    (c.ringError f n cause index).pool = c.pool ∧ (c.ringError f n cause index).hbm = c.hbm ∧ (c.ringError f n cause index).ho = c.ho ∧ (c.ringError f n cause index).cru = c.cru ∧
    (c.ringError f n cause index).drafts = c.drafts ∧ (c.ringError f n cause index).gaf = c.gaf ∧ (c.ringError f n cause index).fab = c.fab ∧ (c.ringError f n cause index).tm = c.tm ∧
    (c.ringError f n cause index).pfx = c.pfx ∧ (c.ringError f n cause index).tiers = c.tiers ∧ (c.ringError f n cause index).sec = c.sec ∧ (c.ringError f n cause index).mtr = c.mtr ∧
    (c.ringError f n cause index).rel = c.rel ∧ (c.ringError f n cause index).pwr = c.pwr ∧ (c.ringError f n cause index).toHub = c.toHub := by
  simp only [Chan.ringError]; (repeat' split) <;> simp

@[simp] theorem Chan.srcError_frame (c : Chan) (src : Src) (addr cause : Nat) :
    (c.srcError src addr cause).num = c.num ∧ (c.srcError src addr cause).g8x = c.g8x ∧ (c.srcError src addr cause).time = c.time ∧ (c.srcError src addr cause).fresh = c.fresh ∧
    (c.srcError src addr cause).fns = c.fns ∧ (c.srcError src addr cause).role = c.role ∧ (c.srcError src addr cause).ctx = c.ctx ∧ (c.srcError src addr cause).maps = c.maps ∧
    (c.srcError src addr cause).pool = c.pool ∧ (c.srcError src addr cause).hbm = c.hbm ∧ (c.srcError src addr cause).ho = c.ho ∧ (c.srcError src addr cause).cru = c.cru ∧
    (c.srcError src addr cause).drafts = c.drafts ∧ (c.srcError src addr cause).gaf = c.gaf ∧ (c.srcError src addr cause).fab = c.fab ∧ (c.srcError src addr cause).tm = c.tm ∧
    (c.srcError src addr cause).pfx = c.pfx ∧ (c.srcError src addr cause).tiers = c.tiers ∧ (c.srcError src addr cause).sec = c.sec ∧ (c.srcError src addr cause).mtr = c.mtr ∧
    (c.srcError src addr cause).rel = c.rel ∧ (c.srcError src addr cause).pwr = c.pwr ∧ (c.srcError src addr cause).toHub = c.toHub := by
  simp [Chan.srcError]

@[simp] theorem Chan.postCompletion_frame (c : Chan) (f : PciFn) (n cid status result : Nat) :
    (c.postCompletion f n cid status result).num = c.num ∧ (c.postCompletion f n cid status result).g8x = c.g8x ∧ (c.postCompletion f n cid status result).time = c.time ∧ (c.postCompletion f n cid status result).fresh = c.fresh ∧
    (c.postCompletion f n cid status result).fns = c.fns ∧ (c.postCompletion f n cid status result).role = c.role ∧ (c.postCompletion f n cid status result).ctx = c.ctx ∧ (c.postCompletion f n cid status result).maps = c.maps ∧
    (c.postCompletion f n cid status result).pool = c.pool ∧ (c.postCompletion f n cid status result).hbm = c.hbm ∧ (c.postCompletion f n cid status result).ho = c.ho ∧ (c.postCompletion f n cid status result).cru = c.cru ∧
    (c.postCompletion f n cid status result).drafts = c.drafts ∧ (c.postCompletion f n cid status result).gaf = c.gaf ∧ (c.postCompletion f n cid status result).fab = c.fab ∧ (c.postCompletion f n cid status result).tm = c.tm ∧
    (c.postCompletion f n cid status result).pfx = c.pfx ∧ (c.postCompletion f n cid status result).tiers = c.tiers ∧ (c.postCompletion f n cid status result).sec = c.sec ∧ (c.postCompletion f n cid status result).mtr = c.mtr ∧
    (c.postCompletion f n cid status result).rel = c.rel ∧ (c.postCompletion f n cid status result).pwr = c.pwr ∧ (c.postCompletion f n cid status result).toHub = c.toHub := by
  simp only [Chan.postCompletion]; (repeat' split) <;> simp

@[simp] theorem Chan.complete_frame (c : Chan) (src : Src) (status result : Nat) (rec : List Byte) :
    (c.complete src status result rec).num = c.num ∧ (c.complete src status result rec).g8x = c.g8x ∧ (c.complete src status result rec).time = c.time ∧ (c.complete src status result rec).fresh = c.fresh ∧
    (c.complete src status result rec).fns = c.fns ∧ (c.complete src status result rec).role = c.role ∧ (c.complete src status result rec).ctx = c.ctx ∧ (c.complete src status result rec).maps = c.maps ∧
    (c.complete src status result rec).pool = c.pool ∧ (c.complete src status result rec).hbm = c.hbm ∧ (c.complete src status result rec).ho = c.ho ∧ (c.complete src status result rec).cru = c.cru ∧
    (c.complete src status result rec).drafts = c.drafts ∧ (c.complete src status result rec).gaf = c.gaf ∧ (c.complete src status result rec).fab = c.fab ∧ (c.complete src status result rec).tm = c.tm ∧
    (c.complete src status result rec).pfx = c.pfx ∧ (c.complete src status result rec).tiers = c.tiers ∧ (c.complete src status result rec).sec = c.sec ∧ (c.complete src status result rec).mtr = c.mtr ∧
    (c.complete src status result rec).rel = c.rel ∧ (c.complete src status result rec).pwr = c.pwr ∧ (c.complete src status result rec).toHub = c.toHub := by
  simp only [Chan.complete]; (repeat' split) <;> simp

@[simp] theorem Chan.completeX_frame (c : Chan) (src : Src) (status : Nat) (rec : List Byte) :
    (c.completeX src status rec).num = c.num ∧ (c.completeX src status rec).g8x = c.g8x ∧ (c.completeX src status rec).time = c.time ∧ (c.completeX src status rec).fresh = c.fresh ∧
    (c.completeX src status rec).fns = c.fns ∧ (c.completeX src status rec).role = c.role ∧ (c.completeX src status rec).ctx = c.ctx ∧ (c.completeX src status rec).maps = c.maps ∧
    (c.completeX src status rec).pool = c.pool ∧ (c.completeX src status rec).hbm = c.hbm ∧ (c.completeX src status rec).ho = c.ho ∧ (c.completeX src status rec).cru = c.cru ∧
    (c.completeX src status rec).drafts = c.drafts ∧ (c.completeX src status rec).gaf = c.gaf ∧ (c.completeX src status rec).fab = c.fab ∧ (c.completeX src status rec).tm = c.tm ∧
    (c.completeX src status rec).pfx = c.pfx ∧ (c.completeX src status rec).tiers = c.tiers ∧ (c.completeX src status rec).sec = c.sec ∧ (c.completeX src status rec).mtr = c.mtr ∧
    (c.completeX src status rec).rel = c.rel ∧ (c.completeX src status rec).pwr = c.pwr ∧ (c.completeX src status rec).toHub = c.toHub := by
  simp [Chan.completeX]

@[simp] theorem Chan.completeOpt_frame (c : Chan) (src : Option Src) (status result : Nat) :
    (c.completeOpt src status result).num = c.num ∧ (c.completeOpt src status result).g8x = c.g8x ∧ (c.completeOpt src status result).time = c.time ∧ (c.completeOpt src status result).fresh = c.fresh ∧
    (c.completeOpt src status result).fns = c.fns ∧ (c.completeOpt src status result).role = c.role ∧ (c.completeOpt src status result).ctx = c.ctx ∧ (c.completeOpt src status result).maps = c.maps ∧
    (c.completeOpt src status result).pool = c.pool ∧ (c.completeOpt src status result).hbm = c.hbm ∧ (c.completeOpt src status result).ho = c.ho ∧ (c.completeOpt src status result).cru = c.cru ∧
    (c.completeOpt src status result).drafts = c.drafts ∧ (c.completeOpt src status result).gaf = c.gaf ∧ (c.completeOpt src status result).fab = c.fab ∧ (c.completeOpt src status result).tm = c.tm ∧
    (c.completeOpt src status result).pfx = c.pfx ∧ (c.completeOpt src status result).tiers = c.tiers ∧ (c.completeOpt src status result).sec = c.sec ∧ (c.completeOpt src status result).mtr = c.mtr ∧
    (c.completeOpt src status result).rel = c.rel ∧ (c.completeOpt src status result).pwr = c.pwr ∧ (c.completeOpt src status result).toHub = c.toHub := by
  simp only [Chan.completeOpt]; (repeat' split) <;> simp

@[simp] theorem Chan.readFailedFor_frame (c : Chan) (src : Src) (cause : Nat) :
    (c.readFailedFor src cause).num = c.num ∧ (c.readFailedFor src cause).g8x = c.g8x ∧ (c.readFailedFor src cause).time = c.time ∧ (c.readFailedFor src cause).fns = c.fns ∧
    (c.readFailedFor src cause).role = c.role ∧ (c.readFailedFor src cause).ctx = c.ctx ∧ (c.readFailedFor src cause).maps = c.maps ∧ (c.readFailedFor src cause).pool = c.pool ∧
    (c.readFailedFor src cause).hbm = c.hbm ∧ (c.readFailedFor src cause).ho = c.ho ∧ (c.readFailedFor src cause).cru = c.cru ∧ (c.readFailedFor src cause).drafts = c.drafts ∧
    (c.readFailedFor src cause).gaf = c.gaf ∧ (c.readFailedFor src cause).fab = c.fab ∧ (c.readFailedFor src cause).tm = c.tm ∧ (c.readFailedFor src cause).pfx = c.pfx ∧
    (c.readFailedFor src cause).tiers = c.tiers ∧ (c.readFailedFor src cause).sec = c.sec ∧ (c.readFailedFor src cause).mtr = c.mtr ∧ (c.readFailedFor src cause).rel = c.rel ∧
    (c.readFailedFor src cause).pwr = c.pwr ∧ (c.readFailedFor src cause).toHub = c.toHub := by
  simp [Chan.readFailedFor]

/-! ### Registers -/

@[simp] theorem Chan.rd_wr_self (c : Chan) (off v : Nat) : (c.wr off v).rd off = v := by simp [Chan.wr, Chan.rd]

theorem Chan.rd_wr_ne (c : Chan) {off j : Nat} (v : Nat) (h : off ≠ j) : (c.wr off v).rd j = c.rd j := by
  simp [Chan.wr, Chan.rd, AMap.getD_set_ne _ _ _ h]

theorem Chan.rd_congr {c d : Chan} (h : c.regs = d.regs) (off : Nat) : c.rd off = d.rd off := by simp [Chan.rd, h]

/-- Only the event-drop count of CHN_EVT_DROP moves when an event is posted. -/
theorem Chan.postEvent_rd (c : Chan) (f : PciFn) (d : EventDef) (ten : Option Nat) (subject detail : Nat) {off : Nat} (h : Reg.CHN_EVT_DROP ≠ off) :
    (c.postEvent f d ten subject detail).rd off = c.rd off := by
  have hb : ∀ x : Chan, x.regs = c.regs → (x.bump Reg.CHN_EVT_DROP 31 0 1).rd off = c.rd off := fun x hx => by
    rw [Chan.bump, Chan.fset, Chan.rd_wr_ne _ _ h]; exact Chan.rd_congr hx off
  have hi : ∀ x : Chan, ∀ v, (x.interrupt f v).rd off = x.rd off := fun x v => by
    simp only [Chan.interrupt]; (repeat' split) <;> rfl
  have he : ∀ x : Chan, ∀ o, (x.emit o).rd off = x.rd off := fun _ _ => rfl
  simp only [Chan.postEvent]
  (repeat' split) <;> (try simp only [hi, he]) <;> first | exact hb _ rfl | rfl

theorem Chan.eventAs_rd (c : Chan) (d : EventDef) (ten : Option Nat) (subject detail : Nat) {off : Nat} (h : Reg.CHN_EVT_DROP ≠ off) :
    (c.eventAs d ten subject detail).rd off = c.rd off := by
  simp only [Chan.eventAs]
  (repeat' split) <;> (try simp only [Chan.postEvent_rd _ _ _ _ _ _ h]) <;> rfl

theorem Chan.event_rd (c : Chan) (code : Nat) (ten : Option Nat) (subject detail : Nat) {off : Nat} (h : Reg.CHN_EVT_DROP ≠ off) :
    (c.event code ten subject detail).rd off = c.rd off := Chan.eventAs_rd _ _ _ _ _ h

theorem Chan.eventEvery_rd (c : Chan) (every code key : Nat) (ten : Option Nat) (subject : Nat) (detail : Nat → Nat) (n : Nat) {off : Nat}
    (h : Reg.CHN_EVT_DROP ≠ off) : (c.eventEvery every code key ten subject detail n).rd off = c.rd off := by
  simp only [Chan.eventEvery]
  split
  · rw [Chan.event_rd _ _ _ _ _ h]; rfl
  · rfl

theorem Chan.ringError_rd (c : Chan) (f : PciFn) (n cause index : Nat) {off : Nat} (h : Reg.CHN_EVT_DROP ≠ off) :
    (c.ringError f n cause index).rd off = c.rd off := by
  simp only [Chan.ringError]
  split
  · rfl
  · rw [Chan.event_rd _ _ _ _ _ h]; rfl

theorem Chan.dmaError_rd (c : Chan) (f : PciFn) (addr cause code : Nat) {off : Nat} (h : Reg.CHN_EVT_DROP ≠ off) :
    (c.dmaError f addr cause code).rd off = c.rd off := by
  unfold Chan.dmaError
  exact Chan.eventEvery_rd _ _ _ _ _ _ _ _ h

theorem Chan.srcError_rd (c : Chan) (src : Src) (addr cause : Nat) {off : Nat} (h : Reg.CHN_EVT_DROP ≠ off) :
    (c.srcError src addr cause).rd off = c.rd off := Chan.dmaError_rd _ _ _ _ _ h

theorem Chan.postCompletion_rd (c : Chan) (f : PciFn) (n cid status result : Nat) {off : Nat} (h : Reg.CHN_EVT_DROP ≠ off) :
    (c.postCompletion f n cid status result).rd off = c.rd off := by
  have hi : ∀ x : Chan, ∀ f v, (x.interrupt f v).rd off = x.rd off := fun x f v => by
    simp only [Chan.interrupt]; (repeat' split) <;> rfl
  simp only [Chan.postCompletion]
  (repeat' split) <;> (try simp only [hi, Chan.ringError_rd _ _ _ _ _ h]) <;> rfl

/-- A completion leaves every register but CHN_EVT_DROP as it was. -/
theorem Chan.complete_rd (c : Chan) (src : Src) (status result : Nat) (rec : List Byte) {off : Nat} (h : Reg.CHN_EVT_DROP ≠ off) :
    (c.complete src status result rec).rd off = c.rd off := by
  have he : ∀ x : Chan, ∀ o, (x.emit o).rd off = x.rd off := fun _ _ => rfl
  have hw : ∀ f a d, (c.hostWrite f a d).2.rd off = c.rd off := fun f a d => by simp only [Chan.hostWrite]; split <;> rfl
  simp only [Chan.complete]
  rw [Chan.postCompletion_rd _ _ _ _ _ _ h, he]
  by_cases hr : rec.isEmpty = true
  · simp [hr]
  · simp only [hr, Bool.false_eq_true, if_false]
    split
    · exact hw _ _ _
    · rw [Chan.srcError_rd _ _ _ _ h]; exact hw _ _ _

end Sys2Proof.Machine
end

