-- ==== Sys2Proof/Laws/Lay.lean ====
section
/-! SUPPORT. How an effect is laid on the module: what a command of one channel leaves, what settling a channel keeps, and when a channel admits a command. -/
namespace Sys2Proof.Machine
open Sys2Proof

/-! ### A command of one channel -/

theorem onCh_eq (c : ChId) (f : Chan → Chan) (s : State) : onCh c f s = .next (s.after c (f (s.ch c))) := rfl

theorem onHub_eq (f : Hub → Hub) (s : State) : onHub f s = .next (s.withHub (f s.hub)) := rfl

/-- What a happening that reaches every channel leaves. -/
theorem onEach_eq (f : Hub → Hub) (g : ChId → Chan → Chan) (s : State) :
    onEach f (g .c0) (g .c1) (g .c2) (g .c3) s = .next (s.afterAll (f s.hub) (fun d => g d (s.ch d))) := rfl

theorem onAll_eq (f : Hub → Hub) (g : Chan → Chan) (s : State) : onAll f g s = .next (s.afterAll (f s.hub) (fun d => g (s.ch d))) := rfl

@[simp] theorem State.afterAll_ch (s : State) (h : Hub) (g : ChId → Chan) (c : ChId) : (s.afterAll h g).ch c = (g c).settle := by cases c <;> rfl

@[simp] theorem State.afterAll_pending (s : State) (h : Hub) (g : ChId → Chan) : (s.afterAll h g).pending = s.pending := rfl

@[simp] theorem State.after_ch (s : State) (c : ChId) (x : Chan) : (s.after c x).ch c = x.settle := by cases c <;> rfl

theorem State.after_ch_ne (s : State) {c d : ChId} (x : Chan) (h : d ≠ c) : (s.after c x).ch d = s.ch d := by
  cases c <;> cases d <;> first | rfl | exact absurd rfl h

@[simp] theorem State.after_pending (s : State) (c : ChId) (x : Chan) : (s.after c x).pending = s.pending := by cases c <;> rfl

@[simp] theorem State.after_hub (s : State) (c : ChId) (x : Chan) : (s.after c x).hub = s.hub.events x.toHub := by cases c <;> rfl

@[simp] theorem Hub.events_nil (h : Hub) : h.events [] = h := rfl

@[simp] theorem State.withHub_ch (s : State) (h : Hub) (c : ChId) : (s.withHub h).ch c = s.ch c := by cases c <;> rfl

@[simp] theorem State.withHub_hub (s : State) (h : Hub) : (s.withHub h).hub = h := rfl

/-- A command of one channel completes, and its effect is that of its function on the channel. -/
theorem doesOn_onCh {c : ChId} {i : Instr} {s : State} {f : Chan → Chan} {p : Chan → Prop} (he : exec i s = onCh c f s)
    (h : p (f (s.ch c)).settle) : DoesOn c i s p := ⟨_, he.trans (onCh_eq c f s), by simpa using h⟩

/-- A command that leaves the channel as `y` completes with what `y` meets once settled. -/
theorem doesOn_after {c : ChId} {i : Instr} {s : State} {y : Chan} {p : Chan → Prop} (he : exec i s = .next (s.after c y)) (h : p y.settle) :
    DoesOn c i s p := ⟨_, he, by simpa using h⟩

theorem after_congr {s : State} {c : ChId} {y z : Chan} (h : y = z) :
    (Host.Outcome.next (s.after c y) : Host.Outcome State Fault Refusal) = .next (s.after c z) := by rw [h]

/-- A command of one channel leaves what its function leaves. -/
theorem exec_after {i : Instr} {s : State} {c : ChId} {f : Chan → Chan} {z : Chan} (he : exec i s = onCh c f s) (h : f (s.ch c) = z) :
    exec i s = .next (s.after c z) := by rw [he, onCh_eq, h]

/-- Where no operation of the base programs has ended, none is served. -/
theorem Chan.serveEnded_none {x : Chan} (h : x.fab.ended = []) (n : Nat) : x.serveEnded n = x := by
  cases n with
  | zero => rfl
  | succ n => simp only [Chan.serveEnded, h]

/-- A command that may end operations of the base programs, and ends none. -/
theorem execS_after {i : Instr} {s : State} {c : ChId} {f : Chan → Chan} {z : Chan} (he : exec i s = onChS c f s) (h : f (s.ch c) = z) (hn : z.fab.ended = []) :
    exec i s = .next (s.after c z) := by
  rw [he, onChS, onCh_eq, h, Chan.serveEnded_none hn]

/-- Local time moves on, and the residency of the meter's tenants with it; nothing else changes. -/
theorem Chan.reach_eq (c : Chan) (t : Nat) : c.reach t = { c with time := max c.time t, mtr := (c.reach t).mtr } := by
  have key : ∀ (l : List Nat) (dt : Nat) (y : Chan), ∃ m, (l.foldl (fun c t => if c.tag t = 0 then c
        else let x := c.totals t; c.setTotals t { x with uRes := x.uRes + dt * (c.resT0 t + c.resOut t) }) y) = { y with mtr := m } := by
    intro l dt
    induction l with
    | nil => exact fun y => ⟨y.mtr, rfl⟩
    | cons a l ih =>
      intro y
      rw [List.foldl_cons]
      obtain ⟨m, hm⟩ := ih (if y.tag a = 0 then y else let x := y.totals a; y.setTotals a { x with uRes := x.uRes + dt * (y.resT0 a + y.resOut a) })
      refine ⟨m, hm.trans ?_⟩
      split <;> rfl
  simp only [Chan.reach]
  split
  · obtain ⟨m, hm⟩ := key (List.range 16) (t - c.time) c
    simp only [hm]
  · rfl

/-- A change of the meter depends on the meter there is. -/
theorem Hub.withMeter_of {h : Hub} {m : Meter} (hm : h.meter = some m) (g : Meter → Meter) : h.withMeter g = h.withMeter (fun _ => g m) := by
  simp only [Hub.withMeter, hm]

/-- A frame whose CRC is right is taken in and answered with a credit. -/
theorem Hub.takeFrame_ok {h : Hub} {m : Meter} (hm : h.meter = some m) (f : LinkFrame) (k : Meter → Meter) :
    h.takeFrame f true k = (h.withMeter (fun _ => k (m.heard f))).credit (chNum f.ch) := by
  simp only [Hub.takeFrame, hm, Hub.withMeter]; rfl

/-! ### Settling -/

@[simp] theorem Chan.settle_toHub (x : Chan) : x.settle.toHub = [] := rfl

@[simp] theorem Chan.settle_get (x : Chan) (a : Nat) : Memory.get x.settle.hbm a = Memory.get x.hbm a := Memory.get_canon _ _

@[simp] theorem Chan.settle_ctx_fields (x : Chan) :
    x.settle.gaf.progs = x.gaf.progs ∧ x.settle.gaf.queue = x.gaf.queue ∧ x.settle.gaf.evc = x.gaf.evc ∧ x.settle.gaf.triggers = x.gaf.triggers ∧
    x.settle.gaf.words = x.gaf.words ∧ x.settle.gaf.nextInv = x.gaf.nextInv ∧ x.settle.gaf.curSlot = x.gaf.curSlot ∧ x.settle.gaf.slotEnd = x.gaf.slotEnd ∧
    x.settle.gaf.runBase = x.gaf.runBase ∧ x.settle.gaf.poolLast = x.gaf.poolLast ∧ x.settle.gaf.restarts = x.gaf.restarts ∧
    x.settle.fab.ports = x.fab.ports ∧ x.settle.fab.regions = x.fab.regions ∧ x.settle.fab.pds = x.fab.pds ∧ x.settle.fab.conns = x.fab.conns ∧
    x.settle.fab.freeConns = x.fab.freeConns ∧ x.settle.fab.order = x.fab.order ∧ x.settle.fab.rejAt = x.fab.rejAt ∧
    x.settle.fab.bufOwner = x.fab.bufOwner ∧ x.settle.fab.ended = x.fab.ended :=
  ⟨rfl, rfl, rfl, rfl, rfl, rfl, rfl, rfl, rfl, rfl, rfl, rfl, rfl, rfl, rfl, rfl, rfl, rfl, rfl, rfl⟩

theorem AMap.find_mapVals {β γ : Type} (m : AMap β) (f : Nat → β → γ) (k : Nat) : AMap.find (AMap.mapVals m f) k = (AMap.find m k).map (f k) := by
  induction m with
  | nil => rfl
  | cons e t ih =>
    obtain ⟨j, v⟩ := e
    simp only [AMap.mapVals, List.map_cons, AMap.find] at ih ⊢
    by_cases h : j = k
    · subst h; simp
    · simp [h, ih]

/-- Settling keeps a core, but for the form of its scratch. -/
theorem Chan.settle_core (x : Chan) (k : Nat) :
    x.settle.core k = { x.core k with scratch := Memory.canon (x.core k).scratch } := by
  simp only [Chan.core, AMap.getD, Chan.settle, AMap.find_mapVals]
  cases AMap.find x.gaf.cores k <;> rfl

/-- A settled channel is tidy. -/
@[simp] theorem Chan.settle_tidy (x : Chan) : x.settle.tidy = true := by
  simp [Chan.tidy, Chan.memoriesWf, Chan.settle, AMap.mapVals, List.all_eq_true]

/-- A tidy channel settles to itself. -/
theorem Chan.settle_of_tidy (x : Chan) (h : x.tidy = true) : x.settle = x := by
  simp only [Chan.tidy, Chan.memoriesWf, Bool.and_eq_true, List.all_eq_true, List.isEmpty_iff] at h
  obtain ⟨⟨⟨⟨h1, h2⟩, h3⟩, h4⟩, h5⟩ := h
  have hc : x.gaf.cores.mapVals (fun _ k => { k with scratch := Memory.canon k.scratch }) = x.gaf.cores := by
    simp only [AMap.mapVals]
    conv_rhs => rw [← List.map_id x.gaf.cores]
    exact List.map_congr_left (fun e he => by simp [Memory.canon_of_wf _ (h2 e he)])
  have hs : x.gaf.saved.map (fun e => ({ e.1 with scratch := Memory.canon e.1.scratch }, e.2)) = x.gaf.saved := by
    conv_rhs => rw [← List.map_id x.gaf.saved]
    exact List.map_congr_left (fun e he => by simp [Memory.canon_of_wf _ (h3 e he)])
  have hb : x.fab.bufs.mapVals (fun _ b => { b with data := Memory.canon b.data }) = x.fab.bufs := by
    simp only [AMap.mapVals]
    conv_rhs => rw [← List.map_id x.fab.bufs]
    exact List.map_congr_left (fun e he => by simp [Memory.canon_of_wf _ (h4 e he)])
  simp only [Chan.settle, Memory.canon_of_wf _ h1, hc, hs, hb, ← h5]

theorem State.tidy_ch {s : State} (h : s.tidy = true) (c : ChId) : (s.ch c).tidy = true := by
  simp only [State.tidy, Bool.and_eq_true] at h
  cases c <;> simp only [State.ch] <;> tauto

theorem State.tidy_iff (s : State) : s.tidy = true ↔ ∀ c, (s.ch c).tidy = true := by
  constructor
  · exact fun h c => State.tidy_ch h c
  · intro h; simp only [State.tidy, Bool.and_eq_true]; exact ⟨⟨⟨h .c0, h .c1⟩, h .c2⟩, h .c3⟩

theorem State.after_tidy (s : State) (c : ChId) (x : Chan) (h : s.tidy = true) : (s.after c x).tidy = true := by
  rw [State.tidy_iff] at *
  intro d
  by_cases hd : d = c
  · subst hd; simp
  · rw [State.after_ch_ne s x hd]; exact h d

/-! ### Admission -/

/-- An admitted command is carried out. -/
theorem Chan.command_of_admits {x : Chan} {src : Src} {a : Admit} (h : x.admits src a = true) (body : Chan → Chan) : x.command src a body = body x := by
  simp only [Chan.admits, Bool.and_eq_true, Bool.or_eq_true, Bool.not_eq_true', decide_eq_true_eq, ne_eq] at h
  obtain ⟨⟨⟨h1, h2⟩, h3⟩, h4⟩ := h
  have e1 : (a.pfOnly && src.vf.isSome) = false := by cases hp : a.pfOnly <;> cases hv : src.vf <;> simp_all
  have e2 : (decide (x.rel.mode = .shadow) && !a.shadowOk) = false := by
    by_cases hm : x.rel.mode = .shadow <;> simp_all
  have e3 : ((a.needTag || src.vf.isSome) && decide (x.tag src.slot = 0)) = false := by
    cases hm : a.needTag || src.vf.isSome <;> simp_all
  simp [Chan.command, h1, e1, e2, e3]

/-- An admitted command on contexts is carried out. -/
theorem Chan.ctxCommand_of_admits {x : Chan} {src : Src} {a : Admit} (h : x.admitsCtx src a = true) (body : Chan → Chan) : x.ctxCommand src a body = body x := by
  simp only [Chan.admitsCtx, Bool.and_eq_true] at h
  rw [Chan.ctxCommand, Chan.command_of_admits h.1, if_pos h.2]

/-- A packet that is taken acts on its connection. -/
theorem Chan.onConn_of_comesIn {x y : Chan} {p : FmtPkt} {traffic : Bool} (h : x.comesIn p traffic = some y) (body : Chan → Nat → Chan) :
    x.onConn p body traffic = body y p.dstConn := by
  simp only [Chan.comesIn] at h
  split at h
  · rename_i hc
    simp only [Bool.and_eq_true] at hc
    obtain ⟨⟨⟨⟨h1, h2⟩, h3⟩, h4⟩, h5⟩ := hc
    obtain ⟨z, hz, rfl⟩ := Option.map_eq_some_iff.mp h
    simp only [Chan.onConn, Chan.onPacket, h1, h2, h3, h4, h5, hz, Bool.not_true, Bool.false_eq_true, if_false, or_self, Bool.and_self]
  · cases h

/-- A packet of a queue pair that is taken acts on its connection. -/
theorem Chan.onQp_of_comesIn {x y : Chan} {p : RocePkt} (h : x.comesInQp p = some y) (body : Chan → Nat → Chan) : x.onQp p body = body y (roceConn p.qp) := by
  simp only [Chan.comesInQp] at h
  split at h
  · rename_i hc
    simp only [Bool.and_eq_true, decide_eq_true_eq] at hc
    obtain ⟨⟨⟨⟨h1, h2⟩, h3, h4⟩, h5⟩, h6⟩ := hc
    obtain ⟨z, hz, rfl⟩ := Option.map_eq_some_iff.mp h
    simp only [Chan.onQp]
    rw [if_neg (by simp [h1, h2, h4, h5, h6]; exact ⟨by cases he : x.eid <;> simp_all, by omega, by cases he : (x.conn (roceConn p.qp)).roce <;> simp_all⟩), hz]
  · cases h

/-- A command whose handle names a context that its caller may reach acts on that context. -/
theorem Chan.withCtx_of_owns {x : Chan} {src : Src} {h slot : Nat} (ho : x.owns src h slot = true) (k : Nat → Chan) : x.withCtx src h k = k slot := by
  simp only [Chan.owns, Bool.and_eq_true] at ho
  obtain ⟨h1, h2⟩ := ho
  simp only [Chan.withCtx]
  cases hc : x.checkHandle h with
  | error e => rw [hc] at h1; cases h1
  | ok n =>
    rw [hc] at h1
    obtain rfl : n = slot := of_decide_eq_true h1
    cases hv : src.vf with
    | none => rfl
    | some t => rw [hv] at h2; simp only [of_decide_eq_true h2, if_true]

end Sys2Proof.Machine
end

