-- ==== Sys2Proof/Laws/Exec.lean ====
section
/-! SUPPORT. The arm of each command: what `exec` answers for it is what its meaning answers. -/
namespace Sys2Proof.Machine
open Sys2Proof

theorem exec_fnStop {c} {src} {n} {s : State} : exec (.fnStop c src n) s = execFnStop c src n s := rfl
theorem exec_fnStart {c} {src} {n} {s : State} : exec (.fnStart c src n) s = execFnStart c src n s := rfl
theorem exec_roleStop {c} {src} {budget} {s : State} : exec (.roleStop c src budget) s = execRoleStop c src budget s := rfl
theorem exec_roleLoad {c} {src} {img} {s : State} : exec (.roleLoad c src img) s = execRoleLoad c src img s := rfl
theorem exec_roleStart {c} {src} {s : State} : exec (.roleStart c src) s = execRoleStart c src s := rfl
theorem exec_roleStopped {c} {s : State} : exec (.roleStopped c) s = execRoleStopped c s := rfl
theorem exec_roleStopAbandoned {c} {s : State} : exec (.roleStopAbandoned c) s = execRoleStopAbandoned c s := rfl
theorem exec_fnStateStop {c} {n} {s : State} : exec (.fnStateStop c n) s = execFnStateStop c n s := rfl
theorem exec_fnStateStart {c} {n} {s : State} : exec (.fnStateStart c n) s = execFnStateStart c n s := rfl
theorem exec_functionQuiesced {c} {n} {s : State} : exec (.functionQuiesced c n) s = execFunctionQuiesced c n s := rfl
theorem exec_chnEidWrite {c} {a} {s : State} : exec (.chnEidWrite c a) s = execChnEidWrite c a s := rfl
theorem exec_registerWrite {w} {off} {a} {s : State} : exec (.registerWrite w off a) s = execRegisterWrite w off a s := rfl
theorem exec_ctxPeekSelWrite {c} {a} {s : State} : exec (.ctxPeekSelWrite c a) s = execCtxPeekSelWrite c a s := rfl
theorem exec_hubLinkDown {c} {s : State} : exec (.hubLinkDown c) s = execHubLinkDown c s := rfl
theorem exec_hubLinkRestored {c} {lost} {ns} {s : State} : exec (.hubLinkRestored c lost ns) s = execHubLinkRestored c lost ns s := rfl
theorem exec_ctxOpen {c} {src} {req} {prio} {budget} {profile} {red} {flags} {s : State} : exec (.ctxOpen c src req prio budget profile red flags) s = execCtxOpen c src req prio budget profile red flags s := rfl
theorem exec_ctxSeal {c} {src} {h} {s : State} : exec (.ctxSeal c src h) s = execCtxSeal c src h s := rfl
theorem exec_sealComplete {c} {slot} {s : State} : exec (.sealComplete c slot) s = execSealComplete c slot s := rfl
theorem exec_ctxRetire {c} {src} {h} {s : State} : exec (.ctxRetire c src h) s = execCtxRetire c src h s := rfl
theorem exec_drainComplete {c} {slot} {s : State} : exec (.drainComplete c slot) s = execDrainComplete c slot s := rfl
theorem exec_ctxQuery {c} {src} {h} {s : State} : exec (.ctxQuery c src h) s = execCtxQuery c src h s := rfl
theorem exec_ctxFind {c} {src} {req} {s : State} : exec (.ctxFind c src req) s = execCtxFind c src req s := rfl
theorem exec_ctxSet {c} {src} {h} {mask} {prio} {budget} {red} {s : State} : exec (.ctxSet c src h mask prio budget red) s = execCtxSet c src h mask prio budget red s := rfl
theorem exec_ctxSignal {c} {src} {h} {amount} {s : State} : exec (.ctxSignal c src h amount) s = execCtxSignal c src h amount s := rfl
theorem exec_deadlineReached {c} {slot} {s : State} : exec (.deadlineReached c slot) s = execDeadlineReached c slot s := rfl
theorem exec_tombstoneEnd {c} {slot} {s : State} : exec (.tombstoneEnd c slot) s = execTombstoneEnd c slot s := rfl
theorem exec_startupSlotHoldEnd {c} {s : State} : exec (.startupSlotHoldEnd c) s = execStartupSlotHoldEnd c s := rfl
theorem exec_journalWriteFail {c} {slot} {cause} {s : State} : exec (.journalWriteFail c slot cause) s = execJournalWriteFail c slot cause s := rfl
theorem exec_snapshotDue {c} {s : State} : exec (.snapshotDue c) s = execSnapshotDue c s := rfl
theorem exec_pgWindow {c} {src} {h} {pd} {fillAddr} {s : State} : exec (.pgWindow c src h pd fillAddr) s = execPgWindow c src h pd fillAddr s := rfl
theorem exec_pgAttach {c} {src} {h} {owner} {n} {s : State} : exec (.pgAttach c src h owner n) s = execPgAttach c src h owner n s := rfl
theorem exec_pgExport {c} {src} {h} {layer} {first} {log2} {dest} {s : State} : exec (.pgExport c src h layer first log2 dest) s = execPgExport c src h layer first log2 dest s := rfl
theorem exec_pgImport {c} {src} {h} {ext} {s : State} : exec (.pgImport c src h ext) s = execPgImport c src h ext s := rfl
theorem exec_pgScale {c} {src} {p} {table} {s : State} : exec (.pgScale c src p table) s = execPgScale c src p table s := rfl
theorem exec_unitPlaced {c} {slot} {layer} {token} {unit} {s : State} : exec (.unitPlaced c slot layer token unit) s = execUnitPlaced c slot layer token unit s := rfl
theorem exec_frameCleared {c} {ok} {s : State} : exec (.frameCleared c ok) s = execFrameCleared c ok s := rfl
theorem exec_hoOffer {c} {src} {h} {dst} {push} {stripe} {member} {s : State} : exec (.hoOffer c src h dst push stripe member) s = execHoOffer c src h dst push stripe member s := rfl
theorem exec_hoCancel {c} {src} {h} {force} {s : State} : exec (.hoCancel c src h force) s = execHoCancel c src h force s := rfl
theorem exec_hoRebuild {c} {src} {p} {s : State} : exec (.hoRebuild c src p) s = execHoRebuild c src p s := rfl
theorem exec_hoProbe {c} {src} {req} {s : State} : exec (.hoProbe c src req) s = execHoProbe c src req s := rfl
theorem exec_offer {c} {peer} {m} {tagOk} {s : State} : exec (.offer c peer m tagOk) s = execOffer c peer m tagOk s := rfl
theorem exec_take {c} {peer} {m} {tagOk} {s : State} : exec (.take c peer m tagOk) s = execTake c peer m tagOk s := rfl
theorem exec_refuse {c} {peer} {m} {tagOk} {s : State} : exec (.refuse c peer m tagOk) s = execRefuse c peer m tagOk s := rfl
theorem exec_manifest {c} {peer} {m} {tagOk} {s : State} : exec (.manifest c peer m tagOk) s = execManifest c peer m tagOk s := rfl
theorem exec_accept {c} {peer} {m} {tagOk} {s : State} : exec (.accept c peer m tagOk) s = execAccept c peer m tagOk s := rfl
theorem exec_release {c} {peer} {m} {tagOk} {s : State} : exec (.release c peer m tagOk) s = execRelease c peer m tagOk s := rfl
theorem exec_abort {c} {peer} {m} {tagOk} {s : State} : exec (.abort c peer m tagOk) s = execAbort c peer m tagOk s := rfl
theorem exec_cancel {c} {peer} {m} {tagOk} {s : State} : exec (.cancel c peer m tagOk) s = execCancel c peer m tagOk s := rfl
theorem exec_superseded {c} {peer} {m} {tagOk} {s : State} : exec (.superseded c peer m tagOk) s = execSuperseded c peer m tagOk s := rfl
theorem exec_fenceMessage {c} {peer} {m} {tagOk} {s : State} : exec (.fenceMessage c peer m tagOk) s = execFenceMessage c peer m tagOk s := rfl
theorem exec_fenceReply {c} {peer} {m} {tagOk} {s : State} : exec (.fenceReply c peer m tagOk) s = execFenceReply c peer m tagOk s := rfl
theorem exec_offerRetryExpiry {c} {slot} {s : State} : exec (.offerRetryExpiry c slot) s = execOfferRetryExpiry c slot s := rfl
theorem exec_acceptRetrySource {c} {slot} {s : State} : exec (.acceptRetrySource c slot) s = execAcceptRetrySource c slot s := rfl
theorem exec_acceptRetryDest {c} {slot} {s : State} : exec (.acceptRetryDest c slot) s = execAcceptRetryDest c slot s := rfl
theorem exec_transferIdleSource {c} {slot} {s : State} : exec (.transferIdleSource c slot) s = execTransferIdleSource c slot s := rfl
theorem exec_transferIdleDest {c} {slot} {s : State} : exec (.transferIdleDest c slot) s = execTransferIdleDest c slot s := rfl
theorem exec_stuckTimeExpiry {c} {slot} {s : State} : exec (.stuckTimeExpiry c slot) s = execStuckTimeExpiry c slot s := rfl
theorem exec_transferBodiesDone {c} {slot} {s : State} : exec (.transferBodiesDone c slot) s = execTransferBodiesDone c slot s := rfl
theorem exec_digestVerified {c} {slot} {s : State} : exec (.digestVerified c slot) s = execDigestVerified c slot s := rfl
theorem exec_releaseComplete {c} {slot} {s : State} : exec (.releaseComplete c slot) s = execReleaseComplete c slot s := rfl
theorem exec_fenceRetry {c} {slot} {s : State} : exec (.fenceRetry c slot) s = execFenceRetry c slot s := rfl
theorem exec_fenceTimeExpiry {c} {slot} {s : State} : exec (.fenceTimeExpiry c slot) s = execFenceTimeExpiry c slot s := rfl
theorem exec_rebuildDecoded {c} {slot} {s : State} : exec (.rebuildDecoded c slot) s = execRebuildDecoded c slot s := rfl
theorem exec_cruQueueCreate {c} {src} {pd} {slots} {kib} {s : State} : exec (.cruQueueCreate c src pd slots kib) s = execCruQueueCreate c src pd slots kib s := rfl
theorem exec_cruQueueDelete {c} {src} {q} {s : State} : exec (.cruQueueDelete c src q) s = execCruQueueDelete c src q s := rfl
theorem exec_queueDeleteDone {c} {q} {s : State} : exec (.queueDeleteDone c q) s = execQueueDeleteDone c q s := rfl
theorem exec_cruJob {c} {src} {img} {reply} {s : State} : exec (.cruJob c src img reply) s = execCruJob c src img reply s := rfl
theorem exec_cruRowop {c} {src} {op} {s : State} : exec (.cruRowop c src op) s = execCruRowop c src op s := rfl
theorem exec_rowopDone {c} {s : State} : exec (.rowopDone c) s = execRowopDone c s := rfl
theorem exec_jobAccept {c} {q} {s : State} : exec (.jobAccept c q) s = execJobAccept c q s := rfl
theorem exec_jobComplete {c} {job} {s : State} : exec (.jobComplete c job) s = execJobComplete c job s := rfl
theorem exec_refreshDue {c} {pch} {s : State} : exec (.refreshDue c pch) s = execRefreshDue c pch s := rfl
theorem exec_baseDieHot {c} {stack} {temp} {s : State} : exec (.baseDieHot c stack temp) s = execBaseDieHot c stack temp s := rfl
theorem exec_cruHoldMaxClear {c} {s : State} : exec (.cruHoldMaxClear c) s = execCruHoldMaxClear c s := rfl
theorem exec_spcBegin {c} {src} {r} {s : State} : exec (.spcBegin c src r) s = execSpcBegin c src r s := rfl
theorem exec_spcVerify {c} {src} {r} {s : State} : exec (.spcVerify c src r) s = execSpcVerify c src r s := rfl
theorem exec_spcAbandon {c} {src} {r} {s : State} : exec (.spcAbandon c src r) s = execSpcAbandon c src r s := rfl
theorem exec_spcGovern {c} {src} {h} {reset} {limit} {s : State} : exec (.spcGovern c src h reset limit) s = execSpcGovern c src h reset limit s := rfl
theorem exec_specBeginRecord {c} {port} {via} {r} {s : State} : exec (.specBeginRecord c port via r) s = execSpecBeginRecord c port via r s := rfl
theorem exec_specVerifyRecord {c} {port} {via} {r} {s : State} : exec (.specVerifyRecord c port via r) s = execSpecVerifyRecord c port via r s := rfl
theorem exec_specAbandonRecord {c} {port} {via} {r} {s : State} : exec (.specAbandonRecord c port via r) s = execSpecAbandonRecord c port via r s := rfl
theorem exec_verifyCommit {c} {slot} {s : State} : exec (.verifyCommit c slot) s = execVerifyCommit c slot s := rfl
theorem exec_gafLoad {c} {src} {img} {s : State} : exec (.gafLoad c src img) s = execGafLoad c src img s := rfl
theorem exec_gafUnload {c} {src} {prog} {s : State} : exec (.gafUnload c src prog) s = execGafUnload c src prog s := rfl
theorem exec_gafInvoke {c} {src} {prog} {entry} {params} {s : State} : exec (.gafInvoke c src prog entry params) s = execGafInvoke c src prog entry params s := rfl
theorem exec_gafQuery {c} {src} {prog} {s : State} : exec (.gafQuery c src prog) s = execGafQuery c src prog s := rfl
theorem exec_invocationStart {c} {core} {s : State} : exec (.invocationStart c core) s = execInvocationStart c core s := rfl
theorem exec_triggerFire {c} {k} {s : State} : exec (.triggerFire c k) s = execTriggerFire c k s := rfl
theorem exec_waitTimeout {c} {core} {s : State} : exec (.waitTimeout c core) s = execWaitTimeout c core s := rfl
theorem exec_cheapPointOverdue {c} {core} {s : State} : exec (.cheapPointOverdue c core) s = execCheapPointOverdue c core s := rfl
theorem exec_budgetExceeded {c} {core} {s : State} : exec (.budgetExceeded c core) s = execBudgetExceeded c core s := rfl
theorem exec_residentRestart {c} {prog} {entry} {s : State} : exec (.residentRestart c prog entry) s = execResidentRestart c prog entry s := rfl
theorem exec_slotBoundary {c} {s : State} : exec (.slotBoundary c) s = execSlotBoundary c s := rfl
theorem exec_frameBoundary {c} {s : State} : exec (.frameBoundary c) s = execFrameBoundary c s := rfl
theorem exec_poolQuantumExpiry {c} {core} {s : State} : exec (.poolQuantumExpiry c core) s = execPoolQuantumExpiry c core s := rfl
theorem exec_preemptionDeferredRelease {c} {core} {s : State} : exec (.preemptionDeferredRelease c core) s = execPreemptionDeferredRelease c core s := rfl
theorem exec_gafSchedSwitch {c} {s : State} : exec (.gafSchedSwitch c) s = execGafSchedSwitch c s := rfl
theorem exec_gafPreemptMaxClear {c} {s : State} : exec (.gafPreemptMaxClear c) s = execGafPreemptMaxClear c s := rfl
theorem exec_gafEvcAdd {c} {a} {s : State} : exec (.gafEvcAdd c a) s = execGafEvcAdd c a s := rfl
theorem exec_nop {c} {k} {op} {f} {s : State} : exec (.nop c k op f) s = execNop c k op f s := rfl
theorem exec_iAdd {c} {k} {f} {s : State} : exec (.iAdd c k f) s = execIAdd c k f s := rfl
theorem exec_iSub {c} {k} {f} {s : State} : exec (.iSub c k f) s = execISub c k f s := rfl
theorem exec_iMul {c} {k} {f} {s : State} : exec (.iMul c k f) s = execIMul c k f s := rfl
theorem exec_iMulhu {c} {k} {f} {s : State} : exec (.iMulhu c k f) s = execIMulhu c k f s := rfl
theorem exec_iMulhs {c} {k} {f} {s : State} : exec (.iMulhs c k f) s = execIMulhs c k f s := rfl
theorem exec_iDivu {c} {k} {f} {s : State} : exec (.iDivu c k f) s = execIDivu c k f s := rfl
theorem exec_iRemu {c} {k} {f} {s : State} : exec (.iRemu c k f) s = execIRemu c k f s := rfl
theorem exec_iAnd {c} {k} {f} {s : State} : exec (.iAnd c k f) s = execIAnd c k f s := rfl
theorem exec_iOr {c} {k} {f} {s : State} : exec (.iOr c k f) s = execIOr c k f s := rfl
theorem exec_iXor {c} {k} {f} {s : State} : exec (.iXor c k f) s = execIXor c k f s := rfl
theorem exec_iShl {c} {k} {f} {s : State} : exec (.iShl c k f) s = execIShl c k f s := rfl
theorem exec_iShr {c} {k} {f} {s : State} : exec (.iShr c k f) s = execIShr c k f s := rfl
theorem exec_iSar {c} {k} {f} {s : State} : exec (.iSar c k f) s = execISar c k f s := rfl
theorem exec_iMinu {c} {k} {f} {s : State} : exec (.iMinu c k f) s = execIMinu c k f s := rfl
theorem exec_iMaxu {c} {k} {f} {s : State} : exec (.iMaxu c k f) s = execIMaxu c k f s := rfl
theorem exec_iAddi {c} {k} {f} {s : State} : exec (.iAddi c k f) s = execIAddi c k f s := rfl
theorem exec_iAndi {c} {k} {f} {s : State} : exec (.iAndi c k f) s = execIAndi c k f s := rfl
theorem exec_iOri {c} {k} {f} {s : State} : exec (.iOri c k f) s = execIOri c k f s := rfl
theorem exec_iXori {c} {k} {f} {s : State} : exec (.iXori c k f) s = execIXori c k f s := rfl
theorem exec_iShli {c} {k} {f} {s : State} : exec (.iShli c k f) s = execIShli c k f s := rfl
theorem exec_iShri {c} {k} {f} {s : State} : exec (.iShri c k f) s = execIShri c k f s := rfl
theorem exec_iSari {c} {k} {f} {s : State} : exec (.iSari c k f) s = execISari c k f s := rfl
theorem exec_iMovi {c} {k} {f} {s : State} : exec (.iMovi c k f) s = execIMovi c k f s := rfl
theorem exec_iMovhi {c} {k} {f} {s : State} : exec (.iMovhi c k f) s = execIMovhi c k f s := rfl
theorem exec_iExtr {c} {k} {f} {s : State} : exec (.iExtr c k f) s = execIExtr c k f s := rfl
theorem exec_iInsr {c} {k} {f} {s : State} : exec (.iInsr c k f) s = execIInsr c k f s := rfl
theorem exec_iClz {c} {k} {f} {s : State} : exec (.iClz c k f) s = execIClz c k f s := rfl
theorem exec_iPopc {c} {k} {f} {s : State} : exec (.iPopc c k f) s = execIPopc c k f s := rfl
theorem exec_iSel {c} {k} {f} {s : State} : exec (.iSel c k f) s = execISel c k f s := rfl
theorem exec_iRdtime {c} {k} {f} {s : State} : exec (.iRdtime c k f) s = execIRdtime c k f s := rfl
theorem exec_iRdid {c} {k} {f} {s : State} : exec (.iRdid c k f) s = execIRdid c k f s := rfl
theorem exec_iCmp {c} {k} {f} {s : State} : exec (.iCmp c k f) s = execICmp c k f s := rfl
theorem exec_iCmpi {c} {k} {f} {s : State} : exec (.iCmpi c k f) s = execICmpi c k f s := rfl
theorem exec_iPlog {c} {k} {f} {s : State} : exec (.iPlog c k f) s = execIPlog c k f s := rfl
theorem exec_iPrd {c} {k} {f} {s : State} : exec (.iPrd c k f) s = execIPrd c k f s := rfl
theorem exec_iBr {c} {k} {f} {s : State} : exec (.iBr c k f) s = execIBr c k f s := rfl
theorem exec_iCall {c} {k} {f} {s : State} : exec (.iCall c k f) s = execICall c k f s := rfl
theorem exec_iJmp {c} {k} {f} {s : State} : exec (.iJmp c k f) s = execIJmp c k f s := rfl
theorem exec_iLoop {c} {k} {f} {s : State} : exec (.iLoop c k f) s = execILoop c k f s := rfl
theorem exec_iEnd {c} {k} {f} {s : State} : exec (.iEnd c k f) s = execIEnd c k f s := rfl
theorem exec_iLd {c} {k} {f} {s : State} : exec (.iLd c k f) s = execILd c k f s := rfl
theorem exec_iSt {c} {k} {f} {s : State} : exec (.iSt c k f) s = execISt c k f s := rfl
theorem exec_iVld {c} {k} {f} {s : State} : exec (.iVld c k f) s = execIVld c k f s := rfl
theorem exec_iVst {c} {k} {f} {s : State} : exec (.iVst c k f) s = execIVst c k f s := rfl
theorem exec_iVadd {c} {k} {f} {s : State} : exec (.iVadd c k f) s = execIVadd c k f s := rfl
theorem exec_iVsub {c} {k} {f} {s : State} : exec (.iVsub c k f) s = execIVsub c k f s := rfl
theorem exec_iVmul {c} {k} {f} {s : State} : exec (.iVmul c k f) s = execIVmul c k f s := rfl
theorem exec_iVand {c} {k} {f} {s : State} : exec (.iVand c k f) s = execIVand c k f s := rfl
theorem exec_iVor {c} {k} {f} {s : State} : exec (.iVor c k f) s = execIVor c k f s := rfl
theorem exec_iVxor {c} {k} {f} {s : State} : exec (.iVxor c k f) s = execIVxor c k f s := rfl
theorem exec_iVshl {c} {k} {f} {s : State} : exec (.iVshl c k f) s = execIVshl c k f s := rfl
theorem exec_iVshr {c} {k} {f} {s : State} : exec (.iVshr c k f) s = execIVshr c k f s := rfl
theorem exec_iVbcast {c} {k} {f} {s : State} : exec (.iVbcast c k f) s = execIVbcast c k f s := rfl
theorem exec_iVext {c} {k} {f} {s : State} : exec (.iVext c k f) s = execIVext c k f s := rfl
theorem exec_iVins {c} {k} {f} {s : State} : exec (.iVins c k f) s = execIVins c k f s := rfl
theorem exec_iVperm {c} {k} {f} {s : State} : exec (.iVperm c k f) s = execIVperm c k f s := rfl
theorem exec_iVfadd {c} {k} {f} {s : State} : exec (.iVfadd c k f) s = execIVfadd c k f s := rfl
theorem exec_iVfmul {c} {k} {f} {s : State} : exec (.iVfmul c k f) s = execIVfmul c k f s := rfl
theorem exec_iVfma {c} {k} {f} {s : State} : exec (.iVfma c k f) s = execIVfma c k f s := rfl
theorem exec_iVfmax {c} {k} {f} {s : State} : exec (.iVfmax c k f) s = execIVfmax c k f s := rfl
theorem exec_iVfsum {c} {k} {f} {s : State} : exec (.iVfsum c k f) s = execIVfsum c k f s := rfl
theorem exec_iVqnt {c} {k} {f} {s : State} : exec (.iVqnt c k f) s = execIVqnt c k f s := rfl
theorem exec_iVdqnt {c} {k} {f} {s : State} : exec (.iVdqnt c k f) s = execIVdqnt c k f s := rfl
theorem exec_iVgfmul {c} {k} {f} {s : State} : exec (.iVgfmul c k f) s = execIVgfmul c k f s := rfl
theorem exec_iVgfmac {c} {k} {f} {s : State} : exec (.iVgfmac c k f) s = execIVgfmac c k f s := rfl
theorem exec_iDmov {c} {k} {f} {s : State} : exec (.iDmov c k f) s = execIDmov c k f s := rfl
theorem exec_dmovDone {c} {k} {stop} {s : State} : exec (.dmovDone c k stop) s = execDmovDone c k stop s := rfl
theorem exec_iTrd {c} {k} {f} {s : State} : exec (.iTrd c k f) s = execITrd c k f s := rfl
theorem exec_iTcas {c} {k} {f} {s : State} : exec (.iTcas c k f) s = execITcas c k f s := rfl
theorem exec_iSwld {c} {k} {f} {s : State} : exec (.iSwld c k f) s = execISwld c k f s := rfl
theorem exec_iSwst {c} {k} {f} {s : State} : exec (.iSwst c k f) s = execISwst c k f s := rfl
theorem exec_iSwcas {c} {k} {f} {s : State} : exec (.iSwcas c k f) s = execISwcas c k f s := rfl
theorem exec_iSwadd {c} {k} {f} {s : State} : exec (.iSwadd c k f) s = execISwadd c k f s := rfl
theorem exec_iSig {c} {k} {f} {s : State} : exec (.iSig c k f) s = execISig c k f s := rfl
theorem exec_iSigi {c} {k} {f} {s : State} : exec (.iSigi c k f) s = execISigi c k f s := rfl
theorem exec_iWait {c} {k} {f} {s : State} : exec (.iWait c k f) s = execIWait c k f s := rfl
theorem exec_iArm {c} {k} {f} {s : State} : exec (.iArm c k f) s = execIArm c k f s := rfl
theorem exec_iDisarm {c} {k} {f} {s : State} : exec (.iDisarm c k f) s = execIDisarm c k f s := rfl
theorem exec_iFence {c} {k} {f} {s : State} : exec (.iFence c k f) s = execIFence c k f s := rfl
theorem exec_iCtrrd {c} {k} {f} {s : State} : exec (.iCtrrd c k f) s = execICtrrd c k f s := rfl
theorem exec_iSrch {c} {k} {f} {s : State} : exec (.iSrch c k f) s = execISrch c k f s := rfl
theorem exec_iPfxw {c} {k} {f} {s : State} : exec (.iPfxw c k f) s = execIPfxw c k f s := rfl
theorem exec_iCrypt {c} {k} {f} {s : State} : exec (.iCrypt c k f) s = execICrypt c k f s := rfl
theorem exec_cryptDone {c} {k} {s : State} : exec (.cryptDone c k) s = execCryptDone c k s := rfl
theorem exec_iPalloc {c} {k} {f} {s : State} : exec (.iPalloc c k f) s = execIPalloc c k f s := rfl
theorem exec_iPfree {c} {k} {f} {s : State} : exec (.iPfree c k f) s = execIPfree c k f s := rfl
theorem exec_iPrx {c} {k} {f} {s : State} : exec (.iPrx c k f) s = execIPrx c k f s := rfl
theorem exec_iPld {c} {k} {f} {s : State} : exec (.iPld c k f) s = execIPld c k f s := rfl
theorem exec_iPst {c} {k} {f} {s : State} : exec (.iPst c k f) s = execIPst c k f s := rfl
theorem exec_iPvld {c} {k} {f} {s : State} : exec (.iPvld c k f) s = execIPvld c k f s := rfl
theorem exec_iPvst {c} {k} {f} {s : State} : exec (.iPvst c k f) s = execIPvst c k f s := rfl
theorem exec_iPparse {c} {k} {f} {s : State} : exec (.iPparse c k f) s = execIPparse c k f s := rfl
theorem exec_iPbuild {c} {k} {f} {s : State} : exec (.iPbuild c k f) s = execIPbuild c k f s := rfl
theorem exec_iPtx {c} {k} {f} {s : State} : exec (.iPtx c k f) s = execIPtx c k f s := rfl
theorem exec_yieldI {c} {k} {scr} {pmask} {vmask} {smask} {s : State} : exec (.yieldI c k scr pmask vmask smask) s = execYieldI c k scr pmask vmask smask s := rfl
theorem exec_fabPd {c} {src} {pd} {slot} {acl} {s : State} : exec (.fabPd c src pd slot acl) s = execFabPd c src pd slot acl s := rfl
theorem exec_fabReg {c} {src} {pd} {units} {rights} {ownerEid} {ownerCheck} {s : State} : exec (.fabReg c src pd units rights ownerEid ownerCheck) s = execFabReg c src pd units rights ownerEid ownerCheck s := rfl
theorem exec_fabRevoke {c} {src} {r} {s : State} : exec (.fabRevoke c src r) s = execFabRevoke c src r s := rfl
theorem exec_revokeComplete {c} {r} {s : State} : exec (.revokeComplete c r) s = execRevokeComplete c r s := rfl
theorem exec_regionQuarantineEnd {c} {r} {s : State} : exec (.regionQuarantineEnd c r) s = execRegionQuarantineEnd c r s := rfl
theorem exec_fabOwner {c} {src} {r} {ownerEid} {ownerCheck} {s : State} : exec (.fabOwner c src r ownerEid ownerCheck) s = execFabOwner c src r ownerEid ownerCheck s := rfl
theorem exec_fabConnOpen {c} {src} {peer} {pd} {target} {prio} {pmtu} {s : State} : exec (.fabConnOpen c src peer pd target prio pmtu) s = execFabConnOpen c src peer pd target prio pmtu s := rfl
theorem exec_fabConnClose {c} {src} {conn} {s : State} : exec (.fabConnClose c src conn) s = execFabConnClose c src conn s := rfl
theorem exec_fabOp {c} {src} {op} {s : State} : exec (.fabOp c src op) s = execFabOp c src op s := rfl
theorem exec_fabRoce {c} {src} {q} {s : State} : exec (.fabRoce c src q) s = execFabRoce c src q s := rfl
theorem exec_fabLaneModeWrite {c} {a} {s : State} : exec (.fabLaneModeWrite c a) s = execFabLaneModeWrite c a s := rfl
theorem exec_fabConnSelWrite {c} {a} {s : State} : exec (.fabConnSelWrite c a) s = execFabConnSelWrite c a s := rfl
theorem exec_fabRegionSelWrite {c} {a} {s : State} : exec (.fabRegionSelWrite c a) s = execFabRegionSelWrite c a s := rfl
theorem exec_frameReceive {c} {port} {data} {fcsOk} {s : State} : exec (.frameReceive c port data fcsOk) s = execFrameReceive c port data fcsOk s := rfl
theorem exec_pfcFrameReceived {c} {port} {prio} {quanta} {s : State} : exec (.pfcFrameReceived c port prio quanta) s = execPfcFrameReceived c port prio quanta s := rfl
theorem exec_pauseExpiry {c} {port} {prio} {s : State} : exec (.pauseExpiry c port prio) s = execPauseExpiry c port prio s := rfl
theorem exec_pfcPauseRepeat {c} {port} {prio} {s : State} : exec (.pfcPauseRepeat c port prio) s = execPfcPauseRepeat c port prio s := rfl
theorem exec_pfcWatchdogExpiry {c} {port} {prio} {s : State} : exec (.pfcWatchdogExpiry c port prio) s = execPfcWatchdogExpiry c port prio s := rfl
theorem exec_watchdogDropEnd {c} {port} {prio} {s : State} : exec (.watchdogDropEnd c port prio) s = execWatchdogDropEnd c port prio s := rfl
theorem exec_linkUp {c} {port} {s : State} : exec (.linkUp c port) s = execLinkUp c port s := rfl
theorem exec_linkDown {c} {port} {s : State} : exec (.linkDown c port) s = execLinkDown c port s := rfl
theorem exec_store {c} {p} {s : State} : exec (.store c p) s = execStore c p s := rfl
theorem exec_fstore {c} {p} {s : State} : exec (.fstore c p) s = execFstore c p s := rfl
theorem exec_load {c} {p} {s : State} : exec (.load c p) s = execLoad c p s := rfl
theorem exec_loadResp {c} {p} {s : State} : exec (.loadResp c p) s = execLoadResp c p s := rfl
theorem exec_fadd64 {c} {p} {s : State} : exec (.fadd64 c p) s = execFadd64 c p s := rfl
theorem exec_cswap64 {c} {p} {s : State} : exec (.cswap64 c p) s = execCswap64 c p s := rfl
theorem exec_swap64 {c} {p} {s : State} : exec (.swap64 c p) s = execSwap64 c p s := rfl
theorem exec_atomicResp {c} {p} {s : State} : exec (.atomicResp c p) s = execAtomicResp c p s := rfl
theorem exec_ack {c} {p} {s : State} : exec (.ack c p) s = execAck c p s := rfl
theorem exec_nak {c} {p} {s : State} : exec (.nak c p) s = execNak c p s := rfl
theorem exec_connReq {c} {p} {s : State} : exec (.connReq c p) s = execConnReq c p s := rfl
theorem exec_connAcc {c} {p} {s : State} : exec (.connAcc c p) s = execConnAcc c p s := rfl
theorem exec_connRej {c} {p} {s : State} : exec (.connRej c p) s = execConnRej c p s := rfl
theorem exec_close {c} {p} {s : State} : exec (.close c p) s = execClose c p s := rfl
theorem exec_closeAck {c} {p} {s : State} : exec (.closeAck c p) s = execCloseAck c p s := rfl
theorem exec_heartbeat {c} {p} {s : State} : exec (.heartbeat c p) s = execHeartbeat c p s := rfl
theorem exec_eidAssign {c} {port} {reqNo} {valid} {eid} {sigOk} {s : State} : exec (.eidAssign c port reqNo valid eid sigOk) s = execEidAssign c port reqNo valid eid sigOk s := rfl
theorem exec_eidReply {c} {port} {reqNo} {valid} {eid} {code} {s : State} : exec (.eidReply c port reqNo valid eid code) s = execEidReply c port reqNo valid eid code s := rfl
theorem exec_retransmitTimeout {c} {conn} {s : State} : exec (.retransmitTimeout c conn) s = execRetransmitTimeout c conn s := rfl
theorem exec_ackDelayExpiry {c} {conn} {s : State} : exec (.ackDelayExpiry c conn) s = execAckDelayExpiry c conn s := rfl
theorem exec_rnrDelayExpiry {c} {conn} {s : State} : exec (.rnrDelayExpiry c conn) s = execRnrDelayExpiry c conn s := rfl
theorem exec_connReqRetry {c} {conn} {s : State} : exec (.connReqRetry c conn) s = execConnReqRetry c conn s := rfl
theorem exec_closeRetry {c} {conn} {s : State} : exec (.closeRetry c conn) s = execCloseRetry c conn s := rfl
theorem exec_quarantineEnd {c} {conn} {s : State} : exec (.quarantineEnd c conn) s = execQuarantineEnd c conn s := rfl
theorem exec_pd0IdleClose {c} {conn} {s : State} : exec (.pd0IdleClose c conn) s = execPd0IdleClose c conn s := rfl
theorem exec_keepaliveExpiry {c} {conn} {s : State} : exec (.keepaliveExpiry c conn) s = execKeepaliveExpiry c conn s := rfl
theorem exec_roceSend {c} {p} {s : State} : exec (.roceSend c p) s = execRoceSend c p s := rfl
theorem exec_roceRdmaWrite {c} {p} {s : State} : exec (.roceRdmaWrite c p) s = execRoceRdmaWrite c p s := rfl
theorem exec_roceRdmaReadRequest {c} {p} {s : State} : exec (.roceRdmaReadRequest c p) s = execRoceRdmaReadRequest c p s := rfl
theorem exec_roceAcknowledge {c} {p} {s : State} : exec (.roceAcknowledge c p) s = execRoceAcknowledge c p s := rfl
theorem exec_roceCnp {c} {p} {s : State} : exec (.roceCnp c p) s = execRoceCnp c p s := rfl
theorem exec_roceUnsupportedOpcode {c} {p} {s : State} : exec (.roceUnsupportedOpcode c p) s = execRoceUnsupportedOpcode c p s := rfl
theorem exec_wireFree {c} {port} {s : State} : exec (.wireFree c port) s = execWireFree c port s := rfl
theorem exec_gateEntryExpiry {c} {port} {s : State} : exec (.gateEntryExpiry c port) s = execGateEntryExpiry c port s := rfl
theorem exec_tmBucketWrite {c} {off} {a} {s : State} : exec (.tmBucketWrite c off a) s = execTmBucketWrite c off a s := rfl
theorem exec_hwmRead {c} {off} {half} {s : State} : exec (.hwmRead c off half) s = execHwmRead c off half s := rfl
theorem exec_sampleDue {c} {s : State} : exec (.sampleDue c) s = execSampleDue c s := rfl
theorem exec_tmSmpCidxWrite {c} {cidx} {s : State} : exec (.tmSmpCidxWrite c cidx) s = execTmSmpCidxWrite c cidx s := rfl
theorem exec_sojournAlarm {c} {port} {q} {s : State} : exec (.sojournAlarm c port q) s = execSojournAlarm c port q s := rfl
theorem exec_shaperBucketRefill {c} {port} {q} {s : State} : exec (.shaperBucketRefill c port q) s = execShaperBucketRefill c port q s := rfl
theorem exec_pfxChain {c} {src} {h} {first} {count} {tokens} {s : State} : exec (.pfxChain c src h first count tokens) s = execPfxChain c src h first count tokens s := rfl
theorem exec_pfxPublish {c} {src} {h} {seg} {groups} {s : State} : exec (.pfxPublish c src h seg groups) s = execPfxPublish c src h seg groups s := rfl
theorem exec_pfxLookup {c} {src} {seg} {keys} {results} {s : State} : exec (.pfxLookup c src seg keys results) s = execPfxLookup c src seg keys results s := rfl
theorem exec_pfxWrite {c} {src} {entry} {key} {mask} {result} {valid} {s : State} : exec (.pfxWrite c src entry key mask result valid) s = execPfxWrite c src entry key mask result valid s := rfl
theorem exec_pfxUnpin {c} {src} {owner} {count} {s : State} : exec (.pfxUnpin c src owner count) s = execPfxUnpin c src owner count s := rfl
theorem exec_attach {c} {peer} {m} {s : State} : exec (.attach c peer m) s = execAttach c peer m s := rfl
theorem exec_attachAck {c} {peer} {m} {s : State} : exec (.attachAck c peer m) s = execAttachAck c peer m s := rfl
theorem exec_attachRefuse {c} {peer} {m} {s : State} : exec (.attachRefuse c peer m) s = execAttachRefuse c peer m s := rfl
theorem exec_detach {c} {peer} {m} {s : State} : exec (.detach c peer m) s = execDetach c peer m s := rfl
theorem exec_detachAck {c} {peer} {m} {s : State} : exec (.detachAck c peer m) s = execDetachAck c peer m s := rfl
theorem exec_attachMsgRetry {c} {req} {s : State} : exec (.attachMsgRetry c req) s = execAttachMsgRetry c req s := rfl
theorem exec_cascadeFrame {c} {f} {s : State} : exec (.cascadeFrame c f) s = execCascadeFrame c f s := rfl
theorem exec_cascadeTimeout {c} {seq} {s : State} : exec (.cascadeTimeout c seq) s = execCascadeTimeout c seq s := rfl
theorem exec_cascadeProbeDue {c} {s : State} : exec (.cascadeProbeDue c) s = execCascadeProbeDue c s := rfl
theorem exec_tierMove {c} {src} {h} {first} {count} {target} {lease} {s : State} : exec (.tierMove c src h first count target lease) s = execTierMove c src h first count target lease s := rfl
theorem exec_tierGroupWritten {c} {slot} {object} {s : State} : exec (.tierGroupWritten c slot object) s = execTierGroupWritten c slot object s := rfl
theorem exec_tierLend {c} {src} {peer} {slabs} {s : State} : exec (.tierLend c src peer slabs) s = execTierLend c src peer slabs s := rfl
theorem exec_tierRecall {c} {src} {lease} {force} {s : State} : exec (.tierRecall c src lease force) s = execTierRecall c src lease force s := rfl
theorem exec_recallTimeExpiry {c} {lease} {s : State} : exec (.recallTimeExpiry c lease) s = execRecallTimeExpiry c lease s := rfl
theorem exec_tierT2Pool {c} {src} {addr} {units} {remove} {force} {s : State} : exec (.tierT2Pool c src addr units remove force) s = execTierT2Pool c src addr units remove force s := rfl
theorem exec_tierFragWhere {c} {src} {h} {addr} {s : State} : exec (.tierFragWhere c src h addr) s = execTierFragWhere c src h addr s := rfl
theorem exec_tierFragList {c} {src} {addr} {max} {s : State} : exec (.tierFragList c src addr max) s = execTierFragList c src addr max s := rfl
theorem exec_tierFragDrop {c} {src} {req} {tag} {epoch} {s : State} : exec (.tierFragDrop c src req tag epoch) s = execTierFragDrop c src req tag epoch s := rfl
theorem exec_lend {c} {peer} {m} {s : State} : exec (.lend c peer m) s = execLend c peer m s := rfl
theorem exec_lendAck {c} {peer} {m} {s : State} : exec (.lendAck c peer m) s = execLendAck c peer m s := rfl
theorem exec_recall {c} {peer} {m} {s : State} : exec (.recall c peer m) s = execRecall c peer m s := rfl
theorem exec_recallDone {c} {peer} {m} {s : State} : exec (.recallDone c peer m) s = execRecallDone c peer m s := rfl
theorem exec_fragOpen {c} {peer} {m} {s : State} : exec (.fragOpen c peer m) s = execFragOpen c peer m s := rfl
theorem exec_fragOpenAck {c} {peer} {m} {s : State} : exec (.fragOpenAck c peer m) s = execFragOpenAck c peer m s := rfl
theorem exec_fragSeal {c} {peer} {m} {s : State} : exec (.fragSeal c peer m) s = execFragSeal c peer m s := rfl
theorem exec_fragSealAck {c} {peer} {m} {s : State} : exec (.fragSealAck c peer m) s = execFragSealAck c peer m s := rfl
theorem exec_fragFree {c} {peer} {m} {s : State} : exec (.fragFree c peer m) s = execFragFree c peer m s := rfl
theorem exec_fragFreeAck {c} {peer} {m} {s : State} : exec (.fragFreeAck c peer m) s = execFragFreeAck c peer m s := rfl
theorem exec_tierRefuse {c} {peer} {m} {s : State} : exec (.tierRefuse c peer m) s = execTierRefuse c peer m s := rfl
theorem exec_fragRead {c} {peer} {m} {s : State} : exec (.fragRead c peer m) s = execFragRead c peer m s := rfl
theorem exec_fragReadAck {c} {peer} {m} {s : State} : exec (.fragReadAck c peer m) s = execFragReadAck c peer m s := rfl
theorem exec_tierMsgRetry {c} {req} {s : State} : exec (.tierMsgRetry c req) s = execTierMsgRetry c req s := rfl
theorem exec_hedgeDeadline {c} {slot} {stripe} {share} {s : State} : exec (.hedgeDeadline c slot stripe share) s = execHedgeDeadline c slot stripe share s := rfl
theorem exec_pcieHotReset {s : State} : exec (.pcieHotReset) s = execPcieHotReset s := rfl
theorem exec_pcieCorrectableError {s : State} : exec (.pcieCorrectableError) s = execPcieCorrectableError s := rfl
theorem exec_pcieCompletionTimeout {c} {r} {s : State} : exec (.pcieCompletionTimeout c r) s = execPcieCompletionTimeout c r s := rfl
theorem exec_pcieErrorCompletion {c} {r} {kind} {s : State} : exec (.pcieErrorCompletion c r kind) s = execPcieErrorCompletion c r kind s := rfl
theorem exec_smbusMctpRequest {kind} {s : State} : exec (.smbusMctpRequest kind) s = execSmbusMctpRequest kind s := rfl
theorem exec_tenSqDoorbell {c} {w} {n} {tail} {s : State} : exec (.tenSqDoorbell c w n tail) s = execTenSqDoorbell c w n tail s := rfl
theorem exec_tenCqDoorbell {c} {w} {n} {head} {s : State} : exec (.tenCqDoorbell c w n head) s = execTenCqDoorbell c w n head s := rfl
theorem exec_entryTake {c} {w} {n} {e} {s : State} : exec (.entryTake c w n e) s = execEntryTake c w n e s := rfl
theorem exec_coalTimeExpiry {c} {w} {n} {s : State} : exec (.coalTimeExpiry c w n) s = execCoalTimeExpiry c w n s := rfl
theorem exec_tenRingCfgWrite {c} {w} {n} {a} {s : State} : exec (.tenRingCfgWrite c w n a) s = execTenRingCfgWrite c w n a s := rfl
theorem exec_tenEvqCfgWrite {w} {a} {s : State} : exec (.tenEvqCfgWrite w a) s = execTenEvqCfgWrite w a s := rfl
theorem exec_tenEvqCidxWrite {w} {a} {s : State} : exec (.tenEvqCidxWrite w a) s = execTenEvqCidxWrite w a s := rfl
theorem exec_vectorUnmask {w} {v} {s : State} : exec (.vectorUnmask w v) s = execVectorUnmask w v s := rfl
theorem exec_pcieConfigWrite {w} {x} {s : State} : exec (.pcieConfigWrite w x) s = execPcieConfigWrite w x s := rfl
theorem exec_secCert {c} {src} {s : State} : exec (.secCert c src) s = execSecCert c src s := rfl
theorem exec_secAttest {c} {src} {nonce} {s : State} : exec (.secAttest c src nonce) s = execSecAttest c src nonce s := rfl
theorem exec_secKeyImport {c} {src} {rec} {s : State} : exec (.secKeyImport c src rec) s = execSecKeyImport c src rec s := rfl
theorem exec_secKeyDestroy {c} {src} {kind} {index} {s : State} : exec (.secKeyDestroy c src kind index) s = execSecKeyDestroy c src kind index s := rfl
theorem exec_secPeer {c} {src} {eid} {remove} {chain} {binding} {s : State} : exec (.secPeer c src eid remove chain binding) s = execSecPeer c src eid remove chain binding s := rfl
theorem exec_secOwn {c} {src} {keySig} {s : State} : exec (.secOwn c src keySig) s = execSecOwn c src keySig s := rfl
theorem exec_secCfgWrite {c} {src} {rec} {flashOk} {s : State} : exec (.secCfgWrite c src rec flashOk) s = execSecCfgWrite c src rec flashOk s := rfl
theorem exec_secFwStage {c} {src} {img} {s : State} : exec (.secFwStage c src img) s = execSecFwStage c src img s := rfl
theorem exec_secFwCommit {c} {src} {raise} {s : State} : exec (.secFwCommit c src raise) s = execSecFwCommit c src raise s := rfl
theorem exec_fwProgramDone {c} {ok} {s : State} : exec (.fwProgramDone c ok) s = execFwProgramDone c ok s := rfl
theorem exec_secRecGo {c} {a} {img} {flashOk} {s : State} : exec (.secRecGo c a img flashOk) s = execSecRecGo c a img flashOk s := rfl
theorem exec_spdmRequest {req} {s : State} : exec (.spdmRequest req) s = execSpdmRequest req s := rfl
theorem exec_totalsDue {c} {slot} {s : State} : exec (.totalsDue c slot) s = execTotalsDue c slot s := rfl
theorem exec_helloDue {c} {s : State} : exec (.helloDue c) s = execHelloDue c s := rfl
theorem exec_creditPulse {c} {s : State} : exec (.creditPulse c) s = execCreditPulse c s := rfl
theorem exec_meterAbsent {c} {s : State} : exec (.meterAbsent c) s = execMeterAbsent c s := rfl
theorem exec_creditsResumed {c} {s : State} : exec (.creditsResumed c) s = execCreditsResumed c s := rfl
theorem exec_meterTotalsFrame {f} {crcOk} {s : State} : exec (.meterTotalsFrame f crcOk) s = execMeterTotalsFrame f crcOk s := rfl
theorem exec_meterHelloFrame {f} {crcOk} {s : State} : exec (.meterHelloFrame f crcOk) s = execMeterHelloFrame f crcOk s := rfl
theorem exec_meterSupplyFrame {f} {crcOk} {s : State} : exec (.meterSupplyFrame f crcOk) s = execMeterSupplyFrame f crcOk s := rfl
theorem exec_meterUnmeteredFrame {f} {crcOk} {s : State} : exec (.meterUnmeteredFrame f crcOk) s = execMeterUnmeteredFrame f crcOk s := rfl
theorem exec_meterCreditTick {s : State} : exec (.meterCreditTick) s = execMeterCreditTick s := rfl
theorem exec_meterIntervalBoundary {s : State} : exec (.meterIntervalBoundary) s = execMeterIntervalBoundary s := rfl
theorem exec_meterLinkGap {c} {s : State} : exec (.meterLinkGap c) s = execMeterLinkGap c s := rfl
theorem exec_meterInserted {m} {s : State} : exec (.meterInserted m) s = execMeterInserted m s := rfl
theorem exec_mtrDrainSelWrite {a} {s : State} : exec (.mtrDrainSelWrite a) s = execMtrDrainSelWrite a s := rfl
theorem exec_mtrDrainAckWrite {ctr} {s : State} : exec (.mtrDrainAckWrite ctr) s = execMtrDrainAckWrite ctr s := rfl
theorem exec_mtrRemove {s : State} : exec (.mtrRemove) s = execMtrRemove s := rfl
theorem exec_relExpect {c} {src} {eid} {remove} {digest} {s : State} : exec (.relExpect c src eid remove digest) s = execRelExpect c src eid remove digest s := rfl
theorem exec_relShadow {c} {src} {eid} {role} {sample} {ops} {s : State} : exec (.relShadow c src eid role sample ops) s = execRelShadow c src eid role sample ops s := rfl
theorem exec_relIsolate {c} {src} {s : State} : exec (.relIsolate c src) s = execRelIsolate c src s := rfl
theorem exec_relInject {c} {src} {addr} {kind} {count} {s : State} : exec (.relInject c src addr kind count) s = execRelInject c src addr kind count s := rfl
theorem exec_relMismatchList {c} {src} {host} {max} {s : State} : exec (.relMismatchList c src host max) s = execRelMismatchList c src host max s := rfl
theorem exec_mirrorMessage {c} {m} {s : State} : exec (.mirrorMessage c m) s = execMirrorMessage c m s := rfl
theorem exec_shadowStall {c} {s : State} : exec (.shadowStall c) s = execShadowStall c s := rfl
theorem exec_peerSilent {c} {i} {s : State} : exec (.peerSilent c i) s = execPeerSilent c i s := rfl
theorem exec_patrolRead {c} {s : State} : exec (.patrolRead c) s = execPatrolRead c s := rfl
theorem exec_rowSpare {c} {row} {flashOk} {s : State} : exec (.rowSpare c row flashOk) s = execRowSpare c row flashOk s := rfl
theorem exec_laneSpare {c} {pch} {lane} {flashOk} {s : State} : exec (.laneSpare c pch lane flashOk) s = execLaneSpare c pch lane flashOk s := rfl
theorem exec_sramError {c} {e} {s : State} : exec (.sramError c e) s = execSramError c e s := rfl
theorem exec_consistencyCheckFail {c} {s : State} : exec (.consistencyCheckFail c) s = execConsistencyCheckFail c s := rfl
theorem exec_autoWarmExpiry {c} {s : State} : exec (.autoWarmExpiry c) s = execAutoWarmExpiry c s := rfl
theorem exec_busWarning {vin} {s : State} : exec (.busWarning vin) s = execBusWarning vin s := rfl
theorem exec_warningLeft {vin} {low} {s : State} : exec (.warningLeft vin low) s = execWarningLeft vin low s := rfl
theorem exec_busResetLevel {vin} {s : State} : exec (.busResetLevel vin) s = execBusResetLevel vin s := rfl
theorem exec_retentionRecovered {vin} {w0} {w1} {w2} {w3} {s : State} : exec (.retentionRecovered vin w0 w1 w2 w3) s = execRetentionRecovered vin w0 w1 w2 w3 s := rfl
theorem exec_retentionLost {vin} {s : State} : exec (.retentionLost vin) s = execRetentionLost vin s := rfl
theorem exec_powerOnReset {pufFails} {s : State} : exec (.powerOnReset pufFails) s = execPowerOnReset pufFails s := rfl
theorem exec_inputOvervoltage {s : State} : exec (.inputOvervoltage) s = execInputOvervoltage s := rfl
theorem exec_plugMate {s : State} : exec (.plugMate) s = execPlugMate s := rfl
theorem exec_plugBreak {s : State} : exec (.plugBreak) s = execPlugBreak s := rfl
theorem exec_paceSample {c} {p} {s : State} : exec (.paceSample c p) s = execPaceSample c p s := rfl
theorem exec_thermalTrip {c} {ctl} {base} {s : State} : exec (.thermalTrip c ctl base) s = execThermalTrip c ctl base s := rfl
theorem exec_clockSourceFail {c} {source} {s : State} : exec (.clockSourceFail c source) s = execClockSourceFail c source s := rfl
theorem exec_oscSettled {c} {s : State} : exec (.oscSettled c) s = execOscSettled c s := rfl
theorem exec_clkSrcWrite {c} {a} {s : State} : exec (.clkSrcWrite c a) s = execClkSrcWrite c a s := rfl
theorem exec_pwrPaceClear {c} {s : State} : exec (.pwrPaceClear c) s = execPwrPaceClear c s := rfl
theorem exec_pwrModInputRead {half} {s : State} : exec (.pwrModInputRead half) s = execPwrModInputRead half s := rfl
theorem exec_pwrReqC0 {c} {s : State} : exec (.pwrReqC0 c) s = execPwrReqC0 c s := rfl
theorem exec_pwrReqC1 {c} {s : State} : exec (.pwrReqC1 c) s = execPwrReqC1 c s := rfl
theorem exec_pwrReqC2 {c} {s : State} : exec (.pwrReqC2 c) s = execPwrReqC2 c s := rfl
theorem exec_c2EntryWaitEnd {c} {s : State} : exec (.c2EntryWaitEnd c) s = execC2EntryWaitEnd c s := rfl
theorem exec_pwrReqC3 {c} {force} {s : State} : exec (.pwrReqC3 c force) s = execPwrReqC3 c force s := rfl
theorem exec_pwrReqWarmReset {c} {s : State} : exec (.pwrReqWarmReset c) s = execPwrReqWarmReset c s := rfl
theorem exec_pwrReqColdReset {c} {s : State} : exec (.pwrReqColdReset c) s = execPwrReqColdReset c s := rfl
theorem exec_warmChannelReset {c} {w} {s : State} : exec (.warmChannelReset c w) s = execWarmChannelReset c w s := rfl
theorem exec_coldChannelReset {c} {pufOk} {s : State} : exec (.coldChannelReset c pufOk) s = execColdChannelReset c pufOk s := rfl
theorem exec_moduleReset {pufFails} {s : State} : exec (.moduleReset pufFails) s = execModuleReset pufFails s := rfl
theorem exec_coreReset {c} {core} {s : State} : exec (.coreReset c core) s = execCoreReset c core s := rfl
theorem exec_portReset {c} {port} {s : State} : exec (.portReset c port) s = execPortReset c port s := rfl
theorem exec_tenantReset {c} {slot} {s : State} : exec (.tenantReset c slot) s = execTenantReset c slot s := rfl
theorem exec_refClockReady {c} {s : State} : exec (.refClockReady c) s = execRefClockReady c s := rfl
theorem exec_fecDegradedWindow {c} {port} {codewords} {corrected} {uncorrectable} {s : State} : exec (.fecDegradedWindow c port codewords corrected uncorrectable) s = execFecDegradedWindow c port codewords corrected uncorrectable s := rfl
theorem exec_moistureSensorChange {wet} {s : State} : exec (.moistureSensorChange wet) s = execMoistureSensorChange wet s := rfl

end Sys2Proof.Machine
end

