-- ==== Sys2Proof/Laws/Fields.lean ====
section
/-! SUPPORT. Laws of the fields of a register: no two fields of one register meet, and a write changes each field by its own access type. -/
namespace Sys2Proof.Machine
open Sys2Proof

/-- The fields of a register lie in its 64 bits, and no two meet. -/
def RegDesc.apart (d : RegDesc) : Bool :=
  d.fields.all (fun f => decide (f.lo ≤ f.hi ∧ f.hi < 64)) && decide (d.fields.Pairwise (fun f g => f.hi < g.lo ∨ g.hi < f.lo))

theorem channelRegs_apart : channelRegs.all RegDesc.apart = true := by decide

theorem findReg_mem {l : List RegDesc} {off : Nat} {d : RegDesc} {ix : List Nat} (h : findReg l off = some (d, ix)) : d ∈ l := by
  simp only [findReg] at h
  obtain ⟨e, he, h⟩ := List.exists_of_findSome?_eq_some h
  split at h
  · simp only [Option.map_eq_some_iff, Prod.mk.injEq] at h
    obtain ⟨_, _, rfl, _⟩ := h
    exact he
  · cases h

/-- The bits of a field after an access depend on the field alone. -/
theorem Access.apply_bits (a : Access) {v w hi lo : Nat} (hh : hi < 64) (h : bits v hi lo = bits w hi lo) : bits (a.apply v) hi lo = bits (a.apply w) hi lo := by
  have key : ∀ n, n < hi + 1 - lo → v.testBit (lo + n) = w.testBit (lo + n) := fun n hn => by
    have := congrArg (fun z => z.testBit n) h
    simpa [testBit_bits, hn] using this
  refine Nat.eq_of_testBit_eq fun n => ?_
  rw [testBit_bits, testBit_bits]
  by_cases hn : n < hi + 1 - lo
  · simp only [hn, decide_true, Bool.true_and]
    have h64 : lo + n < 64 := by omega
    cases ha : a.half <;> simp only [Access.apply, ha]
    · rw [testBit_setBits _ _ _ _ _ (by omega), testBit_setBits _ _ _ _ _ (by omega)]
      simp only [Nat.testBit_mod_two_pow, h64, key n hn]
    · rw [testBit_setBits _ _ _ _ _ (by omega), testBit_setBits _ _ _ _ _ (by omega)]
      simp only [Nat.testBit_mod_two_pow, h64, key n hn]
  · simp [hn]

/-- What a write leaves in one field: as before where the access does not reach it, else by its access type (R17). -/
def Chan.fieldAfter (x : Chan) (i : Nat) (a : Access) (f : FieldDesc) (v : Nat) : Nat :=
  if reaches a f.hi f.lo = false then bits v f.hi f.lo
  else match f.acc with
    | .rw => bits (a.apply v) f.hi f.lo
    | .rwl o => if x.lock o i = none then bits (a.apply v) f.hi f.lo else bits v f.hi f.lo
    | .w1c => bits v f.hi f.lo &&& (2 ^ (f.hi + 1 - f.lo) - 1 - bits (a.apply 0) f.hi f.lo)
    | .ro => bits v f.hi f.lo
    | .wo => bits v f.hi f.lo

theorem bits_lt (v hi lo : Nat) : bits v hi lo < 2 ^ (hi + 1 - lo) := Nat.mod_lt _ (by positivity)

theorem Chan.writeField_self (x : Chan) (i : Nat) (a : Access) (acc : Nat × Option Nat) (f : FieldDesc) (h : f.lo ≤ f.hi) :
    bits (x.writeField i a acc f).1 f.hi f.lo = x.fieldAfter i a f acc.1 := by
  have m : ∀ v w, bits (setBits v f.hi f.lo (bits w f.hi f.lo)) f.hi f.lo = bits w f.hi f.lo := fun v w => by
    rw [bits_setBits_self _ _ _ _ (by omega), Nat.mod_eq_of_lt (bits_lt _ _ _)]
  simp only [Chan.writeField, Chan.fieldAfter]
  cases hr : reaches a f.hi f.lo
  · simp
  · simp only [Bool.not_true, Bool.false_eq_true, if_false, Bool.true_eq_false]
    cases hf : f.acc with
    | ro => rfl
    | wo => rfl
    | rw => exact m _ _
    | w1c =>
      simp only
      rw [bits_setBits_self _ _ _ _ (by omega), Nat.mod_eq_of_lt (lt_of_le_of_lt Nat.and_le_left (bits_lt _ _ _))]
    | rwl o =>
      simp only
      cases x.lock o i with
      | none => simp only [if_true]; exact m _ _
      | some n => simp

theorem Chan.writeField_ne (x : Chan) (i : Nat) (a : Access) (acc : Nat × Option Nat) (f : FieldDesc) {hi lo : Nat} (h : f.lo ≤ f.hi)
    (hd : hi < f.lo ∨ f.hi < lo) : bits (x.writeField i a acc f).1 hi lo = bits acc.1 hi lo := by
  simp only [Chan.writeField]
  cases reaches a f.hi f.lo
  · simp
  · simp only [Bool.not_true, Bool.false_eq_true, if_false]
    cases f.acc with
    | ro => rfl
    | wo => rfl
    | rw => exact bits_setBits_ne _ _ _ _ _ _ (by omega) hd
    | w1c => exact bits_setBits_ne _ _ _ _ _ _ (by omega) hd
    | rwl o =>
      simp only
      cases x.lock o i with
      | none => exact bits_setBits_ne _ _ _ _ _ _ (by omega) hd
      | some n => rfl

theorem Chan.fieldAfter_congr (x : Chan) (i : Nat) (a : Access) (f : FieldDesc) {v w : Nat} (hf : f.hi < 64) (h : bits v f.hi f.lo = bits w f.hi f.lo) :
    x.fieldAfter i a f v = x.fieldAfter i a f w := by
  simp only [Chan.fieldAfter, h, Access.apply_bits a hf h]

theorem Chan.writeFields_ne (x : Chan) (i : Nat) (a : Access) (l : List FieldDesc) (acc : Nat × Option Nat) {hi lo : Nat}
    (h : ∀ f ∈ l, f.lo ≤ f.hi ∧ (hi < f.lo ∨ f.hi < lo)) : bits (l.foldl (x.writeField i a) acc).1 hi lo = bits acc.1 hi lo := by
  induction l generalizing acc with
  | nil => rfl
  | cons g t ih =>
    rw [List.foldl_cons, ih _ (fun f hf => h f (List.mem_cons_of_mem _ hf))]
    have := h g (List.mem_cons_self ..)
    exact x.writeField_ne i a acc g this.1 this.2

/-- Each field after a write to its register. -/
theorem Chan.writeFields_self (x : Chan) (i : Nat) (a : Access) (l : List FieldDesc) (acc : Nat × Option Nat) (f : FieldDesc) (hf : f ∈ l)
    (hr : ∀ g ∈ l, g.lo ≤ g.hi ∧ g.hi < 64) (hp : l.Pairwise (fun f g => f.hi < g.lo ∨ g.hi < f.lo)) :
    bits (l.foldl (x.writeField i a) acc).1 f.hi f.lo = x.fieldAfter i a f acc.1 := by
  induction l generalizing acc with
  | nil => cases hf
  | cons g t ih =>
    rw [List.pairwise_cons] at hp
    rw [List.foldl_cons]
    rcases List.mem_cons.1 hf with rfl | hm
    · rw [x.writeFields_ne i a t _ (fun e he => ⟨(hr e (List.mem_cons_of_mem _ he)).1, hp.1 e he⟩), x.writeField_self i a acc f (hr f (List.mem_cons_self ..)).1]
    · rw [ih _ hm (fun e he => hr e (List.mem_cons_of_mem _ he)) hp.2]
      have hg := hr g (List.mem_cons_self ..)
      exact x.fieldAfter_congr i a f (hr f hf).2 (x.writeField_ne i a acc g hg.1 (hp.1 f hm).symm)

end Sys2Proof.Machine
end

