-- ==== Sys2Proof/Laws/Issue.lean ====
section
/-! SUPPORT. The one law of issuing an instruction: a core that can issue it runs its body on the channel as it stands. -/
namespace Sys2Proof.Machine
open Sys2Proof

/-- A core that can issue runs the instruction's body. -/
theorem Chan.instr_of_issues {x : Chan} {k op : Nat} {f : IFields} (h : x.issues k op f = true) (body : Chan → GCore → Prog → Chan) :
    ∃ p, x.coreProg k = some p ∧ x.instr k op f body = body x (x.core k) p := by
  simp only [Chan.issues, Bool.and_eq_true, decide_eq_true_eq, Bool.not_eq_true'] at h
  obtain ⟨⟨⟨⟨⟨⟨⟨h1, h2⟩, h3⟩, h4⟩, h5⟩, h6⟩, h7⟩, h8⟩ := h
  cases hp : x.coreProg k with
  | none => rw [hp] at h6; simp at h6
  | some p =>
    rw [hp] at h6
    simp only [Bool.and_eq_true, Bool.or_eq_true, decide_eq_true_eq] at h6
    refine ⟨p, rfl, ?_⟩
    have hf : x.fetchLine k p = (true, x) := by
      unfold Chan.fetchLine
      simp only
      rw [if_pos h6.2]
    simp only [Chan.coreProg] at hp
    simp only [Chan.instr, h1, Chan.onCore, hp, h2, h3, h4, h5]
    simp [show ¬ p.textEnd ≤ (x.core k).pc by omega, hf, h7, h8]

theorem Chan.regInstr_of_issues {x : Chan} {k op : Nat} {f : IFields} (h : x.issues k op f = true) (g : GCore → GCore) :
    x.regInstr k op f g = x.setCore k (g (x.core k)).next := by
  obtain ⟨p, _, he⟩ := Chan.instr_of_issues h (fun c y _ => c.stepCore k (g y))
  exact he

@[simp] theorem Chan.core_setCore (x : Chan) (k j : Nat) (g : GCore) : (x.setCore k g).core j = if k = j then g else x.core j := by
  simp [Chan.core, Chan.setCore, AMap.getD_set]

/-- Replacing a core changes nothing but that core. -/
@[simp] theorem Chan.setCore_frame (x : Chan) (k : Nat) (g : GCore) :
    (x.setCore k g).num = x.num ∧ (x.setCore k g).time = x.time ∧ (x.setCore k g).fresh = x.fresh ∧ (x.setCore k g).out = x.out ∧
    (x.setCore k g).regs = x.regs ∧ (x.setCore k g).ctx = x.ctx ∧ (x.setCore k g).maps = x.maps ∧ (x.setCore k g).hbm = x.hbm ∧
    (x.setCore k g).host = x.host ∧ (x.setCore k g).fab = x.fab ∧ (x.setCore k g).pfx = x.pfx ∧ (x.setCore k g).toHub = x.toHub :=
  ⟨rfl, rfl, rfl, rfl, rfl, rfl, rfl, rfl, rfl, rfl, rfl, rfl⟩

/-- The last of two replacements of a core stands. -/
theorem Chan.setCore_setCore (x : Chan) (k : Nat) {g g' : GCore} (h : g ≠ GCore.init) : (x.setCore k g).setCore k g' = x.setCore k g' := by
  simp only [Chan.setCore, AMap.set_set _ _ _ h]

/-- What it takes of a core to issue an instruction. -/
theorem Chan.facts_of_issues {x : Chan} {k op : Nat} {f : IFields} (h : x.issues k op f = true) :
    x.serves = true ∧ k < 64 ∧ (x.core k).st = .running ∧ (x.core k).wait = none ∧ (x.core k).held = false ∧ (x.core k).guard f = true := by
  simp only [Chan.issues, Bool.and_eq_true, decide_eq_true_eq, Bool.not_eq_true', Option.isNone_iff_eq_none] at h
  tauto

/-- A command that issues an instruction leaves what the instruction's body leaves. -/
theorem exec_of_issues {i : Instr} {s : State} {c : ChId} {k op : Nat} {f : IFields} {p : Prog} (b : Chan → GCore → Prog → Chan)
    (he : exec i s = onCh c (fun x => x.instr k op f b) s) (hi : (s.ch c).issues k op f = true) (hp : (s.ch c).coreProg k = some p) :
    exec i s = .next (s.after c (b (s.ch c) ((s.ch c).core k) p)) := by
  obtain ⟨q, hq, e⟩ := Chan.instr_of_issues hi b
  obtain rfl : q = p := Option.some.inj (hq.symm.trans hp)
  rw [he, onCh_eq, e]

/-! ### The registers of a core -/

@[simp] theorem GCore.setS_frame (g : GCore) (d : Nat) (v : W64) :
    (g.setS d v).v = g.v ∧ (g.setS d v).p = g.p ∧ (g.setS d v).pc = g.pc ∧ (g.setS d v).scratch = g.scratch ∧ (g.setS d v).st = g.st ∧
    (g.setS d v).inv = g.inv ∧ (g.setS d v).wait = g.wait ∧ (g.setS d v).asyncs = g.asyncs ∧ (g.setS d v).excs = g.excs := by
  simp only [GCore.setS]; split <;> simp

@[simp] theorem GCore.setP_frame (g : GCore) (d : Nat) (b : Bool) :
    (g.setP d b).s = g.s ∧ (g.setP d b).v = g.v ∧ (g.setP d b).pc = g.pc ∧ (g.setP d b).scratch = g.scratch ∧ (g.setP d b).st = g.st ∧
    (g.setP d b).inv = g.inv ∧ (g.setP d b).wait = g.wait ∧ (g.setP d b).asyncs = g.asyncs ∧ (g.setP d b).excs = g.excs :=
  ⟨rfl, rfl, rfl, rfl, rfl, rfl, rfl, rfl, rfl⟩

@[simp] theorem GCore.setV_frame (g : GCore) (d : Nat) (v : BitVec 512) :
    (g.setV d v).s = g.s ∧ (g.setV d v).p = g.p ∧ (g.setV d v).pc = g.pc ∧ (g.setV d v).scratch = g.scratch ∧ (g.setV d v).st = g.st ∧
    (g.setV d v).inv = g.inv ∧ (g.setV d v).wait = g.wait ∧ (g.setV d v).asyncs = g.asyncs ∧ (g.setV d v).excs = g.excs :=
  ⟨rfl, rfl, rfl, rfl, rfl, rfl, rfl, rfl, rfl⟩

@[simp] theorem GCore.next_frame (g : GCore) :
    g.next.s = g.s ∧ g.next.v = g.v ∧ g.next.p = g.p ∧ g.next.pc = g.pc + 8 ∧ g.next.scratch = g.scratch ∧ g.next.st = g.st ∧
    g.next.inv = g.inv ∧ g.next.wait = g.wait ∧ g.next.asyncs = g.asyncs ∧ g.next.excs = g.excs :=
  ⟨rfl, rfl, rfl, rfl, rfl, rfl, rfl, rfl, rfl, rfl⟩

end Sys2Proof.Machine
end

