-- ==== Sys2Proof/Machine/ReadRegs.lean ====
section
/-! DEFINITION. What a register reads as (R16 to R21, R41, R51 to R54, R387): the stored fields, and the fields that reflect state with a home of its own. -/
namespace Sys2Proof.Machine
open Sys2Proof

/-- Bit i set for each index below n that satisfies p. -/
def maskOf (n : Nat) (p : Nat → Bool) : Nat := ((List.range n).filter p).foldl (fun m i => m + 2 ^ i) 0

/-- Contexts in a state (CTX_STATE_CNT): an unlisted slot is FREE. -/
def Chan.stateCount (c : Chan) (code : Nat) : Nat :=
  if code = 0 then 16384 - c.countCtx (fun e => decide (e.state ≠ .free)) else c.countCtx (fun e => decide (e.state.code = code))

/-- Slots in RETIRED (TOMBSTONES). -/
def Chan.tombstones (c : Chan) : Nat := c.stateCount 8

/-- Number n of 8 bytes of a byte string, little-endian. -/
def word8 (b : List Byte) (n : Nat) : Nat := leVal ((b.drop (8 * n)).take 8)

/-- The context-table, paging and handoff registers (chapters 3 to 5). -/
def Chan.viewTable (c : Chan) (name : String) (ix : List Nat) : Nat :=
  let i := ix.headD 0
  let j := c.ctx.journal
  match name with
  | "CTX_TBL_STATUS" => b2n c.ctx.ready * 2 ^ 63 + c.stateCount 0 * 2 ^ 32 + c.tombstones * 2 ^ 16 + (16384 - c.stateCount 0 - c.tombstones)
  | "CTX_JRNL_BASE" => 0x40000000
  | "CTX_JRNL_STATUS" => b2n j.degraded * 2 ^ 63 + j.sinceSnap % 2 ^ 20
  | "CTX_JRNL_SEQ" => j.seq
  | "CTX_STATE_CNT" => c.stateCount i
  | "CTX_TEN_LIMIT" => c.countCtx (Entry.charges i)
  | "CTX_PEEK_SEL" => c.ctx.peekSel
  | "CTX_PEEK_DATA" => word8 c.ctx.peekData i
  | "PG_POOL_STATUS" => c.freeGran * 2 ^ 32 + c.culletGran
  | "PG_SLABS" => c.slabTotal * 2 ^ 32 + (c.slabTotal - c.pool.slabs.length - c.pool.taken.length)
  | "PG_MAP_BASE" => mapBase
  | "PG_PROF_SCALE" => if c.pool.scaleLoaded.getD i 0 = 0 then 0 else profileBase + i * 0x40000
  | "PG_PROF_DERIVED" =>
    let g := c.geom i
    if g.ok then g.partBytes * 2 ^ 32 + g.recLog2 * 2 ^ 20 + g.winLog2 * 2 ^ 16 + g.parts * 256 + g.gran else 0
  | "HO_ACTIVE" => c.stateCount 4 * 2 ^ 32 + c.stateCount 3
  | _ => 0

/-- The crucible, speculation and gaffer registers (chapters 6 to 8). -/
def Chan.viewCores (c : Chan) (name : String) (ix : List Nat) : Nat :=
  let i := ix.headD 0
  match name with
  | "CRU_STATUS" => c.cru.hot % 16 * 2 ^ 48 + (c.pchs - countSet c.cru.offline c.pchs) * 2 ^ 16 + c.cru.jobs.length
  | "CRU_UNIT_OFFLINE" => if 64 * i < c.pchs then c.cru.offline / 2 ^ (64 * i) % 2 ^ 64 else 0
  | "CRU_Q_CFG" =>
    let q := c.queue i
    (match q.st with | .free => 0 | .active => 1 | .deleting => 2) * 2 ^ 62 + q.tenant * 2 ^ 48 + q.pd * 2 ^ 32 + q.kib * 2 ^ 16 + q.slots
  | "CRU_Q_PTR" => (c.queue i).pidx % 65536 * 65536 + (c.queue i).cidx % 65536
  | "SPC_STATUS" =>
    c.countCtx (fun e => decide (e.state = .decoding ∧ e.governor / 2 ^ 25 = 0)) * 2 ^ 32 + c.countCtx (fun e => decide (e.state = .decoding ∧ (e.sub = 1 ∨ e.sub = 2)))
  | "GAF_STATUS" =>
    c.gaf.cores.countP (fun g => decide (g.2.st = .running ∨ g.2.st = .waiting)) * 2 ^ 32 + c.gaf.cores.countP (fun g => g.2.preempt.isSome) * 2 ^ 16 + c.areasUsed
  | "GAF_SCHED_NOW" => c.gaf.curSlot * 2 ^ 32 + c.frameLen c.tableB
  | "GAF_PROG" => match c.prog i with
    | none => 0
    | some p => (if p.faulted then 3 else 1) * 2 ^ 61 + (match p.kind with | .role => 1 | .base => 2 | .tenant => 3) * 2 ^ 58 + p.tenant % 16 * 2 ^ 48 + p.entries.length * 2 ^ 32 + p.version
  | "GAF_PROG_KEY" => match c.prog i with
    | none => 0
    | some p => p.keyId * 2 ^ 32 + p.evcBase / 64
  | "GAF_CORE" => match (c.core i).inv with
    | none => 0
    | some v => (c.core i).st.code * 2 ^ 61 + v.prog * 2 ^ 56 + v.tslot * 2 ^ 52 + v.entry * 2 ^ 32 + v.number % 2 ^ 32
  | "GAF_EVC" => c.gaf.evc.getD i 0
  | _ => 0

/-- The fabric, traffic, prefix and tier registers (chapters 10 to 13). -/
def Chan.viewFabric (c : Chan) (name : String) (ix : List Nat) : Nat :=
  let i := ix.headD 0
  let k := (ix.drop 1).headD 0
  let conns := fun (p : ConnState → Bool) => c.fab.conns.countP (fun e => p e.2.st)
  match name with
  | "FAB_CONN_CNT" => conns (fun s => decide (s = .error)) * 2 ^ 32 + conns (fun s => decide (s = .quarantine)) * 2 ^ 16 + conns (fun s => decide (s = .open_ ∨ s = .closing))
  | "FAB_PD" =>
    if i = 0 then 2 ^ 63 + 2 ^ 61
    else match c.fab.pds.find i with
      | some p => 2 ^ 63 + b2n p.acl * 2 ^ 62 + p.tenant * 2 ^ 48
      | none => 0
  | "FAB_PORT_STATUS" =>
    let p := c.port i
    p.link.code * 2 ^ 62 + maskOf 8 (fun n => (p.rxPaused.find n).isSome) * 2 ^ 54 + maskOf 8 (fun n => (p.txPaused.find n).isSome) * 2 ^ 46 + (p.held.map (fun e => e.2)).sum
  | "TM_Q_STATUS" => (c.qframes i k).length * 2 ^ 32 + frameSum (c.qframes i k)
  | "PFX_STATUS" => c.pfx.entries.length * 2 ^ 32 + c.cascState
  | "PFX_SEG_CFG" => c.pfx.entries.countP (fun e => e.1 / 512 == i)
  | "TIER_STATUS" =>
    c.tiers.objs.countP (fun e => e.2.t1 && e.2.valid) * 2 ^ 42 + c.tiers.objs.countP (fun e => !e.2.t1 && e.2.valid) * 2 ^ 21 +
      c.tiers.leases.countP (fun e => e.2.lent && e.2.granted) * 2 ^ 12 + c.tiers.leases.countP (fun e => !e.2.lent && e.2.granted) * 8
  | "TIER_SEAL" => c.tiers.sealBoot % 2 ^ 24 * 2 ^ 40 + c.tiers.sealCount
  | "TIER_T2_BASE" => c.tiers.t2Base + b2n c.tiers.t2Removing.isSome
  | "TIER_T2_SIZE" => ((c.tiers.objs.filter (fun e => !e.2.t1)).map (fun e => e.2.room / 4096)).sum * 2 ^ 32 + c.tiers.t2Units
  | "TIER_FRAG_STATUS" => c.tiers.sets.length * 2 ^ 48 + (c.tiers.sets.map (fun e => (e.2.length + 4095) / 4096)).sum
  | "TIER_TEN_QUOTA" => c.tierInUse i k
  | "TIER_LEASE" => match c.tiers.leases.find i with
    | some l => if l.granted then (if l.recalling then 2 else 1) * 2 ^ 62 + b2n l.lent * 2 ^ 61 + l.slabs * 2 ^ 32 + l.peer else 0
    | none => 0
  | _ => 0

/-- The registers of functions, slots, security, metering, reliability and power (chapters 2 and 14 to 18). -/
def Chan.viewBlock (c : Chan) (name : String) (ix : List Nat) : Nat :=
  let i := ix.headD 0
  let k := (ix.drop 1).headD 0
  let k' := c.keysOf i
  let t := c.totals i
  match name with
  | "CHN_ID" => 0x7E5A * 2 ^ 48 + c.variant * 2 ^ 40 + c.num % 4
  | "CHN_FN_STATE" => (c.fn i).badReg * 65536 + (c.fn i).result * 256 + (c.fnState i).code
  | "TEN_SLOT_STATUS" =>
    ((List.range 16).map (fun n => (c.ring (.vf i) n).taken.length)).sum * 2 ^ 32 + maskOf 16 (fun n => (c.ring (.vf i) n).en) * 65536 + maskOf 16 (fun n => (c.ring (.vf i) n).err)
  | "SEC_STATE" => c.sec.fwVersion * 2 ^ 32 + b2n c.sec.flash.owner.isSome * 16 + b2n c.sec.staged.isSome * 8 + c.sec.mode.code
  | "SEC_FW_FLOOR" => c.sec.flash.fwFloor
  | "SEC_FW_DIGEST" => word8 c.sec.fwDigest i
  | "SEC_PEERS" => c.sec.peers.length * 2 ^ 32
  | "SEC_TEN_CFG" => b2n k'.storage.isSome * 2 ^ 24 + maskOf 8 (fun n => (k'.prog.find n).isSome) * 65536 + maskOf 16 (fun n => (k'.data.find n).isSome)
  | "MTR_STATUS" => b2n c.mtr.present * 2 ^ 63 + c.mtr.credits * 2 ^ 32 + c.mtr.stream
  | "MTR_TEN_CFG" => b2n (c.paused i) * 2 ^ 62
  | "MTR_TOT" => match k with
    | 0 => t.prompt
    | 1 => t.output
    | 2 => t.attached
    | 3 => t.uPrompt
    | 4 => t.uOutput
    | 5 => t.uAttached
    | _ => t.uRes / ms
  | "MTR_RES" => c.resOut i * 2 ^ 32 + c.resT0 i
  | "REL_STATE" => c.rel.mode.code
  | "REL_SPARE" => c.sec.flash.lanes.length * 2 ^ 32 + c.sec.flash.rows.length
  | "REL_SHADOW_STATUS" => c.rel.part * 2 ^ 62 + c.rel.peer * 2 ^ 32 + c.rel.count
  | "REL_HB_CFG" => c.rel.expects.countP (fun e => e.2.marked) * 2 ^ 32
  | "REL_CFG_DIGEST" => word8 c.sec.cfgDigest i
  | "PWR_STATUS" =>
    c.pwr.tempCtl % 256 * 2 ^ 48 + c.pwr.tempBase % 256 * 2 ^ 40 + c.pwr.vcore % 65536 * 65536 + b2n c.pwr.ride * 16 + c.pwr.st.code % 4
  | "PWR_PACE" => c.pwr.minIndex % 65536 * 2 ^ 32 + c.paceTarget * 65536 + c.pwr.index % 2048
  | "PWR_RESET_LOG" => c.pwr.last * 2 ^ 56
  | "CLK_SRC" => b2n c.pwr.oscReady * 2 ^ 41 + b2n c.pwr.refReady * 2 ^ 40 + c.pwr.coast * 2 ^ 32
  | "CLK_LOCAL" => c.time % 2 ^ 64
  | _ => 0

/-- A register of a function's copy of the ring registers (R53, R366, R499). -/
def Chan.viewRing (c : Chan) (f : PciFn) (off : Nat) : Nat :=
  match findReg vfRegs off with
  | none => 0
  | some (d, ix) =>
    let r := c.ring f (ix.headD 0)
    let q := c.evq f
    match d.name with
    | "TEN_ID" => match f with
      | .vf t => c.tag t * 2 ^ 32 + (c.fnState (0x30 + t)).code * 256 + c.num % 4 * 16 + t % 16
      | .pf => 0
    | "TEN_SQ_BASE" => r.sqBase
    | "TEN_CQ_BASE" => r.cqBase
    | "TEN_RING_CFG" => r.word
    | "TEN_RING_PTR" => r.cqHead * 2 ^ 48 + r.cqTail * 2 ^ 32 + r.sqTail * 65536 + r.sqHead
    | "TEN_EVQ_BASE" => q.base
    | "TEN_EVQ_CFG" => q.word
    | "TEN_EVQ_PTR" => q.pidx * 2 ^ 32 + q.cidx
    | "TEN_EVQ_DROP" => if f = .pf then 0 else q.drop
    | _ => 0

/-- A defined register of the channel window: its stored fields and those that reflect other state. -/
def Chan.value (c : Chan) (off : Nat) : Nat :=
  if 0xB10000 ≤ off ∧ off < 0xB20000 then c.viewRing .pf (off - 0xB10000)
  else match findReg channelRegs off with
    | none => 0
    | some (d, ix) => if c.absentPortReg off (ix.headD 0) then 0 else c.rd off ||| c.viewTable d.name ix ||| c.viewCores d.name ix ||| c.viewFabric d.name ix ||| c.viewBlock d.name ix

/-- What the security state leaves readable (R387). -/
def Chan.readable (c : Chan) (off : Nat) : Bool :=
  match c.sec.mode with
  | .serving => true
  | .updating => decide (0xC00000 ≤ off ∧ off < 0xD00000)
  | .recovery => decide (off = Reg.SEC_STATE ∨ off = Reg.SEC_REC_ADDR ∨ off = Reg.SEC_REC_CTRL)
  | .boot | .failed => decide (off = Reg.SEC_STATE)

/-- Does the hub complete accesses to the channel itself, with all ones: a hub link that is down, a channel that is off or in retention (R41, R466, R477), or a function in
D3hot? -/
def Chan.dark (c : Chan) : Bool := !c.host.linkUp || decide (c.pwr.st = .c3 ∨ c.pwr.st = .held)

/-- All ones in every byte. -/
def allOnes : Nat := 2 ^ 64 - 1

/-- A read of a register of a channel window. -/
def Chan.readReg (c : Chan) (off : Nat) : Nat :=
  if c.dark || (c.pci .pf).d3hot then allOnes else if c.readable off then c.value off else 0

/-- A read of a register of the VF window of slot t. -/
def Chan.readVf (c : Chan) (t off : Nat) : Nat :=
  if c.dark || (c.pci (.vf t)).d3hot || !c.fnExists (.vf t) then allOnes else if c.sec.mode = .serving then c.viewRing (.vf t) off else 0

/-- A read of a register of PF0 (R54). -/
def State.readHub (s : State) (off : Nat) : Nat :=
  let h := s.hub
  let chans := [s.ch0, s.ch1, s.ch2, s.ch3]
  if !h.barLive then allOnes
  else match findReg hubRegs off with
    | some (d, ix) => match d.name with
      | "HUB_ID" => 0x7E5A * 2 ^ 48 + s.ch0.variant * 2 ^ 40
      | "HUB_LINK" => h.downCnt * 65536 + maskOf 4 (fun i => ((chans[i]?).map (fun c => c.host.linkUp)).getD false)
      | "PWR_MOD_INPUT" => h.input
      | "PWR_MOD_CTRL" => match chans[ix.headD 0]? with
        | some c => c.pwr.result * 2 ^ 40 + c.pwr.st.code * 2 ^ 32 + b2n c.pwr.busy
        | none => 0
      | "MTR_DRAIN_STATUS" => match h.meter with
        | some m => 2 ^ 63 + b2n m.removing.isSome * 2 ^ 62 + b2n m.extended * 2 ^ 61 + (m.lastCtr - m.acked) % 2 ^ 25
        | none => 0
      | "MTR_DRAIN_SEL" => h.drainSel
      | "MTR_DRAIN_DATA" => word8 h.drainData (ix.headD 0)
      | "MTR_DRAIN_TIME" => ((h.meter.map (fun m => m.timeUs / 1000)).getD 0)
      | _ => 0
    | none =>
      if off = 0x4000 then h.evq.base
      else if off = 0x4008 then h.evq.word
      else if off = 0x4010 then h.evq.pidx * 2 ^ 32 + h.evq.cidx
      else if off = 0x4018 then h.evq.drop
      else 0

/-- What a read of a register returns. A read changes nothing but where HWM_READ and PWR_MOD_INPUT_READ say so. -/
def State.readReg (s : State) (w : Window) (off : Nat) : Nat :=
  match w with
  | .hub => s.readHub off
  | .ch c => (s.ch c).readReg off
  | .vf c t => (s.ch c).readVf t off

end Sys2Proof.Machine
end

