-- ==== Sys2Proof/Tests/Slice0.lean ====
section
/-! SUPPORT. Tests: for each statement, `test_wit_<statement>` shows states and operands that meet the premises of its clauses, clause by clause, at
the edges of their ranges; then the worked examples of the spec, and an ill-formed command for each check of WellFormed. -/
namespace Sys2Proof.Tests
open Sys2Proof Sys2Proof.Machine
set_option Elab.async false

/-! Records with nothing in them. -/

def zAccess : Access := ⟨.both, 0⟩
def zAttachMsg : AttachMsg := ⟨0, 0, 0, 0, 0, 0, 0, 0⟩
def zAttachReq : AttachReq := ⟨false, zAttachMsg, 0, none, 0, 0⟩
def zAttnQueue : AttnQueue := ⟨.free, 0, 0, 0, 0, 0, [], 0, 0, [], none, 0⟩
def zCascFrame : CascFrame := ⟨false, 0, 0, false, 0, 0, 0, 0, 0, 0, false⟩
def zCryptDesc : CryptDesc := ⟨0, 0, 0, [], [], [], [], 0, 0, []⟩
def zDmovDesc : DmovDesc := ⟨0, 0, 0, false, 0, 0, 0, 0, 0, 0, 0, 0, 0, 0, []⟩
def zEntryRec : EntryRec := ⟨0, false, false, false, false, 0, 0⟩
def zFabOpIn : FabOpIn := ⟨0, 0, 0, 0, 0, 0, 0, 0, 0, 0, .failed 1⟩
def zFmtPkt : FmtPkt := ⟨0, 0, 0, 0, 0, false, false, false, false, false, false, 0, 0, 0, 0, 0, 0, 0, 0, [], false, false⟩
def zFragLoc : FragLoc := ⟨0, 0, 0, 0, 0, 0, [], []⟩
def zFragSet : FragSet := ⟨0, 0, 0, 0, 0, 0, 0, 0, 0, false⟩
def zHoMsg : HoMsg := ⟨0, 0, false, false, false, false, 0, 0, 0, 0, 0, 0, 0, 0, 0, 0, 0, 0, 0, 0, 0, 0, []⟩
def zHandoff : Handoff := ⟨zHoMsg, none, [], 0, 0, 0, 0, false, none, [], 0, 0, [], false, 0, none⟩
def zHolder : Holder := ⟨0, 0, 0, 0, 0, 0⟩
def zHomeSet : HomeSet := ⟨0, 0, [], 0, none, 0, 0⟩
def zIFields : IFields := ⟨false, 0, 0, 0, 0, 0, 0⟩
def zImageIn : ImageIn := ⟨0, 0, 0, 0, 0, 0, 0, 0, 0, 0, 0, 0, 0, [], [], [], 0, false, []⟩
def zInvocation : Invocation := ⟨0, 0, false, false, 0, 0, none, []⟩
def zJob : Job := ⟨none, none, [], 0, 0, 0, 0, 0, 0, 0, 0, 0, 0, 0, 0, []⟩
def zLease : Lease := ⟨false, false, false, 0, 0, 0, none, none, false, 0⟩
def zLinkFrame : LinkFrame := ⟨.c0, 0, 0, 0, 0, 0, 0, 0, 0, 0, 0, 0⟩
def zMeter : Meter := ⟨0, 0, 0, [], [], [], 0, [], 0, false, false, none, false, 0, 0, [], [], [], [], 0, false⟩
def zMeterSlot : MeterSlot := ⟨0, 0, 0, 0, 0, 0, 0, 0, 0, 0, false⟩
def zMirrorMsg : MirrorMsg := ⟨0, 0, 0, 0, [], [], []⟩
def zNewMeter : NewMeter := ⟨0, 0, 0, []⟩
def zPaceIn : PaceIn := ⟨0, 0, 0, 0, 0⟩
def zPktBuf : PktBuf := ⟨0, [], false, none⟩
def zProg : Prog := ⟨.role, false, 0, 0, 0, 0, 0, 0, [], [], [], 0, 0, 0, 0, none, 0⟩
def zRebuild : Rebuild := ⟨0, [], false, 0, 0, false, zFragLoc⟩
def zRebuildIn : RebuildIn := ⟨0, 0, 0, 0, 0, .failed 1, [], false⟩
def zRingEntry : RingEntry := ⟨0, 0, false, 0⟩
def zRoceIn : RoceIn := ⟨0, 0, 0, 0, 0, 0, 0, 0, 0, 0, 0, 0, 0⟩
def zRocePkt : RocePkt := ⟨0, 0, 0, 0, 0, 0, none, [], 0, false, false, false⟩
def zRoceQp : RoceQp := ⟨0, 0, 0, 0, 0, 0, 0, none, 0, 0, 0, 0, 0, 0, 0, none, 0⟩
def zRowOp : RowOp := ⟨0, 0, 0, 0, 0, 0⟩
def zShare : Share := ⟨0, 0, 0, false, [], [], none, false, false⟩
def zShareRead : ShareRead := ⟨0, 0, 0, 0, 0, 0, [], 0, 0, 0, []⟩
def zSlab : Slab := ⟨0, 0⟩
def zSpecRec : SpecRec := ⟨0, false, false, 0, 0, 0, 0, 0, 0, 0, 0, []⟩
def zSrc : Src := ⟨none, 0, 0, 0, 0⟩
def zTierMove : TierMove := ⟨zSrc, 0, 0, 0, 0, 0, none, [], false, 0, 0, 0, [], false, none, none⟩
def zTierMsg : TierMsg := ⟨0, 0, 0, 0, 0, 0, 0, 0, 0, 0⟩
def zTierObj : TierObj := ⟨false, false, 0, 0, 0, [], [], 0, 0, 0, []⟩
def zTierReq : TierReq := ⟨0, 0, zTierMsg, (.lease 0), 0, 0⟩
def zTrigger : Trigger := ⟨(.num 0), 0, 0, 0, 0, 0⟩
def zWarmIn : WarmIn := ⟨false, [], [], none⟩

/-- The module after reset with channel 0 changed by `f`. -/
def wch (f : Chan → Chan) : State := { State.reset with ch0 := f State.reset.ch0 }

/-- The module after reset with the hub changed by `f`. -/
def whub (f : Hub → Hub) : State := { State.reset with hub := f State.reset.hub }

/-- The PF's ring pair 0, and a VF's of tenant slot 0. -/
def pf : Src := ⟨none, 0, 7, 0, 4096⟩
def vf0 : Src := ⟨some 0, 0, 7, 0, 4096⟩

/-- The functions in a list are RUNNING. -/
def run (fs : List Nat) (x : Chan) : Chan := fs.foldl (fun x n => x.setFn n { x.fn n with st := .running }) x

/-- A role program that runs, with the channel's EID 5, tenant tag 77 in slot 0, a valid profile 0 of two layers and one head, and slots no longer withheld. -/
def up (r : Role) (x : Chan) : Chan :=
  let x := run [0, 0x10, 0x30, 0x40] { x with role := { x.role with cur := r }, ctx := { x.ctx with holdUntil := none } }
  (((x.wr Reg.CHN_EID (2 ^ 63 + 5)).wr (Reg.TEN_SLOT_CFG 0) 77).wr (Reg.PG_PROF_GEOM 0) (2 ^ 63 + 2 * 2 ^ 47 + 2 ^ 40 + 2 ^ 31 + 7 * 2 ^ 16)).wr
    (Reg.CTX_TEN_LIMIT 0) (16384 * 2 ^ 32)

/-- A channel with the given context in slot 3, at GENERATION 9, and the handle of that slot. -/
def ctx3 (e : Entry) (x : Chan) : Chan := x.setEntry 3 { e with gen := 9, tag := 77, tslot := 0, req := 42 }
def h3 : Nat := 5 * 2 ^ 30 + 3 * 2 ^ 16 + 9

/-- An entry in a state. -/
def ent (st : CtxState) : Entry := { Entry.free with state := st, epoch := 1 }

/-- The module after reset, channel 0 with a running role and then changed. -/
def on (r : Role) (f : Chan → Chan) : State := wch (fun x => f (up r x))

/-- A channel with a peer of EID 6 in its session table. -/
def peer6 (x : Chan) : Chan := { x with sec := { x.sec with peers := [(6, ⟨[], []⟩)] } }

/-- A channel with a storage key for tenant slot 0. -/
def withKey (x : Chan) : Chan := { x with sec := { x.sec with keys := [(0, { TenKeys.init with storage := some (List.replicate 32 1) })] } }

/-- A channel whose PF may master the bus. -/
def dma (x : Chan) : Chan := { x with host := { x.host with pci := [(16, ⟨true, false, 1⟩)] } }

/-- A channel whose tenant slot 0 has every quota it could need. -/
def quota (x : Chan) : Chan := ((x.wr (Reg.TIER_TEN_QUOTA 0 0) ((2 ^ 32 - 1) * 2 ^ 32)).wr (Reg.TIER_TEN_QUOTA 0 1) ((2 ^ 32 - 1) * 2 ^ 32)).wr (Reg.TIER_TEN_QUOTA 0 2) ((2 ^ 32 - 1) * 2 ^ 32)

/-- An answer that is some pair, and a pair whose first part is known. -/
theorem get_pair {α β : Type} (o : Option (α × β)) (h : o.isSome = true) : o = some ((o.get h).1, (o.get h).2) := by simp
theorem get_one {α : Type} (o : Option α) (h : o.isSome = true) : o = some (o.get h) := by simp
theorem fst_pair {α β : Type} (p : α × β) (a : α) (h : p.1 = a) : p = (a, p.2) := by subst h; rfl
theorem any_pair {α β : Type} (p : α × β) : p = (p.1, p.2) := rfl

/-- A channel whose core 40 is in the state `g`, its program in slot 4. -/
def coreP (p : Prog) (g : GCore) (x : Chan) : Chan := { x with gaf := { x.gaf with progs := [(4, p)], cores := [(40, g)] } }
def runG : GCore := { GCore.init with st := .running, inv := some { zInvocation with prog := 4 } }
def roleP : Prog := { zProg with kind := .role, grants := 31, scratch := 4096, coresMax := 64, entries := [{ zEntryRec with vfCall := true, pfCall := true, armable := true, budget := 1 }] }
def tenP : Prog := { roleP with kind := .tenant, evcCount := 4, evcBase := 16384 }
def f0 : IFields := ⟨false, 0, 0, 0, 0, 0, 0⟩

theorem fst_error {α ε β : Type} [DecidableEq ε] (p : α × Except ε β) (r : ε) (h : (match p.2 with | .error x => decide (x = r) | .ok _ => false) = true) :
    p = (p.1, .error r) := by
  obtain ⟨a, e⟩ := p
  cases e with
  | error x => simp at h; simp [h]
  | ok v => simp at h
theorem fst_ok {α ε β : Type} [DecidableEq β] (p : α × Except ε β) (r : β) (h : (match p.2 with | .ok x => decide (x = r) | .error _ => false) = true) :
    p = (p.1, .ok r) := by
  obtain ⟨a, e⟩ := p
  cases e with
  | ok x => simp at h; simp [h]
  | error v => simp at h

/-- Protection domain 1 belongs to tenant slot 0; connection 1 is open to connection 9 of EID 6 in that domain; region 1 holds one slab of it. -/
def pd1 (x : Chan) : Chan := { x with fab := { x.fab with pds := [(1, ⟨0, false⟩)] } }
def cOpen : Conn := { Conn.init with st := .open_, peer := 6, peerConn := 9, pd := 1, pmtu := 4096, cwnd := 64, peerWin := 64 }
def reg1 : Region := { Region.init with st := .valid, pd := 1, rights := 7, key := 11, gen := 2, slabs := [0], size := 2097152, tenant := 0 }
def conn1 (u : Conn) (x : Chan) : Chan := ((pd1 (peer6 x)).setConn 1 u).setRegion 1 reg1
def fmt1 : FmtPkt := { zFmtPkt with srcEid := 6, srcConn := 9, dstEid := 5, dstConn := 1, prot := true, tagOk := true, first := true, last := true, ar := true, gen := 2, key := 11, addr := 2 ^ 28 }

/-- Port 0 with a link that is up. -/
def link0 (x : Chan) : Chan := x.setPort 0 { x.port 0 with link := .up }

/-! ### Witnesses: Functions, role, rings and host functions -/

/-- A channel whose function `n` is in the state `st`. -/
def fnIn (st : FnState) (n : Nat) : Chan := (run [n] State.reset.ch0).setFn n { State.reset.ch0.fn n with st := st }

/-- The premises of the clauses of FunctionAndRoleCommands on stopping and starting a function: a function that is stopped, starting or running, a port among them, and registers that a start refuses and takes. -/
theorem test_wit_FunctionAndRoleCommands :
    (fnIn .stopped 0x30).fnState 0x30 = .stopped ∧ (fnIn .starting 0x3F).fnState 0x3F = .starting ∧ (fnIn .running 0x1FF).fnState 0x1FF = .running ∧
    (fnIn .running 0x10).fnState 0x10 = .running ∧ (fnIn .running 0x10).fnPresent 0x10 = true ∧ (fnIn .running 0x30).fnState 0x30 ≠ .stopped ∧
    ((fnIn .stopped 0x40).wr (Reg.TM_PORT_SCHED 0) (2 ^ 64 - 1)).badReg 0x40 ≠ none ∧ (fnIn .stopped 0x10).badReg 0x10 = none := by
  refine ⟨?_, ?_, ?_, ?_, ?_, ?_, ?_, ?_⟩ <;> decide +kernel

/-- The premises of EveryStepTidy: a tidy state whose step runs a command. -/
theorem test_wit_EveryStepTidy :
    let s : State := { State.reset with pending := [.pcieCorrectableError] }
    s.tidy = true ∧ step s = .next ((State.reset.withHub { State.reset.hub with out := .aer .pf 0 :: State.reset.hub.out })) := by
  refine ⟨?_, rfl⟩
  decide +kernel

theorem test_wit_FunctionCommands :
    (let s : State := on .prompt (fun x => x); let c : ChId := .c0; let src : Src := pf; let n : Nat := 16; let x := s.ch c; x.fnPresent n = true ∧ n ≠ 0 ∧ x.admits src ⟨true, false, false⟩ = true) ∧
    (let s : State := on .prompt (fun x => x); let c : ChId := .c0; let src : Src := pf; let n : Nat := 511; let x := s.ch c; x.fnPresent n = true ∧ n ≠ 0 ∧ x.admits src ⟨true, false, false⟩ = true) ∧
    (let s : State := on .prompt (fun x => x); let c : ChId := .c0; let n : Nat := 63; let x := s.ch c; x.fnPresent n = true ∧ n ≠ 0 ∧ x.regsLive = true ∧ n < 512) ∧
    (let s : State := on .prompt (fun x => x); let c : ChId := .c0; let n : Nat := 511; let x := s.ch c; x.fnPresent n = true ∧ n ≠ 0 ∧ x.regsLive = true ∧ n < 512) ∧
    (let s : State := on .prompt (fun x => x.setFn 511 { x.fn 511 with st := .stopping }); let c : ChId := .c0; let n : Nat := 511; let x := s.ch c; x.fnPresent n = true ∧ n ≠ 0 ∧ x.fnState n = .stopping ∧ x.quiescing n = false) := by
  dsimp only
  exact ⟨⟨by decide +kernel, by decide +kernel, by decide +kernel⟩,
    ⟨by decide +kernel, by decide +kernel, by decide +kernel⟩,
    ⟨by decide +kernel, by decide +kernel, by decide +kernel, by decide +kernel⟩,
    ⟨by decide +kernel, by decide +kernel, by decide +kernel, by decide +kernel⟩,
    ⟨by decide +kernel, by decide +kernel, by decide +kernel, by decide +kernel⟩⟩

theorem test_wit_RoleCommands_1 :
    (let s : State := wch (fun x => let x := dma x; let x := x.setFn 0 { x.fn 0 with st := .running }; x); let c : ChId := .c0; let src : Src := pf; let x := s.ch c; let adm := x.admits src ⟨true, false, false⟩ = true; adm ∧ x.fnState 0 = .running) ∧
    (let s : State := wch (fun x => let x := dma x; let x := x.setFn 0 { x.fn 0 with st := .stopped }; up .prompt x |>.setFn 0 { x.fn 0 with st := .stopped }); let c : ChId := .c0; let src : Src := pf; let x := s.ch c; let adm := x.admits src ⟨true, false, false⟩ = true; adm ∧ x.fnState 0 = .stopped ∧ x.badReg 0 = none) ∧
    (let s : State := wch (fun x => let x := dma x; let x := x.setFn 0 { x.fn 0 with st := .running }; x); let c : ChId := .c0; let src : Src := pf; let x := s.ch c; let adm := x.admits src ⟨true, false, false⟩ = true; adm ∧ x.fnState 0 ≠ .stopped) ∧
    (let s : State := wch (fun x => let x := dma x; let x := x.setFn 0 { x.fn 0 with st := .stopped }; x); let c : ChId := .c0; let src : Src := pf; let m : ImageIn := zImageIn; let x := s.ch c; let adm := x.admits src ⟨true, false, false⟩ = true; let reads := x.dmaFault src.fn = none; let formed := imageFormed m = true ∧ m.tenantTag = 0 ∧ m.size ≤ 24 * 1048576; adm ∧ x.fnState 0 = .stopped ∧ reads ∧ ¬ formed) ∧
    (let s : State := wch (fun x => let x := dma x; let x := x.setFn 0 { x.fn 0 with st := .stopped }; x); let c : ChId := .c0; let src : Src := pf; let m : ImageIn := { zImageIn with magic := 0xBAF10001, hdrVersion := 1, kind := 1, role := 3, textBytes := 8, coresMax := 64, entries := [zEntryRec], text := List.replicate 8 0, size := 217, keyId := Config.programKeyId, sigOk := true }; let x := s.ch c; let adm := x.admits src ⟨true, false, false⟩ = true; let reads := x.dmaFault src.fn = none; let formed := imageFormed m = true ∧ m.tenantTag = 0 ∧ m.size ≤ 24 * 1048576; adm ∧ x.fnState 0 = .stopped ∧ reads ∧ ¬ formed) ∧
    (let s : State := wch (fun x => let x := dma x; let x := x.setFn 0 { x.fn 0 with st := .stopped }; x); let c : ChId := .c0; let src : Src := pf; let m : ImageIn := { zImageIn with magic := 0xBAF10001, hdrVersion := 1, kind := 1, role := 3, textBytes := 8, coresMax := 64, entries := [zEntryRec], text := List.replicate 8 0, size := 216, tenantTag := 1, keyId := Config.programKeyId, sigOk := true }; let x := s.ch c; let adm := x.admits src ⟨true, false, false⟩ = true; let reads := x.dmaFault src.fn = none; let formed := imageFormed m = true ∧ m.tenantTag = 0 ∧ m.size ≤ 24 * 1048576; adm ∧ x.fnState 0 = .stopped ∧ reads ∧ ¬ formed) ∧
    (let s : State := wch (fun x => let x := dma x; let x := x.setFn 0 { x.fn 0 with st := .stopped }; x); let c : ChId := .c0; let src : Src := pf; let m : ImageIn := { zImageIn with magic := 0xBAF10001, hdrVersion := 1, kind := 2, role := 0, textBytes := 8, coresMax := 64, entries := [zEntryRec], text := List.replicate 8 0, size := 216, keyId := Config.programKeyId, sigOk := true }; let x := s.ch c; let adm := x.admits src ⟨true, false, false⟩ = true; let reads := x.dmaFault src.fn = none; let formed := imageFormed m = true ∧ m.tenantTag = 0 ∧ m.size ≤ 24 * 1048576; adm ∧ x.fnState 0 = .stopped ∧ reads ∧ formed ∧ (m.kind ≠ 1 ∨ m.role = 0)) ∧
    (let s : State := wch (fun x => let x := dma x; let x := x.setFn 0 { x.fn 0 with st := .stopped }; x); let c : ChId := .c0; let src : Src := pf; let m : ImageIn := { zImageIn with magic := 0xBAF10001, hdrVersion := 1, kind := 1, role := 0, textBytes := 8, coresMax := 64, entries := [zEntryRec], text := List.replicate 8 0, size := 216, keyId := Config.programKeyId, sigOk := true }; let x := s.ch c; let adm := x.admits src ⟨true, false, false⟩ = true; let reads := x.dmaFault src.fn = none; let formed := imageFormed m = true ∧ m.tenantTag = 0 ∧ m.size ≤ 24 * 1048576; adm ∧ x.fnState 0 = .stopped ∧ reads ∧ formed ∧ (m.kind ≠ 1 ∨ m.role = 0)) ∧
    (let s : State := wch (fun x => let x := dma x; let x := x.setFn 0 { x.fn 0 with st := .stopped }; x); let c : ChId := .c0; let src : Src := pf; let m : ImageIn := { zImageIn with magic := 0xBAF10001, hdrVersion := 1, kind := 1, role := 3, textBytes := 8, coresMax := 64, entries := [zEntryRec], text := List.replicate 8 0, size := 216, keyId := Config.programKeyId, sigOk := false }; let x := s.ch c; let adm := x.admits src ⟨true, false, false⟩ = true; let reads := x.dmaFault src.fn = none; let formed := imageFormed m = true ∧ m.tenantTag = 0 ∧ m.size ≤ 24 * 1048576; adm ∧ x.fnState 0 = .stopped ∧ reads ∧ formed ∧ m.kind = 1 ∧ m.role ≠ 0 ∧ m.keyId = Config.programKeyId ∧ m.sigOk = false) ∧
    (let s : State := wch (fun x => let x := dma x; let x := x.setFn 0 { x.fn 0 with st := .stopped }; x); let c : ChId := .c0; let src : Src := pf; let m : ImageIn := { zImageIn with magic := 0xBAF10001, hdrVersion := 1, kind := 1, role := 3, textBytes := 8, coresMax := 64, entries := [zEntryRec], text := List.replicate 8 0, size := 216, keyId := Config.programKeyId, sigOk := true }; let x := s.ch c; let adm := x.admits src ⟨true, false, false⟩ = true; let reads := x.dmaFault src.fn = none; let formed := imageFormed m = true ∧ m.tenantTag = 0 ∧ m.size ≤ 24 * 1048576; adm ∧ x.fnState 0 = .stopped ∧ reads ∧ formed ∧ m.kind = 1 ∧ m.role ≠ 0 ∧ m.keyId = Config.programKeyId ∧ m.sigOk = true) := by
  dsimp only
  exact ⟨⟨by decide +kernel, by decide +kernel⟩,
    ⟨by decide +kernel, by decide +kernel, by decide +kernel⟩,
    ⟨by decide +kernel, by decide +kernel⟩,
    ⟨by decide +kernel, by decide +kernel, by decide +kernel, by decide +kernel⟩,
    ⟨by decide +kernel, by decide +kernel, by decide +kernel, by decide +kernel⟩,
    ⟨by decide +kernel, by decide +kernel, by decide +kernel, by decide +kernel⟩,
    ⟨by decide +kernel, by decide +kernel, by decide +kernel, by decide +kernel, by decide +kernel⟩,
    ⟨by decide +kernel, by decide +kernel, by decide +kernel, by decide +kernel, by decide +kernel⟩,
    ⟨by decide +kernel, by decide +kernel, by decide +kernel, by decide +kernel, by decide +kernel, by decide +kernel, rfl, by decide +kernel⟩,
    ⟨by decide +kernel, by decide +kernel, by decide +kernel, by decide +kernel, by decide +kernel, by decide +kernel, rfl, by decide +kernel⟩⟩

theorem test_wit_RoleCommands_2 :
    (let s : State := wch (fun x => let x := dma x; let x := x.setFn 0 { x.fn 0 with st := .stopping }; x); let c : ChId := .c0; let x := s.ch c; x.fnState 0 = .stopping ∧ x.blocking = 0) ∧
    (let s : State := wch (fun x => let x := dma x; let x := x.setFn 0 { x.fn 0 with st := .stopping }; let x := ctx3 (ent .decoding) x; { x with role := { x.role with budgetEnd := some 7 } }); let c : ChId := .c0; let t : Nat := 7; let x := s.ch c; x.role.budgetEnd = some t ∧ x.fnState 0 = .stopping ∧ 0 < x.blocking) := by
  dsimp only
  exact ⟨⟨by decide +kernel, by decide +kernel⟩,
    ⟨by decide +kernel, by decide +kernel, by decide +kernel⟩⟩

theorem test_wit_HubLink :
    (let s : State := on .prompt (fun x => x); let c : ChId := .c0; let x := s.ch c; x.host.linkUp = true) ∧
    (let s : State := wch (fun x => { x with host := { x.host with linkUp := false } }); let c : ChId := .c0; let x := s.ch c; x.host.linkUp = false) := by
  dsimp only
  exact ⟨by decide +kernel,
    by decide +kernel⟩

theorem test_wit_RingPairs_1 :
    (let s : State := on .prompt (fun x => let x := dma x; (x).setRing .pf 15 { Ring.init with en := true, lCqLog2 := 2, lSqLog2 := 2 }); let c : ChId := .c0; let w : RingWin := .pf; let n : Nat := 15; let v : Nat := 3; let x := s.ch c; let f := winFn w; let r := x.ring f n; let usable := x.barLive f = true ∧ n < 16 ∧ r.en = true ∧ r.err = false; usable ∧ v % 65536 < 2 ^ r.lSqLog2) ∧
    (let s : State := on .prompt (fun x => let x := dma x; (x).setRing .pf 15 { Ring.init with en := true, lCqLog2 := 2, lSqLog2 := 2 }); let c : ChId := .c0; let w : RingWin := .pf; let n : Nat := 15; let v : Nat := 65536; let x := s.ch c; let f := winFn w; let r := x.ring f n; let usable := x.barLive f = true ∧ n < 16 ∧ r.en = true ∧ r.err = false; usable ∧ v % 65536 < 2 ^ r.lSqLog2) ∧
    (let s : State := on .prompt (fun x => let x := dma x; (x).setRing .pf 15 { Ring.init with en := true, lCqLog2 := 2, lSqLog2 := 2 }); let c : ChId := .c0; let w : RingWin := .pf; let n : Nat := 15; let v : Nat := 4; let x := s.ch c; let f := winFn w; let r := x.ring f n; let usable := x.barLive f = true ∧ n < 16 ∧ r.en = true ∧ r.err = false; usable ∧ 2 ^ r.lSqLog2 ≤ v % 65536) ∧
    (let s : State := on .prompt (fun x => let x := dma x; (x).setRing .pf 15 { Ring.init with en := true, lCqLog2 := 2, lSqLog2 := 2 }); let c : ChId := .c0; let w : RingWin := .pf; let n : Nat := 15; let v : Nat := 65535; let x := s.ch c; let f := winFn w; let r := x.ring f n; let usable := x.barLive f = true ∧ n < 16 ∧ r.en = true ∧ r.err = false; usable ∧ 2 ^ r.lSqLog2 ≤ v % 65536) ∧
    (let s : State := on .prompt (fun x => let x := dma x; (x).setRing .pf 15 { Ring.init with en := true, lCqLog2 := 2, lSqLog2 := 2, cqTail := 3 }); let c : ChId := .c0; let w : RingWin := .pf; let n : Nat := 15; let v : Nat := 3; let x := s.ch c; let f := winFn w; let r := x.ring f n; let usable := x.barLive f = true ∧ n < 16 ∧ r.en = true ∧ r.err = false; let size := 2 ^ r.lCqLog2; let filled := (r.cqTail + size - r.cqHead) % size; let given := (v % 65536 + size - r.cqHead) % size; usable ∧ v % 65536 < size ∧ given ≤ filled) ∧
    (let s : State := on .prompt (fun x => let x := dma x; (x).setRing .pf 15 { Ring.init with en := true, lCqLog2 := 2, lSqLog2 := 2 }); let c : ChId := .c0; let w : RingWin := .pf; let n : Nat := 15; let v : Nat := 4; let x := s.ch c; let f := winFn w; let r := x.ring f n; let usable := x.barLive f = true ∧ n < 16 ∧ r.en = true ∧ r.err = false; let size := 2 ^ r.lCqLog2; let filled := (r.cqTail + size - r.cqHead) % size; let given := (v % 65536 + size - r.cqHead) % size; usable ∧ (size ≤ v % 65536 ∨ filled < given)) ∧
    (let s : State := on .prompt (fun x => let x := dma x; (x).setRing .pf 15 { Ring.init with en := true, lCqLog2 := 2, lSqLog2 := 2, cqTail := 2 }); let c : ChId := .c0; let w : RingWin := .pf; let n : Nat := 15; let v : Nat := 3; let x := s.ch c; let f := winFn w; let r := x.ring f n; let usable := x.barLive f = true ∧ n < 16 ∧ r.en = true ∧ r.err = false; let size := 2 ^ r.lCqLog2; let filled := (r.cqTail + size - r.cqHead) % size; let given := (v % 65536 + size - r.cqHead) % size; usable ∧ (size ≤ v % 65536 ∨ filled < given)) ∧
    (let s : State := on .prompt (fun x => let x := dma x; (x).setRing .pf 15 { Ring.init with en := true, lCqLog2 := 2, lSqLog2 := 2, sqTail := 1 }); let c : ChId := .c0; let w : RingWin := .pf; let n : Nat := 15; let x := s.ch c; let f := winFn w; let takes := x.serves = true ∧ n < 16 ∧ x.mayTake f n = true; takes ∧ x.dmaFault f = none) ∧
    (let s : State := on .prompt (fun x => let x := dma x; (x).setRing .pf 15 { Ring.init with en := true, lCqLog2 := 2, lSqLog2 := 2, sqTail := 1 }); let c : ChId := .c0; let w : RingWin := .pf; let n : Nat := 15; let e : RingEntry := { zRingEntry with code := 1, fence := true }; let x := s.ch c; let f := winFn w; let r := x.ring f n; let takes := x.serves = true ∧ n < 16 ∧ x.mayTake f n = true; takes ∧ x.dmaFault f = none ∧ (e.fence = false ∨ r.taken = []) ∧ knownCode e.code = true) ∧
    (let s : State := on .prompt (fun x => let x := dma x; (x).setRing .pf 15 { Ring.init with en := true, lCqLog2 := 2, lSqLog2 := 2, sqTail := 1 }); let c : ChId := .c0; let w : RingWin := .pf; let n : Nat := 15; let e : RingEntry := { zRingEntry with code := 0xFFFF }; let x := s.ch c; let f := winFn w; let r := x.ring f n; let takes := x.serves = true ∧ n < 16 ∧ x.mayTake f n = true; takes ∧ x.dmaFault f = none ∧ (e.fence = false ∨ r.taken = []) ∧ knownCode e.code = false) := by
  dsimp only
  exact ⟨⟨by decide +kernel, by decide +kernel⟩,
    ⟨by decide +kernel, by decide +kernel⟩,
    ⟨by decide +kernel, by decide +kernel⟩,
    ⟨by decide +kernel, by decide +kernel⟩,
    ⟨by decide +kernel, by decide +kernel, by decide +kernel⟩,
    ⟨by decide +kernel, by decide +kernel⟩,
    ⟨by decide +kernel, by decide +kernel⟩,
    ⟨by decide +kernel, by decide +kernel⟩,
    ⟨by decide +kernel, by decide +kernel, by decide +kernel, by decide +kernel⟩,
    ⟨by decide +kernel, by decide +kernel, by decide +kernel, by decide +kernel⟩⟩

theorem test_wit_RingPairs_2 :
    (let s : State := on .prompt (fun x => let x := dma x; (x).setRing .pf 15 { Ring.init with en := true, lCqLog2 := 2, lSqLog2 := 2, sqTail := 1, taken := [⟨1, 1⟩] }); let c : ChId := .c0; let w : RingWin := .pf; let n : Nat := 15; let e : RingEntry := { zRingEntry with code := 0x0001, fence := true }; let x := s.ch c; let f := winFn w; let r := x.ring f n; let takes := x.serves = true ∧ n < 16 ∧ x.mayTake f n = true; takes ∧ x.dmaFault f = none ∧ e.fence = true ∧ r.taken ≠ []) ∧
    (let s : State := on .prompt (fun x => let x := dma x; (x).setRing .pf 15 { Ring.init with oldest := some 7 }); let c : ChId := .c0; let w : RingWin := .pf; let n : Nat := 15; let t : Nat := 7; let x := s.ch c; let f := winFn w; let r := x.ring f n; r.oldest = some t) ∧
    (let s : State := on .prompt (fun x => let x := dma x; (x).setRing .pf 15 { Ring.init with en := true, lCqLog2 := 2, lSqLog2 := 2 }); let c : ChId := .c0; let w : RingWin := .pf; let n : Nat := 15; let a : Access := ⟨.low, 1⟩; let x := s.ch c; let f := winFn w; x.barLive f = true ∧ n < 16 ∧ reaches a 63 63 = false) ∧
    (let s : State := on .prompt (fun x => let x := dma x; (x).setRing .pf 15 { Ring.init with err := true }); let c : ChId := .c0; let w : RingWin := .pf; let n : Nat := 15; let a : Access := ⟨.both, 2 ^ 63⟩; let x := s.ch c; let f := winFn w; let r := x.ring f n; let word := a.apply r.word; x.barLive f = true ∧ n < 16 ∧ reaches a 63 63 = true ∧ word.testBit 63 = true ∧ r.active = false) ∧
    (let s : State := on .prompt (fun x => let x := dma x; (x).setRing .pf 15 { Ring.init with err := true }); let c : ChId := .c0; let w : RingWin := .pf; let n : Nat := 15; let a : Access := ⟨.high, 2 ^ 63 + 2 ^ 61⟩; let x := s.ch c; let f := winFn w; let r := x.ring f n; let word := a.apply r.word; x.barLive f = true ∧ n < 16 ∧ reaches a 63 63 = true ∧ word.testBit 63 = true ∧ r.active = false) ∧
    (let s : State := on .prompt (fun x => let x := dma x; (x).setRing .pf 15 { Ring.init with en := true, lCqLog2 := 2, lSqLog2 := 2 }); let c : ChId := .c0; let w : RingWin := .pf; let n : Nat := 15; let a : Access := ⟨.both, 2 ^ 63⟩; let x := s.ch c; let f := winFn w; let r := x.ring f n; let word := a.apply r.word; x.barLive f = true ∧ n < 16 ∧ reaches a 63 63 = true ∧ word.testBit 63 = true ∧ r.active = true) ∧
    (let s : State := on .prompt (fun x => let x := dma x; (x).setRing .pf 15 { Ring.init with taken := [⟨1, 1⟩] }); let c : ChId := .c0; let w : RingWin := .pf; let n : Nat := 15; let a : Access := ⟨.both, 2 ^ 63⟩; let x := s.ch c; let f := winFn w; let r := x.ring f n; let word := a.apply r.word; x.barLive f = true ∧ n < 16 ∧ reaches a 63 63 = true ∧ word.testBit 63 = true ∧ r.active = true) ∧
    (let s : State := on .prompt (fun x => let x := dma x; (x).setRing .pf 15 { Ring.init with en := true, lCqLog2 := 2, lSqLog2 := 2 }); let c : ChId := .c0; let w : RingWin := .pf; let n : Nat := 15; let a : Access := ⟨.both, 0⟩; let x := s.ch c; let f := winFn w; let r := x.ring f n; let word := a.apply r.word; x.barLive f = true ∧ n < 16 ∧ reaches a 63 63 = true ∧ word.testBit 63 = false ∧ r.taken = []) ∧
    (let s : State := on .prompt (fun x => let x := dma x; (x).setRing .pf 15 { Ring.init with en := true, lCqLog2 := 2, lSqLog2 := 2, taken := [⟨1, 1⟩] }); let c : ChId := .c0; let w : RingWin := .pf; let n : Nat := 15; let a : Access := ⟨.high, 0⟩; let x := s.ch c; let f := winFn w; let r := x.ring f n; let word := a.apply r.word; x.barLive f = true ∧ n < 16 ∧ reaches a 63 63 = true ∧ word.testBit 63 = false ∧ r.taken ≠ []) := by
  dsimp only
  exact ⟨⟨by decide +kernel, by decide +kernel, by decide +kernel, by decide +kernel⟩,
    by decide +kernel,
    ⟨by decide +kernel, by decide +kernel, by decide +kernel⟩,
    ⟨by decide +kernel, by decide +kernel, by decide +kernel, by decide +kernel, by decide +kernel⟩,
    ⟨by decide +kernel, by decide +kernel, by decide +kernel, by decide +kernel, by decide +kernel⟩,
    ⟨by decide +kernel, by decide +kernel, by decide +kernel, by decide +kernel, by decide +kernel⟩,
    ⟨by decide +kernel, by decide +kernel, by decide +kernel, by decide +kernel, by decide +kernel⟩,
    ⟨by decide +kernel, by decide +kernel, by decide +kernel, by decide +kernel, by decide +kernel⟩,
    ⟨by decide +kernel, by decide +kernel, by decide +kernel, by decide +kernel, by decide +kernel⟩⟩

theorem test_wit_HostFunctions_1 :
    (let s : State := on .prompt (fun x => x.setPci .pf { x.pci .pf with numVfs := 16 }); let c : ChId := .c0; let t : Nat := 15; let f : PciFn := .vf 15; let w : EvqWin := .vf .c0 15; let x := s.ch c; let here := (f = .pf ∧ w = .pf c) ∨ (f = .vf t ∧ w = .vf c t); here ∧ x.barLive f = true) ∧
    (let s : State := on .prompt (fun x => x.setPci .pf { x.pci .pf with numVfs := 16 }); let c : ChId := .c0; let t : Nat := 15; let f : PciFn := .pf; let w : EvqWin := .pf .c0; let x := s.ch c; let here := (f = .pf ∧ w = .pf c) ∨ (f = .vf t ∧ w = .vf c t); here ∧ x.barLive f = true) ∧
    (let s : State := on .prompt (fun x => x.setPci .pf { x.pci .pf with numVfs := 16 }); let c : ChId := .c0; let a : Access := ⟨.both, 2 ^ 63⟩; let t : Nat := 15; let f : PciFn := .vf 15; let w : EvqWin := .vf .c0 15; let x := s.ch c; let here := (f = .pf ∧ w = .pf c) ∨ (f = .vf t ∧ w = .vf c t); let old := x.evq f; here ∧ x.barLive f = true ∧ old.en = false ∧ (a.apply old.word).testBit 63 = true) ∧
    (let s : State := on .prompt (fun x => x.setPci .pf { x.pci .pf with numVfs := 16 }); let c : ChId := .c0; let a : Access := ⟨.both, 2 ^ 63⟩; let t : Nat := 15; let f : PciFn := .pf; let w : EvqWin := .pf .c0; let x := s.ch c; let here := (f = .pf ∧ w = .pf c) ∨ (f = .vf t ∧ w = .vf c t); let old := x.evq f; here ∧ x.barLive f = true ∧ old.en = false ∧ (a.apply old.word).testBit 63 = true) ∧
    (let s : State := on .prompt (fun x => (x.setPci .pf { x.pci .pf with numVfs := 16 }).setEvq (.vf 15) { EvRing.init with pidx := 1 }); let c : ChId := .c0; let a : Access := ⟨.both, 2 ^ 63⟩; let t : Nat := 15; let f : PciFn := .vf 15; let w : EvqWin := .vf .c0 15; let x := s.ch c; let here := (f = .pf ∧ w = .pf c) ∨ (f = .vf t ∧ w = .vf c t); let old := x.evq f; here ∧ x.barLive f = true ∧ (old.consume a).2 = true) ∧
    (let s : State := on .prompt (fun x => x.setPci .pf { x.pci .pf with numVfs := 16 }); let c : ChId := .c0; let a : Access := ⟨.both, 2 ^ 63⟩; let t : Nat := 15; let f : PciFn := .vf 15; let w : EvqWin := .vf .c0 15; let x := s.ch c; let here := (f = .pf ∧ w = .pf c) ∨ (f = .vf t ∧ w = .vf c t); let old := x.evq f; here ∧ x.barLive f = true ∧ (old.consume a).2 = false) ∧
    (let s : State := on .prompt (fun x => { x with host := { x.host with vecs := x.host.vecs.set Vec.init 528 ⟨true, true⟩ } }); let c : ChId := .c0; let t : Nat := 15; let v : Nat := 16; let f : PciFn := .pf; let w : EvqWin := .pf .c0; let x := s.ch c; let here := (f = .pf ∧ w = .pf c) ∨ (f = .vf t ∧ w = .vf c t); let vec := x.host.vecs.getD (f.index * 32 + v) Vec.init; here ∧ x.barLive f = true ∧ v ≤ 16 ∧ vec.masked = true ∧ vec.pending = true) ∧
    (let s : State := on .prompt (fun x => x.setPci .pf { x.pci .pf with numVfs := 16 }); let c : ChId := .c0; let t : Nat := 15; let v : Nat := 16; let f : PciFn := .vf 15; let w : EvqWin := .vf .c0 15; let x := s.ch c; let here := (f = .pf ∧ w = .pf c) ∨ (f = .vf t ∧ w = .vf c t); let vec := x.host.vecs.getD (f.index * 32 + v) Vec.init; here ∧ x.barLive f = true ∧ v ≤ 16 ∧ (vec.masked = false ∨ vec.pending = false)) ∧
    (let s : State := on .prompt (fun x => x.setPci .pf { x.pci .pf with numVfs := 16 }); let c : ChId := .c0; let t : Nat := 15; let v : Nat := 16; let f : PciFn := .pf; let w : EvqWin := .pf .c0; let x := s.ch c; let here := (f = .pf ∧ w = .pf c) ∨ (f = .vf t ∧ w = .vf c t); let vec := x.host.vecs.getD (f.index * 32 + v) Vec.init; here ∧ x.barLive f = true ∧ v ≤ 16 ∧ (vec.masked = false ∨ vec.pending = false)) ∧
    (let s : State := on .prompt (fun x => x.setPci .pf { x.pci .pf with numVfs := 16 }); let c : ChId := .c0; let t : Nat := 15; let f : PciFn := .vf 15; let w : EvqWin := .vf .c0 15; let x := s.ch c; let h := s.hub; let here := (f = .pf ∧ w = .pf c) ∨ (f = .vf t ∧ w = .vf c t); here ∧ h.bus ≠ .lost ∧ x.fnExists f = true) := by
  dsimp only
  exact ⟨⟨by decide +kernel, by decide +kernel⟩,
    ⟨by decide +kernel, by decide +kernel⟩,
    ⟨by decide +kernel, by decide +kernel, by decide +kernel, by decide +kernel⟩,
    ⟨by decide +kernel, by decide +kernel, by decide +kernel, by decide +kernel⟩,
    ⟨by decide +kernel, by decide +kernel, by decide +kernel⟩,
    ⟨by decide +kernel, by decide +kernel, by decide +kernel⟩,
    ⟨by decide +kernel, by decide +kernel, by decide +kernel, by decide +kernel, by decide +kernel⟩,
    ⟨by decide +kernel, by decide +kernel, by decide +kernel, by decide +kernel⟩,
    ⟨by decide +kernel, by decide +kernel, by decide +kernel, by decide +kernel⟩,
    ⟨by decide +kernel, by decide +kernel, by decide +kernel⟩⟩

theorem test_wit_HostFunctions_2 :
    (let s : State := on .prompt (fun x => x.setPci .pf { x.pci .pf with numVfs := 16 }); let c : ChId := .c0; let t : Nat := 15; let f : PciFn := .pf; let w : EvqWin := .pf .c0; let x := s.ch c; let h := s.hub; let here := (f = .pf ∧ w = .pf c) ∨ (f = .vf t ∧ w = .vf c t); here ∧ h.bus ≠ .lost ∧ x.fnExists f = true) ∧
    (let s : State := on .prompt (fun x => x.setPci .pf { x.pci .pf with numVfs := 16 }); let c : ChId := .c0; let t : Nat := 15; let n : Nat := 16; let f : PciFn := .pf; let w : EvqWin := .pf .c0; let x := s.ch c; let h := s.hub; let here := (f = .pf ∧ w = .pf c) ∨ (f = .vf t ∧ w = .vf c t); here ∧ h.bus ≠ .lost ∧ x.fnExists f = true ∧ f = .pf ∧ n ≤ 16) ∧
    (let s : State := on .prompt (fun x => x.setPci .pf { x.pci .pf with numVfs := 16 }); let c : ChId := .c0; let t : Nat := 15; let f : PciFn := .vf 15; let w : EvqWin := .vf .c0 15; let x := s.ch c; let h := s.hub; let here := (f = .pf ∧ w = .pf c) ∨ (f = .vf t ∧ w = .vf c t); here ∧ h.bus ≠ .lost ∧ x.fnExists f = true ∧ f ≠ .pf) ∧
    (let s : State := on .prompt (fun x => x.setPci .pf { x.pci .pf with numVfs := 16 }); let h := s.hub; h.barLive = true) ∧
    (let s : State := on .prompt (fun x => x.setPci .pf { x.pci .pf with numVfs := 16 }); let a : Access := ⟨.high, 0⟩; let h := s.hub; h.barLive = true ∧ reaches a 31 0 = false) ∧
    (let s : State := whub (fun h => { h with vec := ⟨true, true⟩ }); let h := s.hub; h.barLive = true ∧ h.vec.masked = true ∧ h.vec.pending = true) ∧
    (let s : State := whub (fun h => { h with vec := ⟨false, true⟩ }); let h := s.hub; h.barLive = true ∧ h.vec.masked = false) ∧
    (let s : State := on .prompt (fun x => x.setPci .pf { x.pci .pf with numVfs := 16 }); let h := s.hub; h.bus ≠ .lost) ∧
    (let s : State := on .prompt (fun x => let x := dma x; (x).setRing .pf 15 { Ring.init with en := true, lCqLog2 := 2, lSqLog2 := 2, sqTail := 1 }); let c : ChId := .c0; let n : Nat := 15; let q : RingWin := .pf; let x := s.ch c; x.serves = true ∧ n < 16 ∧ x.mayTake (winFn q) n = true) ∧
    (let s : State := on .prompt (fun x => x.setRing .pf 0 { Ring.init with taken := [⟨1, 7⟩] }); let c : ChId := .c0; let src : Src := pf; let x := s.ch c; x.serves = true ∧ (x.ring src.fn src.n).taken.any (fun e => decide (e.cid = src.cid)) = true) := by
  dsimp only
  exact ⟨⟨by decide +kernel, by decide +kernel, by decide +kernel⟩,
    ⟨by decide +kernel, by decide +kernel, by decide +kernel, by decide +kernel, by decide +kernel⟩,
    ⟨by decide +kernel, by decide +kernel, by decide +kernel, by decide +kernel⟩,
    by decide +kernel,
    ⟨by decide +kernel, by decide +kernel⟩,
    ⟨by decide +kernel, by decide +kernel, by decide +kernel⟩,
    ⟨by decide +kernel, by decide +kernel⟩,
    by decide +kernel,
    ⟨by decide +kernel, by decide +kernel, by decide +kernel⟩,
    ⟨by decide +kernel, by decide +kernel⟩⟩

theorem test_wit_Admission :
    (let i : Instr := .fnStop .c0 pf 1; let s : State := wch (fun x => { x with sec := { x.sec with mode := .failed } }); let k : BaseCall := ⟨.c0, pf, ⟨true, false, false⟩, false⟩; let x := s.ch k.ch; callOf i = some k ∧ x.fab.ended = [] ∧ x.serves = false ∧ x.sec.mode ≠ .updating) ∧
    (let i : Instr := .fnStop .c0 vf0 1; let s : State := on .prompt (fun x => x); let k : BaseCall := ⟨.c0, vf0, ⟨true, false, false⟩, false⟩; let x := s.ch k.ch; let called := k.gate.pfOnly = false ∨ k.src.vf = none; callOf i = some k ∧ x.fab.ended = [] ∧ x.serves = true ∧ ¬ called) ∧
    (let i : Instr := .fnStop .c0 pf 1; let s : State := on .prompt (fun x => { x with rel := { x.rel with mode := .shadow } }); let k : BaseCall := ⟨.c0, pf, ⟨true, false, false⟩, false⟩; let x := s.ch k.ch; let called := k.gate.pfOnly = false ∨ k.src.vf = none; let taken := called ∧ (x.rel.mode ≠ .shadow ∨ k.gate.shadowOk = true); callOf i = some k ∧ x.fab.ended = [] ∧ x.serves = true ∧ called ∧ ¬ taken) ∧
    (let i : Instr := .ctxSeal .c0 vf0 h3; let s : State := on .prompt (fun x => x.wr (Reg.TEN_SLOT_CFG 0) 0); let k : BaseCall := ⟨.c0, vf0, ⟨false, false, false⟩, true⟩; let x := s.ch k.ch; let called := k.gate.pfOnly = false ∨ k.src.vf = none; let taken := called ∧ (x.rel.mode ≠ .shadow ∨ k.gate.shadowOk = true); let tagged := (k.gate.needTag = false ∧ k.src.vf = none) ∨ x.tag k.src.slot ≠ 0; callOf i = some k ∧ x.fab.ended = [] ∧ x.serves = true ∧ taken ∧ ¬ tagged) ∧
    (let i : Instr := .ctxSeal .c0 pf h3; let s : State := on .prompt (fun x => { x with ctx := { x.ctx with ready := false } }); let k : BaseCall := ⟨.c0, pf, ⟨false, false, false⟩, true⟩; let x := s.ch k.ch; let called := k.gate.pfOnly = false ∨ k.src.vf = none; let taken := called ∧ (x.rel.mode ≠ .shadow ∨ k.gate.shadowOk = true); let tagged := (k.gate.needTag = false ∧ k.src.vf = none) ∨ x.tag k.src.slot ≠ 0; callOf i = some k ∧ x.fab.ended = [] ∧ x.serves = true ∧ taken ∧ tagged ∧ k.onTable = true ∧ x.ctx.ready = false) := by
  dsimp only
  exact ⟨⟨by decide +kernel, by decide +kernel, by decide +kernel, by decide +kernel⟩,
    ⟨by decide +kernel, by decide +kernel, by decide +kernel, by decide +kernel⟩,
    ⟨by decide +kernel, by decide +kernel, by decide +kernel, by decide +kernel, by decide +kernel⟩,
    ⟨by decide +kernel, by decide +kernel, by decide +kernel, by decide +kernel, by decide +kernel⟩,
    ⟨by decide +kernel, by decide +kernel, by decide +kernel, by decide +kernel, by decide +kernel, by decide +kernel, by decide +kernel⟩⟩

theorem test_wit_RecordFrames :
    (let x : Chan := dma State.reset.ch0; let src : Src := pf; (x.dmaFault src.fn = none ∨ (x.ring src.fn src.n).err = true)) ∧
    (let x : Chan := State.reset.ch0.setRing .pf 0 { Ring.init with err := true }; let src : Src := pf; (x.dmaFault src.fn = none ∨ (x.ring src.fn src.n).err = true)) := by
  dsimp only
  exact ⟨by decide +kernel,
    by decide +kernel⟩

theorem test_wit_InstructionWords :
    (let op : Nat := 255; let f : IFields := ⟨true, 7, 31, 31, 31, 31, 2 ^ 32 - 1⟩; op < 256 ∧ f.fits = true) ∧
    (let scr := 127; let pm := 127; let vm := 65535; let sm := 2 ^ 31 - 1; scr < 128 ∧ pm < 128 ∧ vm < 65536 ∧ sm < 2 ^ 31) ∧
    (let op := 0; let f := f0; wordOk op f = true) := by
  dsimp only
  exact ⟨⟨by decide +kernel, by decide +kernel⟩,
    ⟨by decide +kernel, by decide +kernel, by decide +kernel, by decide +kernel⟩,
    by decide +kernel⟩

theorem test_wit_Steps :
    (let i : Instr := .pcieCorrectableError; let rest : List Instr := []; let s : State := { State.reset with pending := [.pcieCorrectableError] }; s.pending = i :: rest) ∧
    (let s : State := State.reset; s.pending = []) := by
  dsimp only
  exact ⟨by decide +kernel,
    by decide +kernel⟩

/-! ### Witnesses: The context table -/

theorem test_wit_ContextOpen_1 :
    (let s : State := on .prompt (fun x => x.wr Reg.CHN_EID 0); let c : ChId := .c0; let src : Src := pf; let x := s.ch c; x.admitsCtx src ⟨false, false, true⟩ = true ∧ x.eid = none) ∧
    (let s : State := on .prompt id; let c : ChId := .c0; let src : Src := pf; let flags : Nat := 1; let x := s.ch c; x.admitsCtx src ⟨false, false, true⟩ = true ∧ x.eid ≠ none ∧ x.roleOpens (flags.testBit 0) = false) ∧
    (let s : State := on .prompt (fun x => x.setFn 0 { x.fn 0 with st := .stopping }); let c : ChId := .c0; let src : Src := pf; let flags : Nat := 0; let x := s.ch c; x.admitsCtx src ⟨false, false, true⟩ = true ∧ x.eid ≠ none ∧ x.roleOpens (flags.testBit 0) = true ∧ x.fnState 0 = .stopping) ∧
    (let s : State := on .prompt id; let c : ChId := .c0; let src : Src := pf; let prio : Nat := 8; let profile : Nat := 0; let red : Nat := 3; let flags : Nat := 0; let x := s.ch c; let operands := prio ≤ 7 ∧ flags ≤ 3 ∧ profile ≤ 15 ∧ x.profOk profile = true ∧ (x.geom profile).redunOk red = true; x.admitsCtx src ⟨false, false, true⟩ = true ∧ x.eid ≠ none ∧ x.roleOpens (flags.testBit 0) = true ∧ x.fnState 0 ≠ .stopping ∧ ¬ operands) ∧
    (let s : State := on .prompt id; let c : ChId := .c0; let src : Src := pf; let prio : Nat := 7; let profile : Nat := 1; let red : Nat := 3; let flags : Nat := 0; let x := s.ch c; let operands := prio ≤ 7 ∧ flags ≤ 3 ∧ profile ≤ 15 ∧ x.profOk profile = true ∧ (x.geom profile).redunOk red = true; x.admitsCtx src ⟨false, false, true⟩ = true ∧ x.eid ≠ none ∧ x.roleOpens (flags.testBit 0) = true ∧ x.fnState 0 ≠ .stopping ∧ ¬ operands) ∧
    (let s : State := on .prompt id; let c : ChId := .c0; let src : Src := pf; let prio : Nat := 7; let profile : Nat := 0; let red : Nat := 3; let flags : Nat := 4; let x := s.ch c; let operands := prio ≤ 7 ∧ flags ≤ 3 ∧ profile ≤ 15 ∧ x.profOk profile = true ∧ (x.geom profile).redunOk red = true; x.admitsCtx src ⟨false, false, true⟩ = true ∧ x.eid ≠ none ∧ x.roleOpens (flags.testBit 0) = true ∧ x.fnState 0 ≠ .stopping ∧ ¬ operands) ∧
    (let s : State := on .prompt (fun x => ctx3 (ent .sealed) x); let c : ChId := .c0; let src : Src := pf; let req : Nat := 42; let prio : Nat := 7; let profile : Nat := 0; let red : Nat := 3; let flags : Nat := 0; let e : Nat × Entry := (3, (on .prompt (fun x => ctx3 (ent .sealed) x)).ch0.entry 3); let es : List (Nat × Entry) := []; let x := s.ch c; let t := src.slot; let operands := prio ≤ 7 ∧ flags ≤ 3 ∧ profile ≤ 15 ∧ x.profOk profile = true ∧ (x.geom profile).redunOk red = true; let live := (x.entriesOf t req).filter (fun e => decide (e.2.state ≠ .retired)); x.admitsCtx src ⟨false, false, true⟩ = true ∧ x.eid ≠ none ∧ x.roleOpens (flags.testBit 0) = true ∧ x.fnState 0 ≠ .stopping ∧ operands ∧ live = e :: es) ∧
    (let s : State := on .prompt (fun x => ctx3 (ent .retired) x); let c : ChId := .c0; let src : Src := pf; let req : Nat := 42; let prio : Nat := 7; let profile : Nat := 0; let red : Nat := 3; let flags : Nat := 0; let x := s.ch c; let t := src.slot; let operands := prio ≤ 7 ∧ flags ≤ 3 ∧ profile ≤ 15 ∧ x.profOk profile = true ∧ (x.geom profile).redunOk red = true; let live := (x.entriesOf t req).filter (fun e => decide (e.2.state ≠ .retired)); x.admitsCtx src ⟨false, false, true⟩ = true ∧ x.eid ≠ none ∧ x.roleOpens (flags.testBit 0) = true ∧ x.fnState 0 ≠ .stopping ∧ operands ∧ live = [] ∧ x.entriesOf t req ≠ []) ∧
    (let s : State := on .prompt (fun x => x.wr (Reg.CTX_TEN_LIMIT 0) 0); let c : ChId := .c0; let src : Src := pf; let req : Nat := 42; let prio : Nat := 7; let profile : Nat := 0; let red : Nat := 3; let flags : Nat := 0; let x := s.ch c; let t := src.slot; let operands := prio ≤ 7 ∧ flags ≤ 3 ∧ profile ≤ 15 ∧ x.profOk profile = true ∧ (x.geom profile).redunOk red = true; x.admitsCtx src ⟨false, false, true⟩ = true ∧ x.eid ≠ none ∧ x.roleOpens (flags.testBit 0) = true ∧ x.fnState 0 ≠ .stopping ∧ operands ∧ x.entriesOf t req = [] ∧ x.quotaFull t = true) ∧
    (let s : State := on .prompt (fun x => { x with ctx := { x.ctx with freeQ := [] } }); let c : ChId := .c0; let src : Src := pf; let req : Nat := 42; let prio : Nat := 7; let profile : Nat := 0; let red : Nat := 3; let flags : Nat := 0; let x := s.ch c; let t := src.slot; let operands := prio ≤ 7 ∧ flags ≤ 3 ∧ profile ≤ 15 ∧ x.profOk profile = true ∧ (x.geom profile).redunOk red = true; x.admitsCtx src ⟨false, false, true⟩ = true ∧ x.eid ≠ none ∧ x.roleOpens (flags.testBit 0) = true ∧ x.fnState 0 ≠ .stopping ∧ operands ∧ x.entriesOf t req = [] ∧ x.quotaFull t = false ∧ x.noSlot = true) := by
  dsimp only
  exact ⟨⟨by decide +kernel, by decide +kernel⟩,
    ⟨by decide +kernel, by decide +kernel, by decide +kernel⟩,
    ⟨by decide +kernel, by decide +kernel, by decide +kernel, by decide +kernel⟩,
    ⟨by decide +kernel, by decide +kernel, by decide +kernel, by decide +kernel, by decide +kernel⟩,
    ⟨by decide +kernel, by decide +kernel, by decide +kernel, by decide +kernel, by decide +kernel⟩,
    ⟨by decide +kernel, by decide +kernel, by decide +kernel, by decide +kernel, by decide +kernel⟩,
    ⟨by decide +kernel, by decide +kernel, by decide +kernel, by decide +kernel, by decide +kernel, by decide +kernel⟩,
    ⟨by decide +kernel, by decide +kernel, by decide +kernel, by decide +kernel, by decide +kernel, by decide +kernel, by decide +kernel⟩,
    ⟨by decide +kernel, by decide +kernel, by decide +kernel, by decide +kernel, by decide +kernel, by decide +kernel, by decide +kernel⟩,
    ⟨by decide +kernel, by decide +kernel, by decide +kernel, by decide +kernel, by decide +kernel, by decide +kernel, by decide +kernel, by decide +kernel⟩⟩

theorem test_wit_ContextOpen_2 :
    (let s : State := on .prompt (fun x => { x.wr (Reg.MTR_TEN_CFG 0) (2 ^ 63) with mtr := { x.mtr with absent := true } }); let c : ChId := .c0; let src : Src := pf; let req : Nat := 42; let prio : Nat := 7; let profile : Nat := 0; let red : Nat := 3; let flags : Nat := 0; let x := s.ch c; let t := src.slot; let operands := prio ≤ 7 ∧ flags ≤ 3 ∧ profile ≤ 15 ∧ x.profOk profile = true ∧ (x.geom profile).redunOk red = true; x.admitsCtx src ⟨false, false, true⟩ = true ∧ x.eid ≠ none ∧ x.roleOpens (flags.testBit 0) = true ∧ x.fnState 0 ≠ .stopping ∧ operands ∧ x.entriesOf t req = [] ∧ x.quotaFull t = false ∧ x.noSlot = false ∧ x.paused t = true) ∧
    (let s : State := on .prompt id; let c : ChId := .c0; let src : Src := pf; let req : Nat := 42; let prio : Nat := 7; let budget : Nat := 2 ^ 64 - 1; let profile : Nat := 0; let red : Nat := 3; let flags : Nat := 0; let x := s.ch c; let t := src.slot; let operands := prio ≤ 7 ∧ flags ≤ 3 ∧ profile ≤ 15 ∧ x.profOk profile = true ∧ (x.geom profile).redunOk red = true; ∃ (slot : Nat) (gen : Nat) (y : Chan), x.admitsCtx src ⟨false, false, true⟩ = true ∧ x.eid ≠ none ∧ x.roleOpens (flags.testBit 0) = true ∧ x.fnState 0 ≠ .stopping ∧ operands ∧ x.entriesOf t req = [] ∧ x.quotaFull t = false ∧ x.noSlot = false ∧ x.paused t = false ∧ x.nextSlot = some (slot, gen, y) ∧ x.time + budget < 2 ^ 64) := by
  dsimp only
  exact ⟨⟨by decide +kernel, by decide +kernel, by decide +kernel, by decide +kernel, by decide +kernel, by decide +kernel, by decide +kernel, by decide +kernel, by decide +kernel⟩,
    (by apply Exists.intro; apply Exists.intro; apply Exists.intro; refine ⟨?p9_0, ?p9_1, ?p9_2, ?p9_3, ?p9_4, ?p9_5, ?p9_6, ?p9_7, ?p9_8, ?p9_9, ?p9_10⟩; (case p9_0 => decide +kernel); (case p9_1 => decide +kernel); (case p9_2 => decide +kernel); (case p9_3 => decide +kernel); (case p9_4 => decide +kernel); (case p9_5 => decide +kernel); (case p9_6 => decide +kernel); (case p9_7 => decide +kernel); (case p9_8 => decide +kernel); (case p9_9 => rfl); (case p9_10 => decide +kernel))⟩

theorem test_wit_ContextCommands_1 :
    (let s : State := on .prompt (fun x => ctx3 (ent .prefilling) x); let c : ChId := .c0; let src : Src := pf; let h : Nat := h3 + 1; let st : Nat := 0x20; let x := s.ch c; let adm := fun a => x.admitsCtx src a = true; x.checkHandle h = .error st ∧ adm ⟨false, true, false⟩) ∧
    (let s : State := on .prompt (fun x => ctx3 (ent .prefilling) x); let c : ChId := .c0; let src : Src := pf; let h : Nat := 0; let st : Nat := 0x21; let x := s.ch c; let adm := fun a => x.admitsCtx src a = true; x.checkHandle h = .error st ∧ adm ⟨false, true, false⟩) ∧
    (let s : State := on .prompt (fun x => ctx3 (ent .prefilling) x); let c : ChId := .c0; let src : Src := pf; let req : Nat := 42; let f : Nat × Entry := (3, (on .prompt (fun x => ctx3 (ent .prefilling) x)).ch0.entry 3); let fs : List (Nat × Entry) := []; let x := s.ch c; let adm := fun a => x.admitsCtx src a = true; let live := (x.entriesOf src.slot req).filter (fun e => decide (e.2.state ≠ .retired)); adm ⟨false, true, true⟩ ∧ live = f :: fs) ∧
    (let s : State := on .prompt (fun x => ctx3 (ent .prefilling) x); let c : ChId := .c0; let src : Src := pf; let req : Nat := 43; let x := s.ch c; let adm := fun a => x.admitsCtx src a = true; adm ⟨false, true, true⟩ ∧ x.entriesOf src.slot req = []) ∧
    (let s : State := on .prompt (fun x => ctx3 (ent .prefilling) x); let c : ChId := .c0; let src : Src := pf; let h : Nat := h3; let slot : Nat := 3; let x := s.ch c; let e := x.entry slot; let adm := fun a => x.admitsCtx src a = true; x.owns src h slot = true ∧ adm ⟨false, false, false⟩ ∧ e.state = .prefilling ∧ x.ctx.sealing.find slot = none) ∧
    (let s : State := on .prompt (fun x => ctx3 (ent .decoding) x); let c : ChId := .c0; let src : Src := pf; let h : Nat := h3; let slot : Nat := 3; let x := s.ch c; let e := x.entry slot; let adm := fun a => x.admitsCtx src a = true; x.owns src h slot = true ∧ adm ⟨false, false, false⟩ ∧ e.state ≠ .prefilling) ∧
    (let s : State := on .prompt (fun x => ctx3 (ent .retired) x); let c : ChId := .c0; let src : Src := pf; let h : Nat := h3; let slot : Nat := 3; let x := s.ch c; let e := x.entry slot; let adm := fun a => x.admitsCtx src a = true; x.owns src h slot = true ∧ adm ⟨false, true, false⟩ ∧ e.state = .retired) ∧
    (let s : State := on .prompt (fun x => ctx3 (ent .offered) x); let c : ChId := .c0; let src : Src := pf; let h : Nat := h3; let slot : Nat := 3; let x := s.ch c; let e := x.entry slot; let adm := fun a => x.admitsCtx src a = true; x.owns src h slot = true ∧ adm ⟨false, true, false⟩ ∧ (e.state = .offered ∨ e.state = .inbound)) ∧
    (let s : State := on .prompt (fun x => ctx3 (ent .prefilling) x); let c : ChId := .c0; let src : Src := pf; let h : Nat := h3; let slot : Nat := 3; let x := s.ch c; let e := x.entry slot; let adm := fun a => x.admitsCtx src a = true; x.owns src h slot = true ∧ adm ⟨false, true, false⟩ ∧ (e.state = .prefilling ∨ e.state = .sealed ∨ e.state = .decoding ∨ e.state = .parked ∨ e.state = .faulted)) ∧
    (let s : State := on .prompt (fun x => ctx3 (ent .faulted) x); let c : ChId := .c0; let src : Src := pf; let h : Nat := h3; let slot : Nat := 3; let x := s.ch c; let e := x.entry slot; let adm := fun a => x.admitsCtx src a = true; x.owns src h slot = true ∧ adm ⟨false, true, false⟩ ∧ (e.state = .prefilling ∨ e.state = .sealed ∨ e.state = .decoding ∨ e.state = .parked ∨ e.state = .faulted)) := by
  dsimp only
  exact ⟨⟨rfl, by decide +kernel⟩,
    ⟨rfl, by decide +kernel⟩,
    ⟨by decide +kernel, by decide +kernel⟩,
    ⟨by decide +kernel, by decide +kernel⟩,
    ⟨by decide +kernel, by decide +kernel, by decide +kernel, by decide +kernel⟩,
    ⟨by decide +kernel, by decide +kernel, by decide +kernel⟩,
    ⟨by decide +kernel, by decide +kernel, by decide +kernel⟩,
    ⟨by decide +kernel, by decide +kernel, by decide +kernel⟩,
    ⟨by decide +kernel, by decide +kernel, by decide +kernel⟩,
    ⟨by decide +kernel, by decide +kernel, by decide +kernel⟩⟩

theorem test_wit_ContextCommands_2 :
    (let s : State := on .prompt (fun x => ctx3 (ent .prefilling) x); let c : ChId := .c0; let src : Src := vf0; let h : Nat := h3; let slot : Nat := 3; let x := s.ch c; let adm := fun a => x.admitsCtx src a = true; x.owns src h slot = true ∧ adm ⟨false, true, false⟩) ∧
    (let s : State := on .prompt (fun x => ctx3 (ent .prefilling) x); let c : ChId := .c0; let src : Src := pf; let h : Nat := h3; let slot : Nat := 3; let mask : Nat := 3; let prio : Nat := 7; let budget : Nat := 5; let x := s.ch c; let e := x.entry slot; let adm := fun a => x.admitsCtx src a = true; x.owns src h slot = true ∧ adm ⟨false, false, false⟩ ∧ (e.state = .prefilling ∨ e.state = .sealed ∨ e.state = .decoding ∨ e.state = .parked) ∧ mask < 4 ∧ mask ≠ 0 ∧ (mask.testBit 0 = true → prio ≤ 7) ∧ x.time + budget < 2 ^ 64) ∧
    (let s : State := on .prompt (fun x => ctx3 (ent .faulted) x); let c : ChId := .c0; let src : Src := pf; let h : Nat := h3; let slot : Nat := 3; let x := s.ch c; let e := x.entry slot; let adm := fun a => x.admitsCtx src a = true; x.owns src h slot = true ∧ adm ⟨false, false, false⟩ ∧ (e.state = .retired ∨ e.state = .faulted)) ∧
    (let s : State := on .prompt (fun x => ctx3 (ent .prefilling) x); let c : ChId := .c0; let src : Src := pf; let h : Nat := h3; let slot : Nat := 3; let amount : Nat := 2 ^ 32 - 1; let x := s.ch c; let e := x.entry slot; let adm := fun a => x.admitsCtx src a = true; x.owns src h slot = true ∧ adm ⟨false, false, false⟩ ∧ e.state ≠ .retired ∧ e.state ≠ .faulted ∧ e.state ≠ .inbound ∧ 0 < amount ∧ amount < 2 ^ 32) := by
  dsimp only
  exact ⟨⟨by decide +kernel, by decide +kernel⟩,
    ⟨by decide +kernel, by decide +kernel, by decide +kernel, by decide +kernel, by decide +kernel, by decide +kernel, by decide +kernel⟩,
    ⟨by decide +kernel, by decide +kernel, by decide +kernel⟩,
    ⟨by decide +kernel, by decide +kernel, by decide +kernel, by decide +kernel, by decide +kernel, by decide +kernel, by decide +kernel⟩⟩

theorem test_wit_ContextTimers :
    (let s : State := on .prompt (fun x => let x := ctx3 (ent .prefilling) x; { x with ctx := { x.ctx with sealing := [(3, pf)] } }); let c : ChId := .c0; let slot : Nat := 3; let src : Src := pf; let x := s.ch c; let e := x.entry slot; x.ctx.sealing.find slot = some src ∧ e.state = .prefilling ∧ (x.map slot).staged = []) ∧
    (let s : State := on .prompt (fun x => ctx3 (ent .draining) x); let c : ChId := .c0; let slot : Nat := 3; let x := s.ch c; let e := x.entry slot; e.state = .draining ∧ x.drained slot = true ∧ e.refs = 0) ∧
    (let s : State := on .prompt (fun x => ctx3 { ent .draining with refs := 1 } x); let c : ChId := .c0; let slot : Nat := 3; let x := s.ch c; let e := x.entry slot; e.state = .draining ∧ x.drained slot = true ∧ e.refs ≠ 0 ∧ e.sub ≠ 1) ∧
    (let s : State := on .prompt (fun x => ctx3 { ent .decoding with deadline := 1 } x); let c : ChId := .c0; let slot : Nat := 3; let x := s.ch c; let e := x.entry slot; e.deadline ≠ 0 ∧ e.state ≠ .free ∧ e.state ≠ .retired ∧ x.ctx.deadlineDone.find slot ≠ some e.deadline) ∧
    (let s : State := on .prompt (fun x => ctx3 (ent .retired) x); let c : ChId := .c0; let slot : Nat := 3; let x := s.ch c; let e := x.entry slot; e.state = .retired) ∧
    (let s : State := State.reset; let c : ChId := .c0; let t : Nat := 100000000; let x := s.ch c; x.ctx.holdUntil = some t) ∧
    (let s : State := on .prompt (fun x => let x := ctx3 (ent .decoding) x; x.journal 3 2 (x.entry 3)); let c : ChId := .c0; let slot : Nat := 3; let cause : Nat := 2; let x := s.ch c; let j := x.ctx.journal; ∃ (r : JRec), (j.recs.find? (fun r => decide (r.slot = slot ∧ r.cause = cause)) = some r)) := by
  dsimp only
  exact ⟨⟨by decide +kernel, by decide +kernel, by decide +kernel⟩,
    ⟨by decide +kernel, by decide +kernel, by decide +kernel⟩,
    ⟨by decide +kernel, by decide +kernel, by decide +kernel, by decide +kernel⟩,
    ⟨by decide +kernel, by decide +kernel, by decide +kernel, by decide +kernel⟩,
    by decide +kernel,
    by decide +kernel,
    (by apply Exists.intro; refine ?p6_0; (case p6_0 => rfl))⟩

theorem test_wit_RegisterWrites :
    (let s : State := State.reset; let c : ChId := .c0; let off : Nat := 0xAF8000; let x := s.ch c; x.regsLive = true ∧ x.ownRow off = false ∧ (off < 0xB10000 ∨ 0xB20000 ≤ off) ∧ schedOffset off = none ∧ off ≠ Reg.TM_SMP_CFG ∧ (∀ j < 16, off ≠ Reg.REL_HB_PEER j)) ∧
    (let s : State := wch (fun x => { x with pwr := { x.pwr with st := .c2 } }); let c : ChId := .c0; let x := s.ch c; x.regsLive = false ∧ x.sec.mode ≠ .recovery) ∧
    (let s : State := on .prompt (fun x => { x with host := { x.host with pci := [(16, ⟨true, false, 1⟩)] } }); let c : ChId := .c0; let off : Nat := 0x3040; let t : Nat := 0; let i : Nat := 1; let x := s.ch c; let r := x.ring (.vf t) i; ∃ (d : RegDesc) (ix : List Nat), x.serves = true ∧ t < 16 ∧ x.barLive (.vf t) = true ∧ findReg vfRegs off = some (d, ix) ∧ ix.headD 0 = i ∧ r.en = false ∧ d.name = "TEN_SQ_BASE") ∧
    (let s : State := on .prompt (fun x => { x with host := { x.host with pci := [(16, ⟨true, false, 1⟩)] } }); let c : ChId := .c0; let off : Nat := 0x3048; let t : Nat := 0; let i : Nat := 1; let x := s.ch c; let r := x.ring (.vf t) i; ∃ (d : RegDesc) (ix : List Nat), x.serves = true ∧ t < 16 ∧ x.barLive (.vf t) = true ∧ findReg vfRegs off = some (d, ix) ∧ ix.headD 0 = i ∧ r.en = false ∧ d.name = "TEN_CQ_BASE") ∧
    (let s : State := State.reset; s.hub.barLive = true) ∧
    (let s : State := on .prompt id; let c : ChId := .c0; let n : Nat := 0x10; let x := s.ch c; x.regsLive = true ∧ x.portLock = some n) ∧
    (let s : State := State.reset; let c : ChId := .c0; let x := s.ch c; x.regsLive = true ∧ x.portLock = none) ∧
    (let s : State := State.reset; let c : ChId := .c0; let a : Access := ⟨.both, 1⟩; let x := s.ch c; x.regsLive = true ∧ reaches a 13 0 = true) := by
  dsimp only
  exact ⟨⟨by decide +kernel, by decide +kernel, by decide +kernel, by decide +kernel, by decide +kernel, by decide +kernel⟩,
    ⟨by decide +kernel, by decide +kernel⟩,
    (by apply Exists.intro; apply Exists.intro; refine ⟨?p2_0, ?p2_1, ?p2_2, ?p2_3, ?p2_4, ?p2_5, ?p2_6⟩; (case p2_0 => decide +kernel); (case p2_1 => decide +kernel); (case p2_2 => decide +kernel); (case p2_3 => rfl); (case p2_4 => decide +kernel); (case p2_5 => decide +kernel); (case p2_6 => decide +kernel)),
    (by apply Exists.intro; apply Exists.intro; refine ⟨?p3_0, ?p3_1, ?p3_2, ?p3_3, ?p3_4, ?p3_5, ?p3_6⟩; (case p3_0 => decide +kernel); (case p3_1 => decide +kernel); (case p3_2 => decide +kernel); (case p3_3 => rfl); (case p3_4 => decide +kernel); (case p3_5 => decide +kernel); (case p3_6 => decide +kernel)),
    by decide +kernel,
    ⟨by decide +kernel, by decide +kernel⟩,
    ⟨by decide +kernel, by decide +kernel⟩,
    ⟨by decide +kernel, by decide +kernel⟩⟩

/-! ### Witnesses: Pages and placement -/

/-- The head of a group record of 32 tokens of layer 1 as pg.import takes it, with the given CRC, and the record. -/
def impHead (crc : Nat) : List Byte :=
  leBytes 4 0 ++ leBytes 4 0 ++ leBytes 2 1 ++ leBytes 1 5 ++ leBytes 1 3 ++ leBytes 4 1088 ++ leBytes 1 1 ++ List.replicate 15 0 ++ leBytes 4 0 ++
    List.replicate 24 0 ++ leBytes 4 crc
def imp (crc : Nat) : List Byte := impHead crc ++ List.replicate 2176 0

/-- The CRC of that record, which does not cover its own bytes. -/
def impCrc : Nat := crc32c ((impHead 0).take 60 ++ List.replicate 2176 0)

theorem crcBits_lt (n : Nat) : ∀ c, c < 2 ^ 32 → crcBits n c < 2 ^ 32 := by
  induction n with
  | zero => intro c h; exact h
  | succ n ih =>
    intro c h
    simp only [crcBits]
    split
    · exact ih _ (Nat.xor_lt_two_pow (by omega) (by decide))
    · exact ih _ (by omega)

theorem crc32c_lt (l : List Byte) : crc32c l < 2 ^ 32 := by
  have h : ∀ (l : List Byte) c, c < 2 ^ 32 → l.foldl (fun c b => crcBits 8 (c ^^^ b.toNat)) c < 2 ^ 32 := by
    intro l
    induction l with
    | nil => intro c h; exact h
    | cons b t ih => intro c h; exact ih _ (crcBits_lt 8 _ (Nat.xor_lt_two_pow h (by have := b.isLt; omega)))
  exact Nat.xor_lt_two_pow (h l _ (by decide)) (by decide)

theorem imp_crc (v : Nat) (h : v < 2 ^ 32) : leVal (((imp v).drop 60).take 4) = v := by
  have h1 : ((imp v).drop 60).take 4 = leBytes 4 v := by
    unfold imp
    rw [List.drop_append_of_le_length (by show 60 ≤ 64; decide), List.take_append_of_le_length (by show 4 ≤ 4; decide)]
    rfl
  rw [h1, leVal_leBytes]; omega

theorem imp_covered (v : Nat) : crc32c ((imp v).take 60 ++ (imp v).drop 64) = impCrc := by
  unfold imp impCrc
  rw [List.take_append_of_le_length (by show 60 ≤ 64; decide), List.drop_left' (by rfl)]
  rfl

theorem impCrc_next : (impCrc + 1) % 2 ^ 32 ≠ impCrc := by
  have h : impCrc < 2 ^ 32 := crc32c_lt _
  generalize impCrc = v at h
  omega

theorem test_wit_PageCommands_1 :
    (let s : State := on .prompt (fun x => let x := ctx3 (ent .decoding) x; { x with fab := { x.fab with pds := [(1, ⟨0, false⟩)] } }); let c : ChId := .c0; let src : Src := pf; let h : Nat := h3; let slot : Nat := 3; let pd : Nat := 1; let x := s.ch c; let e := x.entry slot; let adm := fun pf => x.admitsCtx src ⟨pf, false, false⟩ = true; ∃ (r : Nat) (y : Chan), x.owns src h slot = true ∧ adm false ∧ (e.state = .prefilling ∨ e.state = .decoding) ∧ x.pdSlot pd = some e.tslot ∧ x.needWindow slot pd src.vf.isSome = some (r, y)) ∧
    (let s : State := on .prompt (fun x => ctx3 (ent .sealed) x); let c : ChId := .c0; let src : Src := pf; let h : Nat := h3; let slot : Nat := 3; let x := s.ch c; let e := x.entry slot; let adm := fun pf => x.admitsCtx src ⟨pf, false, false⟩ = true; x.owns src h slot = true ∧ adm false ∧ (e.state ≠ .prefilling ∧ e.state ≠ .decoding)) ∧
    (let s : State := on .prompt (fun x => let x := ctx3 (ent .prefilling) x; x.setEntry 4 { x.entry 3 with state := .sealed, gen := 2, committed := 15 }); let c : ChId := .c0; let src : Src := pf; let h : Nat := h3; let slot : Nat := 3; let owner : Nat := 5 * 2 ^ 30 + 4 * 2 ^ 16 + 2; let n : Nat := 1; let o : Nat := 4; let x := s.ch c; let e := x.entry slot; let adm := fun pf => x.admitsCtx src ⟨pf, false, false⟩ = true; x.owns src h slot = true ∧ adm false ∧ x.actingRole ≠ .unassigned ∧ x.attachable slot = true ∧ 0 < n ∧ n ≤ 2 ^ 18 ∧ x.paused e.tslot = false ∧ bits owner 47 30 = x.fget Reg.CHN_EID 17 0 ∧ x.checkHandle owner = .ok o ∧ (src.vf = none ∨ (x.entry o).tslot = e.tslot) ∧ x.ownerFits slot o n = false) ∧
    (let s : State := on .prompt (fun x => let x := ctx3 (ent .prefilling) x; x.setEntry 4 { x.entry 3 with state := .sealed, gen := 2, committed := 16 }); let c : ChId := .c0; let src : Src := pf; let h : Nat := h3; let slot : Nat := 3; let owner : Nat := 5 * 2 ^ 30 + 4 * 2 ^ 16 + 2; let n : Nat := 1; let o : Nat := 4; let x := s.ch c; let e := x.entry slot; let adm := fun pf => x.admitsCtx src ⟨pf, false, false⟩ = true; ∃ (y : Chan), x.owns src h slot = true ∧ adm false ∧ x.actingRole ≠ .unassigned ∧ x.attachable slot = true ∧ 0 < n ∧ n ≤ 2 ^ 18 ∧ x.paused e.tslot = false ∧ bits owner 47 30 = x.fget Reg.CHN_EID 17 0 ∧ x.checkHandle owner = .ok o ∧ (src.vf = none ∨ (x.entry o).tslot = e.tslot) ∧ x.ownerFits slot o n = true ∧ x.needBlocks slot n = some y) ∧
    (let s : State := on .prompt (fun x => ctx3 (ent .prefilling) x); let c : ChId := .c0; let src : Src := pf; let h : Nat := h3; let slot : Nat := 3; let owner : Nat := 6 * 2 ^ 30 + 4 * 2 ^ 16 + 2; let n : Nat := 1; let x := s.ch c; let e := x.entry slot; let adm := fun pf => x.admitsCtx src ⟨pf, false, false⟩ = true; ∃ (y : Chan), x.owns src h slot = true ∧ adm false ∧ x.actingRole ≠ .unassigned ∧ x.attachable slot = true ∧ 0 < n ∧ n ≤ 2 ^ 18 ∧ x.paused e.tslot = false ∧ bits owner 47 30 ≠ x.fget Reg.CHN_EID 17 0 ∧ x.eid ≠ none ∧ x.needBlocks slot n = some y) ∧
    (let s : State := on .prompt (fun x => ctx3 { ent .parked with isPrivate := true } x); let c : ChId := .c0; let src : Src := pf; let h : Nat := h3; let slot : Nat := 3; let x := s.ch c; let e := x.entry slot; let adm := fun pf => x.admitsCtx src ⟨pf, false, false⟩ = true; let exports := (e.state = .sealed ∨ e.state = .parked ∨ e.state = .faulted); x.owns src h slot = true ∧ adm true ∧ exports ∧ e.isPrivate = true) ∧
    (let s : State := on .prompt (fun x => let x := ctx3 (ent .faulted) x; { x with host := { x.host with pci := [(16, ⟨true, false, 0⟩)] } }); let c : ChId := .c0; let src : Src := pf; let h : Nat := h3; let slot : Nat := 3; let layer : Nat := 1; let first : Nat := 32; let log2 : Nat := 5; let x := s.ch c; let e := x.entry slot; let geo := x.geom e.profile; let adm := fun pf => x.admitsCtx src ⟨pf, false, false⟩ = true; let gs := (List.range (2 ^ log2 / 16)).map (fun i => first / 16 + i); let live := gs.flatMap (fun g => (List.range geo.parts).filterMap (fun j => (x.pageAddr slot g layer j 0).map (fun a => (a, geo.partBytes)))); let exports := (e.state = .sealed ∨ e.state = .parked ∨ e.state = .faulted); ∃ (y : Chan) (z : Chan) (body : List Byte), x.owns src h slot = true ∧ adm true ∧ exports ∧ e.isPrivate = false ∧ layer < geo.layers ∧ 5 ≤ log2 ∧ log2 ≤ 12 ∧ first % 2 ^ log2 = 0 ∧ first < 2 ^ 22 ∧ x.eccReads live 4 = (true, y) ∧ y.exportPages slot layer gs = (body, z) ∧ z.handle slot = x.handle slot ∧ z.dmaFault src.fn = none) ∧
    (let s : State := on .prompt (fun x => ctx3 (ent .sealed) x); let c : ChId := .c0; let src : Src := pf; let h : Nat := h3; let slot : Nat := 3; let x := s.ch c; let e := x.entry slot; let adm := fun pf => x.admitsCtx src ⟨pf, false, false⟩ = true; x.owns src h slot = true ∧ adm true ∧ e.state ≠ .inbound) ∧
    (let s : State := on .prompt (fun x => (({ ctx3 (ent .sealed) x with host := { x.host with pci := [(16, ⟨true, false, 0⟩)] } }).setFn 0 FnRec.init)); let c : ChId := .c0; let src : Src := pf; let h : Nat := h3; let slot : Nat := 3; let p : Nat := 0; let x := s.ch c; x.owns src h slot = true ∧ x.admitsCtx src ⟨true, false, false⟩ = true ∧ x.fnState 0 = .stopped ∧ p ≤ 15 ∧ x.profOk p = true ∧ x.dmaFault src.fn = none) ∧
    (let s : State := on .prompt (fun x => ctx3 (ent .sealed) x); let c : ChId := .c0; let src : Src := pf; let h : Nat := h3; let slot : Nat := 3; let x := s.ch c; x.owns src h slot = true ∧ x.admitsCtx src ⟨true, false, false⟩ = true ∧ x.fnState 0 ≠ .stopped) := by
  dsimp only
  exact ⟨(by apply Exists.intro; apply Exists.intro; refine ⟨?p0_0, ?p0_1, ?p0_2, ?p0_3, ?p0_4⟩; (case p0_0 => decide +kernel); (case p0_1 => decide +kernel); (case p0_2 => decide +kernel); (case p0_3 => decide +kernel); (case p0_4 => rfl)),
    ⟨by decide +kernel, by decide +kernel, by decide +kernel⟩,
    ⟨by decide +kernel, by decide +kernel, by decide +kernel, by decide +kernel, by decide +kernel, by decide +kernel, by decide +kernel, by decide +kernel, rfl, by decide +kernel, by decide +kernel⟩,
    (by apply Exists.intro; refine ⟨?p3_0, ?p3_1, ?p3_2, ?p3_3, ?p3_4, ?p3_5, ?p3_6, ?p3_7, ?p3_8, ?p3_9, ?p3_10, ?p3_11⟩; (case p3_0 => decide +kernel); (case p3_1 => decide +kernel); (case p3_2 => decide +kernel); (case p3_3 => decide +kernel); (case p3_4 => decide +kernel); (case p3_5 => decide +kernel); (case p3_6 => decide +kernel); (case p3_7 => decide +kernel); (case p3_8 => rfl); (case p3_9 => decide +kernel); (case p3_10 => decide +kernel); (case p3_11 => rfl)),
    (by apply Exists.intro; refine ⟨?p4_0, ?p4_1, ?p4_2, ?p4_3, ?p4_4, ?p4_5, ?p4_6, ?p4_7, ?p4_8, ?p4_9⟩; (case p4_0 => decide +kernel); (case p4_1 => decide +kernel); (case p4_2 => decide +kernel); (case p4_3 => decide +kernel); (case p4_4 => decide +kernel); (case p4_5 => decide +kernel); (case p4_6 => decide +kernel); (case p4_7 => decide +kernel); (case p4_8 => decide +kernel); (case p4_9 => rfl)),
    ⟨by decide +kernel, by decide +kernel, by decide +kernel, by decide +kernel⟩,
    (by apply Exists.intro; apply Exists.intro; apply Exists.intro; refine ⟨?p6_0, ?p6_1, ?p6_2, ?p6_3, ?p6_4, ?p6_5, ?p6_6, ?p6_7, ?p6_8, ?p6_9, ?p6_10, ?p6_11, ?p6_12⟩; (case p6_0 => decide +kernel); (case p6_1 => decide +kernel); (case p6_2 => decide +kernel); (case p6_3 => decide +kernel); (case p6_4 => decide +kernel); (case p6_5 => decide +kernel); (case p6_6 => decide +kernel); (case p6_7 => decide +kernel); (case p6_8 => decide +kernel); (case p6_9 => rfl); (case p6_10 => rfl); (case p6_11 => decide +kernel); (case p6_12 => decide +kernel)),
    ⟨by decide +kernel, by decide +kernel, by decide +kernel⟩,
    ⟨by decide +kernel, by decide +kernel, by decide +kernel, by decide +kernel, by decide +kernel, by decide +kernel⟩,
    ⟨by decide +kernel, by decide +kernel, by decide +kernel⟩⟩

theorem test_wit_PageCommands_2 :
    (let s : State := on .prompt (fun x => let x := ctx3 (ent .inbound) x; { x with host := { x.host with pci := [(16, ⟨true, false, 0⟩)] }, ho := ⟨[(3, { zHandoff with rebuild := some zRebuild })]⟩ }); let c : ChId := .c0; let src : Src := pf; let h : Nat := h3; let slot : Nat := 3; let n : Nat := 1; let b : List Byte := []; let x := s.ch c; let e := x.entry slot; let geo := x.geom e.profile; let adm := fun pf => x.admitsCtx src ⟨pf, false, false⟩ = true; let f := fun off n => leVal ((b.drop off).take n); let per := geo.parts * geo.partBytes; let formed := f 0 4 = geo.id ∧ f 11 1 = geo.format ∧ f 12 4 = geo.partBytes ∧ f 16 1 = geo.parts ∧ f 8 2 < geo.layers ∧ 5 ≤ f 10 1 ∧ f 10 1 ≤ 12 ∧ f 4 4 % 2 ^ f 10 1 = 0 ∧ f 32 4 ≤ 2 ^ f 10 1 ∧ b.length = 64 + 2 ^ f 10 1 / 16 * per; x.owns src h slot = true ∧ adm true ∧ e.state = .inbound ∧ ((x.hand slot).bind (fun k => k.rebuild)).isSome = true ∧ x.dmaFault src.fn = none ∧ ¬ formed) ∧
    (let s : State := on .prompt (fun x => let x := ctx3 { ent .inbound with profile := 1, committed := 32 } (x.wr (Reg.PG_PROF_GEOM 1) (2 ^ 63 + 2 * 2 ^ 47 + 2 ^ 40 + 2 ^ 31 + 3 * 2 ^ 24)); { x with host := { x.host with pci := [(16, ⟨true, false, 0⟩)] }, ho := ⟨[(3, { zHandoff with rebuild := some zRebuild })]⟩ }); let c : ChId := .c0; let src : Src := pf; let h : Nat := h3; let slot : Nat := 3; let n : Nat := 1; let b : List Byte := imp ((impCrc + 1) % 2 ^ 32); let x := s.ch c; let e := x.entry slot; let geo := x.geom e.profile; let adm := fun pf => x.admitsCtx src ⟨pf, false, false⟩ = true; let f := fun off n => leVal ((b.drop off).take n); let per := geo.parts * geo.partBytes; let formed := f 0 4 = geo.id ∧ f 11 1 = geo.format ∧ f 12 4 = geo.partBytes ∧ f 16 1 = geo.parts ∧ f 8 2 < geo.layers ∧ 5 ≤ f 10 1 ∧ f 10 1 ≤ 12 ∧ f 4 4 % 2 ^ f 10 1 = 0 ∧ f 32 4 ≤ 2 ^ f 10 1 ∧ b.length = 64 + 2 ^ f 10 1 / 16 * per; x.owns src h slot = true ∧ adm true ∧ e.state = .inbound ∧ ((x.hand slot).bind (fun k => k.rebuild)).isSome = true ∧ x.dmaFault src.fn = none ∧ formed ∧ f 60 4 ≠ crc32c (b.take 60 ++ b.drop 64)) ∧
    (let s : State := on .prompt (fun x => let x := ctx3 { ent .inbound with profile := 1, committed := 32 } (x.wr (Reg.PG_PROF_GEOM 1) (2 ^ 63 + 2 * 2 ^ 47 + 2 ^ 40 + 2 ^ 31 + 3 * 2 ^ 24)); { x with host := { x.host with pci := [(16, ⟨true, false, 0⟩)] }, ho := ⟨[(3, { zHandoff with rebuild := some zRebuild })]⟩ }); let c : ChId := .c0; let src : Src := pf; let h : Nat := h3; let slot : Nat := 3; let n : Nat := 1; let b : List Byte := imp impCrc; let x := s.ch c; let e := x.entry slot; let geo := x.geom e.profile; let adm := fun pf => x.admitsCtx src ⟨pf, false, false⟩ = true; let f := fun off n => leVal ((b.drop off).take n); let per := geo.parts * geo.partBytes; let pages := (List.range ((f 32 4 + 15) / 16)).map (fun i => f 4 4 / 16 + i); let formed := f 0 4 = geo.id ∧ f 11 1 = geo.format ∧ f 12 4 = geo.partBytes ∧ f 16 1 = geo.parts ∧ f 8 2 < geo.layers ∧ 5 ≤ f 10 1 ∧ f 10 1 ≤ 12 ∧ f 4 4 % 2 ^ f 10 1 = 0 ∧ f 32 4 ≤ 2 ^ f 10 1 ∧ b.length = 64 + 2 ^ f 10 1 / 16 * per; ∃ (w : Chan), x.owns src h slot = true ∧ adm true ∧ e.state = .inbound ∧ ((x.hand slot).bind (fun k => k.rebuild)).isSome = true ∧ x.dmaFault src.fn = none ∧ formed ∧ f 60 4 = crc32c (b.take 60 ++ b.drop 64) ∧ f 4 4 + f 32 4 ≤ e.committed ∧ x.importRoom slot (f 8 2) pages = some w) := by
  dsimp only
  exact ⟨⟨by decide +kernel, by decide +kernel, by decide +kernel, by decide +kernel, by decide +kernel, by decide +kernel⟩,
    ⟨by decide +kernel, by decide +kernel, by decide +kernel, by decide +kernel, by decide +kernel, by decide +kernel, (by rw [imp_covered, imp_crc _ (by omega)]; exact impCrc_next)⟩,
    (by apply Exists.intro; refine ⟨?p12_0, ?p12_1, ?p12_2, ?p12_3, ?p12_4, ?p12_5, ?p12_6, ?p12_7, ?p12_8⟩; (case p12_0 => decide +kernel); (case p12_1 => decide +kernel); (case p12_2 => decide +kernel); (case p12_3 => decide +kernel); (case p12_4 => decide +kernel); (case p12_5 => decide +kernel); (case p12_6 => (rw [imp_covered]; exact imp_crc impCrc (crc32c_lt _))); (case p12_7 => decide +kernel); (case p12_8 => rfl))⟩

theorem test_wit_Placement :
    (let s : State := on .prompt (fun x => let x := ctx3 (ent .prefilling) x; { x with maps := [(3, { PageMap.init with staged := [⟨1, 0, 0, List.replicate 32 1, [0, 0], 0, 0⟩] })], pool := { x.pool with cullet := [4096] } }); let c : ChId := .c0; let slot : Nat := 3; let layer : Nat := 1; let token : Nat := 0; let unit : Nat := 0; let u : Staged := ⟨1, 0, 0, List.replicate 32 1, [0, 0], 0, 0⟩; let x := s.ch c; let geo := x.geom (x.entry slot).profile; let hd := geo.unitAt unit; let tile := geo.tileOf hd.1 hd.2.1; let at_ := geo.rowAt tile.2 (token % 16); ∃ (y : Chan), let put := (y.pageWrite slot (token / 16) layer tile.1 (at_.1 + hd.2.2 * u.elems.length) u.elems).pageWrite slot (token / 16) layer tile.1 (at_.2 + hd.2.2 * u.scale.length) u.scale; let m := put.map slot; ((x.map slot).staged.find? (fun u => decide (u.layer = layer ∧ u.token = token ∧ u.unit = unit)) = some u) ∧ x.needFrame slot (token / 16) layer tile.1 = some y ∧ m.region = none) ∧
    (let s : State := on .prompt (fun x => let x := ctx3 (ent .prefilling) x; { x with maps := [(3, { PageMap.init with staged := [⟨1, 0, 0, List.replicate 32 1, [0, 0], 0, 0⟩] })], pool := { x.pool with cullet := [4096] } }); let c : ChId := .c0; let f : Nat := 4096; let fs : List Nat := []; let x := s.ch c; x.pool.cullet = f :: fs) := by
  dsimp only
  exact ⟨(by apply Exists.intro; refine ⟨?p0_0, ?p0_1, ?p0_2⟩; (case p0_0 => decide +kernel); (case p0_1 => rfl); (case p0_2 => decide +kernel)),
    by decide +kernel⟩

/-! ### Witnesses: Handoff -/

/-- A channel of a generation role that takes an OFFER of tenant 77 into slot 0, and the channel with the context taken in. -/
def hoX : Chan := (on .generation (fun x => let x := withKey x; x)).ch .c0
def hoY : Chan := { hoX with ctx := { hoX.ctx with freeQ := [(1, 16383)] } }
def hoM : HoMsg := { zHoMsg with version := 1, srcH := 6 * 2 ^ 30 + 70, epoch := 1, req := 43, tag := 77, budget := 2 ^ 64 - 1 }
theorem hoY_takes : (hoY.takeIn 0 (hoX.inboundEntry hoM 0 0 1 0 0 false)).isSome = true := by decide +kernel
def hoW : Chan := (hoY.takeIn 0 (hoX.inboundEntry hoM 0 0 1 0 0 false)).get hoY_takes
theorem hoW_pushes : (hoW.baseRegion (.inbound 0) 2 (hoW.transferSpan 0) 6 true).isSome = true := by decide +kernel
def hoR : Nat × Chan := (hoW.baseRegion (.inbound 0) 2 (hoW.transferSpan 0) 6 true).get hoW_pushes
theorem hoW_push : hoW.baseRegion (.inbound 0) 2 (hoW.transferSpan 0) 6 true = some (hoR.1, hoR.2) := get_pair _ hoW_pushes

/-- A channel that takes a rebuild of request 43. -/
def rbX : Chan := (on .generation (fun x => dma (withKey x))).ch .c0
def rbQ : RebuildIn := { zRebuildIn with req := 43, epoch := 3, list := .ok zFragLoc, preds := [6] }
def rbY : Chan := { rbX with ctx := { rbX.ctx with freeQ := [(1, 16383)] } }
def rbE : Entry := { Entry.free with gen := 1, epoch := 3, req := 43, tag := 77, pgt := mapOf 0 }
theorem rbY_takes : (rbY.takeIn 0 rbE).isSome = true := by decide +kernel

/-- A context that is rebuilt in slot 3, as a state of the rebuild has it. -/
def rbAt (k : Handoff) : State := on .generation (fun x =>
  let x := ctx3 (ent .inbound) x
  { x with ho := ⟨[(3, k)]⟩, tiers := { x.tiers with reads := [(3, { zShareRead with unit := 1, shares := [{ zShare with head := [1] }] })] } })
def rbR : Machine.Rebuild := { zRebuild with preds := [⟨6, none⟩], lastEpoch := 3 }
def rbZeros : FragLoc := { zFragLoc with digest := List.replicate 64 0 }
def rbShares : FragLoc := { zFragLoc with holders := [(1, 2)] }

theorem test_wit_HandoffCommands_1 :
    (let s : State := on .prompt (fun x => x.wr Reg.CHN_EID 0); let c : ChId := .c0; let src : Src := pf; let x := s.ch c; let adm := x.admitsCtx src ⟨false, true, false⟩ = true; adm ∧ x.eid = none) ∧
    (let s : State := on .prompt (fun x => { x with pwr := { x.pwr with ride := true } }); let c : ChId := .c0; let src : Src := pf; let x := s.ch c; let adm := x.admitsCtx src ⟨false, true, false⟩ = true; adm ∧ x.eid ≠ none ∧ x.riding = true) ∧
    (let s : State := on .prompt (fun x => ctx3 { ent .decoding with sub := 1 } x); let c : ChId := .c0; let src : Src := pf; let h : Nat := h3; let slot : Nat := 3; let x := s.ch c; let e := x.entry slot; let adm := x.admitsCtx src ⟨false, true, false⟩ = true; let may := e.state = .sealed ∨ e.state = .parked ∨ (e.state = .decoding ∧ e.sub = 0 ∧ e.provisional = 0); adm ∧ x.eid ≠ none ∧ x.riding = false ∧ x.owns src h slot = true ∧ ¬ may) ∧
    (let s : State := on .prompt (fun x => ctx3 { ent .decoding with provisional := 1 } x); let c : ChId := .c0; let src : Src := pf; let h : Nat := h3; let slot : Nat := 3; let x := s.ch c; let e := x.entry slot; let adm := x.admitsCtx src ⟨false, true, false⟩ = true; let may := e.state = .sealed ∨ e.state = .parked ∨ (e.state = .decoding ∧ e.sub = 0 ∧ e.provisional = 0); adm ∧ x.eid ≠ none ∧ x.riding = false ∧ x.owns src h slot = true ∧ ¬ may) ∧
    (let s : State := on .prompt (fun x => ctx3 { ent .parked with refs := 1 } x); let c : ChId := .c0; let src : Src := pf; let h : Nat := h3; let slot : Nat := 3; let x := s.ch c; let e := x.entry slot; let adm := x.admitsCtx src ⟨false, true, false⟩ = true; let may := e.state = .sealed ∨ e.state = .parked ∨ (e.state = .decoding ∧ e.sub = 0 ∧ e.provisional = 0); adm ∧ x.eid ≠ none ∧ x.riding = false ∧ x.owns src h slot = true ∧ may ∧ e.refs ≠ 0) ∧
    (let s : State := on .prompt (fun x => ctx3 { ent .decoding with epoch := 0xFFFFFFFF } x); let c : ChId := .c0; let src : Src := pf; let h : Nat := h3; let slot : Nat := 3; let x := s.ch c; let e := x.entry slot; let adm := x.admitsCtx src ⟨false, true, false⟩ = true; let may := e.state = .sealed ∨ e.state = .parked ∨ (e.state = .decoding ∧ e.sub = 0 ∧ e.provisional = 0); adm ∧ x.eid ≠ none ∧ x.riding = false ∧ x.owns src h slot = true ∧ may ∧ e.refs = 0 ∧ e.epoch = 0xFFFFFFFF) ∧
    (let s : State := on .prompt (fun x => ctx3 (ent .sealed) x); let c : ChId := .c0; let src : Src := pf; let h : Nat := h3; let slot : Nat := 3; let dst : Nat := 5; let x := s.ch c; let e := x.entry slot; let d := dst % 2 ^ 18; let adm := x.admitsCtx src ⟨false, true, false⟩ = true; let may := e.state = .sealed ∨ e.state = .parked ∨ (e.state = .decoding ∧ e.sub = 0 ∧ e.provisional = 0); adm ∧ x.eid ≠ none ∧ x.riding = false ∧ x.owns src h slot = true ∧ may ∧ e.refs = 0 ∧ e.epoch ≠ 0xFFFFFFFF ∧ d = x.fget Reg.CHN_EID 17 0) ∧
    (let s : State := on .prompt (fun x => let x := ctx3 (ent .sealed) x; x.setEntry 4 { x.entry 3 with state := .offered }); let c : ChId := .c0; let src : Src := pf; let h : Nat := h3; let slot : Nat := 3; let dst : Nat := 2 ^ 18 + 6; let x := s.ch c; let e := x.entry slot; let d := dst % 2 ^ 18; let adm := x.admitsCtx src ⟨false, true, false⟩ = true; let may := e.state = .sealed ∨ e.state = .parked ∨ (e.state = .decoding ∧ e.sub = 0 ∧ e.provisional = 0); let room := x.countCtx (fun e => decide (e.state = .offered)) < x.hoLimit 15 0; adm ∧ x.eid ≠ none ∧ x.riding = false ∧ x.owns src h slot = true ∧ may ∧ e.refs = 0 ∧ e.epoch ≠ 0xFFFFFFFF ∧ d ≠ x.fget Reg.CHN_EID 17 0 ∧ ¬ room) ∧
    (let s : State := on .prompt (fun x => ctx3 (ent .sealed) x); let c : ChId := .c0; let src : Src := pf; let h : Nat := h3; let slot : Nat := 3; let dst : Nat := 2 ^ 18 + 6; let push : Bool := true; let x := s.ch c; let e := x.entry slot; let d := dst % 2 ^ 18; let adm := x.admitsCtx src ⟨false, true, false⟩ = true; let may := e.state = .sealed ∨ e.state = .parked ∨ (e.state = .decoding ∧ e.sub = 0 ∧ e.provisional = 0); let room := x.countCtx (fun e => decide (e.state = .offered)) < x.hoLimit 15 0; adm ∧ x.eid ≠ none ∧ x.riding = false ∧ x.owns src h slot = true ∧ may ∧ e.refs = 0 ∧ e.epoch ≠ 0xFFFFFFFF ∧ d ≠ x.fget Reg.CHN_EID 17 0 ∧ room ∧ push = true) ∧
    (let s : State := on .prompt (fun x => ctx3 (ent .sealed) x); let c : ChId := .c0; let src : Src := pf; let h : Nat := h3; let slot : Nat := 3; let dst : Nat := 2 ^ 18 + 6; let push : Bool := false; let x := s.ch c; let e := x.entry slot; let d := dst % 2 ^ 18; let adm := x.admitsCtx src ⟨false, true, false⟩ = true; let may := e.state = .sealed ∨ e.state = .parked ∨ (e.state = .decoding ∧ e.sub = 0 ∧ e.provisional = 0); let room := x.countCtx (fun e => decide (e.state = .offered)) < x.hoLimit 15 0; ∃ (r : Nat) (y : Chan), adm ∧ x.eid ≠ none ∧ x.riding = false ∧ x.owns src h slot = true ∧ may ∧ e.refs = 0 ∧ e.epoch ≠ 0xFFFFFFFF ∧ d ≠ x.fget Reg.CHN_EID 17 0 ∧ room ∧ push = false ∧ x.baseRegion (.transfer slot) 1 (x.transferSpan slot) d true = some (r, y)) := by
  dsimp only
  exact ⟨⟨by decide +kernel, by decide +kernel⟩,
    ⟨by decide +kernel, by decide +kernel, by decide +kernel⟩,
    ⟨by decide +kernel, by decide +kernel, by decide +kernel, by decide +kernel, by decide +kernel⟩,
    ⟨by decide +kernel, by decide +kernel, by decide +kernel, by decide +kernel, by decide +kernel⟩,
    ⟨by decide +kernel, by decide +kernel, by decide +kernel, by decide +kernel, by decide +kernel, by decide +kernel⟩,
    ⟨by decide +kernel, by decide +kernel, by decide +kernel, by decide +kernel, by decide +kernel, by decide +kernel, by decide +kernel⟩,
    ⟨by decide +kernel, by decide +kernel, by decide +kernel, by decide +kernel, by decide +kernel, by decide +kernel, by decide +kernel, by decide +kernel⟩,
    ⟨by decide +kernel, by decide +kernel, by decide +kernel, by decide +kernel, by decide +kernel, by decide +kernel, by decide +kernel, by decide +kernel, by decide +kernel⟩,
    ⟨by decide +kernel, by decide +kernel, by decide +kernel, by decide +kernel, by decide +kernel, by decide +kernel, by decide +kernel, by decide +kernel, by decide +kernel, by decide +kernel⟩,
    (by apply Exists.intro; apply Exists.intro; refine ⟨?p8_0, ?p8_1, ?p8_2, ?p8_3, ?p8_4, ?p8_5, ?p8_6, ?p8_7, ?p8_8, ?p8_9, ?p8_10⟩; (case p8_0 => decide +kernel); (case p8_1 => decide +kernel); (case p8_2 => decide +kernel); (case p8_3 => decide +kernel); (case p8_4 => decide +kernel); (case p8_5 => decide +kernel); (case p8_6 => decide +kernel); (case p8_7 => decide +kernel); (case p8_8 => decide +kernel); (case p8_9 => decide +kernel); (case p8_10 => rfl))⟩

theorem test_wit_HandoffCommands_2 :
    (let s : State := on .prompt (fun x => let x := ctx3 { ent .offered with sub := 1 } x; { x with ho := ⟨[(3, zHandoff)]⟩ }); let c : ChId := .c0; let src : Src := pf; let h : Nat := h3; let slot : Nat := 3; let k : Handoff := zHandoff; let x := s.ch c; let e := x.entry slot; let adm := x.admitsCtx src ⟨false, true, false⟩ = true; adm ∧ x.owns src h slot = true ∧ x.hand slot = some k ∧ e.state = .offered ∧ e.sub < 2) ∧
    (let s : State := on .prompt (fun x => let x := ctx3 { ent .offered with sub := 2 } x; { x with ho := ⟨[(3, zHandoff)]⟩ }); let c : ChId := .c0; let src : Src := pf; let h : Nat := h3; let slot : Nat := 3; let force : Bool := false; let k : Handoff := zHandoff; let x := s.ch c; let e := x.entry slot; let adm := x.admitsCtx src ⟨false, true, false⟩ = true; adm ∧ x.owns src h slot = true ∧ x.hand slot = some k ∧ e.state = .offered ∧ e.sub = 2 ∧ force = false ∧ k.cancel = []) ∧
    (let s : State := on .prompt (fun x => let x := ctx3 { ent .offered with sub := 3 } x; { x with ho := ⟨[(3, zHandoff)]⟩ }); let c : ChId := .c0; let src : Src := pf; let h : Nat := h3; let slot : Nat := 3; let k : Handoff := zHandoff; let x := s.ch c; let e := x.entry slot; let adm := x.admitsCtx src ⟨false, true, false⟩ = true; adm ∧ x.owns src h slot = true ∧ x.hand slot = some k ∧ (e.state ≠ .offered ∨ e.sub = 3)) ∧
    (let s : State := on .prompt (fun x => let x := ctx3 (ent .inbound) x; { x with ho := ⟨[(3, zHandoff)]⟩ }); let c : ChId := .c0; let src : Src := pf; let h : Nat := h3; let slot : Nat := 3; let k : Handoff := zHandoff; let x := s.ch c; let e := x.entry slot; let adm := x.admitsCtx src ⟨false, true, false⟩ = true; adm ∧ x.owns src h slot = true ∧ x.hand slot = some k ∧ (e.state ≠ .offered ∨ e.sub = 3)) ∧
    (let s : State := on .prompt (fun x => ctx3 (ent .sealed) x); let c : ChId := .c0; let src : Src := pf; let x := s.ch c; x.admitsCtx src ⟨false, true, true⟩ = true) := by
  dsimp only
  exact ⟨⟨by decide +kernel, by decide +kernel, by decide +kernel, by decide +kernel, by decide +kernel⟩,
    ⟨by decide +kernel, by decide +kernel, by decide +kernel, by decide +kernel, by decide +kernel, by decide +kernel, by decide +kernel⟩,
    ⟨by decide +kernel, by decide +kernel, by decide +kernel, by decide +kernel⟩,
    ⟨by decide +kernel, by decide +kernel, by decide +kernel, by decide +kernel⟩,
    by decide +kernel⟩

theorem test_wit_HandoffSource_1 :
    (let s : State := on .prompt (fun x => let x := ctx3 { ent .offered with sub := 0, peer := 6 * 2 ^ 30 + 70 } x; { x with ho := ⟨[(3, zHandoff)]⟩ }); let c : ChId := .c0; let peer : Nat := 6; let slot : Nat := 3; let m : HoMsg := { zHoMsg with version := 1, srcH := h3, epoch := 1 }; let h : Handoff := zHandoff; let x := s.ch c; let e := x.entry slot; e.state = .offered ∧ x.hand slot = some h ∧ x.serves = true ∧ x.eid ≠ none ∧ m.version = 1 ∧ x.ctx.ready = true ∧ x.checkHandle m.srcH = .ok slot ∧ bits e.peer 47 30 = peer ∧ m.epoch = e.epoch ∧ e.sub = 0) ∧
    (let s : State := on .prompt (fun x => let x := ctx3 { ent .offered with sub := 2, peer := 6 * 2 ^ 30 + 70 } x; { x with ho := ⟨[(3, zHandoff)]⟩ }); let c : ChId := .c0; let peer : Nat := 6; let slot : Nat := 3; let m : HoMsg := { zHoMsg with version := 1, srcH := h3, epoch := 1 }; let h : Handoff := zHandoff; let x := s.ch c; let e := x.entry slot; e.state = .offered ∧ x.hand slot = some h ∧ x.serves = true ∧ x.eid ≠ none ∧ m.version = 1 ∧ x.ctx.ready = true ∧ x.checkHandle m.srcH = .ok slot ∧ bits e.peer 47 30 = peer ∧ m.epoch = e.epoch ∧ e.sub ≠ 3) ∧
    (let s : State := on .prompt (fun x => let x := ctx3 { ent .offered with sub := 0, peer := 6 * 2 ^ 30 + 70 } x; { x with ho := ⟨[(3, zHandoff)]⟩ }); let c : ChId := .c0; let peer : Nat := 6; let slot : Nat := 3; let m : HoMsg := { zHoMsg with version := 1, srcH := h3, epoch := 1 }; let h : Handoff := zHandoff; let x := s.ch c; let e := x.entry slot; e.state = .offered ∧ x.hand slot = some h ∧ x.serves = true ∧ x.eid ≠ none ∧ m.version = 1 ∧ x.ctx.ready = true ∧ x.checkHandle m.srcH = .ok slot ∧ bits e.peer 47 30 = peer ∧ m.epoch = e.epoch ∧ e.sub ≠ 3) ∧
    (let s : State := on .prompt (fun x => let x := ctx3 { ent .offered with sub := 2, peer := 6 * 2 ^ 30 + 70 } x; { x with ho := ⟨[(3, { zHandoff with cancel := [pf] })]⟩ }); let c : ChId := .c0; let peer : Nat := 6; let slot : Nat := 3; let m : HoMsg := { zHoMsg with version := 1, srcH := h3, epoch := 1 }; let h : Handoff := { zHandoff with cancel := [pf] }; let x := s.ch c; let e := x.entry slot; e.state = .offered ∧ x.hand slot = some h ∧ x.serves = true ∧ x.eid ≠ none ∧ m.version = 1 ∧ x.ctx.ready = true ∧ x.checkHandle m.srcH = .ok slot ∧ bits e.peer 47 30 = peer ∧ m.epoch = e.epoch ∧ e.sub = 2 ∧ h.cancel ≠ []) ∧
    (let s : State := on .prompt (fun x => let x := ctx3 { ent .offered with sub := 2, peer := 6 * 2 ^ 30 + 70 } x; { x with ho := ⟨[(3, zHandoff)]⟩ }); let c : ChId := .c0; let peer : Nat := 6; let slot : Nat := 3; let m : HoMsg := { zHoMsg with version := 1, srcH := h3, epoch := 1 }; let h : Handoff := zHandoff; let x := s.ch c; let e := x.entry slot; e.state = .offered ∧ x.hand slot = some h ∧ x.serves = true ∧ x.eid ≠ none ∧ m.version = 1 ∧ x.ctx.ready = true ∧ x.checkHandle m.srcH = .ok slot ∧ bits e.peer 47 30 = peer ∧ m.epoch = e.epoch ∧ e.sub ≠ 3 ∧ h.cancel = []) ∧
    (let s : State := on .prompt (fun x => let x := ctx3 { ent .offered with sub := 0, peer := 6 * 2 ^ 30 + 70 } x; { x with ho := ⟨[(3, zHandoff)]⟩ }); let c : ChId := .c0; let peer : Nat := 6; let slot : Nat := 3; let m : HoMsg := { zHoMsg with version := 1, srcH := h3, epoch := 2, dstH := 6 * 2 ^ 30 + 70 }; let h : Handoff := zHandoff; let x := s.ch c; let e := x.entry slot; e.state = .offered ∧ x.hand slot = some h ∧ x.serves = true ∧ x.eid ≠ none ∧ m.version = 1 ∧ x.ctx.ready = true ∧ x.checkHandle m.srcH = .ok slot ∧ bits e.peer 47 30 = peer ∧ m.epoch = e.epoch + 1 ∧ e.sub ≠ 3 ∧ m.dstH = e.peer) ∧
    (let s : State := on .prompt (fun x => let x := ctx3 { ent .offered with sub := 2, peer := 6 * 2 ^ 30 + 70 } x; { x with ho := ⟨[(3, zHandoff)]⟩ }); let c : ChId := .c0; let peer : Nat := 6; let slot : Nat := 3; let m : HoMsg := { zHoMsg with version := 1, srcH := h3, epoch := 2, dstH := 6 * 2 ^ 30 + 70 }; let h : Handoff := zHandoff; let x := s.ch c; let e := x.entry slot; e.state = .offered ∧ x.hand slot = some h ∧ x.serves = true ∧ x.eid ≠ none ∧ m.version = 1 ∧ x.ctx.ready = true ∧ x.checkHandle m.srcH = .ok slot ∧ bits e.peer 47 30 = peer ∧ m.epoch = e.epoch + 1 ∧ e.sub ≠ 3 ∧ m.dstH = e.peer) ∧
    (let s : State := on .prompt (fun x => let x := ctx3 { ent .offered with sub := 0, peer := 6 * 2 ^ 30 + 70 } x; { x with ho := ⟨[(3, zHandoff)]⟩ }); let c : ChId := .c0; let peer : Nat := 6; let slot : Nat := 3; let m : HoMsg := { zHoMsg with version := 1, srcH := h3, epoch := 1 }; let h : Handoff := zHandoff; let x := s.ch c; let e := x.entry slot; e.state = .offered ∧ x.hand slot = some h ∧ x.serves = true ∧ x.eid ≠ none ∧ m.version = 1 ∧ x.ctx.ready = true ∧ x.checkHandle m.srcH = .ok slot ∧ bits e.peer 47 30 = peer) ∧
    (let s : State := on .prompt (fun x => let x := ctx3 { ent .offered with sub := 0, peer := 6 * 2 ^ 30 + 70 } x; { x with ho := ⟨[(3, zHandoff)]⟩ }); let c : ChId := .c0; let peer : Nat := 6; let slot : Nat := 3; let h : Handoff := { zHandoff with tries := 0 }; let x := s.ch c; let e := x.entry slot; let late := x.reach h.due; e.state = .offered ∧ x.hand slot = some h ∧ e.sub = 0 ∧ h.tries < late.offerTries) ∧
    (let s : State := on .prompt (fun x => let x := ctx3 { ent .offered with sub := 0, peer := 6 * 2 ^ 30 + 70 } x; { x with ho := ⟨[(3, { zHandoff with tries := 100 })]⟩ }); let c : ChId := .c0; let peer : Nat := 6; let slot : Nat := 3; let h : Handoff := { zHandoff with tries := 100 }; let x := s.ch c; let e := x.entry slot; let late := x.reach h.due; e.state = .offered ∧ x.hand slot = some h ∧ e.sub = 0 ∧ late.offerTries ≤ h.tries) := by
  dsimp only
  exact ⟨⟨by decide +kernel, by decide +kernel, by decide +kernel, by decide +kernel, by decide +kernel, by decide +kernel, rfl, by decide +kernel, by decide +kernel, by decide +kernel⟩,
    ⟨by decide +kernel, by decide +kernel, by decide +kernel, by decide +kernel, by decide +kernel, by decide +kernel, rfl, by decide +kernel, by decide +kernel, by decide +kernel⟩,
    ⟨by decide +kernel, by decide +kernel, by decide +kernel, by decide +kernel, by decide +kernel, by decide +kernel, rfl, by decide +kernel, by decide +kernel, by decide +kernel⟩,
    ⟨by decide +kernel, by decide +kernel, by decide +kernel, by decide +kernel, by decide +kernel, by decide +kernel, rfl, by decide +kernel, by decide +kernel, by decide +kernel, by decide +kernel⟩,
    ⟨by decide +kernel, by decide +kernel, by decide +kernel, by decide +kernel, by decide +kernel, by decide +kernel, rfl, by decide +kernel, by decide +kernel, by decide +kernel, by decide +kernel⟩,
    ⟨by decide +kernel, by decide +kernel, by decide +kernel, by decide +kernel, by decide +kernel, by decide +kernel, rfl, by decide +kernel, by decide +kernel, by decide +kernel, by decide +kernel⟩,
    ⟨by decide +kernel, by decide +kernel, by decide +kernel, by decide +kernel, by decide +kernel, by decide +kernel, rfl, by decide +kernel, by decide +kernel, by decide +kernel, by decide +kernel⟩,
    ⟨by decide +kernel, by decide +kernel, by decide +kernel, by decide +kernel, by decide +kernel, by decide +kernel, rfl, by decide +kernel⟩,
    ⟨by decide +kernel, by decide +kernel, by decide +kernel, by decide +kernel⟩,
    ⟨by decide +kernel, by decide +kernel, by decide +kernel, by decide +kernel⟩⟩

theorem test_wit_HandoffSource_2 :
    (let s : State := on .prompt (fun x => let x := ctx3 { ent .offered with sub := 1, peer := 6 * 2 ^ 30 + 70 } x; { x with ho := ⟨[(3, zHandoff)]⟩ }); let c : ChId := .c0; let peer : Nat := 6; let slot : Nat := 3; let h : Handoff := zHandoff; let x := s.ch c; let e := x.entry slot; e.state = .offered ∧ x.hand slot = some h ∧ e.sub = 1) ∧
    (let s : State := on .prompt (fun x => let x := ctx3 { ent .offered with sub := 1, peer := 6 * 2 ^ 30 + 70 } x; { x with ho := ⟨[(3, { zHandoff with moved := 2 ^ 64 })]⟩ }); let c : ChId := .c0; let peer : Nat := 6; let slot : Nat := 3; let h : Handoff := { zHandoff with moved := 2 ^ 64 }; let x := s.ch c; let e := x.entry slot; e.state = .offered ∧ x.hand slot = some h ∧ e.sub = 1 ∧ x.bodiesMoved slot = true) ∧
    (let s : State := on .prompt (fun x => let x := ctx3 { ent .offered with sub := 2, peer := 6 * 2 ^ 30 + 70 } x; { x with ho := ⟨[(3, zHandoff)]⟩ }); let c : ChId := .c0; let peer : Nat := 6; let slot : Nat := 3; let h : Handoff := zHandoff; let x := s.ch c; let e := x.entry slot; let late := x.reach h.due; let le := late.entry slot; e.state = .offered ∧ x.hand slot = some h ∧ e.sub = 2 ∧ h.cancel = [] ∧ late.time ≤ le.stateTime + late.stuckTime) ∧
    (let s : State := on .prompt (fun x => let x := ctx3 { ent .offered with sub := 2, peer := 6 * 2 ^ 30 + 70 } x; { x with ho := ⟨[(3, { zHandoff with cancel := [pf] })]⟩ }); let c : ChId := .c0; let peer : Nat := 6; let slot : Nat := 3; let h : Handoff := { zHandoff with cancel := [pf] }; let x := s.ch c; let e := x.entry slot; e.state = .offered ∧ x.hand slot = some h ∧ e.sub = 2 ∧ h.cancel ≠ []) ∧
    (let s : State := on .prompt (fun x => let x := ctx3 { ent .offered with sub := 3, peer := 6 * 2 ^ 30 + 70 } x; { x with ho := ⟨[(3, zHandoff)]⟩ }); let c : ChId := .c0; let peer : Nat := 6; let slot : Nat := 3; let h : Handoff := zHandoff; let x := s.ch c; let e := x.entry slot; e.state = .offered ∧ x.hand slot = some h ∧ e.sub = 3) := by
  dsimp only
  exact ⟨⟨by decide +kernel, by decide +kernel, by decide +kernel⟩,
    ⟨by decide +kernel, by decide +kernel, by decide +kernel, by decide +kernel⟩,
    ⟨by decide +kernel, by decide +kernel, by decide +kernel, by decide +kernel, by decide +kernel⟩,
    ⟨by decide +kernel, by decide +kernel, by decide +kernel, by decide +kernel⟩,
    ⟨by decide +kernel, by decide +kernel, by decide +kernel⟩⟩

theorem test_wit_HandoffDestination_1 :
    (let s : State := on .generation (fun x => let x := withKey x; { x with ctx := { x.ctx with ready := false } }); let c : ChId := .c0; let m : HoMsg := { zHoMsg with version := 1, srcH := 6 * 2 ^ 30 + 70, epoch := 1, req := 43, tag := 77, budget := 2 ^ 64 - 1, format := 0, profileId := 0 }; let x := s.ch c; let hears := x.serves = true ∧ x.eid ≠ none ∧ m.version = 1; hears ∧ x.ctx.ready = false) ∧
    (let s : State := on .generation (fun x => let x := withKey x; { x with pwr := { x.pwr with ride := true } }); let c : ChId := .c0; let peer : Nat := 6; let m : HoMsg := { zHoMsg with version := 1, srcH := 6 * 2 ^ 30 + 70, epoch := 1, req := 43, tag := 77, budget := 2 ^ 64 - 1, format := 0, profileId := 0 }; let x := s.ch c; let hears := x.serves = true ∧ x.eid ≠ none ∧ m.version = 1; hears ∧ x.ctx.ready = true ∧ x.answerOffer peer m false = none ∧ x.riding = true) ∧
    (let s : State := on .prompt (fun x => x); let c : ChId := .c0; let peer : Nat := 6; let r : Nat := 1; let m : HoMsg := { zHoMsg with version := 1, srcH := 6 * 2 ^ 30 + 70, epoch := 1, req := 43, tag := 77, budget := 2 ^ 64 - 1, format := 0, profileId := 0 }; let x := s.ch c; let hears := x.serves = true ∧ x.eid ≠ none ∧ m.version = 1; hears ∧ x.ctx.ready = true ∧ x.answerOffer peer m false = none ∧ x.riding = false ∧ x.admitReason m.tag = .error r ∧ r ≠ 3 ∧ r ≠ 4) ∧
    (let s : State := on .generation (fun x => let x := withKey x; { x.wr (Reg.MTR_TEN_CFG 0) (2 ^ 63) with mtr := { x.mtr with absent := true } }); let c : ChId := .c0; let peer : Nat := 6; let r : Nat := 0x0F; let m : HoMsg := { zHoMsg with version := 1, srcH := 6 * 2 ^ 30 + 70, epoch := 1, req := 43, tag := 77, budget := 2 ^ 64 - 1, format := 0, profileId := 0 }; let x := s.ch c; let hears := x.serves = true ∧ x.eid ≠ none ∧ m.version = 1; hears ∧ x.ctx.ready = true ∧ x.answerOffer peer m false = none ∧ x.riding = false ∧ x.admitReason m.tag = .error r ∧ r ≠ 3 ∧ r ≠ 4) ∧
    (let s : State := on .generation (fun x => let x := withKey x; x); let c : ChId := .c0; let peer : Nat := 6; let slot : Nat := 0; let gen : Nat := 1; let t : Nat := 0; let p : Nat := 0; let dl : Nat := 0; let ov : Bool := false; let m : HoMsg := hoM; let y : Chan := hoY; let z : Chan := hoY; let w : Chan := hoW; let x := s.ch c; let hears := x.serves = true ∧ x.eid ≠ none ∧ m.version = 1; hears ∧ x.ctx.ready = true ∧ x.answerOffer peer m false = none ∧ x.riding = false ∧ x.admitReason m.tag = .ok t ∧ x.profileOf m.profileId m.format = some p ∧ x.nextSlot = some (slot, gen, y) ∧ y.arrivalDeadline m.budget = (dl, ov, z) ∧ z.takeIn slot (x.inboundEntry m t slot gen p dl ov) = some w ∧ x.countCtx (fun e => decide (e.state = .inbound)) < x.hoLimit 47 32 ∧ m.push = false) ∧
    (let s : State := on .generation (fun x => let x := withKey x; x); let c : ChId := .c0; let peer : Nat := 6; let slot : Nat := 0; let gen : Nat := 1; let t : Nat := 0; let p : Nat := 0; let dl : Nat := 0; let r : Nat := hoR.1; let ov : Bool := false; let m : HoMsg := { hoM with push := true }; let y : Chan := hoY; let z : Chan := hoY; let w : Chan := hoW; let v : Chan := hoR.2; let x := s.ch c; let hears := x.serves = true ∧ x.eid ≠ none ∧ m.version = 1; hears ∧ x.ctx.ready = true ∧ x.answerOffer peer m false = none ∧ x.riding = false ∧ x.admitReason m.tag = .ok t ∧ x.profileOf m.profileId m.format = some p ∧ x.nextSlot = some (slot, gen, y) ∧ y.arrivalDeadline m.budget = (dl, ov, z) ∧ z.takeIn slot (x.inboundEntry m t slot gen p dl ov) = some w ∧ x.countCtx (fun e => decide (e.state = .inbound)) < x.hoLimit 47 32 ∧ m.push = true ∧ w.baseRegion (.inbound slot) 2 (w.transferSpan slot) peer true = some (r, v)) ∧
    (let s : State := on .generation (fun x => let x := ctx3 { ent .inbound with sub := 2, peer := 6 * 2 ^ 30 + 70 } x; { x with ho := ⟨[(3, zHandoff)]⟩ }); let c : ChId := .c0; let peer : Nat := 6; let slot : Nat := 3; let m : HoMsg := { zHoMsg with version := 1, srcH := 6 * 2 ^ 30 + 70, epoch := 1, req := 42, tag := 77, budget := 2 ^ 64 - 1, format := 0, profileId := 0 }; let x := s.ch c; let e := x.entry slot; let hears := x.serves = true ∧ x.eid ≠ none ∧ m.version = 1; hears ∧ x.ctx.ready = true ∧ ((x.ofRequest m.req m.tag).find? (fun e => decide (e.2.state = .inbound ∧ e.2.peer = m.srcH ∧ e.2.epoch = m.epoch)) = some (slot, e)) ∧ e.sub ≠ 3) ∧
    (let s : State := on .generation (fun x => let x := ctx3 { ent .inbound with sub := 1, peer := 6 * 2 ^ 30 + 70 } x; { x with ho := ⟨[(3, zHandoff)]⟩ }); let c : ChId := .c0; let peer : Nat := 6; let slot : Nat := 3; let m : HoMsg := { zHoMsg with version := 1, srcH := 6 * 2 ^ 30 + 70, dstH := h3, epoch := 1 }; let h : Handoff := zHandoff; let x := s.ch c; let e := x.entry slot; let hears := x.serves = true ∧ x.eid ≠ none ∧ m.version = 1; let mine := x.ctx.ready = true ∧ x.checkHandle m.dstH = .ok slot ∧ e.peer = m.srcH ∧ h.rebuild = none; e.state = .inbound ∧ x.hand slot = some h ∧ hears ∧ mine ∧ e.sub ≤ 1 ∧ m.epoch = e.epoch) ∧
    (let s : State := on .generation (fun x => let x := ctx3 { ent .inbound with sub := 3, peer := 6 * 2 ^ 30 + 70 } x; { x with ho := ⟨[(3, zHandoff)]⟩ }); let c : ChId := .c0; let peer : Nat := 6; let slot : Nat := 3; let m : HoMsg := { zHoMsg with version := 1, srcH := 6 * 2 ^ 30 + 70, dstH := h3, epoch := 2 }; let h : Handoff := zHandoff; let x := s.ch c; let e := x.entry slot; let hears := x.serves = true ∧ x.eid ≠ none ∧ m.version = 1; let mine := x.ctx.ready = true ∧ x.checkHandle m.dstH = .ok slot ∧ e.peer = m.srcH ∧ h.rebuild = none; e.state = .inbound ∧ x.hand slot = some h ∧ hears ∧ mine ∧ e.sub = 3 ∧ m.epoch = e.epoch + 1) ∧
    (let s : State := on .generation (fun x => let x := ctx3 { ent .inbound with sub := 1, peer := 6 * 2 ^ 30 + 70 } x; { x with ho := ⟨[(3, zHandoff)]⟩ }); let c : ChId := .c0; let peer : Nat := 6; let slot : Nat := 3; let h : Handoff := zHandoff; let x := s.ch c; let e := x.entry slot; e.state = .inbound ∧ x.hand slot = some h ∧ e.sub < 2 ∧ h.rebuild = none) := by
  dsimp only
  exact ⟨⟨by decide +kernel, by decide +kernel⟩,
    ⟨by decide +kernel, by decide +kernel, by decide +kernel, by decide +kernel⟩,
    ⟨by decide +kernel, by decide +kernel, by decide +kernel, by decide +kernel, rfl, by decide +kernel, by decide +kernel⟩,
    ⟨by decide +kernel, by decide +kernel, by decide +kernel, by decide +kernel, rfl, by decide +kernel, by decide +kernel⟩,
    ⟨by decide +kernel, by decide +kernel, by decide +kernel, by decide +kernel, rfl, by decide +kernel, rfl, rfl, (Option.some_get hoY_takes).symm, by decide +kernel, by decide +kernel⟩,
    ⟨by decide +kernel, by decide +kernel, by decide +kernel, by decide +kernel, rfl, by decide +kernel, rfl, rfl, (Option.some_get hoY_takes).symm, by decide +kernel, by decide +kernel, hoW_push⟩,
    ⟨by decide +kernel, by decide +kernel, by decide +kernel, by decide +kernel⟩,
    ⟨by decide +kernel, by decide +kernel, by decide +kernel, by decide +kernel, by decide +kernel, by decide +kernel⟩,
    ⟨by decide +kernel, by decide +kernel, by decide +kernel, by decide +kernel, by decide +kernel, by decide +kernel⟩,
    ⟨by decide +kernel, by decide +kernel, by decide +kernel, by decide +kernel⟩⟩

theorem test_wit_HandoffDestination_2 :
    (let s : State := on .generation (fun x => let x := ctx3 { ent .inbound with sub := 2, peer := 6 * 2 ^ 30 + 70 } x; { x with ho := ⟨[(3, zHandoff)]⟩ }); let c : ChId := .c0; let peer : Nat := 6; let slot : Nat := 3; let h : Handoff := zHandoff; let x := s.ch c; let e := x.entry slot; e.state = .inbound ∧ x.hand slot = some h ∧ e.sub = 2 ∧ x.receivedDigest slot e.committed h.manifest ≠ h.digestIn) ∧
    (let s : State := on .generation (fun x => let x := ctx3 { ent .inbound with sub := 2, peer := 6 * 2 ^ 30 + 70 } x; { x with ho := ⟨[(3, { zHandoff with digestIn := sha512 [] })]⟩ }); let c : ChId := .c0; let peer : Nat := 6; let slot : Nat := 3; let h : Handoff := { zHandoff with digestIn := sha512 [] }; let x := s.ch c; let e := x.entry slot; e.state = .inbound ∧ x.hand slot = some h ∧ e.sub = 2 ∧ x.receivedDigest slot e.committed h.manifest = h.digestIn ∧ x.needsSet slot h = false) ∧
    (let s : State := on .generation (fun x => let x := ctx3 { ent .inbound with sub := 2, peer := 6 * 2 ^ 30 + 70 } x; { x with ho := ⟨[(3, zHandoff)]⟩ }); let c : ChId := .c0; let peer : Nat := 6; let slot : Nat := 3; let h : Handoff := zHandoff; let x := s.ch c; let e := x.entry slot; e.state = .inbound ∧ x.hand slot = some h) := by
  dsimp only
  exact ⟨⟨by decide +kernel, by decide +kernel, by decide +kernel, by decide +kernel⟩,
    ⟨by decide +kernel, by decide +kernel, by decide +kernel, rfl, by decide +kernel⟩,
    ⟨by decide +kernel, by decide +kernel⟩⟩

theorem test_wit_ContextRebuild :
    (let s : State := on .generation (fun x => dma (withKey x)); let c : ChId := .c0; let src : Src := pf; let slot : Nat := 0; let gen : Nat := 1; let t : Nat := 0; let q : RebuildIn := rbQ; let l : FragLoc := zFragLoc; let y : Chan := rbY; let w : Chan := (rbY.takeIn 0 rbE).get rbY_takes; let x := s.ch c; let tag := x.tag src.slot; let geo := x.geom q.profile; let entry := { Entry.free with gen := gen, epoch := q.epoch, req := q.req, tag := tag, tslot := src.slot, profile := q.profile, format := geo.format, red := q.red, committed := q.len, isPrivate := x.flag (Reg.SEC_TEN_CFG src.slot) 63, pgt := mapOf slot }; x.admitsCtx src ⟨true, false, true⟩ = true ∧ x.eid ≠ none ∧ x.riding = false ∧ x.dmaFault src.fn = none ∧ q.list = .ok l ∧ q.epoch ≠ 0xFFFFFFFF ∧ x.admitReason tag = .ok t ∧ (x.ofRequest q.req tag).find? (fun e => decide (e.2.state ≠ .retired)) = none ∧ x.nextSlot = some (slot, gen, y) ∧ q.profile ≤ 15 ∧ x.profOk q.profile = true ∧ geo.redunOk q.red = true ∧ q.preds.length ≤ 4 ∧ y.takeIn slot entry = some w ∧ x.countCtx (fun e => decide (e.state = .inbound)) < x.hoLimit 47 32) ∧
    (let s : State := on .prompt (fun x => ctx3 { ent .sealed with epoch := 4 } x); let c : ChId := .c0; let m : HoMsg := { zHoMsg with version := 1, req := 42, tag := 77, epoch := 4, reason := 0 }; let x := s.ch c; let hears := x.serves = true ∧ x.eid ≠ none ∧ m.version = 1; let own := x.ofRequest m.req m.tag; let punties := own.filterMap (fun e => e.2.punty); hears ∧ x.ctx.ready = true ∧ punties ≠ []) ∧
    (let s : State := rbAt ({ zHandoff with rebuild := some (rbR), cmd := some pf }); let c : ChId := .c0; let peer : Nat := 6; let slot : Nat := 3; let m : HoMsg := { zHoMsg with version := 1, req := 42, tag := 77, epoch := 4, reason := 1 }; let k : Handoff := { zHandoff with rebuild := some (rbR), cmd := some pf }; let r : Machine.Rebuild := rbR; let x := s.ch c; let e := x.entry slot; let hears := x.serves = true ∧ x.eid ≠ none ∧ m.version = 1; let own := x.ofRequest m.req m.tag; x.hand slot = some k ∧ k.rebuild = some r ∧ e.state = .inbound ∧ hears ∧ own = [(slot, e)] ∧ r.fenced = false ∧ r.preds.any (fun p => p.eid == peer) = true ∧ m.reason = 1) ∧
    (let s : State := rbAt ({ zHandoff with rebuild := some (rbR), cmd := some pf }); let c : ChId := .c0; let peer : Nat := 6; let slot : Nat := 3; let m : HoMsg := { zHoMsg with version := 1, req := 42, tag := 77, epoch := 4, reason := 0 }; let k : Handoff := { zHandoff with rebuild := some (rbR), cmd := some pf }; let r : Machine.Rebuild := rbR; let x := s.ch c; let e := x.entry slot; let hears := x.serves = true ∧ x.eid ≠ none ∧ m.version = 1; let own := x.ofRequest m.req m.tag; x.hand slot = some k ∧ k.rebuild = some r ∧ e.state = .inbound ∧ hears ∧ own = [(slot, e)] ∧ r.fenced = false ∧ r.preds.any (fun p => p.eid == peer) = true ∧ m.reason ≠ 1 ∧ r.lastEpoch < m.epoch) ∧
    (let s : State := rbAt ({ zHandoff with rebuild := some (rbR), cmd := some pf }); let c : ChId := .c0; let peer : Nat := 6; let slot : Nat := 3; let m : HoMsg := { zHoMsg with version := 1, req := 42, tag := 77, epoch := 3, reason := 0 }; let k : Handoff := { zHandoff with rebuild := some (rbR), cmd := some pf }; let r : Machine.Rebuild := rbR; let x := s.ch c; let e := x.entry slot; let hears := x.serves = true ∧ x.eid ≠ none ∧ m.version = 1; let own := x.ofRequest m.req m.tag; x.hand slot = some k ∧ k.rebuild = some r ∧ e.state = .inbound ∧ hears ∧ own = [(slot, e)] ∧ r.fenced = false ∧ r.preds.any (fun p => p.eid == peer) = true ∧ m.reason ≠ 1 ∧ m.epoch ≤ r.lastEpoch) ∧
    (let s : State := rbAt ({ zHandoff with rebuild := some (rbR), cmd := some pf }); let c : ChId := .c0; let slot : Nat := 3; let k : Handoff := { zHandoff with rebuild := some (rbR), cmd := some pf }; let r : Machine.Rebuild := rbR; let x := s.ch c; let e := x.entry slot; x.hand slot = some k ∧ k.rebuild = some r ∧ e.state = .inbound ∧ r.fenced = false) ∧
    (let s : State := rbAt ({ zHandoff with rebuild := some ({ rbR with fenced := true, list := rbShares }), cmd := some pf }); let c : ChId := .c0; let slot : Nat := 3; let k : Handoff := { zHandoff with rebuild := some ({ rbR with fenced := true, list := rbShares }), cmd := some pf }; let r : Machine.Rebuild := { rbR with fenced := true, list := rbShares }; let d : Chan := (((rbAt ({ zHandoff with rebuild := some ({ rbR with fenced := true, list := rbShares }), cmd := some pf })).ch .c0).rebuildDigest 3 { rbR with fenced := true, list := rbShares }).2; let x := s.ch c; let e := x.entry slot; x.hand slot = some k ∧ k.rebuild = some r ∧ e.state = .inbound ∧ r.fenced = true ∧ x.rebuildDigest slot r = (some false, d)) ∧
    (let s : State := rbAt ({ zHandoff with rebuild := some ({ rbR with fenced := true, list := rbZeros }), cmd := some pf }); let c : ChId := .c0; let src : Src := pf; let slot : Nat := 3; let k : Handoff := { zHandoff with rebuild := some ({ rbR with fenced := true, list := rbZeros }), cmd := some pf }; let r : Machine.Rebuild := { rbR with fenced := true, list := rbZeros }; let d : Chan := (rbAt ({ zHandoff with rebuild := some ({ rbR with fenced := true, list := rbZeros }), cmd := some pf })).ch .c0; let x := s.ch c; let e := x.entry slot; let z := (d.dropRead slot).arrive slot (r.lastEpoch + 1); x.hand slot = some k ∧ k.rebuild = some r ∧ e.state = .inbound ∧ r.fenced = true ∧ x.rebuildDigest slot r = (some true, d) ∧ d.needsSet slot k = false ∧ z.role.cur ≠ .cache ∧ k.cmd = some src) := by
  dsimp only
  exact ⟨⟨by decide +kernel, by decide +kernel, by decide +kernel, by decide +kernel, rfl, by decide +kernel, rfl, by decide +kernel, rfl, by decide +kernel, by decide +kernel, by decide +kernel, by decide +kernel, (Option.some_get rbY_takes).symm, by decide +kernel⟩,
    ⟨by decide +kernel, by decide +kernel, by decide +kernel⟩,
    ⟨by decide +kernel, by decide +kernel, by decide +kernel, by decide +kernel, by decide +kernel, by decide +kernel, by decide +kernel, by decide +kernel⟩,
    ⟨by decide +kernel, by decide +kernel, by decide +kernel, by decide +kernel, by decide +kernel, by decide +kernel, by decide +kernel, by decide +kernel, by decide +kernel⟩,
    ⟨by decide +kernel, by decide +kernel, by decide +kernel, by decide +kernel, by decide +kernel, by decide +kernel, by decide +kernel, by decide +kernel, by decide +kernel⟩,
    ⟨by decide +kernel, by decide +kernel, by decide +kernel, by decide +kernel⟩,
    ⟨by decide +kernel, by decide +kernel, by decide +kernel, by decide +kernel, (Prod.ext (by decide +kernel) rfl)⟩,
    ⟨by decide +kernel, by decide +kernel, by decide +kernel, by decide +kernel, rfl, by decide +kernel, by decide +kernel, by decide +kernel⟩⟩

/-! ### Witnesses: Attention and speculation -/

theorem test_wit_AttentionQueues_1 :
    (let s : State := on .prompt (fun x => let x := quota x; { x with fab := { x.fab with pds := [(1, ⟨0, false⟩)] } }); let c : ChId := .c0; let src : Src := pf; let slots : Nat := 8192; let kib : Nat := 4; let x := s.ch c; let sized := 16 ≤ slots ∧ slots ≤ 4096 ∧ 2 ^ slots.log2 = slots ∧ 4 ≤ kib ∧ kib ≤ 64 ∧ kib % 4 = 0; x.admits src ⟨false, false, true⟩ = true ∧ ¬ sized) ∧
    (let s : State := on .prompt (fun x => let x := quota x; { x with fab := { x.fab with pds := [(1, ⟨0, false⟩)] } }); let c : ChId := .c0; let src : Src := pf; let slots : Nat := 16; let kib : Nat := 3; let x := s.ch c; let sized := 16 ≤ slots ∧ slots ≤ 4096 ∧ 2 ^ slots.log2 = slots ∧ 4 ≤ kib ∧ kib ≤ 64 ∧ kib % 4 = 0; x.admits src ⟨false, false, true⟩ = true ∧ ¬ sized) ∧
    (let s : State := on .prompt (fun x => x); let c : ChId := .c0; let src : Src := pf; let pd : Nat := 1; let slots : Nat := 16; let kib : Nat := 4; let x := s.ch c; let t := src.slot; let sized := 16 ≤ slots ∧ slots ≤ 4096 ∧ 2 ^ slots.log2 = slots ∧ 4 ≤ kib ∧ kib ≤ 64 ∧ kib % 4 = 0; x.admits src ⟨false, false, true⟩ = true ∧ sized ∧ x.pdSlot pd ≠ some t) ∧
    (let s : State := on .prompt (fun x => let x := quota x; { x with fab := { x.fab with pds := [(1, ⟨0, false⟩)] } }); let c : ChId := .c0; let src : Src := pf; let pd : Nat := 1; let slots : Nat := 16; let kib : Nat := 4; let q : Nat := 0; let x := s.ch c; let t := src.slot; let n := ringSlabs slots kib; let sized := 16 ≤ slots ∧ slots ≤ 4096 ∧ 2 ^ slots.log2 = slots ∧ 4 ≤ kib ∧ kib ≤ 64 ∧ kib % 4 = 0; ∃ (y : Chan) (l : List Nat), x.admits src ⟨false, false, true⟩ = true ∧ sized ∧ x.pdSlot pd = some t ∧ (List.range 1024).find? (fun q => decide ((x.queue q).st = .free)) = some q ∧ x.quotaAllows t 0 (512 * n) = true ∧ x.takeSlabs n 2 = some (l, y)) ∧
    (let s : State := on .prompt (fun x => let x := quota x; { x with fab := { x.fab with pds := [(1, ⟨0, false⟩)] } }); let c : ChId := .c0; let src : Src := pf; let pd : Nat := 1; let slots : Nat := 4096; let kib : Nat := 64; let q : Nat := 0; let x := s.ch c; let t := src.slot; let n := ringSlabs slots kib; let sized := 16 ≤ slots ∧ slots ≤ 4096 ∧ 2 ^ slots.log2 = slots ∧ 4 ≤ kib ∧ kib ≤ 64 ∧ kib % 4 = 0; ∃ (y : Chan) (l : List Nat), x.admits src ⟨false, false, true⟩ = true ∧ sized ∧ x.pdSlot pd = some t ∧ (List.range 1024).find? (fun q => decide ((x.queue q).st = .free)) = some q ∧ x.quotaAllows t 0 (512 * n) = true ∧ x.takeSlabs n 2 = some (l, y)) ∧
    (let s : State := on .prompt (fun x => let x := { x with cru := { x.cru with queues := [(0, { zAttnQueue with st := .active, tenant := 1 })] } }; x); let c : ChId := .c0; let src : Src := vf0; let q : Nat := 0; let x := s.ch c; let t := src.slot; let u := x.queue q; x.admits src ⟨false, false, false⟩ = true ∧ (src.vf ≠ none ∧ u.tenant ≠ t)) ∧
    (let s : State := on .prompt (fun x => let x := { x with cru := { x.cru with queues := [(0, { zAttnQueue with st := .active, slots := 16, kib := 4 })] } }; x); let c : ChId := .c0; let src : Src := pf; let slots : Nat := 16; let kib : Nat := 4; let q : Nat := 0; let x := s.ch c; let t := src.slot; let u := x.queue q; x.admits src ⟨false, false, false⟩ = true ∧ u.st = .active ∧ (src.vf = none ∨ u.tenant = t)) ∧
    (let s : State := on .prompt (fun x => let x := { x with cru := { x.cru with queues := [(0, { zAttnQueue with st := .deleting, slots := 16, kib := 4 })] } }; x); let c : ChId := .c0; let slots : Nat := 16; let kib : Nat := 4; let q : Nat := 0; let x := s.ch c; let u := x.queue q; u.st = .deleting ∧ u.pidx = u.cidx ∧ x.cru.jobs.anyOf (fun _ j => decide (j.queue = some q)) = false ∧ x.replyPending q = false) ∧
    (let s : State := on .prompt (fun x => let x := { x with cru := { x.cru with queues := [(0, { zAttnQueue with st := .active, slots := 16, kib := 4, slabs := [0], pidx := 1, posts := [(7, 0)] })] } }; x); let c : ChId := .c0; let slots : Nat := 16; let kib : Nat := 4; let q : Nat := 0; let x := s.ch c; let u := x.queue q; let b := u.cidx % u.slots * (u.kib * 1024); ∃ (k : Nat) (z : Chan) (posts : List (Nat × Nat)) (ok : Bool), x.serves = true ∧ u.st ≠ .free ∧ u.pidx ≠ u.cidx ∧ x.jobRoom = true ∧ x.eccReads (x.regionRanges u.ring b (u.kib * 1024)) 1 = (ok, z) ∧ popPost u.posts = (k, posts)) ∧
    (let s : State := on .prompt (fun x => dma x); let c : ChId := .c0; let src : Src := pf; let x := s.ch c; x.admitsCtx src ⟨true, false, false⟩ = true ∧ x.dmaFault src.fn = none ∧ x.cru.waiting = [] ∧ x.jobRoom = true) := by
  dsimp only
  exact ⟨⟨by decide +kernel, by decide +kernel⟩,
    ⟨by decide +kernel, by decide +kernel⟩,
    ⟨by decide +kernel, by decide +kernel, by decide +kernel⟩,
    (by apply Exists.intro; apply Exists.intro; refine ⟨?p2_0, ?p2_1, ?p2_2, ?p2_3, ?p2_4, ?p2_5⟩; (case p2_0 => decide +kernel); (case p2_1 => decide +kernel); (case p2_2 => decide +kernel); (case p2_3 => decide +kernel); (case p2_4 => decide +kernel); (case p2_5 => apply get_pair; decide +kernel)),
    (by apply Exists.intro; apply Exists.intro; refine ⟨?p2_0, ?p2_1, ?p2_2, ?p2_3, ?p2_4, ?p2_5⟩; (case p2_0 => decide +kernel); (case p2_1 => decide +kernel); (case p2_2 => decide +kernel); (case p2_3 => decide +kernel); (case p2_4 => decide +kernel); (case p2_5 => apply get_pair; decide +kernel)),
    ⟨by decide +kernel, by decide +kernel⟩,
    ⟨by decide +kernel, by decide +kernel, by decide +kernel⟩,
    ⟨by decide +kernel, by decide +kernel, by decide +kernel, by decide +kernel⟩,
    (by apply Exists.intro; apply Exists.intro; apply Exists.intro; apply Exists.intro; refine ⟨?p6_0, ?p6_1, ?p6_2, ?p6_3, ?p6_4, ?p6_5⟩; (case p6_0 => decide +kernel); (case p6_1 => decide +kernel); (case p6_2 => decide +kernel); (case p6_3 => decide +kernel); (case p6_4 => exact any_pair _); (case p6_5 => rfl)),
    ⟨by decide +kernel, by decide +kernel, by decide +kernel, by decide +kernel⟩⟩

theorem test_wit_AttentionQueues_2 :
    (let s : State := on .prompt (fun x => let x := dma x; { x with pwr := { x.pwr with ride := true } }); let c : ChId := .c0; let src : Src := pf; let x := s.ch c; x.admitsCtx src ⟨true, false, false⟩ = true ∧ x.dmaFault src.fn = none ∧ x.jobRoom = false) := by
  dsimp only
  exact ⟨by decide +kernel, by decide +kernel, by decide +kernel⟩

theorem test_wit_AttentionJobs :
    (let s : State := on .prompt (fun x => let x := { x with cru := { x.cru with jobs := [(7, { zJob with status := 0x28 })] } }; x); let c : ChId := .c0; let job : Nat := 7; let j : Job := { zJob with status := 0x28 }; let x := s.ch c; x.cru.jobs.find job = some j ∧ j.status ≠ 0) ∧
    (let s : State := on .prompt (fun x => let x := { x with cru := { x.cru with jobs := [(7, { zJob with frames := [(0, 4096)] })] } }; { x with cru := { x.cru with offline := 2 ^ 256 - 1 } }); let c : ChId := .c0; let job : Nat := 7; let j : Job := { zJob with frames := [(0, 4096)] }; let x := s.ch c; let taken := { x with cru := { x.cru with jobs := x.cru.jobs.del job } }; let dark := j.frames.any (fun f => taken.unitOff (taken.pchOf (taken.frameAddr f.2))) = true; x.cru.jobs.find job = some j ∧ j.status = 0 ∧ dark) ∧
    (let s : State := on .prompt (fun x => let x := { x with cru := { x.cru with jobs := [(7, { zJob with slot := 3, gen := 9 })] } }; ctx3 (ent .sealed) x); let c : ChId := .c0; let job : Nat := 7; let j : Job := { zJob with slot := 3, gen := 9 }; let x := s.ch c; let d := attnDesc j.image; let taken := { x with cru := { x.cru with jobs := x.cru.jobs.del job } }; let dark := j.frames.any (fun f => taken.unitOff (taken.pchOf (taken.frameAddr f.2))) = true; ∃ (y : Chan), let a := y.attend j d; x.cru.jobs.find job = some j ∧ j.status = 0 ∧ ¬ dark ∧ taken.eccReads (taken.jobRanges j d) 1 = (true, y) ∧ (x.entry j.slot).gen = j.gen ∧ (x.entry j.slot).state ≠ .free ∧ a.nans = 0 ∧ a.sats = 0) := by
  dsimp only
  exact ⟨⟨by decide +kernel, by decide +kernel⟩,
    ⟨by decide +kernel, by decide +kernel, by decide +kernel⟩,
    (by apply Exists.intro; refine ⟨?p2_0, ?p2_1, ?p2_2, ?p2_3, ?p2_4, ?p2_5, ?p2_6, ?p2_7⟩; (case p2_0 => decide +kernel); (case p2_1 => decide +kernel); (case p2_2 => decide +kernel); (case p2_3 => rfl); (case p2_4 => decide +kernel); (case p2_5 => decide +kernel); (case p2_6 => decide +kernel); (case p2_7 => decide +kernel))⟩

theorem test_wit_RowOperations_1 :
    (let s : State := on .prompt (fun x => x); let c : ChId := .c0; let src : Src := pf; let op : RowOp := ⟨0, 1, 0, 0, 0, 0⟩; let x := s.ch c; x.admits src ⟨true, false, false⟩ = true ∧ x.rowopOk op = false) ∧
    (let s : State := on .prompt (fun x => x); let c : ChId := .c0; let src : Src := pf; let op : RowOp := ⟨6, 2049, 0, 0, 0, 0⟩; let x := s.ch c; x.admits src ⟨true, false, false⟩ = true ∧ x.rowopOk op = false) ∧
    (let s : State := on .prompt (fun x => { x with pool := { x.pool with blocks := [(2 ^ 30, 1024)] } }); let c : ChId := .c0; let src : Src := pf; let op : RowOp := ⟨1, 1, 2 ^ 30, 2 ^ 30 + 65536 * 4, 2 ^ 30 + 65536 * 8, 0⟩; let x := s.ch c; let owned := (List.range op.rows).any (fun n => x.ctxOwned (op.dst + n * 1024)); x.admits src ⟨true, false, false⟩ = true ∧ x.rowopOk op = true ∧ owned = true) ∧
    (let s : State := on .prompt (fun x => x); let c : ChId := .c0; let src : Src := pf; let op : RowOp := ⟨1, 1, 2 ^ 38, 2 ^ 38 + 65536 * 4, 2 ^ 38 + 65536 * 8, 0⟩; let x := s.ch c; let owned := (List.range op.rows).any (fun n => x.ctxOwned (op.dst + n * 1024)); x.admits src ⟨true, false, false⟩ = true ∧ x.rowopOk op = true ∧ owned = false) ∧
    (let s : State := on .prompt (fun x => { x with cru := { x.cru with rowops := [⟨zRowOp, none⟩] } }); let c : ChId := .c0; let r : RowRun := ⟨zRowOp, none⟩; let rest : List RowRun := []; let x := s.ch c; x.cru.rowops = r :: rest) ∧
    (let s : State := on .prompt (fun x => x); let c : ChId := .c0; let pch : Nat := 255; let x := s.ch c; pch < x.pchs) ∧
    (let s : State := on .prompt (fun x => x); let c : ChId := .c0; let stack : Nat := 3; let temp : Nat := 86; let x := s.ch c; stack < x.pchs / 64 ∧ 85 < temp ∧ x.cru.hot.testBit stack = false) ∧
    (let s : State := on .prompt (fun x => { x with cru := { x.cru with hot := 8 } }); let c : ChId := .c0; let stack : Nat := 3; let temp : Nat := 82; let x := s.ch c; stack < x.pchs / 64 ∧ temp < 83 ∧ x.cru.hot.testBit stack = true) ∧
    (let s : State := on .prompt (fun x => x); let c : ChId := .c0; let stack : Nat := 3; let temp : Nat := 83; let x := s.ch c; stack < x.pchs / 64 ∧ 83 ≤ temp ∧ temp ≤ 85) ∧
    (let s : State := on .prompt (fun x => x); let c : ChId := .c0; let stack : Nat := 3; let temp : Nat := 85; let x := s.ch c; stack < x.pchs / 64 ∧ 83 ≤ temp ∧ temp ≤ 85) := by
  dsimp only
  exact ⟨⟨by decide +kernel, by decide +kernel⟩,
    ⟨by decide +kernel, by decide +kernel⟩,
    ⟨by decide +kernel, by decide +kernel, by decide +kernel⟩,
    ⟨by decide +kernel, by decide +kernel, by decide +kernel⟩,
    by decide +kernel,
    by decide +kernel,
    ⟨by decide +kernel, by decide +kernel, by decide +kernel⟩,
    ⟨by decide +kernel, by decide +kernel, by decide +kernel⟩,
    ⟨by decide +kernel, by decide +kernel, by decide +kernel⟩,
    ⟨by decide +kernel, by decide +kernel, by decide +kernel⟩⟩

theorem test_wit_RowOperations_2 :
    (let s : State := on .prompt (fun x => x); let c : ChId := .c0; let x := s.ch c; x.regsLive = true) := by
  dsimp only
  exact by decide +kernel

theorem test_wit_SpeculationRecords_1 :
    (let s : State := on .prompt (fun x => x); let c : ChId := .c0; let op : Nat := 3; let x := s.ch c; 1 ≤ op ∧ op ≤ 3 ∧ x.actingRole ≠ .generation) ∧
    (let s : State := on .prompt (fun x => x); let c : ChId := .c0; let op : Nat := 1; let x := s.ch c; 1 ≤ op ∧ op ≤ 3 ∧ x.actingRole ≠ .generation) ∧
    (let s : State := on .generation (fun x => ctx3 (ent .parked) x); let c : ChId := .c0; let slot : Nat := 3; let op : Nat := 1; let x := s.ch c; let e := x.entry slot; 1 ≤ op ∧ op ≤ 3 ∧ x.actingRole = .generation ∧ e.state ≠ .decoding) ∧
    (let s : State := on .generation (fun x => ctx3 { ent .decoding with sub := 2 } x); let c : ChId := .c0; let slot : Nat := 3; let op : Nat := 1; let x := s.ch c; let e := x.entry slot; 1 ≤ op ∧ op ≤ 3 ∧ x.actingRole = .generation ∧ e.state = .decoding ∧ e.sub = 2) ∧
    (let s : State := on .generation (fun x => ctx3 { ent .decoding with sub := 0, governor := 2 ^ 25 } x); let c : ChId := .c0; let slot : Nat := 3; let op : Nat := 1; let r : SpecRec := { { zSpecRec with version := 1, epoch := 1, count := 1 } with epoch := 2 }; let x := s.ch c; let e := x.entry slot; 1 ≤ op ∧ op ≤ 3 ∧ x.actingRole = .generation ∧ e.state = .decoding ∧ e.sub ≠ 2 ∧ r.epoch ≠ e.epoch) ∧
    (let s : State := on .generation (fun x => ctx3 { ent .decoding with sub := 0, governor := 2 ^ 25 } x); let c : ChId := .c0; let slot : Nat := 3; let op : Nat := 1; let r : SpecRec := { { zSpecRec with version := 1, epoch := 1, count := 1 } with base := 1 }; let x := s.ch c; let e := x.entry slot; 1 ≤ op ∧ op ≤ 3 ∧ x.actingRole = .generation ∧ e.state = .decoding ∧ e.sub ≠ 2 ∧ r.epoch = e.epoch ∧ r.base ≠ e.committed) ∧
    (let s : State := on .generation (fun x => ctx3 { ent .decoding with sub := 1 } x); let c : ChId := .c0; let slot : Nat := 3; let op : Nat := 1; let r : SpecRec := { zSpecRec with version := 1, epoch := 1, count := 1 }; let x := s.ch c; let e := x.entry slot; let plain := x.actingRole = .generation ∧ e.state = .decoding ∧ r.epoch = e.epoch ∧ r.base = e.committed; 1 ≤ op ∧ op ≤ 3 ∧ plain ∧ op = 1 ∧ e.sub = 1) ∧
    (let s : State := on .generation (fun x => ctx3 { ent .decoding with sub := 0 } x); let c : ChId := .c0; let slot : Nat := 3; let op : Nat := 1; let r : SpecRec := { zSpecRec with version := 1, epoch := 1, count := 1 }; let x := s.ch c; let e := x.entry slot; let m := x.map slot; let layers := (x.geom e.profile).layers; let plain := x.actingRole = .generation ∧ e.state = .decoding ∧ r.epoch = e.epoch ∧ r.base = e.committed; ∃ (ps : List (Option Nat)), 1 ≤ op ∧ op ≤ 3 ∧ plain ∧ op = 1 ∧ e.sub = 0 ∧ (∀ l, l < layers → m.fillOf l = e.committed) ∧ r.version = 1 ∧ 1 ≤ r.count ∧ r.count ≤ 256 ∧ draftParents r.count r.anchor r.tree r.table = some ps ∧ govLimit e.governor = 0) ∧
    (let s : State := on .generation (fun x => ctx3 { ent .decoding with sub := 0, governor := 2 ^ 25 } x); let c : ChId := .c0; let slot : Nat := 3; let op : Nat := 1; let r : SpecRec := { zSpecRec with version := 1, epoch := 1, count := 1 }; let x := s.ch c; let e := x.entry slot; let m := x.map slot; let layers := (x.geom e.profile).layers; let plain := x.actingRole = .generation ∧ e.state = .decoding ∧ r.epoch = e.epoch ∧ r.base = e.committed; ∃ (ps : List (Option Nat)), 1 ≤ op ∧ op ≤ 3 ∧ plain ∧ op = 1 ∧ e.sub = 0 ∧ (∀ l, l < layers → m.fillOf l = e.committed) ∧ r.version = 1 ∧ 1 ≤ r.count ∧ r.count ≤ 256 ∧ draftParents r.count r.anchor r.tree r.table = some ps ∧ govLimit e.governor ≠ 0 ∧ r.count ≤ x.maxNodes ∧ r.count ≤ (x.geom e.profile).window ∧ draftDepth ps r.anchor ≤ govLimit e.governor ∧ e.committed + r.count ≤ 2 ^ 22) ∧
    (let s : State := on .generation (fun x => ctx3 { ent .decoding with sub := 0, governor := 2 ^ 25 } x); let c : ChId := .c0; let slot : Nat := 3; let op : Nat := 2; let r : SpecRec := { zSpecRec with version := 1, epoch := 1, count := 1 }; let x := s.ch c; let e := x.entry slot; let plain := x.actingRole = .generation ∧ e.state = .decoding ∧ r.epoch = e.epoch ∧ r.base = e.committed; 1 ≤ op ∧ op ≤ 3 ∧ plain ∧ op = 2 ∧ e.sub = 0) := by
  dsimp only
  exact ⟨⟨by decide +kernel, by decide +kernel, by decide +kernel⟩,
    ⟨by decide +kernel, by decide +kernel, by decide +kernel⟩,
    ⟨by decide +kernel, by decide +kernel, by decide +kernel, by decide +kernel⟩,
    ⟨by decide +kernel, by decide +kernel, by decide +kernel, by decide +kernel, by decide +kernel⟩,
    ⟨by decide +kernel, by decide +kernel, by decide +kernel, by decide +kernel, by decide +kernel, by decide +kernel⟩,
    ⟨by decide +kernel, by decide +kernel, by decide +kernel, by decide +kernel, by decide +kernel, by decide +kernel, by decide +kernel⟩,
    ⟨by decide +kernel, by decide +kernel, by decide +kernel, by decide +kernel, by decide +kernel⟩,
    (by apply Exists.intro; refine ⟨?p6_0, ?p6_1, ?p6_2, ?p6_3, ?p6_4, ?p6_5, ?p6_6, ?p6_7, ?p6_8, ?p6_9, ?p6_10⟩; (case p6_0 => decide +kernel); (case p6_1 => decide +kernel); (case p6_2 => decide +kernel); (case p6_3 => decide +kernel); (case p6_4 => decide +kernel); (case p6_5 => decide +kernel); (case p6_6 => decide +kernel); (case p6_7 => decide +kernel); (case p6_8 => decide +kernel); (case p6_9 => rfl); (case p6_10 => decide +kernel)),
    (by apply Exists.intro; refine ⟨?p7_0, ?p7_1, ?p7_2, ?p7_3, ?p7_4, ?p7_5, ?p7_6, ?p7_7, ?p7_8, ?p7_9, ?p7_10, ?p7_11, ?p7_12, ?p7_13, ?p7_14⟩; (case p7_0 => decide +kernel); (case p7_1 => decide +kernel); (case p7_2 => decide +kernel); (case p7_3 => decide +kernel); (case p7_4 => decide +kernel); (case p7_5 => decide +kernel); (case p7_6 => decide +kernel); (case p7_7 => decide +kernel); (case p7_8 => decide +kernel); (case p7_9 => rfl); (case p7_10 => decide +kernel); (case p7_11 => decide +kernel); (case p7_12 => decide +kernel); (case p7_13 => decide +kernel); (case p7_14 => decide +kernel)),
    ⟨by decide +kernel, by decide +kernel, by decide +kernel, by decide +kernel, by decide +kernel⟩⟩

theorem test_wit_SpeculationRecords_2 :
    (let s : State := on .generation (fun x => let x := ctx3 { ent .decoding with sub := 1 } x; { x with drafts := [(3, ⟨0, false, [none], none⟩)] }); let c : ChId := .c0; let slot : Nat := 3; let op : Nat := 2; let r : SpecRec := { { zSpecRec with version := 1, epoch := 1, count := 1 } with table := [1] }; let d : Draft := ⟨0, false, [none], none⟩; let x := s.ch c; let e := x.entry slot; let plain := x.actingRole = .generation ∧ e.state = .decoding ∧ r.epoch = e.epoch ∧ r.base = e.committed; 1 ≤ op ∧ op ≤ 3 ∧ plain ∧ op = 2 ∧ e.sub = 1 ∧ x.drafts.find slot = some d ∧ r.version = 1 ∧ r.count ≤ 64 ∧ r.count ≤ r.table.length ∧ pathOk d (r.table.take r.count) = false) ∧
    (let s : State := on .generation (fun x => let x := ctx3 { ent .decoding with sub := 1 } x; { x with drafts := [(3, ⟨0, false, [none], none⟩)] }); let c : ChId := .c0; let slot : Nat := 3; let op : Nat := 2; let r : SpecRec := { { zSpecRec with version := 1, epoch := 1, count := 1 } with table := [0] }; let d : Draft := ⟨0, false, [none], none⟩; let x := s.ch c; let e := x.entry slot; let plain := x.actingRole = .generation ∧ e.state = .decoding ∧ r.epoch = e.epoch ∧ r.base = e.committed; 1 ≤ op ∧ op ≤ 3 ∧ plain ∧ op = 2 ∧ e.sub = 1 ∧ x.drafts.find slot = some d ∧ r.version = 1 ∧ r.count ≤ 64 ∧ r.count ≤ r.table.length ∧ pathOk d (r.table.take r.count) = true ∧ x.paused e.tslot = false) ∧
    (let s : State := on .generation (fun x => ctx3 { ent .decoding with sub := 0, governor := 2 ^ 25 } x); let c : ChId := .c0; let slot : Nat := 3; let op : Nat := 3; let r : SpecRec := { zSpecRec with version := 1, epoch := 1, count := 1 }; let x := s.ch c; let e := x.entry slot; let plain := x.actingRole = .generation ∧ e.state = .decoding ∧ r.epoch = e.epoch ∧ r.base = e.committed; 1 ≤ op ∧ op ≤ 3 ∧ plain ∧ op = 3 ∧ e.sub = 0) ∧
    (let s : State := on .generation (fun x => ctx3 { ent .decoding with sub := 1 } x); let c : ChId := .c0; let slot : Nat := 3; let op : Nat := 3; let r : SpecRec := { { zSpecRec with version := 1, epoch := 1, count := 1 } with count := 0 }; let x := s.ch c; let e := x.entry slot; let plain := x.actingRole = .generation ∧ e.state = .decoding ∧ r.epoch = e.epoch ∧ r.base = e.committed; 1 ≤ op ∧ op ≤ 3 ∧ plain ∧ op = 3 ∧ e.sub = 1 ∧ r.version = 1 ∧ r.count = 0) := by
  dsimp only
  exact ⟨⟨by decide +kernel, by decide +kernel, by decide +kernel, by decide +kernel, by decide +kernel, by decide +kernel, by decide +kernel, by decide +kernel, by decide +kernel, by decide +kernel⟩,
    ⟨by decide +kernel, by decide +kernel, by decide +kernel, by decide +kernel, by decide +kernel, by decide +kernel, by decide +kernel, by decide +kernel, by decide +kernel, by decide +kernel, by decide +kernel⟩,
    ⟨by decide +kernel, by decide +kernel, by decide +kernel, by decide +kernel, by decide +kernel⟩,
    ⟨by decide +kernel, by decide +kernel, by decide +kernel, by decide +kernel, by decide +kernel, by decide +kernel, by decide +kernel⟩⟩

theorem test_wit_VerifyCommit :
    (let s : State := on .generation (fun x => let x := x; let x := { ctx3 { ent .decoding with sub := 2 } x with drafts := [(3, ⟨0, false, [none, none], some ([1], .host pf, 9)⟩)] }; x); let c : ChId := .c0; let slot : Nat := 3; let tag : Nat := 9; let dest : ReplyTo := .host pf; let d : Draft := ⟨0, false, [none, none], some ([1], .host pf, 9)⟩; let path : List Nat := [1]; let x := s.ch c; let e := x.entry slot; let whole := ∀ a ∈ path, x.rowComplete slot (d.base + a) = true; x.drafts.find slot = some { d with verify := some (path, dest, tag) } ∧ e.state = .decoding ∧ e.sub = 2 ∧ (x.map slot).staged = [] ∧ ¬ whole) ∧
    (let s : State := on .generation (fun x => let x := x; let x := { ctx3 { ent .decoding with sub := 2 } x with drafts := [(3, ⟨0, false, [none, none], some ([1], .host pf, 9)⟩)] }; { x with maps := [(3, { PageMap.init with fill := [(0, 2), (1, 2)] })] }); let c : ChId := .c0; let slot : Nat := 3; let tag : Nat := 9; let dest : ReplyTo := .host pf; let d : Draft := ⟨0, false, [none, none], some ([1], .host pf, 9)⟩; let path : List Nat := [1]; let x := s.ch c; let e := x.entry slot; let moves := (List.range path.length).filterMap (fun j => if path.getD j 0 = j then none else some (d.base + path.getD j 0, d.base + j)); let whole := ∀ a ∈ path, x.rowComplete slot (d.base + a) = true; ∃ (y : Chan), x.drafts.find slot = some { d with verify := some (path, dest, tag) } ∧ e.state = .decoding ∧ e.sub = 2 ∧ (x.map slot).staged = [] ∧ whole ∧ x.copyFrames slot (moves.map Prod.snd) = (.quota, y)) ∧
    (let s : State := on .generation (fun x => let x := { quota (x.fset Reg.PG_RESERVE 47 32 256) with g8x := true }; let x := { ctx3 { ent .decoding with sub := 2 } x with drafts := [(3, ⟨0, false, [none, none], some ([1], .host pf, 9)⟩)] }; { x with maps := [(3, { PageMap.init with fill := [(0, 2), (1, 2)] })] }); let c : ChId := .c0; let slot : Nat := 3; let tag : Nat := 9; let dest : ReplyTo := .host pf; let d : Draft := ⟨0, false, [none, none], some ([1], .host pf, 9)⟩; let path : List Nat := [1]; let x := s.ch c; let e := x.entry slot; let moves := (List.range path.length).filterMap (fun j => if path.getD j 0 = j then none else some (d.base + path.getD j 0, d.base + j)); let whole := ∀ a ∈ path, x.rowComplete slot (d.base + a) = true; ∃ (y : Chan), x.drafts.find slot = some { d with verify := some (path, dest, tag) } ∧ e.state = .decoding ∧ e.sub = 2 ∧ (x.map slot).staged = [] ∧ whole ∧ x.copyFrames slot (moves.map Prod.snd) = (.exhausted, y)) ∧
    (let s : State := on .generation (fun x => let x := x; let x := { ctx3 { ent .decoding with sub := 2 } x with drafts := [(3, ⟨0, true, [none], some ([0], .host pf, 9)⟩)] }; { x with maps := [(3, { PageMap.init with fill := [(0, 2), (1, 2)] })] }); let c : ChId := .c0; let slot : Nat := 3; let tag : Nat := 9; let dest : ReplyTo := .host pf; let d : Draft := ⟨0, true, [none], some ([0], .host pf, 9)⟩; let path : List Nat := [0]; let x := s.ch c; let e := x.entry slot; let moves := (List.range path.length).filterMap (fun j => if path.getD j 0 = j then none else some (d.base + path.getD j 0, d.base + j)); let whole := ∀ a ∈ path, x.rowComplete slot (d.base + a) = true; let depth := draftDepth d.parents d.anchor; ∃ (y : Chan) (z : Chan), let copied := moves.foldl (fun acc m => if acc.1 = true then acc.2.copyRow slot m.1 m.2 else acc) (true, y); x.drafts.find slot = some { d with verify := some (path, dest, tag) } ∧ e.state = .decoding ∧ e.sub = 2 ∧ (x.map slot).staged = [] ∧ whole ∧ x.copyFrames slot (moves.map Prod.snd) = (.ready, y) ∧ copied = (true, z) ∧ depth = 0) ∧
    (let s : State := on .generation (fun x => let x := x; let x := { ctx3 { ent .decoding with sub := 2 } x with drafts := [(3, ⟨0, false, [none], some ([0], .host pf, 9)⟩)] }; { x with maps := [(3, { PageMap.init with fill := [(0, 2), (1, 2)] })] }); let c : ChId := .c0; let slot : Nat := 3; let tag : Nat := 9; let dest : ReplyTo := .host pf; let d : Draft := ⟨0, false, [none], some ([0], .host pf, 9)⟩; let path : List Nat := [0]; let x := s.ch c; let e := x.entry slot; let moves := (List.range path.length).filterMap (fun j => if path.getD j 0 = j then none else some (d.base + path.getD j 0, d.base + j)); let whole := ∀ a ∈ path, x.rowComplete slot (d.base + a) = true; let a := path.length - b2n d.anchor; let depth := draftDepth d.parents d.anchor; ∃ (y : Chan) (z : Chan), let copied := moves.foldl (fun acc m => if acc.1 = true then acc.2.copyRow slot m.1 m.2 else acc) (true, y); let placed := let w := z.commitTo slot (d.base + path.length) (fun e => { e with provisional := 0 }); let w := w.setMap slot ((w.map slot).setFill (w.geom (z.entry slot).profile).layers (d.base + path.length)); { w with drafts := w.drafts.del slot }; let gov := (placed.entry slot).governor; x.drafts.find slot = some { d with verify := some (path, dest, tag) } ∧ e.state = .decoding ∧ e.sub = 2 ∧ (x.map slot).staged = [] ∧ whole ∧ x.copyFrames slot (moves.map Prod.snd) = (.ready, y) ∧ copied = (true, z) ∧ depth ≠ 0 ∧ (placed.govern gov a depth).2 = false) ∧
    (let s : State := on .generation (fun x => let x := quota x; let x := { ctx3 { ent .decoding with sub := 2 } x with drafts := [(3, ⟨0, false, [none, none], some ([1], .host pf, 9)⟩)] }; let x := { x with maps := [(3, { PageMap.init with fill := [(0, 2), (1, 2)] })] }; ((x.needFrame 3 0 0 0).bind (fun x => x.needFrame 3 0 1 0)).getD x |> fun x => { x with rel := { x.rel with cw := [((x.pageAddr 3 0 0 0 0).getD 0 / 64 + 1, .poison)] } }); let c : ChId := .c0; let slot : Nat := 3; let tag : Nat := 9; let dest : ReplyTo := .host pf; let d : Draft := ⟨0, false, [none, none], some ([1], .host pf, 9)⟩; let path : List Nat := [1]; let x := s.ch c; let e := x.entry slot; let moves := (List.range path.length).filterMap (fun j => if path.getD j 0 = j then none else some (d.base + path.getD j 0, d.base + j)); let whole := ∀ a ∈ path, x.rowComplete slot (d.base + a) = true; ∃ (y : Chan) (z : Chan), let copied := moves.foldl (fun acc m => if acc.1 = true then acc.2.copyRow slot m.1 m.2 else acc) (true, y); x.drafts.find slot = some { d with verify := some (path, dest, tag) } ∧ e.state = .decoding ∧ e.sub = 2 ∧ (x.map slot).staged = [] ∧ whole ∧ x.copyFrames slot (moves.map Prod.snd) = (.ready, y) ∧ copied = (false, z)) ∧
    (let s : State := on .generation (fun x => ctx3 (ent .sealed) x); let c : ChId := .c0; let src : Src := pf; let h : Nat := h3; let slot : Nat := 3; let x := s.ch c; let e := x.entry slot; x.admitsCtx src ⟨false, false, false⟩ = true ∧ x.owns src h slot = true ∧ e.state ≠ .decoding) ∧
    (let s : State := on .generation (fun x => ctx3 (ent .decoding) x); let c : ChId := .c0; let src : Src := pf; let h : Nat := h3; let slot : Nat := 3; let reset : Bool := true; let x := s.ch c; let e := x.entry slot; x.admitsCtx src ⟨false, false, false⟩ = true ∧ x.owns src h slot = true ∧ e.state = .decoding ∧ reset = true) ∧
    (let s : State := on .generation (fun x => ctx3 (ent .decoding) x); let c : ChId := .c0; let src : Src := pf; let h : Nat := h3; let slot : Nat := 3; let limit : Nat := 129; let reset : Bool := false; let x := s.ch c; let e := x.entry slot; x.admitsCtx src ⟨false, false, false⟩ = true ∧ x.owns src h slot = true ∧ e.state = .decoding ∧ reset = false ∧ x.maxDepth < limit) ∧
    (let s : State := on .generation (fun x => ctx3 (ent .decoding) x |>.wr Reg.SPC_GOV_CFG (2 ^ 16 * 0 + 64 * 2 ^ 9)); let c : ChId := .c0; let src : Src := pf; let h : Nat := h3; let slot : Nat := 3; let limit : Nat := 1; let reset : Bool := false; let x := s.ch c; let e := x.entry slot; x.admitsCtx src ⟨false, false, false⟩ = true ∧ x.owns src h slot = true ∧ e.state = .decoding ∧ reset = false ∧ limit ≤ x.maxDepth) := by
  dsimp only
  exact ⟨⟨by decide +kernel, by decide +kernel, by decide +kernel, by decide +kernel, by decide +kernel⟩,
    (by apply Exists.intro; refine ⟨?p1_0, ?p1_1, ?p1_2, ?p1_3, ?p1_4, ?p1_5⟩; (case p1_0 => decide +kernel); (case p1_1 => decide +kernel); (case p1_2 => decide +kernel); (case p1_3 => decide +kernel); (case p1_4 => decide +kernel); (case p1_5 => apply fst_pair; decide +kernel)),
    (by apply Exists.intro; refine ⟨?p2_0, ?p2_1, ?p2_2, ?p2_3, ?p2_4, ?p2_5⟩; (case p2_0 => decide +kernel); (case p2_1 => decide +kernel); (case p2_2 => decide +kernel); (case p2_3 => decide +kernel); (case p2_4 => decide +kernel); (case p2_5 => apply fst_pair; decide +kernel)),
    (by apply Exists.intro; apply Exists.intro; refine ⟨?p3_0, ?p3_1, ?p3_2, ?p3_3, ?p3_4, ?p3_5, ?p3_6, ?p3_7⟩; (case p3_0 => decide +kernel); (case p3_1 => decide +kernel); (case p3_2 => decide +kernel); (case p3_3 => decide +kernel); (case p3_4 => decide +kernel); (case p3_5 => rfl); (case p3_6 => rfl); (case p3_7 => decide +kernel)),
    (by apply Exists.intro; apply Exists.intro; refine ⟨?p4_0, ?p4_1, ?p4_2, ?p4_3, ?p4_4, ?p4_5, ?p4_6, ?p4_7, ?p4_8⟩; (case p4_0 => decide +kernel); (case p4_1 => decide +kernel); (case p4_2 => decide +kernel); (case p4_3 => decide +kernel); (case p4_4 => decide +kernel); (case p4_5 => rfl); (case p4_6 => rfl); (case p4_7 => decide +kernel); (case p4_8 => decide +kernel)),
    (by apply Exists.intro; apply Exists.intro; refine ⟨?p5_0, ?p5_1, ?p5_2, ?p5_3, ?p5_4, ?p5_5, ?p5_6⟩; (case p5_0 => decide +kernel); (case p5_1 => decide +kernel); (case p5_2 => decide +kernel); (case p5_3 => decide +kernel); (case p5_4 => decide +kernel); (case p5_5 => apply fst_pair; decide +kernel); (case p5_6 => apply fst_pair; decide +kernel)),
    ⟨by decide +kernel, by decide +kernel, by decide +kernel⟩,
    ⟨by decide +kernel, by decide +kernel, by decide +kernel, by decide +kernel⟩,
    ⟨by decide +kernel, by decide +kernel, by decide +kernel, by decide +kernel, by decide +kernel⟩,
    ⟨by decide +kernel, by decide +kernel, by decide +kernel, by decide +kernel, by decide +kernel⟩⟩

theorem test_wit_GovernorBounds :
    (let v : Nat := 256 * 2 ^ 16 + 2 ^ 25; let a : Nat := 1; let d : Nat := 1; 1 ≤ d ∧ a ≤ d ∧ bits v 24 16 ≤ 256) ∧
    (let x : Chan := State.reset.ch0.wr Reg.SPC_GOV_CFG (2 ^ 56); let v : Nat := 256 * 2 ^ 16 + 2 ^ 25; let a : Nat := 0; let d : Nat := 1; 1 ≤ d ∧ a ≤ d ∧ bits v 24 16 ≤ 256 ∧ (x.govern v a d).2 = true) ∧
    (let x : Chan := State.reset.ch0.wr Reg.SPC_GOV_CFG (2 ^ 56); let v : Nat := 256 * 2 ^ 16 + 2 ^ 25; let a : Nat := 0; let d : Nat := 1; let w := (x.govern v a d).1; 1 ≤ d ∧ a ≤ d ∧ bits v 24 16 ≤ 256 ∧ govLimit w = 0) := by
  dsimp only
  exact ⟨⟨by decide +kernel, by decide +kernel, by decide +kernel⟩,
    ⟨by decide +kernel, by decide +kernel, by decide +kernel, by decide +kernel⟩,
    ⟨by decide +kernel, by decide +kernel, by decide +kernel, by decide +kernel⟩⟩

/-! ### Witnesses: Programs, invocations and schedule -/

theorem test_wit_ProgramCommands_1 :
    (let s : State := on .prompt (fun x => let x := dma x; let x := { x with sec := { x.sec with keys := [(0, { TenKeys.init with prog := [(1, ⟨[], 9, 2⟩)] })] } }; x); let c : ChId := .c0; let src : Src := pf; let m : ImageIn := { zImageIn with magic := 0xBAF10001, hdrVersion := 1, kind := 3, tenantTag := 77, textBytes := 8, scratchBytes := 4096, coresMax := 64, entries := [zEntryRec], text := List.replicate 8 0, size := 217, keyId := 9, version := 2, sigOk := true }; let a : Nat := imgBase; let x := s.ch c; let form := imageFormed m = true; let adm := fun a => x.admits src a = true; adm ⟨false, false, true⟩ ∧ x.dmaFault src.fn = none ∧ ¬ form) ∧
    (let s : State := on .prompt (fun x => let x := dma x; let x := { x with sec := { x.sec with keys := [(0, { TenKeys.init with prog := [(1, ⟨[], 9, 2⟩)] })] } }; x); let c : ChId := .c0; let src : Src := pf; let m : ImageIn := { zImageIn with magic := 0xBAF10001, hdrVersion := 1, kind := 3, tenantTag := 77, textBytes := 8, scratchBytes := 4095, coresMax := 64, entries := [zEntryRec], text := List.replicate 8 0, size := 216, keyId := 9, version := 2, sigOk := true }; let a : Nat := imgBase; let x := s.ch c; let form := imageFormed m = true; let adm := fun a => x.admits src a = true; adm ⟨false, false, true⟩ ∧ x.dmaFault src.fn = none ∧ ¬ form) ∧
    (let s : State := on .prompt (fun x => let x := dma x; let x := { x with sec := { x.sec with keys := [(0, { TenKeys.init with prog := [(1, ⟨[], 9, 2⟩)] })] } }; x); let c : ChId := .c0; let src : Src := pf; let m : ImageIn := { zImageIn with magic := 0xBAF10001, hdrVersion := 1, kind := 3, tenantTag := 78, textBytes := 8, scratchBytes := 4096, coresMax := 64, entries := [zEntryRec], text := List.replicate 8 0, size := 216, keyId := 9, version := 2, sigOk := true }; let a : Nat := imgBase; let x := s.ch c; let t := src.slot; let form := imageFormed m = true; let ours := m.kind = 3 ∧ m.tenantTag = x.tag t; let adm := fun a => x.admits src a = true; adm ⟨false, false, true⟩ ∧ x.dmaFault src.fn = none ∧ form ∧ ¬ ours) ∧
    (let s : State := on .prompt (fun x => let x := dma x; let x := { x with sec := { x.sec with keys := [(0, { TenKeys.init with prog := [(1, ⟨[], 9, 2⟩)] })] } }; x); let c : ChId := .c0; let src : Src := pf; let m : ImageIn := { zImageIn with magic := 0xBAF10001, hdrVersion := 1, kind := 3, tenantTag := 77, textBytes := 8, scratchBytes := 4096, coresMax := 64, entries := [zEntryRec], text := List.replicate 8 0, size := 216, keyId := 8, version := 2, sigOk := true }; let a : Nat := imgBase; let x := s.ch c; let t := src.slot; let form := imageFormed m = true; let ours := m.kind = 3 ∧ m.tenantTag = x.tag t; let adm := fun a => x.admits src a = true; adm ⟨false, false, true⟩ ∧ x.dmaFault src.fn = none ∧ form ∧ ours ∧ x.progKey t m.keyId = none) ∧
    (let s : State := on .prompt (fun x => let x := dma x; let x := { x with sec := { x.sec with keys := [(0, { TenKeys.init with prog := [(1, ⟨[], 9, 2⟩)] })] } }; x); let c : ChId := .c0; let src : Src := pf; let m : ImageIn := { zImageIn with magic := 0xBAF10001, hdrVersion := 1, kind := 3, tenantTag := 77, textBytes := 8, scratchBytes := 4096, coresMax := 64, entries := [zEntryRec], text := List.replicate 8 0, size := 216, keyId := 9, version := 2, sigOk := false }; let ki : Nat := 1; let a : Nat := imgBase; let key : ProgKey := ⟨[], 9, 2⟩; let x := s.ch c; let t := src.slot; let form := imageFormed m = true; let ours := m.kind = 3 ∧ m.tenantTag = x.tag t; let adm := fun a => x.admits src a = true; adm ⟨false, false, true⟩ ∧ x.dmaFault src.fn = none ∧ form ∧ ours ∧ x.progKey t m.keyId = some (ki, key) ∧ m.sigOk = false) ∧
    (let s : State := on .prompt (fun x => let x := dma x; let x := { x with sec := { x.sec with keys := [(0, { TenKeys.init with prog := [(1, ⟨[], 9, 3⟩)] })] } }; x); let c : ChId := .c0; let src : Src := pf; let m : ImageIn := { zImageIn with magic := 0xBAF10001, hdrVersion := 1, kind := 3, tenantTag := 77, textBytes := 8, scratchBytes := 4096, coresMax := 64, entries := [zEntryRec], text := List.replicate 8 0, size := 216, keyId := 9, version := 2, sigOk := true }; let ki : Nat := 1; let a : Nat := imgBase; let key : ProgKey := ⟨[], 9, 3⟩; let x := s.ch c; let t := src.slot; let form := imageFormed m = true; let ours := m.kind = 3 ∧ m.tenantTag = x.tag t; let adm := fun a => x.admits src a = true; adm ⟨false, false, true⟩ ∧ x.dmaFault src.fn = none ∧ form ∧ ours ∧ x.progKey t m.keyId = some (ki, key) ∧ m.sigOk = true ∧ m.version < key.floor) ∧
    (let s : State := on .prompt (fun x => let x := dma x; let x := { x with sec := { x.sec with keys := [(0, { TenKeys.init with prog := [(1, ⟨[], 9, 2⟩)] })] } }; { x with gaf := { x.gaf with progs := (List.range 28).map (fun i => (i + 4, roleP)) } }); let c : ChId := .c0; let src : Src := pf; let m : ImageIn := { zImageIn with magic := 0xBAF10001, hdrVersion := 1, kind := 3, tenantTag := 77, textBytes := 8, scratchBytes := 4096, coresMax := 64, entries := [zEntryRec], text := List.replicate 8 0, size := 216, keyId := 9, version := 2, sigOk := true }; let ki : Nat := 1; let a : Nat := imgBase; let key : ProgKey := ⟨[], 9, 2⟩; let x := s.ch c; let t := src.slot; let form := imageFormed m = true; let ours := m.kind = 3 ∧ m.tenantTag = x.tag t; let adm := fun a => x.admits src a = true; let free := (List.range 28).find? (fun i => (x.prog (4 + i)).isNone); adm ⟨false, false, true⟩ ∧ x.dmaFault src.fn = none ∧ form ∧ ours ∧ x.progKey t m.keyId = some (ki, key) ∧ m.sigOk = true ∧ key.floor ≤ m.version ∧ (free = none ∨ x.imageRoom m.size = none)) ∧
    (let s : State := on .prompt (fun x => let x := dma x; let x := { x with sec := { x.sec with keys := [(0, { TenKeys.init with prog := [(1, ⟨[], 9, 2⟩)] })] } }; { x with gaf := { x.gaf with progs := [(8, tenP), (9, tenP), (10, tenP), (31, tenP)] } }); let c : ChId := .c0; let src : Src := pf; let m : ImageIn := { zImageIn with magic := 0xBAF10001, hdrVersion := 1, kind := 3, tenantTag := 77, textBytes := 8, scratchBytes := 4096, coresMax := 64, entries := [zEntryRec], text := List.replicate 8 0, size := 216, keyId := 9, version := 2, sigOk := true }; let ki : Nat := 1; let a : Nat := imgBase; let key : ProgKey := ⟨[], 9, 2⟩; let i : Nat := 0; let x := s.ch c; let t := src.slot; let form := imageFormed m = true; let ours := m.kind = 3 ∧ m.tenantTag = x.tag t; let adm := fun a => x.admits src a = true; let free := (List.range 28).find? (fun i => (x.prog (4 + i)).isNone); adm ⟨false, false, true⟩ ∧ x.dmaFault src.fn = none ∧ form ∧ ours ∧ x.progKey t m.keyId = some (ki, key) ∧ m.sigOk = true ∧ key.floor ≤ m.version ∧ free = some i ∧ x.imageRoom m.size = some a ∧ 4 ≤ (x.progsOf t).length) ∧
    (let s : State := on .prompt (fun x => let x := dma x; let x := { x with sec := { x.sec with keys := [(0, { TenKeys.init with prog := [(1, ⟨[], 9, 2⟩)] })] } }; { x with gaf := { x.gaf with progs := [(8, { roleP with evcBase := 16384, evcCount := 49152 })] } }); let c : ChId := .c0; let src : Src := pf; let m : ImageIn := { zImageIn with evcCount := 1, magic := 0xBAF10001, hdrVersion := 1, kind := 3, tenantTag := 77, textBytes := 8, scratchBytes := 4096, coresMax := 64, entries := [zEntryRec], text := List.replicate 8 0, size := 216, keyId := 9, version := 2, sigOk := true }; let ki : Nat := 1; let a : Nat := imgBase; let key : ProgKey := ⟨[], 9, 2⟩; let i : Nat := 0; let x := s.ch c; let t := src.slot; let form := imageFormed m = true; let ours := m.kind = 3 ∧ m.tenantTag = x.tag t; let adm := fun a => x.admits src a = true; let free := (List.range 28).find? (fun i => (x.prog (4 + i)).isNone); adm ⟨false, false, true⟩ ∧ x.dmaFault src.fn = none ∧ form ∧ ours ∧ x.progKey t m.keyId = some (ki, key) ∧ m.sigOk = true ∧ key.floor ≤ m.version ∧ free = some i ∧ x.imageRoom m.size = some a ∧ (x.progsOf t).length < 4 ∧ x.counterRoom m.evcCount = none) ∧
    (let s : State := on .prompt (fun x => let x := dma x; let x := { x with sec := { x.sec with keys := [(0, { TenKeys.init with prog := [(1, ⟨[], 9, 2⟩)] })] } }; x); let c : ChId := .c0; let src : Src := pf; let m : ImageIn := { zImageIn with magic := 0xBAF10001, hdrVersion := 1, kind := 3, tenantTag := 77, textBytes := 8, scratchBytes := 4096, coresMax := 64, entries := [zEntryRec], text := List.replicate 8 0, size := 216, keyId := 9, version := 2, sigOk := true }; let ki : Nat := 1; let a : Nat := imgBase; let evc : Nat := 16384; let key : ProgKey := ⟨[], 9, 2⟩; let i : Nat := 0; let x := s.ch c; let t := src.slot; let form := imageFormed m = true; let ours := m.kind = 3 ∧ m.tenantTag = x.tag t; let adm := fun a => x.admits src a = true; let free := (List.range 28).find? (fun i => (x.prog (4 + i)).isNone); adm ⟨false, false, true⟩ ∧ x.dmaFault src.fn = none ∧ form ∧ ours ∧ x.progKey t m.keyId = some (ki, key) ∧ m.sigOk = true ∧ key.floor ≤ m.version ∧ free = some i ∧ x.imageRoom m.size = some a ∧ (x.progsOf t).length < 4 ∧ x.counterRoom m.evcCount = some evc) := by
  dsimp only
  exact ⟨⟨by decide +kernel, by decide +kernel, by decide +kernel⟩,
    ⟨by decide +kernel, by decide +kernel, by decide +kernel⟩,
    ⟨by decide +kernel, by decide +kernel, by decide +kernel, by decide +kernel⟩,
    ⟨by decide +kernel, by decide +kernel, by decide +kernel, by decide +kernel, by decide +kernel⟩,
    ⟨by decide +kernel, by decide +kernel, by decide +kernel, by decide +kernel, by decide +kernel, by decide +kernel⟩,
    ⟨by decide +kernel, by decide +kernel, by decide +kernel, by decide +kernel, by decide +kernel, by decide +kernel, by decide +kernel⟩,
    ⟨by decide +kernel, by decide +kernel, by decide +kernel, by decide +kernel, by decide +kernel, by decide +kernel, by decide +kernel, by decide +kernel⟩,
    ⟨by decide +kernel, by decide +kernel, by decide +kernel, by decide +kernel, by decide +kernel, by decide +kernel, by decide +kernel, by decide +kernel, by decide +kernel, by decide +kernel⟩,
    ⟨by decide +kernel, by decide +kernel, by decide +kernel, by decide +kernel, by decide +kernel, by decide +kernel, by decide +kernel, by decide +kernel, by decide +kernel, by decide +kernel, by decide +kernel⟩,
    ⟨by decide +kernel, by decide +kernel, by decide +kernel, by decide +kernel, by decide +kernel, by decide +kernel, by decide +kernel, by decide +kernel, by decide +kernel, by decide +kernel, by decide +kernel⟩⟩

theorem test_wit_ProgramCommands_2 :
    (let s : State := on .prompt (fun x => let x := dma x; let x := { x with sec := { x.sec with keys := [(0, { TenKeys.init with prog := [(1, ⟨[], 9, 2⟩)] })] } }; x); let c : ChId := .c0; let src : Src := pf; let a : Nat := imgBase; let n : Nat := 5; let entry : Nat := 0; let params : List W64 := []; let i := Instr.gafQuery .c0 pf 5; let x := s.ch c; let adm := fun a => x.admits src a = true; adm ⟨false, false, false⟩ ∧ x.prog n = none ∧ (i = Instr.gafUnload c src n ∨ i = Instr.gafInvoke c src n entry params ∨ i = Instr.gafQuery c src n)) ∧
    (let s : State := on .prompt (fun x => coreP tenP runG x); let c : ChId := .c0; let src : Src := pf; let a : Nat := imgBase; let n : Nat := 4; let p : Prog := tenP; let x := s.ch c; let reached := x.prog n = some p ∧ p.kind = .tenant ∧ (src.vf = none ∨ src.vf = some p.tenant); let adm := fun a => x.admits src a = true; adm ⟨false, false, false⟩ ∧ reached ∧ x.progBusy n = true) ∧
    (let s : State := on .prompt (fun x => coreP tenP GCore.init x); let c : ChId := .c0; let src : Src := pf; let a : Nat := imgBase; let n : Nat := 4; let p : Prog := tenP; let x := s.ch c; let reached := x.prog n = some p ∧ p.kind = .tenant ∧ (src.vf = none ∨ src.vf = some p.tenant); let adm := fun a => x.admits src a = true; adm ⟨false, false, false⟩ ∧ reached ∧ x.progBusy n = false) ∧
    (let s : State := on .prompt (fun x => coreP { tenP with faulted := true } GCore.init x); let c : ChId := .c0; let src : Src := pf; let a : Nat := imgBase; let n : Nat := 4; let p : Prog := { tenP with faulted := true }; let x := s.ch c; let reached := x.prog n = some p ∧ p.kind = .tenant ∧ (src.vf = none ∨ src.vf = some p.tenant); let adm := fun a => x.admits src a = true; adm ⟨false, false, false⟩ ∧ reached ∧ p.faulted = true) ∧
    (let s : State := on .prompt (fun x => coreP tenP GCore.init x); let c : ChId := .c0; let src : Src := pf; let a : Nat := imgBase; let n : Nat := 4; let entry : Nat := 1; let p : Prog := tenP; let x := s.ch c; let reached := x.prog n = some p ∧ p.kind = .tenant ∧ (src.vf = none ∨ src.vf = some p.tenant); let adm := fun a => x.admits src a = true; adm ⟨false, false, false⟩ ∧ reached ∧ p.faulted = false ∧ p.entries.find? (fun e => e.id == entry) = none) ∧
    (let s : State := on .prompt (fun x => coreP { tenP with entries := [zEntryRec] } GCore.init x); let c : ChId := .c0; let src : Src := pf; let a : Nat := imgBase; let n : Nat := 4; let entry : Nat := 0; let p : Prog := { tenP with entries := [zEntryRec] }; let en : EntryRec := zEntryRec; let x := s.ch c; let reached := x.prog n = some p ∧ p.kind = .tenant ∧ (src.vf = none ∨ src.vf = some p.tenant); let adm := fun a => x.admits src a = true; adm ⟨false, false, false⟩ ∧ reached ∧ p.faulted = false ∧ p.entries.find? (fun e => e.id == entry) = some en ∧ (if src.vf = none then en.pfCall else en.vfCall) = false) ∧
    (let s : State := on .prompt (fun x => coreP tenP GCore.init x); let c : ChId := .c0; let src : Src := pf; let a : Nat := imgBase; let n : Nat := 4; let entry : Nat := 0; let p : Prog := tenP; let en : EntryRec := { zEntryRec with vfCall := true, pfCall := true, armable := true, budget := 1 }; let x := s.ch c; let reached := x.prog n = some p ∧ p.kind = .tenant ∧ (src.vf = none ∨ src.vf = some p.tenant); let adm := fun a => x.admits src a = true; adm ⟨false, false, false⟩ ∧ reached ∧ p.faulted = false ∧ p.entries.find? (fun e => e.id == entry) = some en ∧ (if src.vf = none then en.pfCall else en.vfCall) = true) ∧
    (let s : State := on .prompt (fun x => coreP tenP GCore.init x); let c : ChId := .c0; let src : Src := vf0; let a : Nat := imgBase; let n : Nat := 4; let entry : Nat := 0; let p : Prog := tenP; let en : EntryRec := { zEntryRec with vfCall := true, pfCall := true, armable := true, budget := 1 }; let x := s.ch c; let reached := x.prog n = some p ∧ p.kind = .tenant ∧ (src.vf = none ∨ src.vf = some p.tenant); let adm := fun a => x.admits src a = true; adm ⟨false, false, false⟩ ∧ reached ∧ p.faulted = false ∧ p.entries.find? (fun e => e.id == entry) = some en ∧ (if src.vf = none then en.pfCall else en.vfCall) = true) ∧
    (let s : State := on .prompt (fun x => let x := dma x; let x := { x with sec := { x.sec with keys := [(0, { TenKeys.init with prog := [(1, ⟨[], 9, 2⟩)] })] } }; x); let c : ChId := .c0; let src : Src := pf; let a : Nat := imgBase; let n : Nat := 0; let p : Prog := Prog.base 3; let x := s.ch c; let adm := fun a => x.admits src a = true; adm ⟨false, false, false⟩ ∧ x.prog n = some p ∧ (src.vf = none ∨ (p.kind = .tenant ∧ src.vf = some p.tenant))) ∧
    (let s : State := on .prompt (fun x => coreP tenP GCore.init x); let c : ChId := .c0; let src : Src := vf0; let a : Nat := imgBase; let n : Nat := 4; let p : Prog := tenP; let x := s.ch c; let adm := fun a => x.admits src a = true; adm ⟨false, false, false⟩ ∧ x.prog n = some p ∧ (src.vf = none ∨ (p.kind = .tenant ∧ src.vf = some p.tenant))) := by
  dsimp only
  exact ⟨⟨by decide +kernel, by decide +kernel, by decide +kernel⟩,
    ⟨by decide +kernel, by decide +kernel, by decide +kernel⟩,
    ⟨by decide +kernel, by decide +kernel, by decide +kernel⟩,
    ⟨by decide +kernel, by decide +kernel, by decide +kernel⟩,
    ⟨by decide +kernel, by decide +kernel, by decide +kernel, by decide +kernel⟩,
    ⟨by decide +kernel, by decide +kernel, by decide +kernel, by decide +kernel, by decide +kernel⟩,
    ⟨by decide +kernel, by decide +kernel, by decide +kernel, by decide +kernel, by decide +kernel⟩,
    ⟨by decide +kernel, by decide +kernel, by decide +kernel, by decide +kernel, by decide +kernel⟩,
    ⟨by decide +kernel, by decide +kernel, by decide +kernel⟩,
    ⟨by decide +kernel, by decide +kernel, by decide +kernel⟩⟩

theorem test_wit_Invocations :
    (let s : State := on .prompt (fun x => let x := coreP tenP GCore.init x; { x with gaf := { x.gaf with queue := [{ zInvocation with prog := 4, number := 9 }] } }); let c : ChId := .c0; let k : Nat := 63; let n : Nat := 9; let prog : Nat := 4; let x := s.ch c; let g := x.core k; x.serves = true ∧ k < 64 ∧ g.inv = none ∧ (x.riding = false ∨ k < x.baseCores) ∧ x.pick k = some n) ∧
    (let s : State := on .prompt (fun x => let x := coreP roleP GCore.init x; { x with gaf := { x.gaf with triggers := [(0, ⟨.num 7, 7, 0, 5, 4, 0⟩)], evc := [(7, 5)] } }); let c : ChId := .c0; let k : Nat := 0; let p : Prog := roleP; let tr : Trigger := ⟨.num 7, 7, 0, 5, 4, 0⟩; let x := s.ch c; x.serves = true ∧ x.gaf.triggers.find k = some tr ∧ tr.target ≤ x.ctrVal tr.ctr ∧ (tr.h = 0 ∨ x.named tr.ctr tr.h = true) ∧ x.prog tr.prog = some p ∧ p.faulted = false) ∧
    (let s : State := on .prompt (fun x => coreP roleP { runG with st := .waiting, wait := some (.counter (.num 7) 0 3 (some 99) 1) } x); let c : ChId := .c0; let k : Nat := 40; let t : Nat := 99; let rd : Nat := 1; let target : Nat := 3; let ctr : Ctr := .num 7; let h : Nat := 0; let x := s.ch c; let g := x.core k; x.serves = true ∧ g.st = .waiting ∧ g.wait = some (.counter ctr h target (some t) rd)) ∧
    (let s : State := on .prompt (fun x => coreP roleP { runG with preempt := some 5 } x); let c : ChId := .c0; let k : Nat := 40; let asked : Nat := 5; let x := s.ch c; let g := x.core k; x.serves = true ∧ g.preempt = some asked ∧ g.st = .running ∧ g.held = false) ∧
    (let s : State := on .prompt (fun x => coreP roleP runG x); let c : ChId := .c0; let k : Nat := 40; let prog : Nat := 4; let b : Nat := 1000; let i : Invocation := { zInvocation with prog := 4 }; let x := s.ch c; let g := x.core k; x.serves = true ∧ g.inv = some i ∧ x.budgetOf i = b ∧ 0 < b ∧ g.st = .running ∧ g.held = false) ∧
    (let s : State := on .prompt (fun x => let x := coreP roleP GCore.init x; { x with gaf := { x.gaf with restarts := [(4 * 65536, 256)] } }); let c : ChId := .c0; let prog : Nat := 4; let entry : Nat := 0; let v : Nat := 256; let p : Prog := roleP; let x := s.ch c; let key := prog * 65536 + entry; x.serves = true ∧ entry < 65536 ∧ x.gaf.restarts.find key = some v ∧ x.prog prog = some p ∧ 256 ≤ v) ∧
    (let s : State := on .prompt (fun x => let x := coreP roleP GCore.init x; { x with gaf := { x.gaf with restarts := [(4 * 65536, 255)] } }); let c : ChId := .c0; let prog : Nat := 4; let entry : Nat := 0; let v : Nat := 255; let p : Prog := roleP; let x := s.ch c; let key := prog * 65536 + entry; x.serves = true ∧ entry < 65536 ∧ x.gaf.restarts.find key = some v ∧ x.prog prog = some p ∧ v < 256) := by
  dsimp only
  exact ⟨⟨by decide +kernel, by decide +kernel, by decide +kernel, by decide +kernel, by decide +kernel⟩,
    ⟨by decide +kernel, by decide +kernel, by decide +kernel, by decide +kernel, by decide +kernel, by decide +kernel⟩,
    ⟨by decide +kernel, by decide +kernel, by decide +kernel⟩,
    ⟨by decide +kernel, by decide +kernel, by decide +kernel, by decide +kernel⟩,
    ⟨by decide +kernel, by decide +kernel, by decide +kernel, by decide +kernel, by decide +kernel, by decide +kernel⟩,
    ⟨by decide +kernel, by decide +kernel, by decide +kernel, by decide +kernel, by decide +kernel⟩,
    ⟨by decide +kernel, by decide +kernel, by decide +kernel, by decide +kernel, by decide +kernel⟩⟩

theorem test_wit_Schedule_1 :
    (let s : State := on .prompt (fun x => ((x.wr (Reg.GAF_SCHED_A 0) 5000).wr (Reg.GAF_SCHED_A 1) 5000)); let c : ChId := .c0; let i : Nat := 1; let x := s.ch c; let used := x.usedSlots x.tableB; x.serves = true ∧ used.find? (fun i => decide (x.gaf.curSlot < i)) = some i) ∧
    (let s : State := on .prompt (fun x => x); let c : ChId := .c0; let x := s.ch c; let used := x.usedSlots x.tableB; x.serves = true ∧ used = []) ∧
    (let s : State := on .prompt (fun x => (x.wr (Reg.GAF_SCHED_A 0) 5000)); let c : ChId := .c0; let i : Nat := 1; let l : List Nat := []; let f := Instr.frameBoundary .c0; let x := s.ch c; let used := x.usedSlots x.tableB; let late := x.reach x.gaf.slotEnd; x.serves = true ∧ used = l ++ [x.gaf.curSlot] ∧ (∀ i ∈ l, i < x.gaf.curSlot) ∧ (f = Instr.slotBoundary c ∨ f = Instr.frameBoundary c) ∧ late.flag Reg.GAF_SCHED_CTRL 62 = false) ∧
    (let s : State := on .prompt (fun x => { ((x.wr (Reg.GAF_SCHED_A 0) 5000).wr (Reg.GAF_SCHED_A 1) 5000) with gaf := { ((x.wr (Reg.GAF_SCHED_A 0) 5000).wr (Reg.GAF_SCHED_A 1) 5000).gaf with curSlot := 1 } }); let c : ChId := .c0; let i : Nat := 1; let l : List Nat := [0]; let f := Instr.frameBoundary .c0; let x := s.ch c; let used := x.usedSlots x.tableB; let late := x.reach x.gaf.slotEnd; x.serves = true ∧ used = l ++ [x.gaf.curSlot] ∧ (∀ i ∈ l, i < x.gaf.curSlot) ∧ (f = Instr.slotBoundary c ∨ f = Instr.frameBoundary c) ∧ late.flag Reg.GAF_SCHED_CTRL 62 = false) ∧
    (let s : State := on .prompt (fun x => ((x.wr (Reg.GAF_SCHED_A 0) 5000).wr Reg.GAF_SCHED_CTRL (2 ^ 62 + 4)).wr (Reg.GAF_SCHED_B 63) 99); let c : ChId := .c0; let i : Nat := 1; let fault : Nat := 0; let code : Nat := 1; let l : List Nat := []; let f := Instr.frameBoundary .c0; let x := s.ch c; let used := x.usedSlots x.tableB; let b := !x.tableB; let late := x.reach x.gaf.slotEnd; x.serves = true ∧ used = l ++ [x.gaf.curSlot] ∧ (∀ i ∈ l, i < x.gaf.curSlot) ∧ (f = Instr.slotBoundary c ∨ f = Instr.frameBoundary c) ∧ late.flag Reg.GAF_SCHED_CTRL 62 = true ∧ late.tableFault b = some (fault, code)) ∧
    (let s : State := on .prompt (fun x => ((x.wr (Reg.GAF_SCHED_A 0) 5000).wr Reg.GAF_SCHED_CTRL (2 ^ 62 + 4)).wr (Reg.GAF_SCHED_B 63) 100); let c : ChId := .c0; let i : Nat := 1; let l : List Nat := []; let f := Instr.frameBoundary .c0; let x := s.ch c; let used := x.usedSlots x.tableB; let b := !x.tableB; let late := x.reach x.gaf.slotEnd; x.serves = true ∧ used = l ++ [x.gaf.curSlot] ∧ (∀ i ∈ l, i < x.gaf.curSlot) ∧ (f = Instr.slotBoundary c ∨ f = Instr.frameBoundary c) ∧ late.flag Reg.GAF_SCHED_CTRL 62 = true ∧ late.tableFault b = none) ∧
    (let s : State := on .prompt (fun x => ((x.wr (Reg.GAF_SCHED_A 0) 5000).wr Reg.GAF_SCHED_CTRL (2 ^ 62 + 32)).wr (Reg.GAF_SCHED_B 63) 10000); let c : ChId := .c0; let i : Nat := 1; let l : List Nat := []; let f := Instr.frameBoundary .c0; let x := s.ch c; let used := x.usedSlots x.tableB; let b := !x.tableB; let late := x.reach x.gaf.slotEnd; x.serves = true ∧ used = l ++ [x.gaf.curSlot] ∧ (∀ i ∈ l, i < x.gaf.curSlot) ∧ (f = Instr.slotBoundary c ∨ f = Instr.frameBoundary c) ∧ late.flag Reg.GAF_SCHED_CTRL 62 = true ∧ late.tableFault b = none) ∧
    (let s : State := on .prompt (fun x => let x := coreP tenP runG x; { x with gaf := { x.gaf with progs := [(4, tenP), (5, { tenP with tenant := 1 })], queue := [{ zInvocation with prog := 5, number := 9 }] } }); let c : ChId := .c0; let core : Nat := 40; let inv : Invocation := { zInvocation with prog := 4 }; let x := s.ch c; let g := x.core core; let y := x.reach (g.started + x.quantum); let rival := y.runnable.any (fun r => decide (r.2.1 < 16 ∧ r.2.1 ≠ x.ownerOf inv) && !r.2.2); x.serves = true ∧ g.inv = some inv ∧ x.coreOwner core ≠ x.ownerOf inv ∧ x.ownerOf inv < 16 ∧ rival = true) ∧
    (let s : State := on .prompt (fun x => coreP tenP runG x); let c : ChId := .c0; let core : Nat := 40; let inv : Invocation := { zInvocation with prog := 4 }; let x := s.ch c; let g := x.core core; let y := x.reach (g.started + x.quantum); let rival := y.runnable.any (fun r => decide (r.2.1 < 16 ∧ r.2.1 ≠ x.ownerOf inv) && !r.2.2); x.serves = true ∧ g.inv = some inv ∧ x.coreOwner core ≠ x.ownerOf inv ∧ x.ownerOf inv < 16 ∧ rival = false) ∧
    (let s : State := on .prompt (fun x => coreP tenP { runG with deferred := some (0, true) } x); let c : ChId := .c0; let core : Nat := 40; let at_ : Nat := 0; let kept : Bool := true; let x := s.ch c; let g := x.core core; let us := min ((x.time - at_) / 1000) (2 ^ 32 - 1); x.serves = true ∧ g.deferred = some (at_, kept) ∧ (if kept = true then 1 else 65) ≤ 256 - x.areasUsed ∧ us ≤ x.fget Reg.GAF_PREEMPT_DEFER 31 0) := by
  dsimp only
  exact ⟨⟨by decide +kernel, by decide +kernel⟩,
    ⟨by decide +kernel, by decide +kernel⟩,
    ⟨by decide +kernel, by decide +kernel, by decide +kernel, by decide +kernel, by decide +kernel⟩,
    ⟨by decide +kernel, by decide +kernel, by decide +kernel, by decide +kernel, by decide +kernel⟩,
    ⟨by decide +kernel, by decide +kernel, by decide +kernel, by decide +kernel, by decide +kernel, by decide +kernel⟩,
    ⟨by decide +kernel, by decide +kernel, by decide +kernel, by decide +kernel, by decide +kernel, by decide +kernel⟩,
    ⟨by decide +kernel, by decide +kernel, by decide +kernel, by decide +kernel, by decide +kernel, by decide +kernel⟩,
    ⟨by decide +kernel, by decide +kernel, by decide +kernel, by decide +kernel, by decide +kernel⟩,
    ⟨by decide +kernel, by decide +kernel, by decide +kernel, by decide +kernel, by decide +kernel⟩,
    ⟨by decide +kernel, by decide +kernel, by decide +kernel, by decide +kernel⟩⟩

theorem test_wit_Schedule_2 :
    (let s : State := on .prompt (fun x => let x := coreP tenP { runG with deferred := some (0, false) } x; { x with gaf := { x.gaf with saved := List.replicate 191 (GCore.init, 0) } }); let c : ChId := .c0; let core : Nat := 40; let at_ : Nat := 0; let kept : Bool := false; let x := s.ch c; let g := x.core core; let us := min ((x.time - at_) / 1000) (2 ^ 32 - 1); x.serves = true ∧ g.deferred = some (at_, kept) ∧ (if kept = true then 1 else 65) ≤ 256 - x.areasUsed ∧ us ≤ x.fget Reg.GAF_PREEMPT_DEFER 31 0) ∧
    (let s : State := on .prompt (fun x => { coreP tenP { runG with deferred := some (0, true) } x with time := 1000 }); let c : ChId := .c0; let core : Nat := 40; let at_ : Nat := 0; let kept : Bool := true; let x := s.ch c; let g := x.core core; let us := min ((x.time - at_) / 1000) (2 ^ 32 - 1); x.serves = true ∧ g.deferred = some (at_, kept) ∧ (if kept = true then 1 else 65) ≤ 256 - x.areasUsed ∧ x.fget Reg.GAF_PREEMPT_DEFER 31 0 < us) ∧
    (let s : State := on .prompt (fun x => ((x.wr (Reg.GAF_SCHED_A 0) 5000).wr (Reg.GAF_SCHED_A 1) 5000)); let c : ChId := .c0; let x := s.ch c; x.regsLive = true) ∧
    (let s : State := on .prompt (fun x => ((x.wr (Reg.GAF_SCHED_A 0) 5000).wr (Reg.GAF_SCHED_A 1) 5000)); let c : ChId := .c0; let a : Access := ⟨.both, 1⟩; let x := s.ch c; x.regsLive = true ∧ a.half = .both ∧ bits a.val 31 0 ≠ 0) ∧
    (let s : State := on .prompt (fun x => ((x.wr (Reg.GAF_SCHED_A 0) 5000).wr (Reg.GAF_SCHED_A 1) 5000)); let c : ChId := .c0; let a : Access := ⟨.low, 0⟩; let x := s.ch c; x.regsLive = true ∧ a.half ≠ .both) := by
  dsimp only
  exact ⟨⟨by decide +kernel, by decide +kernel, by decide +kernel, by decide +kernel⟩,
    ⟨by decide +kernel, by decide +kernel, by decide +kernel, by decide +kernel⟩,
    by decide +kernel,
    ⟨by decide +kernel, by decide +kernel, by decide +kernel⟩,
    ⟨by decide +kernel, by decide +kernel⟩⟩

/-! ### Witnesses: Bamfel instructions -/

/-- Fields with which core 40 of the small state can issue an instruction of the scalar and vector tables or on a shared word. -/
def fieldsFor (op : Nat) : IFields := if op = 0 ∨ op = 0x93 then f0 else { f0 with d := 2 }

theorem test_wit_tables :
    (List.range 0x24 ++ (List.range 0x15).map (· + 0x60) ++ [0x92, 0x93, 0x94, 0x95]).all
      (fun op => ((on .prompt (coreP roleP runG)).ch .c0).issues 40 op (fieldsFor op)) = true := by
  decide +kernel

theorem test_wit_ScalarBits :
    (let n : Nat := 63; n < 64) ∧
    (let a : W64 := 0#64; a = 0) ∧
    (let a : W64 := 1#64; a ≠ 0) ∧
    (let n : Nat := 7; n < 8) := by
  dsimp only
  exact ⟨by decide +kernel,
    by decide +kernel,
    by decide +kernel,
    by decide +kernel⟩

theorem test_wit_Branches_1 :
    (let s : State := on .prompt (fun x => let x := coreP roleP runG x; x); let c : ChId := .c0; let k : Nat := 40; let f : IFields := f0; let p : Prog := roleP; let t : Nat := 0; let x := s.ch c; let g := x.core k; let inText := fun (a : Int) => a % 8 = 0 ∧ 0 ≤ a ∧ a < p.textEnd; let rel : Int := g.pc + (BitVec.ofNat 32 f.i).toInt * 8; x.coreProg k = some p ∧ x.issues k 0x40 f = true ∧ (inText rel ∧ rel = t)) ∧
    (let s : State := on .prompt (fun x => let x := coreP roleP ({ runG with pc := 8 }) x; x); let c : ChId := .c0; let k : Nat := 40; let f : IFields := { f0 with i := 2 ^ 32 - 1 }; let p : Prog := roleP; let t : Nat := 0; let x := s.ch c; let g := x.core k; let inText := fun (a : Int) => a % 8 = 0 ∧ 0 ≤ a ∧ a < p.textEnd; let rel : Int := g.pc + (BitVec.ofNat 32 f.i).toInt * 8; x.coreProg k = some p ∧ x.issues k 0x40 f = true ∧ (inText rel ∧ rel = t)) ∧
    (let s : State := on .prompt (fun x => let x := coreP roleP runG x; x); let c : ChId := .c0; let k : Nat := 40; let f : IFields := { f0 with i := 2 ^ 32 - 1 }; let p : Prog := roleP; let x := s.ch c; let g := x.core k; let inText := fun (a : Int) => a % 8 = 0 ∧ 0 ≤ a ∧ a < p.textEnd; let rel : Int := g.pc + (BitVec.ofNat 32 f.i).toInt * 8; x.coreProg k = some p ∧ x.issues k 0x40 f = true ∧ ¬ inText rel) ∧
    (let s : State := on .prompt (fun x => let x := coreP roleP runG x; x); let c : ChId := .c0; let k : Nat := 40; let f : IFields := { f0 with i := 1, d := 1 }; let p : Prog := roleP; let t : Nat := 8; let x := s.ch c; let g := x.core k; let inText := fun (a : Int) => a % 8 = 0 ∧ 0 ≤ a ∧ a < p.textEnd; let rel : Int := g.pc + (BitVec.ofNat 32 f.i).toInt * 8; x.coreProg k = some p ∧ x.issues k 0x41 f = true ∧ (inText rel ∧ rel = t)) ∧
    (let s : State := on .prompt (fun x => let x := coreP roleP runG x; x); let c : ChId := .c0; let k : Nat := 40; let f : IFields := { f0 with i := 2 ^ 32 - 1, d := 1 }; let p : Prog := roleP; let x := s.ch c; let g := x.core k; let inText := fun (a : Int) => a % 8 = 0 ∧ 0 ≤ a ∧ a < p.textEnd; let rel : Int := g.pc + (BitVec.ofNat 32 f.i).toInt * 8; x.coreProg k = some p ∧ x.issues k 0x41 f = true ∧ ¬ inText rel) ∧
    (let s : State := on .prompt (fun x => let x := coreP roleP ({ runG with s := [(1, 16)] }) x; x); let c : ChId := .c0; let k : Nat := 40; let f : IFields := { f0 with a := 1 }; let p : Prog := roleP; let t : Nat := 16; let x := s.ch c; let g := x.core k; let inText := fun (a : Int) => a % 8 = 0 ∧ 0 ≤ a ∧ a < p.textEnd; x.coreProg k = some p ∧ x.issues k 0x42 f = true ∧ (inText (g.sreg f.a).toNat ∧ (g.sreg f.a).toNat = t)) ∧
    (let s : State := on .prompt (fun x => let x := coreP roleP ({ runG with s := [(1, 4)] }) x; x); let c : ChId := .c0; let k : Nat := 40; let f : IFields := { f0 with a := 1 }; let p : Prog := roleP; let x := s.ch c; let g := x.core k; let inText := fun (a : Int) => a % 8 = 0 ∧ 0 ≤ a ∧ a < p.textEnd; x.coreProg k = some p ∧ x.issues k 0x42 f = true ∧ ¬ inText (g.sreg f.a).toNat) ∧
    (let s : State := on .prompt (fun x => let x := coreP roleP ({ runG with s := [(1, BitVec.ofNat 64 (2 ^ 32))] }) x; x); let c : ChId := .c0; let k : Nat := 40; let f : IFields := { f0 with a := 1 }; let p : Prog := roleP; let x := s.ch c; let g := x.core k; let inText := fun (a : Int) => a % 8 = 0 ∧ 0 ≤ a ∧ a < p.textEnd; x.coreProg k = some p ∧ x.issues k 0x42 f = true ∧ ¬ inText (g.sreg f.a).toNat) ∧
    (let s : State := on .prompt (fun x => let x := coreP roleP ({ runG with s := [(1, 1)] }) x; x); let c : ChId := .c0; let k : Nat := 40; let f : IFields := { f0 with d := 1 }; let p : Prog := roleP; let x := s.ch c; let g := x.core k; x.coreProg k = some p ∧ x.issues k 0x43 f = true ∧ g.sreg f.d - 1 = 0) ∧
    (let s : State := on .prompt (fun x => let x := coreP roleP ({ runG with s := [(1, 2)] }) x; x); let c : ChId := .c0; let k : Nat := 40; let f : IFields := { f0 with d := 1 }; let p : Prog := roleP; let t : Nat := 0; let x := s.ch c; let g := x.core k; let inText := fun (a : Int) => a % 8 = 0 ∧ 0 ≤ a ∧ a < p.textEnd; let rel : Int := g.pc + (BitVec.ofNat 32 f.i).toInt * 8; x.coreProg k = some p ∧ x.issues k 0x43 f = true ∧ g.sreg f.d - 1 ≠ 0 ∧ (inText rel ∧ rel = t)) := by
  dsimp only
  exact ⟨⟨by decide +kernel, by decide +kernel, by decide +kernel⟩,
    ⟨by decide +kernel, by decide +kernel, by decide +kernel⟩,
    ⟨by decide +kernel, by decide +kernel, by decide +kernel⟩,
    ⟨by decide +kernel, by decide +kernel, by decide +kernel⟩,
    ⟨by decide +kernel, by decide +kernel, by decide +kernel⟩,
    ⟨by decide +kernel, by decide +kernel, by decide +kernel⟩,
    ⟨by decide +kernel, by decide +kernel, by decide +kernel⟩,
    ⟨by decide +kernel, by decide +kernel, by decide +kernel⟩,
    ⟨by decide +kernel, by decide +kernel, by decide +kernel⟩,
    ⟨by decide +kernel, by decide +kernel, by decide +kernel, by decide +kernel⟩⟩

theorem test_wit_Branches_2 :
    (let s : State := on .prompt (fun x => let x := coreP roleP ({ runG with s := [(1, 0)] }) x; x); let c : ChId := .c0; let k : Nat := 40; let f : IFields := { f0 with d := 1, i := 2 ^ 32 - 1 }; let p : Prog := roleP; let x := s.ch c; let g := x.core k; let inText := fun (a : Int) => a % 8 = 0 ∧ 0 ≤ a ∧ a < p.textEnd; let rel : Int := g.pc + (BitVec.ofNat 32 f.i).toInt * 8; x.coreProg k = some p ∧ x.issues k 0x43 f = true ∧ g.sreg f.d - 1 ≠ 0 ∧ ¬ inText rel) := by
  dsimp only
  exact ⟨by decide +kernel, by decide +kernel, by decide +kernel, by decide +kernel⟩

theorem test_wit_Scratch :
    (let s : State := on .prompt (fun x => let x := coreP roleP runG x; x); let c : ChId := .c0; let k : Nat := 40; let f : IFields := f0; let p : Prog := roleP; let x := s.ch c; x.coreProg k = some p ∧ x.issues k 0x50 f = true) ∧
    (let s : State := on .prompt (fun x => let x := coreP roleP runG x; x); let c : ChId := .c0; let k : Nat := 40; let f : IFields := f0; let p : Prog := roleP; let x := s.ch c; x.coreProg k = some p ∧ x.issues k 0x51 f = true) ∧
    (let s : State := on .prompt (fun x => let x := coreP roleP runG x; x); let c : ChId := .c0; let k : Nat := 40; let f : IFields := f0; let p : Prog := roleP; let x := s.ch c; x.coreProg k = some p ∧ x.issues k 0x52 f = true) ∧
    (let s : State := on .prompt (fun x => let x := coreP roleP runG x; x); let c : ChId := .c0; let k : Nat := 40; let f : IFields := f0; let p : Prog := roleP; let x := s.ch c; x.coreProg k = some p ∧ x.issues k 0x53 f = true) := by
  dsimp only
  exact ⟨⟨by decide +kernel, by decide +kernel⟩,
    ⟨by decide +kernel, by decide +kernel⟩,
    ⟨by decide +kernel, by decide +kernel⟩,
    ⟨by decide +kernel, by decide +kernel⟩⟩

theorem test_wit_Lanes :
    (let w : Nat := 3; let i : Nat := 7; w < 4 ∧ i < 64 / 2 ^ w) ∧
    (let w : Nat := 0; let i : Nat := 63; let n := 7; w < 4 ∧ i < 64 / 2 ^ w ∧ n < 8 * 2 ^ w) := by
  dsimp only
  exact ⟨⟨by decide +kernel, by decide +kernel⟩,
    ⟨by decide +kernel, by decide +kernel, by decide +kernel⟩⟩

theorem test_wit_TableInstructions :
    (let s : State := on .prompt (fun x => let x := coreP ({ roleP with grants := 29 }) runG x; x); let c : ChId := .c0; let k : Nat := 40; let f : IFields := { f0 with a := 1 }; let p : Prog := { roleP with grants := 29 }; let x := s.ch c; x.coreProg k = some p ∧ x.issues k 0x90 f = true ∧ p.grants.testBit 1 = false) ∧
    (let s : State := on .prompt (fun x => let x := coreP roleP ({ runG with s := [(1, BitVec.ofNat 64 h3)] }) x; ctx3 (ent .sealed) x); let c : ChId := .c0; let k : Nat := 40; let f : IFields := { f0 with a := 1 }; let p : Prog := roleP; let slot : Nat := 3; let x := s.ch c; let g := x.core k; let h := (g.sreg f.a).toNat; let e := x.entry slot; x.coreProg k = some p ∧ x.issues k 0x90 f = true ∧ p.grants.testBit 1 = true ∧ h < 2 ^ 48 ∧ x.checkHandle h = .ok slot ∧ (p.isTenant = true → e.tslot = p.tenant)) ∧
    (let s : State := on .prompt (fun x => let x := coreP tenP ({ runG with s := [(1, BitVec.ofNat 64 h3)] }) x; ctx3 (ent .sealed) x); let c : ChId := .c0; let k : Nat := 40; let f : IFields := { f0 with a := 1 }; let p : Prog := tenP; let slot : Nat := 3; let x := s.ch c; let g := x.core k; let h := (g.sreg f.a).toNat; let e := x.entry slot; x.coreProg k = some p ∧ x.issues k 0x90 f = true ∧ p.grants.testBit 1 = true ∧ h < 2 ^ 48 ∧ x.checkHandle h = .ok slot ∧ (p.isTenant = true → e.tslot = p.tenant)) ∧
    (let s : State := on .prompt (fun x => let x := coreP ({ tenP with tenant := 1 }) ({ runG with s := [(1, BitVec.ofNat 64 h3)] }) x; ctx3 (ent .sealed) x); let c : ChId := .c0; let k : Nat := 40; let f : IFields := { f0 with a := 1 }; let p : Prog := { tenP with tenant := 1 }; let slot : Nat := 3; let x := s.ch c; let g := x.core k; let h := (g.sreg f.a).toNat; let e := x.entry slot; x.coreProg k = some p ∧ x.issues k 0x90 f = true ∧ p.grants.testBit 1 = true ∧ h < 2 ^ 48 ∧ x.checkHandle h = .ok slot ∧ p.isTenant = true ∧ e.tslot ≠ p.tenant) ∧
    (let s : State := on .prompt (fun x => let x := coreP tenP runG x; x); let c : ChId := .c0; let k : Nat := 40; let f : IFields := f0; let p : Prog := tenP; let x := s.ch c; x.coreProg k = some p ∧ x.issues k 0x91 f = true ∧ p.grants.testBit 1 = true ∧ (p.isTenant = true ∨ 12 ≤ f.i)) ∧
    (let s : State := on .prompt (fun x => let x := coreP roleP runG x; x); let c : ChId := .c0; let k : Nat := 40; let f : IFields := { f0 with i := 12 }; let p : Prog := roleP; let x := s.ch c; x.coreProg k = some p ∧ x.issues k 0x91 f = true ∧ p.grants.testBit 1 = true ∧ (p.isTenant = true ∨ 12 ≤ f.i)) ∧
    (let s : State := on .prompt (fun x => let x := coreP roleP ({ runG with s := [(1, BitVec.ofNat 64 h3), (2, 12), (3, 0)] }) x; ctx3 (ent .sealed) x); let c : ChId := .c0; let k : Nat := 40; let f : IFields := { f0 with a := 1, b := 2, x := 3, i := 11 }; let p : Prog := roleP; let slot : Nat := 3; let x := s.ch c; let g := x.core k; let h := (g.sreg f.a).toNat; let e := x.entry slot; x.coreProg k = some p ∧ x.issues k 0x91 f = true ∧ p.grants.testBit 1 = true ∧ p.isTenant = false ∧ f.i < 12 ∧ h < 2 ^ 48 ∧ x.checkHandle h = .ok slot ∧ e.word f.i ≠ g.sreg f.b) ∧
    (let s : State := on .prompt (fun x => let x := coreP roleP ({ runG with s := [(1, BitVec.ofNat 64 h3), (2, { ent .sealed with gen := 9, tag := 77, req := 42 }.word 0), (3, { ent .sealed with gen := 9, tag := 77, req := 42 }.word 0)] }) x; ctx3 (ent .sealed) x); let c : ChId := .c0; let k : Nat := 40; let f : IFields := { f0 with a := 1, b := 2, x := 3 }; let p : Prog := roleP; let slot : Nat := 3; let x := s.ch c; let g := x.core k; let h := (g.sreg f.a).toNat; let e := x.entry slot; let e' := e.setWord f.i (g.sreg f.x).toNat; x.coreProg k = some p ∧ x.issues k 0x91 f = true ∧ p.grants.testBit 1 = true ∧ p.isTenant = false ∧ f.i < 12 ∧ h < 2 ^ 48 ∧ x.checkHandle h = .ok slot ∧ e.word f.i = g.sreg f.b ∧ e'.state = e.state ∧ e'.sub = e.sub) ∧
    (let s : State := on .prompt (fun x => let x := coreP roleP ({ runG with s := [(1, BitVec.ofNat 64 h3), (2, { ent .sealed with gen := 9, tag := 77, req := 42 }.word 0), (3, { ent .sealed with gen := 9, tag := 77, req := 42, sub := 1 }.word 0)] }) x; ctx3 (ent .sealed) x); let c : ChId := .c0; let k : Nat := 40; let f : IFields := { f0 with a := 1, b := 2, x := 3 }; let p : Prog := roleP; let slot : Nat := 3; let x := s.ch c; let g := x.core k; let h := (g.sreg f.a).toNat; let e := x.entry slot; let e' := e.setWord f.i (g.sreg f.x).toNat; x.coreProg k = some p ∧ x.issues k 0x91 f = true ∧ p.grants.testBit 1 = true ∧ p.isTenant = false ∧ f.i < 12 ∧ h < 2 ^ 48 ∧ x.checkHandle h = .ok slot ∧ e.word f.i = g.sreg f.b ∧ (e'.state ≠ e.state ∨ e'.sub ≠ e.sub)) := by
  dsimp only
  exact ⟨⟨by decide +kernel, by decide +kernel, by decide +kernel⟩,
    ⟨by decide +kernel, by decide +kernel, by decide +kernel, by decide +kernel, rfl, by decide +kernel⟩,
    ⟨by decide +kernel, by decide +kernel, by decide +kernel, by decide +kernel, rfl, by decide +kernel⟩,
    ⟨by decide +kernel, by decide +kernel, by decide +kernel, by decide +kernel, rfl, by decide +kernel, by decide +kernel⟩,
    ⟨by decide +kernel, by decide +kernel, by decide +kernel, by decide +kernel⟩,
    ⟨by decide +kernel, by decide +kernel, by decide +kernel, by decide +kernel⟩,
    ⟨by decide +kernel, by decide +kernel, by decide +kernel, by decide +kernel, by decide +kernel, by decide +kernel, rfl, by decide +kernel⟩,
    ⟨by decide +kernel, by decide +kernel, by decide +kernel, by decide +kernel, by decide +kernel, by decide +kernel, rfl, by decide +kernel, by decide +kernel, by decide +kernel⟩,
    ⟨by decide +kernel, by decide +kernel, by decide +kernel, by decide +kernel, by decide +kernel, by decide +kernel, rfl, by decide +kernel, by decide +kernel⟩⟩

theorem test_wit_SharedWords :
    (let s : State := on .prompt (fun x => let x := coreP roleP runG x; x); let c : ChId := .c0; let k : Nat := 40; let p : Prog := roleP; let x := s.ch c; x.coreProg k = some p) := by
  dsimp only
  exact by decide +kernel

theorem test_wit_SearchInstructions :
    (let s : State := on .prompt (fun x => let x := coreP roleP ({ runG with s := [(2, 255)] }) x; x); let c : ChId := .c0; let k : Nat := 40; let f : IFields := { f0 with a := 1, b := 2 }; let p : Prog := roleP; let x := s.ch c; let g := x.core k; let seg := (g.sreg f.b).toNat; x.coreProg k = some p ∧ p.grants.testBit 2 = true ∧ x.issues k 0xB0 f = true ∧ seg < 256 ∧ (p.isTenant = true → x.segOwner seg = p.tenant) ∧ x.cascades seg = false) ∧
    (let s : State := on .prompt (fun x => let x := coreP roleP ({ runG with s := [(1, BitVec.ofNat 64 131071)] }) x; run [0x1FF] x); let c : ChId := .c0; let k : Nat := 40; let f : IFields := { f0 with a := 1, b := 2 }; let p : Prog := roleP; let x := s.ch c; let g := x.core k; let e := (g.sreg f.a).toNat; x.coreProg k = some p ∧ p.grants.testBit 2 = true ∧ x.issues k 0xB1 f = true ∧ p.isTenant = false ∧ e ≤ 131071 ∧ x.running (0x100 + e / 512) = true) ∧
    (let s : State := on .prompt (fun x => let x := coreP roleP ({ runG with s := [(1, BitVec.ofNat 64 131071)] }) x; x); let c : ChId := .c0; let k : Nat := 40; let f : IFields := { f0 with a := 1, b := 2 }; let p : Prog := roleP; let x := s.ch c; let g := x.core k; let e := (g.sreg f.a).toNat; x.coreProg k = some p ∧ p.grants.testBit 2 = true ∧ x.issues k 0xB1 f = true ∧ p.isTenant = false ∧ e ≤ 131071 ∧ x.running (0x100 + e / 512) = false) ∧
    (let s : State := on .prompt (fun x => let x := coreP tenP runG x; x); let c : ChId := .c0; let k : Nat := 40; let f : IFields := { f0 with a := 1, b := 2 }; let p : Prog := tenP; let x := s.ch c; x.coreProg k = some p ∧ p.grants.testBit 2 = true ∧ x.issues k 0xB1 f = true ∧ p.isTenant = true) := by
  dsimp only
  exact ⟨⟨by decide +kernel, by decide +kernel, by decide +kernel, by decide +kernel, by decide +kernel, by decide +kernel⟩,
    ⟨by decide +kernel, by decide +kernel, by decide +kernel, by decide +kernel, by decide +kernel, by decide +kernel⟩,
    ⟨by decide +kernel, by decide +kernel, by decide +kernel, by decide +kernel, by decide +kernel, by decide +kernel⟩,
    ⟨by decide +kernel, by decide +kernel, by decide +kernel, by decide +kernel⟩⟩

theorem test_wit_PacketInstructions_1 :
    (let s : State := on .prompt (fun x => let x := coreP tenP runG x; x); let c : ChId := .c0; let k : Nat := 40; let f : IFields := f0; let p : Prog := tenP; let x := s.ch c; x.coreProg k = some p ∧ (p.grants.testBit 4 = false ∨ p.isTenant = true) ∧ x.issues k 0xD0 f = true) ∧
    (let s : State := on .prompt (fun x => let x := coreP ({ roleP with grants := 15 }) runG x; x); let c : ChId := .c0; let k : Nat := 40; let f : IFields := f0; let p : Prog := { roleP with grants := 15 }; let x := s.ch c; x.coreProg k = some p ∧ (p.grants.testBit 4 = false ∨ p.isTenant = true) ∧ x.issues k 0xD0 f = true) ∧
    (let s : State := on .prompt (fun x => let x := coreP tenP runG x; x); let c : ChId := .c0; let k : Nat := 40; let f : IFields := f0; let p : Prog := tenP; let x := s.ch c; x.coreProg k = some p ∧ (p.grants.testBit 4 = false ∨ p.isTenant = true) ∧ x.issues k 0xD2 f = true) ∧
    (let s : State := on .prompt (fun x => let x := coreP roleP runG x; x); let c : ChId := .c0; let k : Nat := 40; let f : IFields := f0; let p : Prog := roleP; let h : Nat := 1; let x := s.ch c; x.coreProg k = some p ∧ p.grants.testBit 4 = true ∧ p.isTenant = false ∧ x.issues k 0xD0 f = true ∧ x.freeHandle = some h) ∧
    (let s : State := on .prompt (fun x => let x := coreP roleP runG x; { x with fab := { x.fab with bufs := (List.range 4095).map (fun i => (i + 1, zPktBuf)) } }); let c : ChId := .c0; let k : Nat := 40; let f : IFields := f0; let p : Prog := roleP; let x := s.ch c; x.coreProg k = some p ∧ p.grants.testBit 4 = true ∧ p.isTenant = false ∧ x.issues k 0xD0 f = true ∧ x.freeHandle = none) ∧
    (let s : State := on .prompt (fun x => let x := coreP roleP ({ runG with s := [(1, 1)] }) x; { x with fab := { x.fab with bufs := [(1, { zPktBuf with len := 64 })], bufOwner := [(1, 4)] } }); let c : ChId := .c0; let k : Nat := 40; let f : IFields := { f0 with a := 1 }; let p : Prog := roleP; let b : PktBuf := { zPktBuf with len := 64 }; let x := s.ch c; let g := x.core k; let r := (g.sreg f.a).toNat; let rh := r % 2 ^ 16; x.coreProg k = some p ∧ p.grants.testBit 4 = true ∧ p.isTenant = false ∧ x.issues k 0xD1 f = true ∧ x.heldBuf rh = some b) ∧
    (let s : State := on .prompt (fun x => let x := coreP roleP ({ runG with s := [(1, 1)] }) x; { x with fab := { x.fab with bufs := [(1, { zPktBuf with len := 64 })], bufOwner := [(1, 4)] } }); let c : ChId := .c0; let k : Nat := 40; let f : IFields := { f0 with a := 1 }; let p : Prog := roleP; let x := s.ch c; let g := x.core k; let r := (g.sreg f.a).toNat; x.coreProg k = some p ∧ p.grants.testBit 4 = true ∧ p.isTenant = false ∧ x.issues k 0xD2 f = true ∧ r / 8 < x.ports ∧ (x.port (r / 8)).rings.getD (r % 8) [] = []) ∧
    (let s : State := on .prompt (fun x => let x := coreP roleP runG x; let x := x.setPort 0 { x.port 0 with rings := [(0, [1])] }; { x with fab := { x.fab with bufs := [(1, { zPktBuf with len := 64 })] } }); let c : ChId := .c0; let k : Nat := 40; let f : IFields := { f0 with a := 1 }; let p : Prog := roleP; let h : Nat := 1; let t : List Nat := []; let b : PktBuf := { zPktBuf with len := 64 }; let x := s.ch c; let g := x.core k; let r := (g.sreg f.a).toNat; x.coreProg k = some p ∧ p.grants.testBit 4 = true ∧ p.isTenant = false ∧ x.issues k 0xD2 f = true ∧ r / 8 < x.ports ∧ (x.port (r / 8)).rings.getD (r % 8) [] = h :: t ∧ x.fab.bufs.find h = some b) ∧
    (let s : State := on .prompt (fun x => let x := coreP roleP ({ runG with s := [(1, 1)] }) x; { x with fab := { x.fab with bufs := [(1, { zPktBuf with len := 64 })], bufOwner := [(1, 4)] } }); let c : ChId := .c0; let k : Nat := 40; let f : IFields := f0; let p : Prog := roleP; let x := s.ch c; x.coreProg k = some p ∧ p.grants.testBit 4 = true ∧ p.isTenant = false ∧ x.issues k 0xD3 f = true) ∧
    (let s : State := on .prompt (fun x => let x := coreP roleP ({ runG with s := [(1, 1)] }) x; { x with fab := { x.fab with bufs := [(1, { zPktBuf with len := 64 })], bufOwner := [(1, 4)] } }); let c : ChId := .c0; let k : Nat := 40; let f : IFields := f0; let p : Prog := roleP; let x := s.ch c; x.coreProg k = some p ∧ p.grants.testBit 4 = true ∧ p.isTenant = false ∧ x.issues k 0xD4 f = true) := by
  dsimp only
  exact ⟨⟨by decide +kernel, by decide +kernel, by decide +kernel⟩,
    ⟨by decide +kernel, by decide +kernel, by decide +kernel⟩,
    ⟨by decide +kernel, by decide +kernel, by decide +kernel⟩,
    ⟨by decide +kernel, by decide +kernel, by decide +kernel, by decide +kernel, by decide +kernel⟩,
    ⟨by decide +kernel, by decide +kernel, by decide +kernel, by decide +kernel, by decide +kernel⟩,
    ⟨by decide +kernel, by decide +kernel, by decide +kernel, by decide +kernel, by decide +kernel⟩,
    ⟨by decide +kernel, by decide +kernel, by decide +kernel, by decide +kernel, by decide +kernel, by decide +kernel⟩,
    ⟨by decide +kernel, by decide +kernel, by decide +kernel, by decide +kernel, by decide +kernel, by decide +kernel, by decide +kernel⟩,
    ⟨by decide +kernel, by decide +kernel, by decide +kernel, by decide +kernel⟩,
    ⟨by decide +kernel, by decide +kernel, by decide +kernel, by decide +kernel⟩⟩

theorem test_wit_PacketInstructions_2 :
    (let s : State := on .prompt (fun x => let x := coreP roleP ({ runG with s := [(1, 1)] }) x; { x with fab := { x.fab with bufs := [(1, { zPktBuf with len := 64 })], bufOwner := [(1, 4)] } }); let c : ChId := .c0; let k : Nat := 40; let f : IFields := f0; let p : Prog := roleP; let x := s.ch c; x.coreProg k = some p ∧ p.grants.testBit 4 = true ∧ p.isTenant = false ∧ x.issues k 0xD5 f = true) ∧
    (let s : State := on .prompt (fun x => let x := coreP roleP ({ runG with s := [(1, 1)] }) x; { x with fab := { x.fab with bufs := [(1, { zPktBuf with len := 64 })], bufOwner := [(1, 4)] } }); let c : ChId := .c0; let k : Nat := 40; let f : IFields := f0; let p : Prog := roleP; let x := s.ch c; x.coreProg k = some p ∧ p.grants.testBit 4 = true ∧ p.isTenant = false ∧ x.issues k 0xD6 f = true) ∧
    (let s : State := on .prompt (fun x => let x := coreP roleP ({ runG with s := [(1, 1)] }) x; { x with fab := { x.fab with bufs := [(1, { zPktBuf with len := 64 })], bufOwner := [(1, 4)] } }); let c : ChId := .c0; let k : Nat := 40; let f : IFields := { f0 with a := 1 }; let p : Prog := roleP; let b : PktBuf := { zPktBuf with len := 64 }; let x := s.ch c; let g := x.core k; let r := (g.sreg f.a).toNat; let rh := r % 2 ^ 16; x.coreProg k = some p ∧ p.grants.testBit 4 = true ∧ p.isTenant = false ∧ x.issues k 0xD7 f = true ∧ x.heldBuf rh = some b) ∧
    (let s : State := on .prompt (fun x => let x := coreP roleP ({ runG with s := [(1, 1), (3, BitVec.ofNat 64 9174)] }) x; { x with fab := { x.fab with bufs := [(1, { zPktBuf with len := 64 })], bufOwner := [(1, 4)] } }); let c : ChId := .c0; let k : Nat := 40; let f : IFields := { f0 with a := 1, b := 2, x := 3 }; let p : Prog := roleP; let b : PktBuf := { zPktBuf with len := 64 }; let x := s.ch c; let g := x.core k; let r := (g.sreg f.a).toNat; let rh := r % 2 ^ 16; x.coreProg k = some p ∧ p.grants.testBit 4 = true ∧ p.isTenant = false ∧ x.issues k 0xD8 f = true ∧ x.heldBuf rh = some b ∧ headerBytes (leBytes 64 (g.vreg f.b).toNat) + (g.sreg f.x).toNat ≤ 9216) ∧
    (let s : State := on .prompt (fun x => let x := coreP roleP ({ runG with s := [(1, 1)] }) x; { x with fab := { x.fab with bufs := [(1, { zPktBuf with len := 64 })], bufOwner := [(1, 4)] } }); let c : ChId := .c0; let k : Nat := 40; let f : IFields := { f0 with a := 1, b := 2 }; let p : Prog := roleP; let b : PktBuf := { zPktBuf with len := 64 }; let x := s.ch c; let g := x.core k; let r := (g.sreg f.a).toNat; let rh := r % 2 ^ 16; let len := r / 2 ^ 16 % 2 ^ 14; let n := (g.sreg f.b).toNat % 32; let q := (g.sreg f.b).toNat / 256 % 16; x.coreProg k = some p ∧ p.grants.testBit 4 = true ∧ p.isTenant = false ∧ x.issues k 0xD9 f = true ∧ x.heldBuf rh = some b ∧ len ≤ 9216 ∧ (g.sreg f.b).toNat = n + q * 256 ∧ x.hasPort n = true ∧ x.running (0x10 + n) = true ∧ (x.qframes n q).length < x.maxFrames n q) := by
  dsimp only
  exact ⟨⟨by decide +kernel, by decide +kernel, by decide +kernel, by decide +kernel⟩,
    ⟨by decide +kernel, by decide +kernel, by decide +kernel, by decide +kernel⟩,
    ⟨by decide +kernel, by decide +kernel, by decide +kernel, by decide +kernel, by decide +kernel⟩,
    ⟨by decide +kernel, by decide +kernel, by decide +kernel, by decide +kernel, by decide +kernel, by decide +kernel⟩,
    ⟨by decide +kernel, by decide +kernel, by decide +kernel, by decide +kernel, by decide +kernel, by decide +kernel, by decide +kernel, by decide +kernel, by decide +kernel, by decide +kernel⟩⟩

theorem test_wit_SignalInstructions :
    (let s : State := on .prompt (fun x => let x := coreP roleP ({ runG with s := [(1, 7), (2, 3)] }) x; { x with gaf := { x.gaf with evc := [(7, 3)] } }); let c : ChId := .c0; let k : Nat := 40; let f : IFields := { f0 with a := 1 }; let p : Prog := roleP; let ctr : Ctr := .num 7; let h : Nat := 0; let i : Invocation := { zInvocation with prog := 4 }; let x := s.ch c; let g := x.core k; let ref := (g.sreg f.a).toNat; x.coreProg k = some p ∧ g.asyncs = [] ∧ g.excs = [] ∧ g.dueExc = none ∧ g.inv = some i ∧ x.ctrVal ctr < 2 ^ 64 ∧ x.issues k 0xA0 f = true ∧ x.ctrRef p ref true = (some (ctr, h), x)) ∧
    (let s : State := on .prompt (fun x => let x := coreP roleP ({ runG with s := [(1, 7), (2, 3)] }) x; { x with gaf := { x.gaf with evc := [(7, 3)] } }); let c : ChId := .c0; let k : Nat := 40; let f : IFields := { f0 with a := 1, i := 5 }; let p : Prog := roleP; let ctr : Ctr := .num 7; let h : Nat := 0; let i : Invocation := { zInvocation with prog := 4 }; let x := s.ch c; let g := x.core k; let ref := (g.sreg f.a).toNat; x.coreProg k = some p ∧ g.asyncs = [] ∧ g.excs = [] ∧ g.dueExc = none ∧ g.inv = some i ∧ x.ctrVal ctr < 2 ^ 64 ∧ x.issues k 0xA1 f = true ∧ x.ctrRef p ref true = (some (ctr, h), x)) ∧
    (let s : State := on .prompt (fun x => let x := coreP roleP ({ runG with s := [(1, 7), (2, 3)] }) x; { x with gaf := { x.gaf with evc := [(7, 3)] } }); let c : ChId := .c0; let k : Nat := 40; let f : IFields := { f0 with a := 1 }; let p : Prog := roleP; let ctr : Ctr := .num 7; let h : Nat := 0; let i : Invocation := { zInvocation with prog := 4 }; let x := s.ch c; let g := x.core k; let ref := (g.sreg f.a).toNat; x.coreProg k = some p ∧ g.asyncs = [] ∧ g.excs = [] ∧ g.dueExc = none ∧ g.inv = some i ∧ x.ctrVal ctr < 2 ^ 64 ∧ x.issues k 0xA6 f = true ∧ x.ctrRef p ref false = (some (ctr, h), x)) ∧
    (let s : State := on .prompt (fun x => let x := coreP roleP ({ runG with s := [(1, 7), (2, 3)] }) x; { x with gaf := { x.gaf with evc := [(7, 3)] } }); let c : ChId := .c0; let k : Nat := 40; let f : IFields := { f0 with a := 1, b := 2 }; let p : Prog := roleP; let ctr : Ctr := .num 7; let h : Nat := 0; let i : Invocation := { zInvocation with prog := 4 }; let x := s.ch c; let g := x.core k; let ref := (g.sreg f.a).toNat; let target := (g.sreg f.b).toNat; x.coreProg k = some p ∧ g.asyncs = [] ∧ g.excs = [] ∧ g.dueExc = none ∧ g.inv = some i ∧ x.ctrVal ctr < 2 ^ 64 ∧ x.issues k 0xA2 f = true ∧ x.ctrRef p ref false = (some (ctr, h), x) ∧ target ≤ x.ctrVal ctr) ∧
    (let s : State := on .prompt (fun x => let x := coreP roleP ({ runG with s := [(1, 7), (2, 4)] }) x; { x with gaf := { x.gaf with evc := [(7, 3)] } }); let c : ChId := .c0; let k : Nat := 40; let f : IFields := { f0 with a := 1, b := 2 }; let p : Prog := roleP; let ctr : Ctr := .num 7; let h : Nat := 0; let i : Invocation := { zInvocation with prog := 4 }; let x := s.ch c; let g := x.core k; let ref := (g.sreg f.a).toNat; let target := (g.sreg f.b).toNat; x.coreProg k = some p ∧ g.asyncs = [] ∧ g.excs = [] ∧ g.dueExc = none ∧ g.inv = some i ∧ x.ctrVal ctr < 2 ^ 64 ∧ x.issues k 0xA2 f = true ∧ x.ctrRef p ref false = (some (ctr, h), x) ∧ x.ctrVal ctr < target ∧ g.preempt = none) ∧
    (let s : State := on .prompt (fun x => let x := coreP roleP ({ runG with s := [(1, 7), (2, 4)] }) x; { x with gaf := { x.gaf with evc := [(7, 3)] } }); let c : ChId := .c0; let k : Nat := 40; let f : IFields := { f0 with a := 1, b := 2 }; let p : Prog := roleP; let ctr : Ctr := .num 7; let h : Nat := 0; let n : Nat := 0; let i : Invocation := { zInvocation with prog := 4 }; let x := s.ch c; let g := x.core k; let ref := (g.sreg f.a).toNat; let target := (g.sreg f.b).toNat; x.coreProg k = some p ∧ g.asyncs = [] ∧ g.excs = [] ∧ g.dueExc = none ∧ g.inv = some i ∧ x.ctrVal ctr < 2 ^ 64 ∧ x.issues k 0xA3 f = true ∧ x.ctrRef p ref false = (some (ctr, h), x) ∧ x.freeTrigger = some n ∧ p.entries.any (fun e => e.id == f.i && e.armable) = true ∧ x.ctrVal ctr < target) ∧
    (let s : State := on .prompt (fun x => let x := coreP roleP ({ runG with s := [(1, 7)] }) x; { x with gaf := { x.gaf with triggers := [(7, { zTrigger with prog := 4 })] } }); let c : ChId := .c0; let k : Nat := 40; let f : IFields := { f0 with a := 1 }; let p : Prog := roleP; let ctr : Ctr := .num 7; let i : Invocation := { zInvocation with prog := 4 }; let t : Trigger := { zTrigger with prog := 4 }; let x := s.ch c; let g := x.core k; let ref := (g.sreg f.a).toNat; x.coreProg k = some p ∧ g.asyncs = [] ∧ g.excs = [] ∧ g.dueExc = none ∧ g.inv = some i ∧ x.ctrVal ctr < 2 ^ 64 ∧ x.issues k 0xA4 f = true ∧ x.gaf.triggers.find ref = some t ∧ t.prog = i.prog) ∧
    (let s : State := on .prompt (fun x => let x := coreP roleP ({ runG with s := [(1, 16384)] }) x; { x with gaf := { x.gaf with evc := [(7, 3)] } }); let c : ChId := .c0; let k : Nat := 40; let f : IFields := { f0 with a := 1 }; let p : Prog := roleP; let ctr : Ctr := .num 7; let i : Invocation := { zInvocation with prog := 4 }; let x := s.ch c; let g := x.core k; let ref := (g.sreg f.a).toNat; x.coreProg k = some p ∧ g.asyncs = [] ∧ g.excs = [] ∧ g.dueExc = none ∧ g.inv = some i ∧ x.ctrVal ctr < 2 ^ 64 ∧ x.issues k 0xA6 f = true ∧ x.ctrRef p ref false = (none, x)) := by
  dsimp only
  exact ⟨⟨by decide +kernel, by decide +kernel, by decide +kernel, by decide +kernel, by decide +kernel, by decide +kernel, by decide +kernel, rfl⟩,
    ⟨by decide +kernel, by decide +kernel, by decide +kernel, by decide +kernel, by decide +kernel, by decide +kernel, by decide +kernel, rfl⟩,
    ⟨by decide +kernel, by decide +kernel, by decide +kernel, by decide +kernel, by decide +kernel, by decide +kernel, by decide +kernel, rfl⟩,
    ⟨by decide +kernel, by decide +kernel, by decide +kernel, by decide +kernel, by decide +kernel, by decide +kernel, by decide +kernel, rfl, by decide +kernel⟩,
    ⟨by decide +kernel, by decide +kernel, by decide +kernel, by decide +kernel, by decide +kernel, by decide +kernel, by decide +kernel, rfl, by decide +kernel, by decide +kernel⟩,
    ⟨by decide +kernel, by decide +kernel, by decide +kernel, by decide +kernel, by decide +kernel, by decide +kernel, by decide +kernel, rfl, by decide +kernel, by decide +kernel, by decide +kernel⟩,
    ⟨by decide +kernel, by decide +kernel, by decide +kernel, by decide +kernel, by decide +kernel, by decide +kernel, by decide +kernel, by decide +kernel, by decide +kernel⟩,
    ⟨by decide +kernel, by decide +kernel, by decide +kernel, by decide +kernel, by decide +kernel, by decide +kernel, by decide +kernel, rfl⟩⟩

theorem test_wit_AsyncInstructions :
    (let s : State := on .prompt (fun x => let x := coreP roleP runG x; x); let c : ChId := .c0; let k : Nat := 40; let f : IFields := f0; let p : Prog := roleP; let i : Invocation := { zInvocation with prog := 4 }; let x := s.ch c; let g := x.core k; x.coreProg k = some p ∧ g.inv = some i ∧ g.dueExc = none ∧ x.issues k 0xA5 f = true ∧ g.asyncs = [] ∧ g.excs = []) ∧
    (let s : State := on .prompt (fun x => let x := coreP roleP ({ runG with inv := some { zInvocation with prog := 4, resident := true } }) x; x); let c : ChId := .c0; let k : Nat := 40; let f : IFields := f0; let p : Prog := roleP; let i : Invocation := { zInvocation with prog := 4, resident := true }; let x := s.ch c; let g := x.core k; x.coreProg k = some p ∧ g.inv = some i ∧ g.dueExc = none ∧ x.issues k 0x44 f = true ∧ g.asyncs = [] ∧ g.excs = [] ∧ i.resident = true) ∧
    (let s : State := on .prompt (fun x => let x := coreP roleP runG x; x); let c : ChId := .c0; let k : Nat := 40; let f : IFields := f0; let p : Prog := roleP; let i : Invocation := { zInvocation with prog := 4 }; let x := s.ch c; let g := x.core k; x.coreProg k = some p ∧ g.inv = some i ∧ g.dueExc = none ∧ x.issues k 0x44 f = true ∧ g.asyncs = [] ∧ g.excs = [] ∧ i.resident = false) ∧
    (let s : State := on .prompt (fun x => let x := coreP roleP runG x; x); let c : ChId := .c0; let k : Nat := 40; let p : Prog := roleP; let i : Invocation := { zInvocation with prog := 4 }; let scr := 64; let pm := 127; let vm := 65535; let sm := 2 ^ 31 - 1; let x := s.ch c; let g := x.core k; x.coreProg k = some p ∧ g.inv = some i ∧ g.dueExc = none ∧ x.issues k 0 ⟨false, 0, 0, 0, 0, 0, 0⟩ = true ∧ scr ≤ 64 ∧ pm < 128 ∧ vm < 65536 ∧ sm < 2 ^ 31 ∧ g.excs = [] ∧ x.riding = false ∧ g.preempt = none) ∧
    (let s : State := on .prompt (fun x => let x := coreP roleP ({ runG with scratch := [(0, 3), (4, 64), (40, 64)] }) x; x); let c : ChId := .c0; let k : Nat := 40; let f : IFields := f0; let p : Prog := roleP; let i : Invocation := { zInvocation with prog := 4 }; let x := s.ch c; let g := x.core k; let a := (g.sreg f.a).toNat; let b := Memory.read g.scratch a 64; ∃ (d : DmovDesc) (y : Chan), x.coreProg k = some p ∧ g.inv = some i ∧ g.dueExc = none ∧ x.issues k opDmov f = true ∧ g.asyncs.length < 16 ∧ p.grants.testBit 0 = true ∧ a < p.scratch ∧ a % 64 = 0 ∧ x.judgeMove k p b = (some d, y)) ∧
    (let s : State := on .prompt (fun x => let x := coreP roleP ({ runG with scratch := [(0, 1), (5, 1)] }) x; withKey x); let c : ChId := .c0; let k : Nat := 40; let f : IFields := f0; let p : Prog := roleP; let i : Invocation := { zInvocation with prog := 4 }; let x := s.ch c; let g := x.core k; let a := (g.sreg f.a).toNat; ∃ (e : CryptDesc) (y : Chan), x.coreProg k = some p ∧ g.inv = some i ∧ g.dueExc = none ∧ x.issues k opCrypt f = true ∧ g.asyncs.length < 16 ∧ p.grants.testBit 3 = true ∧ a < p.scratch ∧ a % 64 = 0 ∧ x.judgeCrypt p g a = (.ok e, y)) ∧
    (let s : State := on .prompt (fun x => let x := coreP roleP ({ runG with asyncs := [.dmov 0 zDmovDesc] }) x; x); let c : ChId := .c0; let k : Nat := 40; let p : Prog := roleP; let i : Invocation := { zInvocation with prog := 4 }; let d : DmovDesc := zDmovDesc; let l : List AsyncOp := []; let off : Nat := 0; let n : Nat := 0; let x := s.ch c; let g := x.core k; ∃ (y : Chan) (ok : Bool), x.coreProg k = some p ∧ g.inv = some i ∧ g.dueExc = none ∧ x.serves = true ∧ g.asyncs = .dmov off d :: l ∧ x.runMove k d n = (ok, y) ∧ (y.core k).asyncs = g.asyncs ∧ (y.core k).wait = none ∧ (y.core k).preempt = none) ∧
    (let s : State := on .prompt (fun x => let x := coreP roleP ({ runG with asyncs := [.crypt 0 zCryptDesc] }) x; x); let c : ChId := .c0; let k : Nat := 40; let p : Prog := roleP; let i : Invocation := { zInvocation with prog := 4 }; let e : CryptDesc := zCryptDesc; let l : List AsyncOp := []; let off : Nat := 0; let x := s.ch c; let g := x.core k; x.coreProg k = some p ∧ g.inv = some i ∧ g.dueExc = none ∧ x.serves = true ∧ g.asyncs = .crypt off e :: l ∧ g.wait = none ∧ g.preempt = none) := by
  dsimp only
  exact ⟨⟨by decide +kernel, by decide +kernel, by decide +kernel, by decide +kernel, by decide +kernel, by decide +kernel⟩,
    ⟨by decide +kernel, by decide +kernel, by decide +kernel, by decide +kernel, by decide +kernel, by decide +kernel, by decide +kernel⟩,
    ⟨by decide +kernel, by decide +kernel, by decide +kernel, by decide +kernel, by decide +kernel, by decide +kernel, by decide +kernel⟩,
    ⟨by decide +kernel, by decide +kernel, by decide +kernel, by decide +kernel, by decide +kernel, by decide +kernel, by decide +kernel, by decide +kernel, by decide +kernel, by decide +kernel, by decide +kernel⟩,
    (by apply Exists.intro; apply Exists.intro; refine ⟨?p4_0, ?p4_1, ?p4_2, ?p4_3, ?p4_4, ?p4_5, ?p4_6, ?p4_7, ?p4_8⟩; (case p4_0 => decide +kernel); (case p4_1 => decide +kernel); (case p4_2 => decide +kernel); (case p4_3 => decide +kernel); (case p4_4 => decide +kernel); (case p4_5 => decide +kernel); (case p4_6 => decide +kernel); (case p4_7 => decide +kernel); (case p4_8 => rfl)),
    (by apply Exists.intro; apply Exists.intro; refine ⟨?p5_0, ?p5_1, ?p5_2, ?p5_3, ?p5_4, ?p5_5, ?p5_6, ?p5_7, ?p5_8⟩; (case p5_0 => decide +kernel); (case p5_1 => decide +kernel); (case p5_2 => decide +kernel); (case p5_3 => decide +kernel); (case p5_4 => decide +kernel); (case p5_5 => decide +kernel); (case p5_6 => decide +kernel); (case p5_7 => decide +kernel); (case p5_8 => rfl)),
    (by apply Exists.intro; apply Exists.intro; refine ⟨?p6_0, ?p6_1, ?p6_2, ?p6_3, ?p6_4, ?p6_5, ?p6_6, ?p6_7, ?p6_8⟩; (case p6_0 => decide +kernel); (case p6_1 => decide +kernel); (case p6_2 => decide +kernel); (case p6_3 => decide +kernel); (case p6_4 => decide +kernel); (case p6_5 => exact any_pair _); (case p6_6 => decide +kernel); (case p6_7 => decide +kernel); (case p6_8 => decide +kernel)),
    ⟨by decide +kernel, by decide +kernel, by decide +kernel, by decide +kernel, by decide +kernel, by decide +kernel, by decide +kernel⟩⟩

/-! ### Witnesses: Ports and transport -/

/-- A tagless IPv4 frame to UDP port 4791, of zeros otherwise. -/
def rocePktBytes : List Byte :=
  List.replicate 12 0 ++ [0x08, 0x00, 0x45, 0, 0, 46] ++ List.replicate 5 0 ++ [17] ++ List.replicate 12 0 ++ [0x12, 0xB7, 0, 26, 0, 0] ++ List.replicate 18 0

/-- The premises of the atomic clauses of FabricPackets: an FADD64 that is applied, one whose region refuses it, and one of a wrong length. -/
theorem test_wit_FabricPackets_atomics :
    ((on .prompt (fun x => conn1 cOpen x)).ch .c0).comesIn { fmt1 with data := List.replicate 8 0 } true ≠ none ∧
    (let y := (on .prompt (fun x => conn1 cOpen x)).ch .c0
     psnSub 0 (y.conn 1).ep = 0 ∧
     (match (y.judgeAtomic ⟨1, 0, 2 ^ 28, 0, 11, some 2, 6, false⟩ (fun old => some (old + 1))).2 with | .ok v => decide (v = 0) | .error _ => false) = true ∧
     (match (y.judgeAtomic ⟨1, 0, 2 ^ 28 + 4, 0, 11, some 2, 6, false⟩ (fun _ => some 1)).2 with | .ok _ => false | .error r => decide (r = prot 0x18)) = true) := by
  refine ⟨?_, ?_⟩ <;> decide +kernel

theorem test_wit_PortFrames_1 :
    (let s : State := on .prompt (fun x => let x := link0 x; x); let c : ChId := .c0; let n : Nat := 0; let data : List Byte := List.replicate 59 0; let x := s.ch c; let u := x.port n; let size := data.length + 4; let up := x.serves = true ∧ x.hasPort n = true ∧ u.link = .up; up ∧ size < 64) ∧
    (let s : State := on .prompt (fun x => let x := link0 x; x); let c : ChId := .c0; let n : Nat := 0; let data : List Byte := List.replicate 1515 0; let x := s.ch c; let u := x.port n; let size := data.length + 4; let up := x.serves = true ∧ x.hasPort n = true ∧ u.link = .up; up ∧ 64 ≤ size ∧ x.maxFrame n < size) ∧
    (let s : State := on .prompt (fun x => let x := link0 x; x); let c : ChId := .c0; let n : Nat := 0; let data : List Byte := List.replicate 60 0; let ok : Bool := false; let x := s.ch c; let u := x.port n; let size := data.length + 4; let up := x.serves = true ∧ x.hasPort n = true ∧ u.link = .up; up ∧ 64 ≤ size ∧ size ≤ x.maxFrame n ∧ ok = false) ∧
    (let s : State := on .prompt (fun x => let x := link0 x; x); let c : ChId := .c0; let n : Nat := 0; let data : List Byte := List.replicate 1514 0; let ok : Bool := false; let x := s.ch c; let u := x.port n; let size := data.length + 4; let up := x.serves = true ∧ x.hasPort n = true ∧ u.link = .up; up ∧ 64 ≤ size ∧ size ≤ x.maxFrame n ∧ ok = false) ∧
    (let s : State := on .prompt (fun x => let x := link0 x; { x with fab := { x.fab with bufs := (List.range 4095).map (fun i => (i + 1, zPktBuf)) } }); let c : ChId := .c0; let n : Nat := 0; let data : List Byte := List.replicate 60 0; let ok : Bool := true; let x := s.ch c; let u := x.port n; let size := data.length + 4; let q := parseFrame data; let up := x.serves = true ∧ x.hasPort n = true ∧ u.link = .up; let live := up ∧ x.fnState (0x10 + n) ≠ .stopped; let clean := q.etype ≠ 0x8808 ∧ (q.v6 = true → q.isUdp = true → q.dport = x.fget Reg.FAB_FMT_CFG 31 16 → q.udpOk = true); live ∧ 64 ≤ size ∧ size ≤ x.maxFrame n ∧ ok = true ∧ clean ∧ x.freeHandle = none) ∧
    (let s : State := on .prompt (fun x => let x := link0 x; x); let c : ChId := .c0; let n : Nat := 0; let data : List Byte := rocePktBytes; let ok : Bool := true; let h : Nat := 1; let r : Nat := 4; let x := s.ch c; let u := x.port n; let size := data.length + 4; let q := parseFrame data; let up := x.serves = true ∧ x.hasPort n = true ∧ u.link = .up; let live := up ∧ x.fnState (0x10 + n) ≠ .stopped; let clean := q.etype ≠ 0x8808 ∧ (q.v6 = true → q.isUdp = true → q.dport = x.fget Reg.FAB_FMT_CFG 31 16 → q.udpOk = true); live ∧ 64 ≤ size ∧ size ≤ x.maxFrame n ∧ ok = true ∧ clean ∧ x.freeHandle = some h ∧ x.steer data q q.prio = .ring r ∧ (u.rings.getD r []).length < 512) ∧
    (let s : State := on .prompt (fun x => let x := link0 x; let x := x.setPort 0 { x.port 0 with rings := [(4, List.replicate 512 1)] }; x); let c : ChId := .c0; let n : Nat := 0; let data : List Byte := rocePktBytes; let ok : Bool := true; let h : Nat := 1; let r : Nat := 4; let x := s.ch c; let u := x.port n; let size := data.length + 4; let q := parseFrame data; let up := x.serves = true ∧ x.hasPort n = true ∧ u.link = .up; let live := up ∧ x.fnState (0x10 + n) ≠ .stopped; let clean := q.etype ≠ 0x8808 ∧ (q.v6 = true → q.isUdp = true → q.dport = x.fget Reg.FAB_FMT_CFG 31 16 → q.udpOk = true); live ∧ 64 ≤ size ∧ size ≤ x.maxFrame n ∧ ok = true ∧ clean ∧ x.freeHandle = some h ∧ x.steer data q q.prio = .ring r ∧ 512 ≤ (u.rings.getD r []).length) ∧
    (let s : State := on .prompt (fun x => let x := link0 x; x); let c : ChId := .c0; let n : Nat := 0; let data : List Byte := List.replicate 60 0; let ok : Bool := true; let h : Nat := 1; let x := s.ch c; let u := x.port n; let size := data.length + 4; let q := parseFrame data; let up := x.serves = true ∧ x.hasPort n = true ∧ u.link = .up; let live := up ∧ x.fnState (0x10 + n) ≠ .stopped; let clean := q.etype ≠ 0x8808 ∧ (q.v6 = true → q.isUdp = true → q.dport = x.fget Reg.FAB_FMT_CFG 31 16 → q.udpOk = true); live ∧ 64 ≤ size ∧ size ≤ x.maxFrame n ∧ ok = true ∧ clean ∧ x.freeHandle = some h ∧ x.steer data q q.prio = .other) ∧
    (let s : State := on .prompt (fun x => let x := link0 x; x.wr (Reg.FAB_PFC_CFG 0) (2 ^ 59)); let c : ChId := .c0; let n : Nat := 0; let p : Nat := 3; let x := s.ch c; let u := x.port n; let up := x.serves = true ∧ x.hasPort n = true ∧ u.link = .up; let live := up ∧ x.fnState (0x10 + n) ≠ .stopped; live ∧ p ≤ 7 ∧ x.lossless n p = true) ∧
    (let s : State := on .prompt (fun x => let x := link0 x; x.wr (Reg.FAB_PFC_CFG 0) (2 ^ 59)); let c : ChId := .c0; let n : Nat := 0; let p : Nat := 3; let quanta : Nat := 65535; let x := s.ch c; let u := x.port n; let up := x.serves = true ∧ x.hasPort n = true ∧ u.link = .up; let live := up ∧ x.fnState (0x10 + n) ≠ .stopped; live ∧ p ≤ 7 ∧ x.lossless n p = true ∧ quanta ≠ 0) := by
  dsimp only
  exact ⟨⟨by decide +kernel, by decide +kernel⟩,
    ⟨by decide +kernel, by decide +kernel, by decide +kernel⟩,
    ⟨by decide +kernel, by decide +kernel, by decide +kernel, by decide +kernel⟩,
    ⟨by decide +kernel, by decide +kernel, by decide +kernel, by decide +kernel⟩,
    ⟨by decide +kernel, by decide +kernel, by decide +kernel, by decide +kernel, by decide +kernel, by decide +kernel⟩,
    ⟨by decide +kernel, by decide +kernel, by decide +kernel, by decide +kernel, by decide +kernel, by decide +kernel, by decide +kernel, by decide +kernel⟩,
    ⟨by decide +kernel, by decide +kernel, by decide +kernel, by decide +kernel, by decide +kernel, by decide +kernel, by decide +kernel, by decide +kernel⟩,
    ⟨by decide +kernel, by decide +kernel, by decide +kernel, by decide +kernel, by decide +kernel, by decide +kernel, by decide +kernel⟩,
    ⟨by decide +kernel, by decide +kernel, by decide +kernel⟩,
    ⟨by decide +kernel, by decide +kernel, by decide +kernel, by decide +kernel⟩⟩

theorem test_wit_PortFrames_2 :
    (let s : State := on .prompt (fun x => let x := link0 x; let x := x.setPort 0 { x.port 0 with rxPaused := [(3, 77)] }; x); let c : ChId := .c0; let n : Nat := 0; let p : Nat := 3; let t : Nat := 77; let x := s.ch c; let u := x.port n; u.rxPaused.find p = some t) ∧
    (let s : State := on .prompt (fun x => let x := link0 x; let x := x.setPort 0 { x.port 0 with txPaused := [(3, 77)] }; x); let c : ChId := .c0; let n : Nat := 0; let p : Nat := 3; let t : Nat := 77; let x := s.ch c; let u := x.port n; let late := x.reach t; u.txPaused.find p = some t ∧ (late.xon n ≤ u.held.getD p 0 ∨ x.fnState (0x10 + n) = .stopping)) ∧
    (let s : State := on .prompt (fun x => let x := link0 x; let x := x.setPort 0 { x.port 0 with txPaused := [(3, 77)] }; x.wr (Reg.FAB_PFC_CFG 0) (2 ^ 20 + 2 ^ 8)); let c : ChId := .c0; let n : Nat := 0; let p : Nat := 3; let t : Nat := 77; let x := s.ch c; let u := x.port n; let late := x.reach t; u.txPaused.find p = some t ∧ u.held.getD p 0 < late.xon n ∧ x.fnState (0x10 + n) ≠ .stopping) ∧
    (let s : State := on .prompt (fun x => let x := link0 x; let x := x.setPort 0 { x.port 0 with pausedSince := [(3, 77)] }; x.wr (Reg.FAB_PFC_CFG 0) 1); let c : ChId := .c0; let n : Nat := 0; let p : Nat := 3; let t : Nat := 77; let x := s.ch c; let u := x.port n; let wd := x.fget (Reg.FAB_PFC_CFG n) 7 0; u.pausedSince.find p = some t ∧ wd ≠ 0 ∧ p ∉ u.stormed ∧ x.hasPort n = true) ∧
    (let s : State := on .prompt (fun x => let x := link0 x; let x := x.setPort 0 { x.port 0 with dropping := [(3, 77)] }; x); let c : ChId := .c0; let n : Nat := 0; let p : Nat := 3; let t : Nat := 77; let x := s.ch c; let u := x.port n; u.dropping.find p = some t ∧ t ≠ 0) := by
  dsimp only
  exact ⟨by decide +kernel,
    ⟨by decide +kernel, by decide +kernel⟩,
    ⟨by decide +kernel, by decide +kernel, by decide +kernel⟩,
    ⟨by decide +kernel, by decide +kernel, by decide +kernel, by decide +kernel⟩,
    ⟨by decide +kernel, by decide +kernel⟩⟩

theorem test_wit_PortLinks_1 :
    (let s : State := on .prompt (fun x => x); let c : ChId := .c0; let n : Nat := 15; let x := s.ch c; let u := x.port n; x.serves = true ∧ x.hasPort n = true ∧ u.link ≠ .up) ∧
    (let s : State := on .prompt (fun x => let x := link0 x; x); let c : ChId := .c0; let n : Nat := 0; let x := s.ch c; let u := x.port n; x.hasPort n = true ∧ u.link ≠ .down) ∧
    (let s : State := on .prompt (fun x => let x := link0 x; x); let c : ChId := .c0; let n : Nat := 0; let words : Nat := 99999; let fixed : Nat := 1; let bad : Nat := 0; let x := s.ch c; x.serves = true ∧ x.hasPort n = true ∧ (0 < bad ∨ words < fixed * 100000)) ∧
    (let s : State := on .prompt (fun x => let x := link0 x; x); let c : ChId := .c0; let n : Nat := 0; let words : Nat := 100000; let fixed : Nat := 1; let bad : Nat := 1; let x := s.ch c; x.serves = true ∧ x.hasPort n = true ∧ (0 < bad ∨ words < fixed * 100000)) ∧
    (let s : State := on .prompt (fun x => let x := link0 x; x); let c : ChId := .c0; let n : Nat := 0; let words : Nat := 100000; let fixed : Nat := 1; let bad : Nat := 0; let x := s.ch c; x.serves = true ∧ x.hasPort n = true ∧ bad = 0 ∧ fixed * 100000 ≤ words) ∧
    (let s : State := on .prompt (fun x => let x := link0 x; x); let c : ChId := .c0; let a : Access := ⟨.both, 1⟩; let p := 0x10; let x := s.ch c; x.regsLive = true ∧ reaches a 1 0 = true ∧ x.portLock = some p) ∧
    (let s : State := State.reset; let c : ChId := .c0; let a : Access := ⟨.both, 3⟩; let x := s.ch c; let mode := bits (a.apply 0) 1 0; x.regsLive = true ∧ reaches a 1 0 = true ∧ x.portLock = none ∧ mode = 3) ∧
    (let s : State := State.reset; let c : ChId := .c0; let a : Access := ⟨.both, 0⟩; let x := s.ch c; let mode := bits (a.apply 0) 1 0; x.regsLive = true ∧ reaches a 1 0 = true ∧ x.portLock = none ∧ mode ≠ 3 ∧ mode = x.fget Reg.FAB_LANE_MODE 1 0) ∧
    (let s : State := State.reset; let c : ChId := .c0; let a : Access := ⟨.both, 2⟩; let x := s.ch c; let mode := bits (a.apply 0) 1 0; x.regsLive = true ∧ reaches a 1 0 = true ∧ x.portLock = none ∧ mode ≠ 3 ∧ mode ≠ x.fget Reg.FAB_LANE_MODE 1 0) ∧
    (let s : State := on .prompt (fun x => let x := link0 x; x); let c : ChId := .c0; let n : Nat := 0; let ok : Bool := true; let x := s.ch c; let u := x.port n; x.serves = true ∧ x.hasPort n = true ∧ u.link = .up ∧ (x.sec.fmKey = none ∨ ok = false)) := by
  dsimp only
  exact ⟨⟨by decide +kernel, by decide +kernel, by decide +kernel⟩,
    ⟨by decide +kernel, by decide +kernel⟩,
    ⟨by decide +kernel, by decide +kernel, by decide +kernel⟩,
    ⟨by decide +kernel, by decide +kernel, by decide +kernel⟩,
    ⟨by decide +kernel, by decide +kernel, by decide +kernel, by decide +kernel⟩,
    ⟨by decide +kernel, by decide +kernel, by decide +kernel⟩,
    ⟨by decide +kernel, by decide +kernel, by decide +kernel, by decide +kernel⟩,
    ⟨by decide +kernel, by decide +kernel, by decide +kernel, by decide +kernel, by decide +kernel⟩,
    ⟨by decide +kernel, by decide +kernel, by decide +kernel, by decide +kernel, by decide +kernel⟩,
    ⟨by decide +kernel, by decide +kernel, by decide +kernel, by decide +kernel⟩⟩

theorem test_wit_PortLinks_2 :
    (let s : State := wch (fun x => let x := link0 x; { x with sec := { x.sec with fmKey := some [] } }); let c : ChId := .c0; let n : Nat := 0; let ok : Bool := true; let x := s.ch c; let u := x.port n; x.serves = true ∧ x.hasPort n = true ∧ u.link = .up ∧ x.sec.fmKey ≠ none ∧ ok = true ∧ x.portLock = none) ∧
    (let s : State := on .prompt (fun x => let x := link0 x; { x with sec := { x.sec with fmKey := some [] } }); let c : ChId := .c0; let n : Nat := 0; let ok : Bool := true; let p := 0x10; let x := s.ch c; let u := x.port n; x.serves = true ∧ x.hasPort n = true ∧ u.link = .up ∧ x.sec.fmKey ≠ none ∧ ok = true ∧ x.portLock = some p) := by
  dsimp only
  exact ⟨⟨by decide +kernel, by decide +kernel, by decide +kernel, by decide +kernel, by decide +kernel, by decide +kernel⟩,
    ⟨by decide +kernel, by decide +kernel, by decide +kernel, by decide +kernel, by decide +kernel, by decide +kernel⟩⟩

theorem test_wit_FabricPackets_1 :
    (let s : State := on .prompt (fun x => let x := conn1 (cOpen) x; x); let c : ChId := .c0; let p : FmtPkt := { fmt1 with tagOk := false }; let i := Instr.load .c0 { fmt1 with tagOk := false }; let x := s.ch c; x.hears p = true ∧ (p.prot = false ∨ p.tagOk = false) ∧ (i = Instr.store c p ∨ i = .fstore c p ∨ i = .load c p ∨ i = .loadResp c p ∨ i = .fadd64 c p ∨ i = .cswap64 c p ∨ i = .swap64 c p ∨ i = .atomicResp c p ∨ i = .ack c p ∨ i = .nak c p)) ∧
    (let s : State := on .prompt (fun x => let x := conn1 (cOpen) x; x); let c : ChId := .c0; let p : FmtPkt := { fmt1 with psn := 2 ^ 23 - 1 }; let i := Instr.store .c0 { fmt1 with psn := 2 ^ 23 - 1 }; let x := s.ch c; let k := p.dstConn; ∃ (y : Chan), let d := psnSub p.psn (y.conn k).ep; x.comesIn p true = some y ∧ 0 < d ∧ d < 2 ^ 23 ∧ (i = Instr.store c p ∨ i = .fstore c p ∨ i = .load c p ∨ i = .fadd64 c p ∨ i = .cswap64 c p ∨ i = .swap64 c p)) ∧
    (let s : State := on .prompt (fun x => let x := conn1 (cOpen) x; x); let c : ChId := .c0; let p : FmtPkt := { fmt1 with psn := 2 ^ 23 }; let x := s.ch c; let k := p.dstConn; ∃ (y : Chan), let d := psnSub p.psn (y.conn k).ep; x.comesIn p true = some y ∧ 2 ^ 23 ≤ d) ∧
    (let s : State := on .prompt (fun x => let x := conn1 (cOpen) x; x); let c : ChId := .c0; let p : FmtPkt := { fmt1 with data := List.replicate 9 0 }; let flagged : Bool := false; let x := s.ch c; let k := p.dstConn; ∃ (y : Chan), let d := psnSub p.psn (y.conn k).ep; x.comesIn p true = some y ∧ d = 0 ∧ FmtPkt_storeOk p (y.conn k) flagged = false) ∧
    (let s : State := on .prompt (fun x => let x := conn1 (cOpen) x; x); let c : ChId := .c0; let p : FmtPkt := { fmt1 with data := List.replicate 8 0, addr := 2 * 2 ^ 28 }; let r : Refuse := (2, 0x10); let flagged : Bool := false; let x := s.ch c; let k := p.dstConn; let a := fun (flagged : Bool) => { conn := k, psn := p.psn, off := p.addr % 2 ^ 46, region := p.region, key := p.key, gen := some p.gen, eid := p.srcEid, flagged := flagged : Acc }; ∃ (y : Chan) (z : Chan), let d := psnSub p.psn (y.conn k).ep; x.comesIn p true = some y ∧ d = 0 ∧ FmtPkt_storeOk p (y.conn k) flagged = true ∧ y.judgeStore (a flagged) false p.data = (z, .error r)) ∧
    (let s : State := on .prompt (fun x => let x := conn1 (cOpen) x; x); let c : ChId := .c0; let p : FmtPkt := { fmt1 with data := List.replicate 8 0 }; let units : Nat := 0; let flagged : Bool := false; let x := s.ch c; let k := p.dstConn; let a := fun (flagged : Bool) => { conn := k, psn := p.psn, off := p.addr % 2 ^ 46, region := p.region, key := p.key, gen := some p.gen, eid := p.srcEid, flagged := flagged : Acc }; ∃ (y : Chan) (z : Chan), let d := psnSub p.psn (y.conn k).ep; x.comesIn p true = some y ∧ d = 0 ∧ FmtPkt_storeOk p (y.conn k) flagged = true ∧ y.judgeStore (a flagged) false p.data = (z, .ok units)) ∧
    (let s : State := on .prompt (fun x => let x := conn1 (cOpen) x; x); let c : ChId := .c0; let p : FmtPkt := { fmt1 with data := List.replicate 4096 0, addr := 2 ^ 28 + 2097152 - 4096 }; let units : Nat := 0; let flagged : Bool := false; let x := s.ch c; let k := p.dstConn; let a := fun (flagged : Bool) => { conn := k, psn := p.psn, off := p.addr % 2 ^ 46, region := p.region, key := p.key, gen := some p.gen, eid := p.srcEid, flagged := flagged : Acc }; ∃ (y : Chan) (z : Chan), let d := psnSub p.psn (y.conn k).ep; x.comesIn p true = some y ∧ d = 0 ∧ FmtPkt_storeOk p (y.conn k) flagged = true ∧ y.judgeStore (a flagged) false p.data = (z, .ok units)) ∧
    (let s : State := on .prompt (fun x => let x := conn1 (cOpen) x; x); let c : ChId := .c0; let p : FmtPkt := { fmt1 with oplen := 12 }; let x := s.ch c; let k := p.dstConn; let shaped := p.addr % 8 = 0 ∧ p.oplen % 8 = 0 ∧ 8 ≤ p.oplen ∧ p.oplen ≤ 1048576 ∧ p.data = []; ∃ (y : Chan), let d := psnSub p.psn (y.conn k).ep; x.comesIn p true = some y ∧ d = 0 ∧ ¬ shaped) ∧
    (let s : State := on .prompt (fun x => let x := conn1 (cOpen) x; x); let c : ChId := .c0; let p : FmtPkt := { fmt1 with oplen := 8, key := 12 }; let r : Refuse := (2, 0x11); let x := s.ch c; let k := p.dstConn; let a := fun (flagged : Bool) => { conn := k, psn := p.psn, off := p.addr % 2 ^ 46, region := p.region, key := p.key, gen := some p.gen, eid := p.srcEid, flagged := flagged : Acc }; let shaped := p.addr % 8 = 0 ∧ p.oplen % 8 = 0 ∧ 8 ≤ p.oplen ∧ p.oplen ≤ 1048576 ∧ p.data = []; ∃ (y : Chan) (z : Chan), let d := psnSub p.psn (y.conn k).ep; x.comesIn p true = some y ∧ d = 0 ∧ shaped ∧ y.judgeLoad (a false) p.oplen = (z, .error r)) ∧
    (let s : State := on .prompt (fun x => let x := conn1 (cOpen) x; x); let c : ChId := .c0; let p : FmtPkt := { fmt1 with oplen := 8 }; let bytes : List Byte := List.replicate 8 0; let x := s.ch c; let k := p.dstConn; let a := fun (flagged : Bool) => { conn := k, psn := p.psn, off := p.addr % 2 ^ 46, region := p.region, key := p.key, gen := some p.gen, eid := p.srcEid, flagged := flagged : Acc }; let shaped := p.addr % 8 = 0 ∧ p.oplen % 8 = 0 ∧ 8 ≤ p.oplen ∧ p.oplen ≤ 1048576 ∧ p.data = []; ∃ (y : Chan) (z : Chan), let d := psnSub p.psn (y.conn k).ep; x.comesIn p true = some y ∧ d = 0 ∧ shaped ∧ y.judgeLoad (a false) p.oplen = (z, .ok bytes)) := by
  dsimp only
  exact ⟨⟨by decide +kernel, by decide +kernel, Or.inr (Or.inr (Or.inl rfl))⟩,
    (by apply Exists.intro; refine ⟨?p1_0, ?p1_1, ?p1_2, ?p1_3⟩; (case p1_0 => apply get_one; decide +kernel); (case p1_1 => decide +kernel); (case p1_2 => decide +kernel); (case p1_3 => exact Or.inl rfl)),
    (by apply Exists.intro; refine ⟨?p2_0, ?p2_1⟩; (case p2_0 => apply get_one; decide +kernel); (case p2_1 => decide +kernel)),
    (by apply Exists.intro; refine ⟨?p3_0, ?p3_1, ?p3_2⟩; (case p3_0 => apply get_one; decide +kernel); (case p3_1 => decide +kernel); (case p3_2 => decide +kernel)),
    (by apply Exists.intro; apply Exists.intro; refine ⟨?p4_0, ?p4_1, ?p4_2, ?p4_3⟩; (case p4_0 => apply get_one; decide +kernel); (case p4_1 => decide +kernel); (case p4_2 => decide +kernel); (case p4_3 => apply fst_error; decide +kernel)),
    (by apply Exists.intro; apply Exists.intro; refine ⟨?p5_0, ?p5_1, ?p5_2, ?p5_3⟩; (case p5_0 => apply get_one; decide +kernel); (case p5_1 => decide +kernel); (case p5_2 => decide +kernel); (case p5_3 => apply fst_ok; decide +kernel)),
    (by apply Exists.intro; apply Exists.intro; refine ⟨?p5_0, ?p5_1, ?p5_2, ?p5_3⟩; (case p5_0 => apply get_one; decide +kernel); (case p5_1 => decide +kernel); (case p5_2 => decide +kernel); (case p5_3 => apply fst_ok; decide +kernel)),
    (by apply Exists.intro; refine ⟨?p6_0, ?p6_1, ?p6_2⟩; (case p6_0 => apply get_one; decide +kernel); (case p6_1 => decide +kernel); (case p6_2 => decide +kernel)),
    (by apply Exists.intro; apply Exists.intro; refine ⟨?p7_0, ?p7_1, ?p7_2, ?p7_3⟩; (case p7_0 => apply get_one; decide +kernel); (case p7_1 => decide +kernel); (case p7_2 => decide +kernel); (case p7_3 => apply fst_error; decide +kernel)),
    (by apply Exists.intro; apply Exists.intro; refine ⟨?p8_0, ?p8_1, ?p8_2, ?p8_3⟩; (case p8_0 => apply get_one; decide +kernel); (case p8_1 => decide +kernel); (case p8_2 => decide +kernel); (case p8_3 => apply fst_ok; decide +kernel))⟩

theorem test_wit_FabricPackets_2 :
    (let s : State := on .prompt (fun x => let x := conn1 (cOpen) x; x); let c : ChId := .c0; let p : FmtPkt := fmt1; let x := s.ch c; ∃ (y : Chan), x.comesIn p true = some y) ∧
    (let s : State := on .prompt (fun x => let x := conn1 (cOpen) x; x); let c : ChId := .c0; let p : FmtPkt := fmt1; let x := s.ch c; ∃ (y : Chan), x.comesIn p false = some y) := by
  dsimp only
  exact ⟨(by apply Exists.intro; refine ?p9_0; (case p9_0 => apply get_one; decide +kernel)),
    (by apply Exists.intro; refine ?p10_0; (case p10_0 => apply get_one; decide +kernel))⟩

theorem test_wit_ConnectionPackets_1 :
    (let s : State := on .prompt (fun x => let x := conn1 ({ cOpen with peerInit := 3 }) x; x); let c : ChId := .c0; let p : FmtPkt := { fmt1 with psn := 3 }; let n : Nat := 1; let x := (s.ch c).heardFrom p.srcEid; (s.ch c).hears p = true ∧ p.prot = true ∧ p.tagOk = true ∧ x.connRepeat p = some n) ∧
    (let s : State := on .prompt (fun x => let x := conn1 (cOpen) x; x); let c : ChId := .c0; let p : FmtPkt := { fmt1 with srcEid := 7 }; let reason : Nat := 5; let x := (s.ch c).heardFrom p.srcEid; (s.ch c).hears p = true ∧ p.prot = true ∧ p.tagOk = true ∧ x.connRepeat p = none ∧ x.connReason p = some reason) ∧
    (let s : State := on .prompt (fun x => let x := conn1 (cOpen) x; x); let c : ChId := .c0; let p : FmtPkt := { fmt1 with psn := 1, data := leBytes 4 0 ++ [0, 2] }; let reason : Nat := 1; let x := (s.ch c).heardFrom p.srcEid; (s.ch c).hears p = true ∧ p.prot = true ∧ p.tagOk = true ∧ x.connRepeat p = none ∧ x.connReason p = some reason) ∧
    (let s : State := on .prompt (fun x => let x := conn1 (cOpen) x; x); let c : ChId := .c0; let p : FmtPkt := { fmt1 with psn := 1, data := [] }; let n : Nat := 0; let x := (s.ch c).heardFrom p.srcEid; ∃ (y : Chan), (s.ch c).hears p = true ∧ p.prot = true ∧ p.tagOk = true ∧ x.connRepeat p = none ∧ x.connReason p = none ∧ x.nextConn = some (n, y)) ∧
    (let s : State := on .prompt (fun x => let x := conn1 ({ cOpen with st := .reqSent }) x; x); let c : ChId := .c0; let p : FmtPkt := fmt1; let x := (s.ch c).heardFrom p.srcEid; let k := p.dstConn; let u := x.conn k; (s.ch c).hears p = true ∧ p.prot = true ∧ p.tagOk = true ∧ u.st = .reqSent ∧ u.peer = p.srcEid) ∧
    (let s : State := on .prompt (fun x => let x := conn1 (cOpen) x; x); let c : ChId := .c0; let p : FmtPkt := fmt1; let x := (s.ch c).heardFrom p.srcEid; let k := p.dstConn; let u := x.conn k; (s.ch c).hears p = true ∧ p.prot = true ∧ p.tagOk = true ∧ u.st = .open_ ∧ u.isWith p = true) ∧
    (let s : State := on .prompt (fun x => let x := conn1 ({ cOpen with st := .closed }) x; x); let c : ChId := .c0; let p : FmtPkt := fmt1; let x := (s.ch c).heardFrom p.srcEid; let k := p.dstConn; let u := x.conn k; (s.ch c).hears p = true ∧ p.prot = true ∧ p.tagOk = true ∧ u.st = .closed) ∧
    (let s : State := on .prompt (fun x => let x := conn1 ({ cOpen with st := .reqSent }) x; x); let c : ChId := .c0; let p : FmtPkt := fmt1; let x := (s.ch c).heardFrom p.srcEid; let k := p.dstConn; let u := x.conn k; (s.ch c).hears p = true ∧ p.prot = true ∧ p.tagOk = true ∧ u.peer = p.srcEid ∧ u.roce = none ∧ u.st = .reqSent) ∧
    (let s : State := on .prompt (fun x => let x := conn1 (cOpen) x; x); let c : ChId := .c0; let p : FmtPkt := { fmt1 with syndrome := 3 }; let x := (s.ch c).heardFrom p.srcEid; let k := p.dstConn; let u := x.conn k; (s.ch c).hears p = true ∧ p.prot = true ∧ p.tagOk = true ∧ u.peer = p.srcEid ∧ u.roce = none ∧ (u.st = .open_ ∨ u.st = .closing) ∧ p.syndrome = 3) ∧
    (let s : State := on .prompt (fun x => let x := conn1 (cOpen) x; x); let c : ChId := .c0; let p : FmtPkt := fmt1; let x := (s.ch c).heardFrom p.srcEid; let k := p.dstConn; let u := x.conn k; (s.ch c).hears p = true ∧ p.prot = true ∧ p.tagOk = true ∧ u.peer = p.srcEid ∧ u.roce = none ∧ (u.st = .open_ ∨ u.st = .closing) ∧ p.syndrome ≠ 3) := by
  dsimp only
  exact ⟨⟨by decide +kernel, by decide +kernel, by decide +kernel, by decide +kernel⟩,
    ⟨by decide +kernel, by decide +kernel, by decide +kernel, by decide +kernel, by decide +kernel⟩,
    ⟨by decide +kernel, by decide +kernel, by decide +kernel, by decide +kernel, by decide +kernel⟩,
    (by apply Exists.intro; refine ⟨?p2_0, ?p2_1, ?p2_2, ?p2_3, ?p2_4, ?p2_5⟩; (case p2_0 => decide +kernel); (case p2_1 => decide +kernel); (case p2_2 => decide +kernel); (case p2_3 => decide +kernel); (case p2_4 => decide +kernel); (case p2_5 => rfl)),
    ⟨by decide +kernel, by decide +kernel, by decide +kernel, by decide +kernel, by decide +kernel⟩,
    ⟨by decide +kernel, by decide +kernel, by decide +kernel, by decide +kernel, by decide +kernel⟩,
    ⟨by decide +kernel, by decide +kernel, by decide +kernel, by decide +kernel⟩,
    ⟨by decide +kernel, by decide +kernel, by decide +kernel, by decide +kernel, by decide +kernel, by decide +kernel⟩,
    ⟨by decide +kernel, by decide +kernel, by decide +kernel, by decide +kernel, by decide +kernel, by decide +kernel, by decide +kernel⟩,
    ⟨by decide +kernel, by decide +kernel, by decide +kernel, by decide +kernel, by decide +kernel, by decide +kernel, by decide +kernel⟩⟩

theorem test_wit_ConnectionPackets_2 :
    (let s : State := on .prompt (fun x => let x := conn1 ({ cOpen with st := .closing }) x; x); let c : ChId := .c0; let p : FmtPkt := fmt1; let x := (s.ch c).heardFrom p.srcEid; let k := p.dstConn; let u := x.conn k; (s.ch c).hears p = true ∧ p.prot = true ∧ p.tagOk = true ∧ u.peer = p.srcEid ∧ u.roce = none ∧ (u.st = .open_ ∨ u.st = .closing) ∧ p.syndrome ≠ 3) ∧
    (let s : State := on .prompt (fun x => let x := conn1 (cOpen) x; x); let c : ChId := .c0; let p : FmtPkt := fmt1; let x := (s.ch c).heardFrom p.srcEid; let k := p.dstConn; let u := x.conn k; (s.ch c).hears p = true ∧ p.prot = true ∧ p.tagOk = true ∧ u.isWith p = true ∧ (u.st = .open_ ∨ u.st = .closing)) ∧
    (let s : State := on .prompt (fun x => let x := conn1 ({ cOpen with st := .quarantine }) x; x); let c : ChId := .c0; let p : FmtPkt := fmt1; let x := (s.ch c).heardFrom p.srcEid; let k := p.dstConn; let u := x.conn k; (s.ch c).hears p = true ∧ p.prot = true ∧ p.tagOk = true ∧ u.isWith p = true ∧ u.st = .quarantine) ∧
    (let s : State := on .prompt (fun x => let x := conn1 (cOpen) x; x); let c : ChId := .c0; let p : FmtPkt := { fmt1 with srcConn := 8 }; let x := (s.ch c).heardFrom p.srcEid; let k := p.dstConn; let u := x.conn k; (s.ch c).hears p = true ∧ p.prot = true ∧ p.tagOk = true ∧ u.isWith p = false) ∧
    (let s : State := on .prompt (fun x => let x := conn1 ({ cOpen with st := .closing, due := some 9 }) x; x); let c : ChId := .c0; let p : FmtPkt := fmt1; let x := (s.ch c).heardFrom p.srcEid; let k := p.dstConn; let u := x.conn k; (s.ch c).hears p = true ∧ p.prot = true ∧ p.tagOk = true ∧ u.isWith p = true ∧ u.st = .closing ∧ u.due ≠ none) := by
  dsimp only
  exact ⟨⟨by decide +kernel, by decide +kernel, by decide +kernel, by decide +kernel, by decide +kernel, by decide +kernel, by decide +kernel⟩,
    ⟨by decide +kernel, by decide +kernel, by decide +kernel, by decide +kernel, by decide +kernel⟩,
    ⟨by decide +kernel, by decide +kernel, by decide +kernel, by decide +kernel, by decide +kernel⟩,
    ⟨by decide +kernel, by decide +kernel, by decide +kernel, by decide +kernel⟩,
    ⟨by decide +kernel, by decide +kernel, by decide +kernel, by decide +kernel, by decide +kernel, by decide +kernel⟩⟩

theorem test_wit_ConnectionTimers_1 :
    (let s : State := on .prompt (fun x => let x := conn1 ({ cOpen with rtoDue := some 9, retries := 20, nx := 1 }) x; x); let c : ChId := .c0; let k : Nat := 1; let t : Nat := 9; let x := s.ch c; let u := x.conn k; let late := x.reach t; let counted := late.bump Reg.FAB_RETX_CNT 63 32 1; let limit := if u.roce.isSome = true then 7 else counted.retryMax; u.rtoDue = some t ∧ (u.st = .open_ ∨ u.st = .closing) ∧ u.una ≠ u.nx ∧ limit ≤ u.retries) ∧
    (let s : State := on .prompt (fun x => let x := conn1 ({ cOpen with rtoDue := some 9, nx := 1 }) x; x); let c : ChId := .c0; let k : Nat := 1; let t : Nat := 9; let x := s.ch c; let u := x.conn k; let late := x.reach t; let counted := late.bump Reg.FAB_RETX_CNT 63 32 1; let limit := if u.roce.isSome = true then 7 else counted.retryMax; u.rtoDue = some t ∧ (u.st = .open_ ∨ u.st = .closing) ∧ u.una ≠ u.nx ∧ u.retries < limit) ∧
    (let s : State := on .prompt (fun x => let x := conn1 ({ cOpen with rtoDue := some 9 }) x; x); let c : ChId := .c0; let k : Nat := 1; let t : Nat := 9; let x := s.ch c; let u := x.conn k; u.rtoDue = some t ∧ (u.st = .open_ ∨ u.st = .closing) ∧ u.una = u.nx) ∧
    (let s : State := on .prompt (fun x => let x := conn1 ({ cOpen with ackDue := some 9 }) x; x); let c : ChId := .c0; let k : Nat := 1; let t : Nat := 9; let x := s.ch c; let u := x.conn k; u.ackDue = some t) ∧
    (let s : State := on .prompt (fun x => let x := conn1 ({ cOpen with rnrDue := some 9 }) x; x); let c : ChId := .c0; let k : Nat := 1; let t : Nat := 9; let x := s.ch c; let u := x.conn k; u.rnrDue = some t) ∧
    (let s : State := on .prompt (fun x => let x := conn1 ({ cOpen with due := some 9, st := .reqSent, tries := 7 }) x; x); let c : ChId := .c0; let k : Nat := 1; let t : Nat := 9; let x := s.ch c; let u := x.conn k; u.due = some t ∧ u.st = .reqSent ∧ u.tries < 8) ∧
    (let s : State := on .prompt (fun x => let x := conn1 ({ cOpen with due := some 9, st := .reqSent, tries := 8 }) x; x); let c : ChId := .c0; let k : Nat := 1; let t : Nat := 9; let x := s.ch c; let u := x.conn k; u.due = some t ∧ u.st = .reqSent ∧ 8 ≤ u.tries) ∧
    (let s : State := on .prompt (fun x => let x := conn1 ({ cOpen with due := some 9, st := .closing, tries := 7 }) x; x); let c : ChId := .c0; let k : Nat := 1; let t : Nat := 9; let x := s.ch c; let u := x.conn k; u.due = some t ∧ u.st = .closing ∧ u.tries < 8) ∧
    (let s : State := on .prompt (fun x => let x := conn1 ({ cOpen with due := some 9, st := .closing, tries := 8 }) x; x); let c : ChId := .c0; let k : Nat := 1; let t : Nat := 9; let x := s.ch c; let u := x.conn k; u.due = some t ∧ u.st = .closing ∧ 8 ≤ u.tries) ∧
    (let s : State := on .prompt (fun x => let x := conn1 ({ cOpen with st := .quarantine }) x; x); let c : ChId := .c0; let k : Nat := 1; let x := s.ch c; let u := x.conn k; u.st = .quarantine) := by
  dsimp only
  exact ⟨⟨by decide +kernel, by decide +kernel, by decide +kernel, by decide +kernel⟩,
    ⟨by decide +kernel, by decide +kernel, by decide +kernel, by decide +kernel⟩,
    ⟨by decide +kernel, by decide +kernel, by decide +kernel⟩,
    by decide +kernel,
    by decide +kernel,
    ⟨by decide +kernel, by decide +kernel, by decide +kernel⟩,
    ⟨by decide +kernel, by decide +kernel, by decide +kernel⟩,
    ⟨by decide +kernel, by decide +kernel, by decide +kernel⟩,
    ⟨by decide +kernel, by decide +kernel, by decide +kernel⟩,
    by decide +kernel⟩

theorem test_wit_ConnectionTimers_2 :
    (let s : State := on .prompt (fun x => let x := conn1 ({ cOpen with pd := 0 }) x; x); let c : ChId := .c0; let k : Nat := 1; let x := s.ch c; let u := x.conn k; x.serves = true ∧ u.st = .open_ ∧ u.pd = 0 ∧ u.roce = none ∧ u.ops = [] ∧ x.hbPeer u.peer = false) ∧
    (let s : State := on .prompt (fun x => let x := conn1 ({ cOpen with pd := 0 }) x; x.wr (Reg.REL_HB_PEER 0) (2 ^ 63 + 6)); let c : ChId := .c0; let k : Nat := 1; let x := s.ch c; let u := x.conn k; x.serves = true ∧ u.st = .open_ ∧ u.pd = 0 ∧ u.roce = none ∧ u.ops = [] ∧ x.hbPeer u.peer = true) := by
  dsimp only
  exact ⟨⟨by decide +kernel, by decide +kernel, by decide +kernel, by decide +kernel, by decide +kernel, by decide +kernel⟩,
    ⟨by decide +kernel, by decide +kernel, by decide +kernel, by decide +kernel, by decide +kernel, by decide +kernel⟩⟩

theorem test_wit_RocePackets_1 :
    (let s : State := on .prompt (fun x => let x := conn1 ({ cOpen with roce := some ({ zRoceQp with ringRegion := 1, ringSlots := 16, slotSize := 4096, word := 5 }), nx := 4 }) x; x); let c : ChId := .c0; let p : RocePkt := { zRocePkt with qp := 0x100001, icrcOk := true, opcode := 4 }; let units : Nat := 0; let i := Instr.roceSend .c0 ({ zRocePkt with qp := 0x100001, icrcOk := true, opcode := 4 }); let x := s.ch c; let k := roceConn p.qp; let sends := p.opcode ≤ 5 ∨ p.opcode = 9 ∨ p.opcode = 0xB; let writes := 6 ≤ p.opcode ∧ p.opcode ≤ 0xB; ∃ (y : Chan) (z : Chan), let d := psnSub p.psn (y.conn k).ep; x.comesInQp p = some y ∧ ((i = Instr.roceSend c p ∧ sends) ∨ (i = .roceRdmaWrite c p ∧ writes)) ∧ d = 0 ∧ y.message k p = (z, .ok units)) ∧
    (let s : State := on .prompt (fun x => let x := conn1 ({ cOpen with roce := some ({ zRoceQp with ringRegion := 1, ringSlots := 16, slotSize := 4096, word := 5 }), nx := 4 }) x; x); let c : ChId := .c0; let p : RocePkt := { zRocePkt with qp := 0x100001, icrcOk := true, opcode := 0xA, dmaLen := 8, data := List.replicate 8 0, va := 5 * 2 ^ 46 + 2 ^ 28, rkey := 11 }; let units : Nat := 0; let i := Instr.roceRdmaWrite .c0 ({ zRocePkt with qp := 0x100001, icrcOk := true, opcode := 0xA, dmaLen := 8, data := List.replicate 8 0, va := 5 * 2 ^ 46 + 2 ^ 28, rkey := 11 }); let x := s.ch c; let k := roceConn p.qp; let sends := p.opcode ≤ 5 ∨ p.opcode = 9 ∨ p.opcode = 0xB; let writes := 6 ≤ p.opcode ∧ p.opcode ≤ 0xB; ∃ (y : Chan) (z : Chan), let d := psnSub p.psn (y.conn k).ep; x.comesInQp p = some y ∧ ((i = Instr.roceSend c p ∧ sends) ∨ (i = .roceRdmaWrite c p ∧ writes)) ∧ d = 0 ∧ y.message k p = (z, .ok units)) ∧
    (let s : State := on .prompt (fun x => let x := conn1 ({ cOpen with roce := some ({ zRoceQp with ringRegion := 1, ringSlots := 16, slotSize := 4096, word := 5 }), nx := 4 }) x; x); let c : ChId := .c0; let p : RocePkt := { zRocePkt with qp := 0x100001, icrcOk := true, opcode := 1 }; let r : Refuse := (4, 0); let i := Instr.roceSend .c0 ({ zRocePkt with qp := 0x100001, icrcOk := true, opcode := 1 }); let x := s.ch c; let k := roceConn p.qp; let sends := p.opcode ≤ 5 ∨ p.opcode = 9 ∨ p.opcode = 0xB; let writes := 6 ≤ p.opcode ∧ p.opcode ≤ 0xB; ∃ (y : Chan) (z : Chan), let d := psnSub p.psn (y.conn k).ep; x.comesInQp p = some y ∧ ((i = Instr.roceSend c p ∧ sends) ∨ (i = .roceRdmaWrite c p ∧ writes)) ∧ d = 0 ∧ y.message k p = (z, .error r)) ∧
    (let s : State := on .prompt (fun x => let x := conn1 ({ cOpen with roce := some ({ zRoceQp with ringRegion := 1, ringSlots := 16, slotSize := 4096, word := 5 }), nx := 4 }) x; x); let c : ChId := .c0; let p : RocePkt := { zRocePkt with qp := 0x100001, icrcOk := true, opcode := 0xC, dmaLen := 8, va := 5 * 2 ^ 46 + 2 ^ 28, rkey := 11 }; let bytes : List Byte := List.replicate 8 0; let x := s.ch c; let k := roceConn p.qp; ∃ (y : Chan) (z : Chan), let d := psnSub p.psn (y.conn k).ep; x.comesInQp p = some y ∧ p.opcode = 0xC ∧ d = 0 ∧ y.judgeRead k p = (z, .ok bytes)) ∧
    (let s : State := on .prompt (fun x => let x := conn1 ({ cOpen with roce := some ({ zRoceQp with ringRegion := 1, ringSlots := 16, slotSize := 4096, word := 5 }), nx := 4 }) x; x); let c : ChId := .c0; let p : RocePkt := { zRocePkt with qp := 0x100001, icrcOk := true, opcode := 0xC, dmaLen := 8, va := 5 * 2 ^ 46 + 2 ^ 28, rkey := 12 }; let r : Refuse := (2, 0x11); let x := s.ch c; let k := roceConn p.qp; ∃ (y : Chan) (z : Chan), let d := psnSub p.psn (y.conn k).ep; x.comesInQp p = some y ∧ p.opcode = 0xC ∧ d = 0 ∧ y.judgeRead k p = (z, .error r)) ∧
    (let s : State := on .prompt (fun x => let x := conn1 ({ cOpen with roce := some ({ zRoceQp with ringRegion := 1, ringSlots := 16, slotSize := 4096, word := 5 }), nx := 4 }) x; x); let c : ChId := .c0; let p : RocePkt := { zRocePkt with qp := 0x100001, icrcOk := true, opcode := 0x11, syndrome := 0x1F, psn := 4 }; let x := s.ch c; let k := roceConn p.qp; ∃ (y : Chan), x.comesInQp p = some y ∧ p.opcode = 0x11 ∧ (y.conn k).within p.psn true = true ∧ p.syndrome < 0x20) ∧
    (let s : State := on .prompt (fun x => let x := conn1 ({ cOpen with roce := some ({ zRoceQp with ringRegion := 1, ringSlots := 16, slotSize := 4096, word := 5 }), nx := 4 }) x; x); let c : ChId := .c0; let p : RocePkt := { zRocePkt with qp := 0x100001, icrcOk := true, opcode := 0x11, syndrome := 0x20 }; let x := s.ch c; let k := roceConn p.qp; ∃ (y : Chan), x.comesInQp p = some y ∧ p.opcode = 0x11 ∧ (y.conn k).within p.psn true = true ∧ 0x20 ≤ p.syndrome ∧ p.syndrome < 0x40) ∧
    (let s : State := on .prompt (fun x => let x := conn1 ({ cOpen with roce := some ({ zRoceQp with ringRegion := 1, ringSlots := 16, slotSize := 4096, word := 5 }), nx := 4 }) x; x); let c : ChId := .c0; let p : RocePkt := { zRocePkt with qp := 0x100001, icrcOk := true, opcode := 0x11, syndrome := 0x3F }; let x := s.ch c; let k := roceConn p.qp; ∃ (y : Chan), x.comesInQp p = some y ∧ p.opcode = 0x11 ∧ (y.conn k).within p.psn true = true ∧ 0x20 ≤ p.syndrome ∧ p.syndrome < 0x40) ∧
    (let s : State := on .prompt (fun x => let x := conn1 ({ cOpen with roce := some ({ zRoceQp with ringRegion := 1, ringSlots := 16, slotSize := 4096, word := 5 }), nx := 4 }) x; x); let c : ChId := .c0; let p : RocePkt := { zRocePkt with qp := 0x100001, icrcOk := true, opcode := 0x11, syndrome := 0x60 }; let x := s.ch c; let k := roceConn p.qp; ∃ (y : Chan), x.comesInQp p = some y ∧ p.opcode = 0x11 ∧ (y.conn k).within p.psn true = true ∧ p.syndrome = 0x60) ∧
    (let s : State := on .prompt (fun x => let x := conn1 ({ cOpen with roce := some ({ zRoceQp with ringRegion := 1, ringSlots := 16, slotSize := 4096, word := 5 }), nx := 4 }) x; x); let c : ChId := .c0; let p : RocePkt := { zRocePkt with qp := 0x100001, icrcOk := true, opcode := 0x11, syndrome := 0x61 }; let x := s.ch c; let k := roceConn p.qp; ∃ (y : Chan), x.comesInQp p = some y ∧ p.opcode = 0x11 ∧ (y.conn k).within p.psn true = true ∧ p.syndrome = 0x61) := by
  dsimp only
  exact ⟨(by apply Exists.intro; apply Exists.intro; refine ⟨?p0_0, ?p0_1, ?p0_2, ?p0_3⟩; (case p0_0 => apply get_one; decide +kernel); (case p0_1 => exact Or.inl ⟨rfl, by decide⟩); (case p0_2 => decide +kernel); (case p0_3 => apply fst_ok; decide +kernel)),
    (by apply Exists.intro; apply Exists.intro; refine ⟨?p0_0, ?p0_1, ?p0_2, ?p0_3⟩; (case p0_0 => apply get_one; decide +kernel); (case p0_1 => exact Or.inr ⟨rfl, by decide⟩); (case p0_2 => decide +kernel); (case p0_3 => apply fst_ok; decide +kernel)),
    (by apply Exists.intro; apply Exists.intro; refine ⟨?p1_0, ?p1_1, ?p1_2, ?p1_3⟩; (case p1_0 => apply get_one; decide +kernel); (case p1_1 => exact Or.inl ⟨rfl, by decide⟩); (case p1_2 => decide +kernel); (case p1_3 => apply fst_error; decide +kernel)),
    (by apply Exists.intro; apply Exists.intro; refine ⟨?p2_0, ?p2_1, ?p2_2, ?p2_3⟩; (case p2_0 => apply get_one; decide +kernel); (case p2_1 => decide +kernel); (case p2_2 => decide +kernel); (case p2_3 => apply fst_ok; decide +kernel)),
    (by apply Exists.intro; apply Exists.intro; refine ⟨?p3_0, ?p3_1, ?p3_2, ?p3_3⟩; (case p3_0 => apply get_one; decide +kernel); (case p3_1 => decide +kernel); (case p3_2 => decide +kernel); (case p3_3 => apply fst_error; decide +kernel)),
    (by apply Exists.intro; refine ⟨?p4_0, ?p4_1, ?p4_2, ?p4_3⟩; (case p4_0 => apply get_one; decide +kernel); (case p4_1 => decide +kernel); (case p4_2 => decide +kernel); (case p4_3 => decide +kernel)),
    (by apply Exists.intro; refine ⟨?p5_0, ?p5_1, ?p5_2, ?p5_3, ?p5_4⟩; (case p5_0 => apply get_one; decide +kernel); (case p5_1 => decide +kernel); (case p5_2 => decide +kernel); (case p5_3 => decide +kernel); (case p5_4 => decide +kernel)),
    (by apply Exists.intro; refine ⟨?p5_0, ?p5_1, ?p5_2, ?p5_3, ?p5_4⟩; (case p5_0 => apply get_one; decide +kernel); (case p5_1 => decide +kernel); (case p5_2 => decide +kernel); (case p5_3 => decide +kernel); (case p5_4 => decide +kernel)),
    (by apply Exists.intro; refine ⟨?p6_0, ?p6_1, ?p6_2, ?p6_3⟩; (case p6_0 => apply get_one; decide +kernel); (case p6_1 => decide +kernel); (case p6_2 => decide +kernel); (case p6_3 => decide +kernel)),
    (by apply Exists.intro; refine ⟨?p7_0, ?p7_1, ?p7_2, ?p7_3⟩; (case p7_0 => apply get_one; decide +kernel); (case p7_1 => decide +kernel); (case p7_2 => decide +kernel); (case p7_3 => decide +kernel))⟩

theorem test_wit_RocePackets_2 :
    (let s : State := on .prompt (fun x => let x := conn1 ({ cOpen with roce := some ({ zRoceQp with ringRegion := 1, ringSlots := 16, slotSize := 4096, word := 5 }), nx := 4 }) x; x); let c : ChId := .c0; let p : RocePkt := { zRocePkt with qp := 0x100001, icrcOk := true, opcode := 0x11, syndrome := 0x62 }; let x := s.ch c; let k := roceConn p.qp; ∃ (y : Chan), x.comesInQp p = some y ∧ p.opcode = 0x11 ∧ (y.conn k).within p.psn true = true ∧ p.syndrome = 0x62) ∧
    (let s : State := on .prompt (fun x => let x := conn1 ({ cOpen with roce := some ({ zRoceQp with ringRegion := 1, ringSlots := 16, slotSize := 4096, word := 5 }), nx := 4 }) x; x); let c : ChId := .c0; let p : RocePkt := { zRocePkt with qp := 0x100001, icrcOk := true, opcode := 0x11, syndrome := 0x63 }; let x := s.ch c; let k := roceConn p.qp; ∃ (y : Chan), x.comesInQp p = some y ∧ p.opcode = 0x11 ∧ (y.conn k).within p.psn true = true ∧ p.syndrome = 0x63) ∧
    (let s : State := on .prompt (fun x => let x := conn1 ({ cOpen with roce := some ({ zRoceQp with ringRegion := 1, ringSlots := 16, slotSize := 4096, word := 5 }), nx := 4 }) x; x); let c : ChId := .c0; let p : RocePkt := { zRocePkt with qp := 0x100001, icrcOk := true, opcode := 0x81 }; let x := s.ch c; ∃ (y : Chan), x.comesInQp p = some y ∧ p.opcode = 0x81) ∧
    (let s : State := on .prompt (fun x => let x := conn1 ({ cOpen with roce := some ({ zRoceQp with ringRegion := 1, ringSlots := 16, slotSize := 4096, word := 5 }), nx := 4 }) x; x); let c : ChId := .c0; let p : RocePkt := { zRocePkt with qp := 0x100001, icrcOk := true, opcode := 0x12 }; let x := s.ch c; let k := roceConn p.qp; ∃ (y : Chan), let d := psnSub p.psn (y.conn k).ep; x.comesInQp p = some y ∧ roceSupported p.opcode = false ∧ d = 0) := by
  dsimp only
  exact ⟨(by apply Exists.intro; refine ⟨?p8_0, ?p8_1, ?p8_2, ?p8_3⟩; (case p8_0 => apply get_one; decide +kernel); (case p8_1 => decide +kernel); (case p8_2 => decide +kernel); (case p8_3 => decide +kernel)),
    (by apply Exists.intro; refine ⟨?p9_0, ?p9_1, ?p9_2, ?p9_3⟩; (case p9_0 => apply get_one; decide +kernel); (case p9_1 => decide +kernel); (case p9_2 => decide +kernel); (case p9_3 => decide +kernel)),
    (by apply Exists.intro; refine ⟨?p10_0, ?p10_1⟩; (case p10_0 => apply get_one; decide +kernel); (case p10_1 => decide +kernel)),
    (by apply Exists.intro; refine ⟨?p11_0, ?p11_1, ?p11_2⟩; (case p11_0 => apply get_one; decide +kernel); (case p11_1 => decide +kernel); (case p11_2 => decide +kernel))⟩

/-! ### Witnesses: Regions, connections and traffic -/

theorem test_wit_RegionCommands_1 :
    (let s : State := on .prompt (fun x => quota (conn1 cOpen x)); let c : ChId := .c0; let src : Src := pf; let slot : Nat := 16; let a : Access := ⟨.both, 1⟩; let x := s.ch c; let adm := fun a => x.admits src a = true; adm ⟨true, false, false⟩ ∧ 15 < slot ∧ slot ≠ 0xFF) ∧
    (let s : State := on .prompt (fun x => quota (conn1 cOpen x)); let c : ChId := .c0; let src : Src := pf; let slot : Nat := 0xFE; let a : Access := ⟨.both, 1⟩; let x := s.ch c; let adm := fun a => x.admits src a = true; adm ⟨true, false, false⟩ ∧ 15 < slot ∧ slot ≠ 0xFF) ∧
    (let s : State := on .prompt (fun x => quota (conn1 cOpen x)); let c : ChId := .c0; let src : Src := pf; let pd : Nat := 0; let slot : Nat := 15; let a : Access := ⟨.both, 1⟩; let x := s.ch c; let adm := fun a => x.admits src a = true; adm ⟨true, false, false⟩ ∧ (slot ≤ 15 ∨ slot = 0xFF) ∧ (pd = 0 ∨ 1023 < pd)) ∧
    (let s : State := on .prompt (fun x => quota (conn1 cOpen x)); let c : ChId := .c0; let src : Src := pf; let pd : Nat := 1024; let slot : Nat := 0xFF; let a : Access := ⟨.both, 1⟩; let x := s.ch c; let adm := fun a => x.admits src a = true; adm ⟨true, false, false⟩ ∧ (slot ≤ 15 ∨ slot = 0xFF) ∧ (pd = 0 ∨ 1023 < pd)) ∧
    (let s : State := on .prompt (fun x => quota (conn1 cOpen x)); let c : ChId := .c0; let src : Src := pf; let pd : Nat := 1; let slot : Nat := 0; let a : Access := ⟨.both, 1⟩; let x := s.ch c; let adm := fun a => x.admits src a = true; adm ⟨true, false, false⟩ ∧ slot ≤ 15 ∧ x.tag slot ≠ 0 ∧ 1 ≤ pd ∧ pd ≤ 1023 ∧ x.pdUsed pd = true) ∧
    (let s : State := on .prompt (fun x => quota (conn1 cOpen x)); let c : ChId := .c0; let src : Src := pf; let pd : Nat := 1023; let slot : Nat := 0; let a : Access := ⟨.both, 1⟩; let x := s.ch c; let adm := fun a => x.admits src a = true; adm ⟨true, false, false⟩ ∧ slot ≤ 15 ∧ x.tag slot ≠ 0 ∧ 1 ≤ pd ∧ pd ≤ 1023 ∧ x.pdUsed pd = false) ∧
    (let s : State := on .prompt (fun x => quota (conn1 cOpen x)); let c : ChId := .c0; let src : Src := pf; let pd : Nat := 1023; let a : Access := ⟨.both, 1⟩; let x := s.ch c; let adm := fun a => x.admits src a = true; adm ⟨true, false, false⟩ ∧ 1 ≤ pd ∧ pd ≤ 1023 ∧ x.pdUsed pd = false) ∧
    (let s : State := on .prompt (fun x => quota (conn1 cOpen x)); let c : ChId := .c0; let src : Src := pf; let pd : Nat := 2; let a : Access := ⟨.both, 1⟩; let x := s.ch c; let t := src.slot; let adm := fun a => x.admits src a = true; adm ⟨false, false, true⟩ ∧ x.pdSlot pd ≠ some t) ∧
    (let s : State := on .prompt (fun x => quota (conn1 cOpen x)); let c : ChId := .c0; let src : Src := pf; let pd : Nat := 1; let units : Nat := 129; let rights : Nat := 7; let eid : Nat := 2 ^ 18 - 1; let a : Access := ⟨.both, 1⟩; let x := s.ch c; let t := src.slot; let adm := fun a => x.admits src a = true; let shaped := 1 ≤ units ∧ units ≤ 128 ∧ rights ≤ 7 ∧ eid < 2 ^ 18; adm ⟨false, false, true⟩ ∧ x.pdSlot pd = some t ∧ ¬ shaped) ∧
    (let s : State := on .prompt (fun x => quota (conn1 cOpen x)); let c : ChId := .c0; let src : Src := pf; let pd : Nat := 1; let units : Nat := 0; let rights : Nat := 7; let eid : Nat := 2 ^ 18 - 1; let a : Access := ⟨.both, 1⟩; let x := s.ch c; let t := src.slot; let adm := fun a => x.admits src a = true; let shaped := 1 ≤ units ∧ units ≤ 128 ∧ rights ≤ 7 ∧ eid < 2 ^ 18; adm ⟨false, false, true⟩ ∧ x.pdSlot pd = some t ∧ ¬ shaped) := by
  dsimp only
  exact ⟨⟨by decide +kernel, by decide +kernel, by decide +kernel⟩,
    ⟨by decide +kernel, by decide +kernel, by decide +kernel⟩,
    ⟨by decide +kernel, by decide +kernel, by decide +kernel⟩,
    ⟨by decide +kernel, by decide +kernel, by decide +kernel⟩,
    ⟨by decide +kernel, by decide +kernel, by decide +kernel, by decide +kernel, by decide +kernel, by decide +kernel⟩,
    ⟨by decide +kernel, by decide +kernel, by decide +kernel, by decide +kernel, by decide +kernel, by decide +kernel⟩,
    ⟨by decide +kernel, by decide +kernel, by decide +kernel, by decide +kernel⟩,
    ⟨by decide +kernel, by decide +kernel⟩,
    ⟨by decide +kernel, by decide +kernel, by decide +kernel⟩,
    ⟨by decide +kernel, by decide +kernel, by decide +kernel⟩⟩

theorem test_wit_RegionCommands_2 :
    (let s : State := on .prompt (fun x => quota (conn1 cOpen x)); let c : ChId := .c0; let src : Src := pf; let pd : Nat := 1; let units : Nat := 128; let rights : Nat := 7; let eid : Nat := 2 ^ 18; let a : Access := ⟨.both, 1⟩; let x := s.ch c; let t := src.slot; let adm := fun a => x.admits src a = true; let shaped := 1 ≤ units ∧ units ≤ 128 ∧ rights ≤ 7 ∧ eid < 2 ^ 18; adm ⟨false, false, true⟩ ∧ x.pdSlot pd = some t ∧ ¬ shaped) ∧
    (let s : State := on .prompt (fun x => conn1 cOpen x); let c : ChId := .c0; let src : Src := pf; let pd : Nat := 1; let units : Nat := 128; let rights : Nat := 7; let eid : Nat := 2 ^ 18 - 1; let a : Access := ⟨.both, 1⟩; let x := s.ch c; let t := src.slot; let adm := fun a => x.admits src a = true; let shaped := 1 ≤ units ∧ units ≤ 128 ∧ rights ≤ 7 ∧ eid < 2 ^ 18; adm ⟨false, false, true⟩ ∧ x.pdSlot pd = some t ∧ shaped ∧ x.quotaAllows t 0 (512 * units) = false) ∧
    (let s : State := on .prompt (fun x => let x := quota (conn1 cOpen x); { x.fset Reg.PG_RESERVE 47 32 256 with g8x := true }); let c : ChId := .c0; let src : Src := pf; let pd : Nat := 1; let units : Nat := 128; let rights : Nat := 7; let eid : Nat := 2 ^ 18 - 1; let a : Access := ⟨.both, 1⟩; let x := s.ch c; let t := src.slot; let adm := fun a => x.admits src a = true; let shaped := 1 ≤ units ∧ units ≤ 128 ∧ rights ≤ 7 ∧ eid < 2 ^ 18; adm ⟨false, false, true⟩ ∧ x.pdSlot pd = some t ∧ shaped ∧ x.quotaAllows t 0 (512 * units) = true ∧ x.takeSlabs units 1 = none) ∧
    (let s : State := on .prompt (fun x => quota (conn1 cOpen x)); let c : ChId := .c0; let src : Src := pf; let pd : Nat := 1; let units : Nat := 128; let rights : Nat := 7; let eid : Nat := 2 ^ 18 - 1; let check : Bool := true; let a : Access := ⟨.both, 1⟩; let x := s.ch c; let t := src.slot; let adm := fun a => x.admits src a = true; let shaped := 1 ≤ units ∧ units ≤ 128 ∧ rights ≤ 7 ∧ eid < 2 ^ 18; ∃ (r : Nat) (slabs : List Nat) (y : Chan) (z : Chan), let made := { Region.init with kind := .slabs, pd := pd, rights := rights, ownerCheck := check, ownerEid := eid, slabs := slabs, size := units * (2 * mib), tenant := t, byVf := src.vf.isSome }; adm ⟨false, false, true⟩ ∧ x.pdSlot pd = some t ∧ shaped ∧ x.quotaAllows t 0 (512 * units) = true ∧ x.takeSlabs units 1 = some (slabs, y) ∧ y.register made = some (r, z)) ∧
    (let s : State := on .prompt (fun x => quota (conn1 cOpen x)); let c : ChId := .c0; let src : Src := pf; let r : Nat := 1; let a : Access := ⟨.both, 1⟩; let x := s.ch c; let t := src.slot; let u := x.region r; let adm := fun a => x.admits src a = true; let ours := u.pd ≠ 0 ∧ (src.vf = none ∨ u.tenant = t); adm ⟨false, false, false⟩ ∧ ours ∧ u.st = .valid) ∧
    (let s : State := on .prompt (fun x => quota (conn1 cOpen x)); let c : ChId := .c0; let src : Src := vf0; let r : Nat := 1; let a : Access := ⟨.both, 1⟩; let x := s.ch c; let t := src.slot; let u := x.region r; let adm := fun a => x.admits src a = true; let ours := u.pd ≠ 0 ∧ (src.vf = none ∨ u.tenant = t); adm ⟨false, false, false⟩ ∧ ours ∧ u.st = .valid) ∧
    (let s : State := on .prompt (fun x => (conn1 cOpen x).setRegion 1 { reg1 with st := .revoking }); let c : ChId := .c0; let src : Src := pf; let r : Nat := 1; let a : Access := ⟨.both, 1⟩; let x := s.ch c; let t := src.slot; let u := x.region r; let adm := fun a => x.admits src a = true; let ours := u.pd ≠ 0 ∧ (src.vf = none ∨ u.tenant = t); adm ⟨false, false, false⟩ ∧ ours ∧ u.st = .revoking) ∧
    (let s : State := on .prompt (fun x => quota (conn1 cOpen x)); let c : ChId := .c0; let src : Src := pf; let eid : Nat := 2 ^ 18 - 1; let r : Nat := 1; let a : Access := ⟨.both, 1⟩; let x := s.ch c; let t := src.slot; let u := x.region r; let adm := fun a => x.admits src a = true; let ours := u.pd ≠ 0 ∧ (src.vf = none ∨ u.tenant = t); adm ⟨false, false, false⟩ ∧ ours ∧ u.st = .valid ∧ eid < 2 ^ 18) ∧
    (let s : State := on .prompt (fun x => (conn1 cOpen x).setRegion 1 { reg1 with st := .revoking }); let c : ChId := .c0; let r : Nat := 1; let x := s.ch c; let u := x.region r; u.st = .revoking ∧ x.regionBusy r = false) ∧
    (let s : State := on .prompt (fun x => (conn1 cOpen x).setRegion 1 { reg1 with st := .quarantined }); let c : ChId := .c0; let r : Nat := 1; let x := s.ch c; let u := x.region r; u.st = .quarantined) := by
  dsimp only
  exact ⟨⟨by decide +kernel, by decide +kernel, by decide +kernel⟩,
    ⟨by decide +kernel, by decide +kernel, by decide +kernel, by decide +kernel⟩,
    ⟨by decide +kernel, by decide +kernel, by decide +kernel, by decide +kernel, by decide +kernel⟩,
    (by apply Exists.intro; apply Exists.intro; apply Exists.intro; apply Exists.intro; refine ⟨?p9_0, ?p9_1, ?p9_2, ?p9_3, ?p9_4, ?p9_5⟩; (case p9_0 => decide +kernel); (case p9_1 => decide +kernel); (case p9_2 => decide +kernel); (case p9_3 => decide +kernel); (case p9_4 => apply get_pair; decide +kernel); (case p9_5 => apply get_pair; decide +kernel)),
    ⟨by decide +kernel, by decide +kernel, by decide +kernel⟩,
    ⟨by decide +kernel, by decide +kernel, by decide +kernel⟩,
    ⟨by decide +kernel, by decide +kernel, by decide +kernel⟩,
    ⟨by decide +kernel, by decide +kernel, by decide +kernel, by decide +kernel⟩,
    ⟨by decide +kernel, by decide +kernel⟩,
    by decide +kernel⟩

theorem test_wit_RegionCommands_3 :
    (let s : State := on .prompt (fun x => quota (conn1 cOpen x)); let c : ChId := .c0; let a : Access := ⟨.both, 1⟩; let x := s.ch c; x.regsLive = true ∧ reaches a 12 0 = true) ∧
    (let s : State := on .prompt (fun x => quota (conn1 cOpen x)); let c : ChId := .c0; let a : Access := ⟨.both, 1⟩; let x := s.ch c; x.regsLive = true ∧ reaches a 15 0 = true) := by
  dsimp only
  exact ⟨⟨by decide +kernel, by decide +kernel⟩,
    ⟨by decide +kernel, by decide +kernel⟩⟩

theorem test_wit_ConnectionCommands_1 :
    (let s : State := on .prompt (fun x => x.wr Reg.CHN_EID 0); let c : ChId := .c0; let src : Src := pf; let x := s.ch c; let adm := fun a => x.admits src a = true; adm ⟨false, false, true⟩ ∧ x.eid = none) ∧
    (let s : State := on .prompt (fun x => let x := dma (conn1 (cOpen) x); x); let c : ChId := .c0; let src : Src := pf; let pd : Nat := 2; let x := s.ch c; let t := src.slot; let adm := fun a => x.admits src a = true; adm ⟨false, false, true⟩ ∧ x.eid ≠ none ∧ x.pdSlot pd ≠ some t) ∧
    (let s : State := on .prompt (fun x => let x := dma (conn1 (cOpen) x); x); let c : ChId := .c0; let src : Src := pf; let peer : Nat := 6; let pd : Nat := 1; let target : Nat := 1023; let prio : Nat := 8; let pmtu : Nat := 3; let x := s.ch c; let t := src.slot; let adm := fun a => x.admits src a = true; let shaped := prio ≤ 7 ∧ pmtu ≤ 3 ∧ target ≤ 1023 ∧ peer < 2 ^ 18; adm ⟨false, false, true⟩ ∧ x.eid ≠ none ∧ x.pdSlot pd = some t ∧ ¬ shaped) ∧
    (let s : State := on .prompt (fun x => let x := dma (conn1 (cOpen) x); x); let c : ChId := .c0; let src : Src := pf; let peer : Nat := 6; let pd : Nat := 1; let target : Nat := 1024; let prio : Nat := 7; let pmtu : Nat := 3; let x := s.ch c; let t := src.slot; let adm := fun a => x.admits src a = true; let shaped := prio ≤ 7 ∧ pmtu ≤ 3 ∧ target ≤ 1023 ∧ peer < 2 ^ 18; adm ⟨false, false, true⟩ ∧ x.eid ≠ none ∧ x.pdSlot pd = some t ∧ ¬ shaped) ∧
    (let s : State := on .prompt (fun x => let x := dma (conn1 (cOpen) x); x); let c : ChId := .c0; let src : Src := pf; let peer : Nat := 6; let pd : Nat := 1; let target : Nat := 1023; let prio : Nat := 7; let pmtu : Nat := 4; let x := s.ch c; let t := src.slot; let adm := fun a => x.admits src a = true; let shaped := prio ≤ 7 ∧ pmtu ≤ 3 ∧ target ≤ 1023 ∧ peer < 2 ^ 18; adm ⟨false, false, true⟩ ∧ x.eid ≠ none ∧ x.pdSlot pd = some t ∧ ¬ shaped) ∧
    (let s : State := on .prompt (fun x => let x := dma (conn1 (cOpen) x); x); let c : ChId := .c0; let src : Src := pf; let peer : Nat := 7; let pd : Nat := 1; let target : Nat := 1023; let prio : Nat := 7; let pmtu : Nat := 3; let x := s.ch c; let t := src.slot; let adm := fun a => x.admits src a = true; let shaped := prio ≤ 7 ∧ pmtu ≤ 3 ∧ target ≤ 1023 ∧ peer < 2 ^ 18; adm ⟨false, false, true⟩ ∧ x.eid ≠ none ∧ x.pdSlot pd = some t ∧ shaped ∧ x.session peer = false) ∧
    (let s : State := on .prompt (fun x => let x := dma (conn1 (cOpen) x); { x with fab := { x.fab with freeConns := [] } }); let c : ChId := .c0; let src : Src := pf; let peer : Nat := 6; let pd : Nat := 1; let target : Nat := 1023; let prio : Nat := 7; let pmtu : Nat := 3; let x := s.ch c; let t := src.slot; let adm := fun a => x.admits src a = true; let shaped := prio ≤ 7 ∧ pmtu ≤ 3 ∧ target ≤ 1023 ∧ peer < 2 ^ 18; adm ⟨false, false, true⟩ ∧ x.eid ≠ none ∧ x.pdSlot pd = some t ∧ shaped ∧ x.session peer = true ∧ x.nextConn = none) ∧
    (let s : State := on .prompt (fun x => let x := dma (conn1 (cOpen) x); x); let c : ChId := .c0; let src : Src := pf; let peer : Nat := 6; let pd : Nat := 1; let target : Nat := 1023; let prio : Nat := 7; let pmtu : Nat := 3; let k : Nat := 0; let x := s.ch c; let t := src.slot; let adm := fun a => x.admits src a = true; let shaped := prio ≤ 7 ∧ pmtu ≤ 3 ∧ target ≤ 1023 ∧ peer < 2 ^ 18; ∃ (y : Chan), adm ⟨false, false, true⟩ ∧ x.eid ≠ none ∧ x.pdSlot pd = some t ∧ shaped ∧ x.session peer = true ∧ x.nextConn = some (k, y)) ∧
    (let s : State := on .prompt (fun x => let x := dma (conn1 (cOpen) x); x); let c : ChId := .c0; let src : Src := pf; let k : Nat := 8192; let x := s.ch c; let adm := fun a => x.admits src a = true; adm ⟨false, false, false⟩ ∧ 8191 < k) ∧
    (let s : State := on .prompt (fun x => let x := dma (conn1 (cOpen) x); x); let c : ChId := .c0; let src : Src := pf; let k : Nat := 8191; let x := s.ch c; let u := x.conn k; let adm := fun a => x.admits src a = true; adm ⟨false, false, false⟩ ∧ k ≤ 8191 ∧ x.connFor src k = true ∧ u.st = .closed) := by
  dsimp only
  exact ⟨⟨by decide +kernel, by decide +kernel⟩,
    ⟨by decide +kernel, by decide +kernel, by decide +kernel⟩,
    ⟨by decide +kernel, by decide +kernel, by decide +kernel, by decide +kernel⟩,
    ⟨by decide +kernel, by decide +kernel, by decide +kernel, by decide +kernel⟩,
    ⟨by decide +kernel, by decide +kernel, by decide +kernel, by decide +kernel⟩,
    ⟨by decide +kernel, by decide +kernel, by decide +kernel, by decide +kernel, by decide +kernel⟩,
    ⟨by decide +kernel, by decide +kernel, by decide +kernel, by decide +kernel, by decide +kernel, by decide +kernel⟩,
    (by apply Exists.intro; refine ⟨?p5_0, ?p5_1, ?p5_2, ?p5_3, ?p5_4, ?p5_5⟩; (case p5_0 => decide +kernel); (case p5_1 => decide +kernel); (case p5_2 => decide +kernel); (case p5_3 => decide +kernel); (case p5_4 => decide +kernel); (case p5_5 => rfl)),
    ⟨by decide +kernel, by decide +kernel⟩,
    ⟨by decide +kernel, by decide +kernel, by decide +kernel, by decide +kernel⟩⟩

theorem test_wit_ConnectionCommands_2 :
    (let s : State := on .prompt (fun x => let x := dma (conn1 ({ cOpen with st := .quarantine }) x); x); let c : ChId := .c0; let src : Src := pf; let k : Nat := 1; let x := s.ch c; let u := x.conn k; let adm := fun a => x.admits src a = true; adm ⟨false, false, false⟩ ∧ k ≤ 8191 ∧ x.connFor src k = true ∧ u.st = .quarantine) ∧
    (let s : State := on .prompt (fun x => let x := dma (conn1 ({ cOpen with st := .error }) x); x); let c : ChId := .c0; let src : Src := pf; let k : Nat := 1; let x := s.ch c; let u := x.conn k; let adm := fun a => x.admits src a = true; adm ⟨false, false, false⟩ ∧ k ≤ 8191 ∧ x.connFor src k = true ∧ u.st = .error) ∧
    (let s : State := on .prompt (fun x => let x := dma (conn1 ({ cOpen with st := .reqSent }) x); x); let c : ChId := .c0; let src : Src := pf; let k : Nat := 1; let x := s.ch c; let u := x.conn k; let adm := fun a => x.admits src a = true; adm ⟨false, false, false⟩ ∧ k ≤ 8191 ∧ x.connFor src k = true ∧ u.st = .reqSent) ∧
    (let s : State := on .prompt (fun x => let x := dma (conn1 ({ cOpen with roce := some zRoceQp }) x); x); let c : ChId := .c0; let src : Src := pf; let k : Nat := 1; let x := s.ch c; let u := x.conn k; let adm := fun a => x.admits src a = true; adm ⟨false, false, false⟩ ∧ k ≤ 8191 ∧ x.connFor src k = true ∧ u.st = .open_ ∧ u.roce ≠ none) ∧
    (let s : State := on .prompt (fun x => let x := dma (conn1 (cOpen) x); x); let c : ChId := .c0; let src : Src := vf0; let k : Nat := 1; let x := s.ch c; let u := x.conn k; let adm := fun a => x.admits src a = true; adm ⟨false, false, false⟩ ∧ k ≤ 8191 ∧ x.connFor src k = true ∧ u.st = .open_ ∧ u.roce = none) ∧
    (let s : State := on .prompt (fun x => let x := dma (conn1 ({ cOpen with st := .closing }) x); x); let c : ChId := .c0; let src : Src := pf; let k : Nat := 1; let x := s.ch c; let u := x.conn k; let adm := fun a => x.admits src a = true; adm ⟨false, false, false⟩ ∧ k ≤ 8191 ∧ x.connFor src k = true ∧ u.st = .closing) ∧
    (let s : State := on .prompt (fun x => dma (x.wr Reg.CHN_EID 0)); let c : ChId := .c0; let src : Src := pf; let x := s.ch c; let adm := fun a => x.admits src a = true; adm ⟨false, false, false⟩ ∧ x.dmaFault src.fn = none ∧ x.eid = none) ∧
    (let s : State := on .prompt (fun x => let x := dma (conn1 (cOpen) x); x); let c : ChId := .c0; let src : Src := pf; let o : FabOpIn := { zFabOpIn with conn := 8192, data := .ok [], opcode := 2, len := 8 }; let data : List Byte := []; let x := s.ch c; let adm := fun a => x.admits src a = true; adm ⟨false, false, false⟩ ∧ x.dmaFault src.fn = none ∧ x.eid ≠ none ∧ (8191 < o.conn ∨ x.connFor src o.conn = false)) ∧
    (let s : State := on .prompt (fun x => let x := dma (conn1 ({ cOpen with st := .closing }) x); x); let c : ChId := .c0; let src : Src := pf; let o : FabOpIn := { zFabOpIn with conn := 1, data := .ok [], opcode := 2, len := 8 }; let data : List Byte := []; let x := s.ch c; let adm := fun a => x.admits src a = true; adm ⟨false, false, false⟩ ∧ x.dmaFault src.fn = none ∧ x.eid ≠ none ∧ o.conn ≤ 8191 ∧ x.connFor src o.conn = true ∧ (src.vf ≠ none ∨ (x.connSlot o.conn).any (fun t => x.flag (Reg.SEC_TEN_CFG t) 63) = false) ∧ (x.conn o.conn).st ≠ .open_) ∧
    (let s : State := on .prompt (fun x => let x := dma (conn1 (cOpen) x); x); let c : ChId := .c0; let src : Src := pf; let o : FabOpIn := { zFabOpIn with conn := 1, data := .ok [], opcode := 2, len := 12 }; let data : List Byte := []; let x := s.ch c; let adm := fun a => x.admits src a = true; adm ⟨false, false, false⟩ ∧ x.dmaFault src.fn = none ∧ x.eid ≠ none ∧ o.conn ≤ 8191 ∧ x.connFor src o.conn = true ∧ (src.vf ≠ none ∨ (x.connSlot o.conn).any (fun t => x.flag (Reg.SEC_TEN_CFG t) 63) = false) ∧ (x.conn o.conn).st = .open_ ∧ fabOpOk o (x.conn o.conn) = false) := by
  dsimp only
  exact ⟨⟨by decide +kernel, by decide +kernel, by decide +kernel, by decide +kernel⟩,
    ⟨by decide +kernel, by decide +kernel, by decide +kernel, rfl⟩,
    ⟨by decide +kernel, by decide +kernel, by decide +kernel, by decide +kernel⟩,
    ⟨by decide +kernel, by decide +kernel, by decide +kernel, by decide +kernel, by decide +kernel⟩,
    ⟨by decide +kernel, by decide +kernel, by decide +kernel, by decide +kernel, by decide +kernel⟩,
    ⟨by decide +kernel, by decide +kernel, by decide +kernel, by decide +kernel⟩,
    ⟨by decide +kernel, by decide +kernel, by decide +kernel⟩,
    ⟨by decide +kernel, by decide +kernel, by decide +kernel, by decide +kernel⟩,
    ⟨by decide +kernel, by decide +kernel, by decide +kernel, by decide +kernel, by decide +kernel, by decide +kernel, by decide +kernel⟩,
    ⟨by decide +kernel, by decide +kernel, by decide +kernel, by decide +kernel, by decide +kernel, by decide +kernel, by decide +kernel, by decide +kernel⟩⟩

theorem test_wit_ConnectionCommands_3 :
    (let s : State := on .prompt (fun x => let x := dma (conn1 (cOpen) x); x); let c : ChId := .c0; let src : Src := pf; let o : FabOpIn := { zFabOpIn with conn := 1, data := .ok [], opcode := 4, len := 8 }; let data : List Byte := []; let x := s.ch c; let adm := fun a => x.admits src a = true; adm ⟨false, false, false⟩ ∧ x.dmaFault src.fn = none ∧ x.eid ≠ none ∧ o.conn ≤ 8191 ∧ x.connFor src o.conn = true ∧ (src.vf ≠ none ∨ (x.connSlot o.conn).any (fun t => x.flag (Reg.SEC_TEN_CFG t) 63) = false) ∧ (x.conn o.conn).st = .open_ ∧ fabOpOk o (x.conn o.conn) = false) ∧
    (let s : State := on .prompt (fun x => let x := dma (conn1 (cOpen) x); x); let c : ChId := .c0; let src : Src := pf; let o : FabOpIn := { zFabOpIn with conn := 1, data := .ok [], opcode := 3, len := 1048576 }; let data : List Byte := []; let x := s.ch c; let adm := fun a => x.admits src a = true; adm ⟨false, false, false⟩ ∧ x.dmaFault src.fn = none ∧ x.eid ≠ none ∧ o.conn ≤ 8191 ∧ x.connFor src o.conn = true ∧ (src.vf ≠ none ∨ (x.connSlot o.conn).any (fun t => x.flag (Reg.SEC_TEN_CFG t) 63) = false) ∧ (x.conn o.conn).st = .open_ ∧ fabOpOk o (x.conn o.conn) = true ∧ (o.opcode = 3 ∨ o.opcode = 5 ∨ o.opcode = 6 ∨ o.opcode = 7)) ∧
    (let s : State := on .prompt (fun x => let x := dma (conn1 (cOpen) x); x); let c : ChId := .c0; let src : Src := pf; let o : FabOpIn := { zFabOpIn with conn := 1, data := .ok [], opcode := 2, len := 8 }; let data : List Byte := []; let x := s.ch c; let adm := fun a => x.admits src a = true; adm ⟨false, false, false⟩ ∧ x.dmaFault src.fn = none ∧ x.eid ≠ none ∧ o.conn ≤ 8191 ∧ x.connFor src o.conn = true ∧ (src.vf ≠ none ∨ (x.connSlot o.conn).any (fun t => x.flag (Reg.SEC_TEN_CFG t) 63) = false) ∧ (x.conn o.conn).st = .open_ ∧ fabOpOk o (x.conn o.conn) = true ∧ o.opcode ≠ 3 ∧ o.opcode ≠ 5 ∧ o.opcode ≠ 6 ∧ o.opcode ≠ 7 ∧ o.data = .ok data) ∧
    (let s : State := on .prompt (fun x => let x := dma (conn1 (cOpen) x); x.wr (Reg.SEC_TEN_CFG 0) (2 ^ 63)); let c : ChId := .c0; let src : Src := pf; let pd : Nat := 1; let q : RoceIn := { zRoceIn with pd := 1, mtu := 4096, timeout := 31, ringRegion := 1, ringSlots := 512, slotSize := 4096, word := 8191, prog := 0xFF }; let x := s.ch c; let t := src.slot; let adm := fun a => x.admits src a = true; adm ⟨false, false, true⟩ ∧ x.dmaFault src.fn = none ∧ x.eid ≠ none ∧ x.pdSlot q.pd = some t ∧ x.flag (Reg.SEC_TEN_CFG t) 63 = true) ∧
    (let s : State := on .prompt (fun x => let x := dma (conn1 (cOpen) x); x); let c : ChId := .c0; let src : Src := pf; let pd : Nat := 1; let k : Nat := 0; let q : RoceIn := { zRoceIn with pd := 1, mtu := 4096, timeout := 31, ringRegion := 1, ringSlots := 512, slotSize := 4096, word := 8191, prog := 0xFF }; let ctr : Option Nat := none; let x := s.ch c; let t := src.slot; let adm := fun a => x.admits src a = true; ∃ (y : Chan), adm ⟨false, false, true⟩ ∧ x.dmaFault src.fn = none ∧ x.eid ≠ none ∧ x.pdSlot q.pd = some t ∧ x.flag (Reg.SEC_TEN_CFG t) 63 = false ∧ (q.mtu = 1024 ∨ q.mtu = 2048 ∨ q.mtu = 4096) ∧ q.timeout ≤ 31 ∧ q.word ≤ 8191 ∧ x.ringFits q = true ∧ x.recvCounter q t = some ctr ∧ x.nextConn = some (k, y)) := by
  dsimp only
  exact ⟨⟨by decide +kernel, by decide +kernel, by decide +kernel, by decide +kernel, by decide +kernel, by decide +kernel, by decide +kernel, by decide +kernel⟩,
    ⟨by decide +kernel, by decide +kernel, by decide +kernel, by decide +kernel, by decide +kernel, by decide +kernel, by decide +kernel, by decide +kernel, by decide +kernel⟩,
    ⟨by decide +kernel, by decide +kernel, by decide +kernel, by decide +kernel, by decide +kernel, by decide +kernel, by decide +kernel, by decide +kernel, by decide +kernel, by decide +kernel, by decide +kernel, by decide +kernel, rfl⟩,
    ⟨by decide +kernel, by decide +kernel, by decide +kernel, by decide +kernel, by decide +kernel⟩,
    (by apply Exists.intro; refine ⟨?p21_0, ?p21_1, ?p21_2, ?p21_3, ?p21_4, ?p21_5, ?p21_6, ?p21_7, ?p21_8, ?p21_9, ?p21_10⟩; (case p21_0 => decide +kernel); (case p21_1 => decide +kernel); (case p21_2 => decide +kernel); (case p21_3 => decide +kernel); (case p21_4 => decide +kernel); (case p21_5 => decide +kernel); (case p21_6 => decide +kernel); (case p21_7 => decide +kernel); (case p21_8 => decide +kernel); (case p21_9 => decide +kernel); (case p21_10 => rfl))⟩

theorem test_wit_Transmission :
    (let s : State := on .prompt (fun x => let x := link0 x; x); let c : ChId := .c0; let n : Nat := 0; let x := s.ch c; ∃ (e : Egress) (y : Chan), x.sends n = true ∧ x.dropHeads n dropFuel 0 = y ∧ y.select n = (none, e)) ∧
    (let s : State := on .prompt (fun x => let x := link0 x; let x := x.setEgress 0 { x.egress 0 with queues := [(2, [⟨[], 64, none, none, 0⟩])] }; x); let c : ChId := .c0; let n : Nat := 0; let q : Nat := 2; let f : QFrame := ⟨[], 64, none, none, 0⟩; let fs : List QFrame := []; let x := s.ch c; ∃ (e : Egress) (y : Chan), let w := y.setEgress n e; x.sends n = true ∧ x.dropHeads n dropFuel 0 = y ∧ y.select n = (some q, e) ∧ w.qframes n q = f :: fs ∧ f.conn.bind w.connSlot = none) ∧
    (let s : State := on .prompt (fun x => let x := link0 x; let x := x.setEgress 0 { x.egress 0 with queues := [(2, [⟨[], 64, some 1, none, 0⟩])] }; conn1 cOpen x); let c : ChId := .c0; let n : Nat := 0; let q : Nat := 2; let t : Nat := 0; let f : QFrame := ⟨[], 64, some 1, none, 0⟩; let fs : List QFrame := []; let x := s.ch c; ∃ (e : Egress) (y : Chan) (z : Chan), let w := y.setEgress n e; x.sends n = true ∧ x.dropHeads n dropFuel 0 = y ∧ y.select n = (some q, e) ∧ w.qframes n q = f :: fs ∧ f.conn.bind w.connSlot = some t ∧ w.police t 1 f.size = (.green, z)) ∧
    (let s : State := on .prompt (fun x => let x := link0 x; let x := x.setEgress 0 { x.egress 0 with queues := [(2, [⟨[], 64, some 1, none, 0⟩])] }; { (conn1 cOpen x).wr (Reg.TM_POL_RATE 1) (2 ^ 63 + 1 + 2 ^ 24) with tm := { x.tm with tc := [(1, ⟨0, 0⟩)], tp := [(1, ⟨10000000, 0⟩)] } }); let c : ChId := .c0; let n : Nat := 0; let q : Nat := 2; let t : Nat := 0; let f : QFrame := ⟨[], 64, some 1, none, 0⟩; let fs : List QFrame := []; let x := s.ch c; ∃ (e : Egress) (y : Chan) (z : Chan), let w := y.setEgress n e; x.sends n = true ∧ x.dropHeads n dropFuel 0 = y ∧ y.select n = (some q, e) ∧ w.qframes n q = f :: fs ∧ f.conn.bind w.connSlot = some t ∧ w.police t 1 f.size = (.yellow, z)) ∧
    (let s : State := on .prompt (fun x => let x := link0 x; let x := x.setEgress 0 { x.egress 0 with queues := [(2, [⟨[], 64, some 1, none, 0⟩])] }; { (conn1 cOpen x).wr (Reg.TM_POL_RATE 1) (2 ^ 63 + 1 + 2 ^ 24) with tm := { x.tm with tc := [(1, ⟨0, 0⟩)], tp := [(1, ⟨0, 0⟩)] } }); let c : ChId := .c0; let n : Nat := 0; let q : Nat := 2; let t : Nat := 0; let f : QFrame := ⟨[], 64, some 1, none, 0⟩; let fs : List QFrame := []; let x := s.ch c; ∃ (e : Egress) (y : Chan) (z : Chan), let w := y.setEgress n e; x.sends n = true ∧ x.dropHeads n dropFuel 0 = y ∧ y.select n = (some q, e) ∧ w.qframes n q = f :: fs ∧ f.conn.bind w.connSlot = some t ∧ w.police t 1 f.size = (.red, z)) ∧
    (let s : State := on .prompt (fun x => let x := link0 x; x.wr (Reg.TM_PORT_SCHED 0) (2 ^ 63)); let c : ChId := .c0; let n : Nat := 0; let x := s.ch c; x.hasPort n = true ∧ x.gclOn n = true ∧ x.running (0x40 + n) = true) ∧
    (let s : State := on .prompt (fun x => let x := link0 x; let x := x.setEgress 0 { x.egress 0 with queues := [(2, [⟨[], 64, some 1, none, 0⟩])] }; x.wr (Reg.TM_PORT_ALARM 0) 1); let c : ChId := .c0; let n : Nat := 0; let q : Nat := 2; let f : QFrame := ⟨[], 64, some 1, none, 0⟩; let fs : List QFrame := []; let x := s.ch c; let alarm := x.fget (Reg.TM_PORT_ALARM n) 31 0; x.qframes n q = f :: fs ∧ alarm ≠ 0 ∧ x.hasPort n = true ∧ q < 16) ∧
    (let s : State := on .prompt (fun x => let x := link0 x; (x.wr (Reg.TM_PORT_SHAPE 0) (2 ^ 32)).setEgress 0 { x.egress 0 with pBucket := some ⟨0, 0⟩ }); let c : ChId := .c0; let n : Nat := 0; let r : Nat := 1; let burst : Nat := 0; let b : Bucket := ⟨0, 0⟩; let x := s.ch c; let g := x.egress n; x.shape (Reg.TM_PORT_SHAPE n) = (r, burst) ∧ g.pBucket = some b ∧ r ≠ 0) ∧
    (let s : State := on .prompt (fun x => let x := link0 x; (x.wr (Reg.TM_Q_SHAPE 0 2) (2 ^ 32)).setEgress 0 { x.egress 0 with qBucket := [(2, ⟨0, 0⟩)] }); let c : ChId := .c0; let n : Nat := 0; let q : Nat := 2; let r : Nat := 1; let burst : Nat := 0; let b : Bucket := ⟨0, 0⟩; let x := s.ch c; let g := x.egress n; x.shape (Reg.TM_Q_SHAPE n q) = (r, burst) ∧ g.qBucket.find q = some b ∧ r ≠ 0) := by
  dsimp only
  exact ⟨(by apply Exists.intro; apply Exists.intro; refine ⟨?p0_0, ?p0_1, ?p0_2⟩; (case p0_0 => decide +kernel); (case p0_1 => rfl); (case p0_2 => apply fst_pair; decide +kernel)),
    (by apply Exists.intro; apply Exists.intro; refine ⟨?p1_0, ?p1_1, ?p1_2, ?p1_3, ?p1_4⟩; (case p1_0 => decide +kernel); (case p1_1 => rfl); (case p1_2 => apply fst_pair; decide +kernel); (case p1_3 => decide +kernel); (case p1_4 => decide +kernel)),
    (by apply Exists.intro; apply Exists.intro; apply Exists.intro; refine ⟨?p2_0, ?p2_1, ?p2_2, ?p2_3, ?p2_4, ?p2_5⟩; (case p2_0 => decide +kernel); (case p2_1 => rfl); (case p2_2 => apply fst_pair; decide +kernel); (case p2_3 => decide +kernel); (case p2_4 => decide +kernel); (case p2_5 => apply fst_pair; decide +kernel)),
    (by apply Exists.intro; apply Exists.intro; apply Exists.intro; refine ⟨?p3_0, ?p3_1, ?p3_2, ?p3_3, ?p3_4, ?p3_5⟩; (case p3_0 => decide +kernel); (case p3_1 => rfl); (case p3_2 => apply fst_pair; decide +kernel); (case p3_3 => decide +kernel); (case p3_4 => decide +kernel); (case p3_5 => apply fst_pair; decide +kernel)),
    (by apply Exists.intro; apply Exists.intro; apply Exists.intro; refine ⟨?p4_0, ?p4_1, ?p4_2, ?p4_3, ?p4_4, ?p4_5⟩; (case p4_0 => decide +kernel); (case p4_1 => rfl); (case p4_2 => apply fst_pair; decide +kernel); (case p4_3 => decide +kernel); (case p4_4 => decide +kernel); (case p4_5 => apply fst_pair; decide +kernel)),
    ⟨by decide +kernel, by decide +kernel, by decide +kernel⟩,
    ⟨by decide +kernel, by decide +kernel, by decide +kernel, by decide +kernel⟩,
    ⟨by decide +kernel, by decide +kernel, by decide +kernel⟩,
    ⟨by decide +kernel, by decide +kernel, by decide +kernel⟩⟩

theorem test_wit_TrafficRegisters :
    (let s : State := on .prompt (fun x => x); let c : ChId := .c0; let off : Nat := Reg.TM_POL_RATE 31; let x := s.ch c; x.regsLive = true ∧ x.isBucketReg off = true) ∧
    (let s : State := on .prompt (fun x => x); let c : ChId := .c0; let off : Nat := Reg.TM_TEN_HWM 15; let x := s.ch c; x.regsLive = true ∧ x.isMark off = true) ∧
    (let s : State := on .prompt (fun x => x); let c : ChId := .c0; let off : Nat := Reg.TM_PORT_HWM 0; let x := s.ch c; x.regsLive = true ∧ x.isMark off = true) ∧
    (let s : State := on .prompt (fun x => { x.wr Reg.TM_SMP_CFG (2 ^ 63) with tm := { x.tm with smpDue := some 7 } }); let c : ChId := .c0; let at_ : Nat := 7; let x := s.ch c; x.flag Reg.TM_SMP_CFG 63 = true ∧ x.serves = true ∧ x.tm.smpDue = some at_) ∧
    (let s : State := on .prompt (fun x => x); let c : ChId := .c0; let x := s.ch c; x.regsLive = true) := by
  dsimp only
  exact ⟨⟨by decide +kernel, by decide +kernel⟩,
    ⟨by decide +kernel, by decide +kernel⟩,
    ⟨by decide +kernel, by decide +kernel⟩,
    ⟨by decide +kernel, by decide +kernel, by decide +kernel⟩,
    by decide +kernel⟩

/-! ### Witnesses: Prefix cache -/

theorem test_wit_PrefixCommands_1 :
    (let s : State := on .prompt (fun x => let x := dma (ctx3 { ent .sealed with committed := 64 } x); x); let c : ChId := .c0; let src : Src := pf; let h : Nat := h3; let slot : Nat := 3; let first : Nat := 0; let count : Nat := 0; let x := s.ch c; let sized := 1 ≤ count ∧ count ≤ 4096 ∧ first + count ≤ 262144; x.admitsCtx src ⟨false, false, false⟩ = true ∧ x.owns src h slot = true ∧ ¬ sized) ∧
    (let s : State := on .prompt (fun x => let x := dma (ctx3 { ent .sealed with committed := 64 } x); x); let c : ChId := .c0; let src : Src := pf; let h : Nat := h3; let slot : Nat := 3; let first : Nat := 0; let count : Nat := 4097; let x := s.ch c; let sized := 1 ≤ count ∧ count ≤ 4096 ∧ first + count ≤ 262144; x.admitsCtx src ⟨false, false, false⟩ = true ∧ x.owns src h slot = true ∧ ¬ sized) ∧
    (let s : State := on .prompt (fun x => let x := dma (ctx3 { ent .sealed with committed := 64 } x); x); let c : ChId := .c0; let src : Src := pf; let h : Nat := h3; let slot : Nat := 3; let first : Nat := 262144; let count : Nat := 1; let x := s.ch c; let sized := 1 ≤ count ∧ count ≤ 4096 ∧ first + count ≤ 262144; x.admitsCtx src ⟨false, false, false⟩ = true ∧ x.owns src h slot = true ∧ ¬ sized) ∧
    (let s : State := on .prompt (fun x => let x := dma (ctx3 { ent .sealed with committed := 64 } x); x); let c : ChId := .c0; let src : Src := pf; let h : Nat := h3; let slot : Nat := 3; let first : Nat := 262144 - 4096; let count : Nat := 4096; let x := s.ch c; let sized := 1 ≤ count ∧ count ≤ 4096 ∧ first + count ≤ 262144; x.admitsCtx src ⟨false, false, false⟩ = true ∧ x.owns src h slot = true ∧ sized ∧ x.dmaFault src.fn = none) ∧
    (let s : State := on .prompt (fun x => let x := dma (ctx3 { ent .decoding with committed := 64 } x); x); let c : ChId := .c0; let src : Src := pf; let h : Nat := h3; let slot : Nat := 3; let x := s.ch c; let e := x.entry slot; let stored := e.state = .sealed ∨ e.state = .parked; x.admitsCtx src ⟨false, false, false⟩ = true ∧ x.owns src h slot = true ∧ x.dmaFault src.fn = none ∧ ¬ stored) ∧
    (let s : State := on .prompt (fun x => let x := dma (ctx3 { ent .sealed with committed := 64 } x); x); let c : ChId := .c0; let src : Src := pf; let h : Nat := h3; let slot : Nat := 3; let seg : Nat := 256; let x := s.ch c; let e := x.entry slot; let mine := x.segFor src seg = true ∧ x.segUse seg = 1; let stored := e.state = .sealed ∨ e.state = .parked; x.admitsCtx src ⟨false, false, false⟩ = true ∧ x.owns src h slot = true ∧ x.dmaFault src.fn = none ∧ stored ∧ ¬ mine) ∧
    (let s : State := on .prompt (fun x => let x := (fun x => { x with host := { x.host with pci := [(16, ⟨true, false, 1⟩), (0, ⟨true, false, 0⟩)] } }) (ctx3 { ent .sealed with committed := 64 } x); x.wr (Reg.PFX_SEG_CFG 255) (2 ^ 62 + 2 ^ 48)); let c : ChId := .c0; let src : Src := vf0; let h : Nat := h3; let slot : Nat := 3; let seg : Nat := 255; let host : Nat := 0; let x := s.ch c; let e := x.entry slot; let mine := x.segFor src seg = true ∧ x.segUse seg = 1; let stored := e.state = .sealed ∨ e.state = .parked; x.admitsCtx src ⟨false, false, false⟩ = true ∧ x.owns src h slot = true ∧ x.dmaFault src.fn = none ∧ stored ∧ ¬ mine) ∧
    (let s : State := on .prompt (fun x => let x := dma (ctx3 { ent .sealed with committed := 64 } x); x.wr (Reg.PFX_SEG_CFG 255) (2 ^ 62)); let c : ChId := .c0; let src : Src := pf; let h : Nat := h3; let slot : Nat := 3; let seg : Nat := 255; let x := s.ch c; let e := x.entry slot; let mine := x.segFor src seg = true ∧ x.segUse seg = 1; let stored := e.state = .sealed ∨ e.state = .parked; x.admitsCtx src ⟨false, false, false⟩ = true ∧ x.owns src h slot = true ∧ x.dmaFault src.fn = none ∧ stored ∧ mine ∧ x.running (0x100 + seg) = false) ∧
    (let s : State := on .prompt (fun x => let x := dma (ctx3 { ent .parked with committed := 64 } x); let x := run [0x1FF] (x.wr (Reg.PFX_SEG_CFG 255) (2 ^ 62)); x); let c : ChId := .c0; let src : Src := pf; let h : Nat := h3; let slot : Nat := 3; let seg : Nat := 255; let groups : List Nat := [0]; let x := s.ch c; let e := x.entry slot; let mine := x.segFor src seg = true ∧ x.segUse seg = 1; let stored := e.state = .sealed ∨ e.state = .parked; let named := ∀ g ∈ groups, ((x.map slot).grp g).chain ≠ 0; x.admitsCtx src ⟨false, false, false⟩ = true ∧ x.owns src h slot = true ∧ x.dmaFault src.fn = none ∧ stored ∧ mine ∧ x.running (0x100 + seg) = true ∧ groups.length ≤ 64 ∧ ¬ named) ∧
    (let s : State := on .prompt (fun x => let x := dma (ctx3 { ent .parked with committed := 64 } x); let x := run [0x1FF] (x.wr (Reg.PFX_SEG_CFG 255) (2 ^ 62)); x.setMap 3 ((x.map 3).setRec 0 { PgRec.init with chain := 9 })); let c : ChId := .c0; let src : Src := pf; let h : Nat := h3; let slot : Nat := 3; let seg : Nat := 255; let groups : List Nat := [0]; let x := s.ch c; let e := x.entry slot; let mine := x.segFor src seg = true ∧ x.segUse seg = 1; let stored := e.state = .sealed ∨ e.state = .parked; let named := ∀ g ∈ groups, ((x.map slot).grp g).chain ≠ 0; ∃ (n : Nat) (y : Chan), x.admitsCtx src ⟨false, false, false⟩ = true ∧ x.owns src h slot = true ∧ x.dmaFault src.fn = none ∧ stored ∧ mine ∧ x.running (0x100 + seg) = true ∧ groups.length ≤ 64 ∧ named ∧ x.publish slot seg groups = (n, y)) := by
  dsimp only
  exact ⟨⟨by decide +kernel, by decide +kernel, by decide +kernel⟩,
    ⟨by decide +kernel, by decide +kernel, by decide +kernel⟩,
    ⟨by decide +kernel, by decide +kernel, by decide +kernel⟩,
    ⟨by decide +kernel, by decide +kernel, by decide +kernel, by decide +kernel⟩,
    ⟨by decide +kernel, by decide +kernel, by decide +kernel, by decide +kernel⟩,
    ⟨by decide +kernel, by decide +kernel, by decide +kernel, by decide +kernel, by decide +kernel⟩,
    ⟨by decide +kernel, by decide +kernel, by decide +kernel, by decide +kernel, by decide +kernel⟩,
    ⟨by decide +kernel, by decide +kernel, by decide +kernel, by decide +kernel, by decide +kernel, by decide +kernel⟩,
    ⟨by decide +kernel, by decide +kernel, by decide +kernel, by decide +kernel, by decide +kernel, by decide +kernel, by decide +kernel, by decide +kernel⟩,
    (by apply Exists.intro; apply Exists.intro; refine ⟨?p6_0, ?p6_1, ?p6_2, ?p6_3, ?p6_4, ?p6_5, ?p6_6, ?p6_7, ?p6_8⟩; (case p6_0 => decide +kernel); (case p6_1 => decide +kernel); (case p6_2 => decide +kernel); (case p6_3 => decide +kernel); (case p6_4 => decide +kernel); (case p6_5 => decide +kernel); (case p6_6 => decide +kernel); (case p6_7 => decide +kernel); (case p6_8 => exact any_pair _))⟩

theorem test_wit_PrefixCommands_2 :
    (let s : State := on .prompt (fun x => let x := dma (ctx3 { ent .sealed with committed := 64 } x); x); let c : ChId := .c0; let src : Src := pf; let seg : Nat := 256; let x := s.ch c; x.admits src ⟨false, false, false⟩ = true ∧ x.dmaFault src.fn = none ∧ x.segFor src seg = false) ∧
    (let s : State := on .prompt (fun x => let x := dma (ctx3 { ent .sealed with committed := 64 } x); x); let c : ChId := .c0; let src : Src := pf; let seg : Nat := 255; let keys : List Nat := List.replicate 65 0; let x := s.ch c; x.admits src ⟨false, false, false⟩ = true ∧ x.dmaFault src.fn = none ∧ x.segFor src seg = true ∧ 64 < keys.length) ∧
    (let s : State := on .prompt (fun x => let x := dma (ctx3 { ent .sealed with committed := 64 } x); x); let c : ChId := .c0; let src : Src := pf; let seg : Nat := 255; let host : Nat := 0; let keys : List Nat := []; let rs : AMap Nat := []; let x := s.ch c; ∃ (y : Chan), x.admits src ⟨false, false, false⟩ = true ∧ x.dmaFault src.fn = none ∧ x.segFor src seg = true ∧ keys.length ≤ 64 ∧ x.lookupKeys src host seg 0 keys = (rs, 0, y)) ∧
    (let s : State := on .prompt (fun x => let x := dma (ctx3 { ent .sealed with committed := 64 } x); let x := x.wr (Reg.PFX_SEG_CFG 255) (2 ^ 62 + 2 ^ 61); run [0x1FF] (x.wr Reg.PFX_CASC_CFG (2 ^ 63 + 8))); let c : ChId := .c0; let src : Src := pf; let seg : Nat := 255; let host : Nat := 0; let owed : Nat := 1; let keys : List Nat := [5]; let x := s.ch c; ∃ (y : Chan) (rs : AMap Nat), x.admits src ⟨false, false, false⟩ = true ∧ x.dmaFault src.fn = none ∧ x.segFor src seg = true ∧ keys.length ≤ 64 ∧ x.lookupKeys src host seg 0 keys = (rs, owed, y) ∧ owed ≠ 0) ∧
    (let s : State := on .prompt (fun x => let x := dma (ctx3 { ent .sealed with committed := 64 } x); x); let c : ChId := .c0; let src : Src := pf; let entry : Nat := 131072; let x := s.ch c; x.admits src ⟨true, false, false⟩ = true ∧ 131071 < entry) ∧
    (let s : State := on .prompt (fun x => let x := dma (ctx3 { ent .sealed with committed := 64 } x); x); let c : ChId := .c0; let src : Src := pf; let entry : Nat := 131071; let x := s.ch c; x.admits src ⟨true, false, false⟩ = true ∧ entry ≤ 131071 ∧ x.running (0x100 + entry / 512) = false) ∧
    (let s : State := on .prompt (fun x => let x := dma (ctx3 { ent .sealed with committed := 64 } x); let x := run [0x1FF] (x.wr (Reg.PFX_SEG_CFG 255) (2 ^ 62)); x); let c : ChId := .c0; let src : Src := pf; let entry : Nat := 131071; let x := s.ch c; x.admits src ⟨true, false, false⟩ = true ∧ entry ≤ 131071 ∧ x.running (0x100 + entry / 512) = true) ∧
    (let s : State := on .prompt (fun x => let x := dma (ctx3 { ent .sealed with committed := 64 } x); x); let c : ChId := .c0; let src : Src := pf; let h : Nat := h3; let slot : Nat := 3; let count : Nat := 1; let x := s.ch c; let e := x.entry slot; x.admitsCtx src ⟨true, false, false⟩ = true ∧ x.owns src h slot = true ∧ e.refs < count) ∧
    (let s : State := on .prompt (fun x => let x := dma (ctx3 { ent .sealed with committed := 64, refs := 2 } x); x); let c : ChId := .c0; let src : Src := pf; let h : Nat := h3; let slot : Nat := 3; let count : Nat := 2; let x := s.ch c; let e := x.entry slot; x.admitsCtx src ⟨true, false, false⟩ = true ∧ x.owns src h slot = true ∧ count ≤ e.refs ∧ 0 < count) ∧
    (let s : State := on .prompt (fun x => let x := dma (ctx3 { ent .sealed with committed := 64 } x); x); let c : ChId := .c0; let src : Src := pf; let h : Nat := h3; let slot : Nat := 3; let count : Nat := 0; let x := s.ch c; x.admitsCtx src ⟨true, false, false⟩ = true ∧ x.owns src h slot = true ∧ count = 0) := by
  dsimp only
  exact ⟨⟨by decide +kernel, by decide +kernel, by decide +kernel⟩,
    ⟨by decide +kernel, by decide +kernel, by decide +kernel, by decide +kernel⟩,
    (by apply Exists.intro; refine ⟨?p9_0, ?p9_1, ?p9_2, ?p9_3, ?p9_4⟩; (case p9_0 => decide +kernel); (case p9_1 => decide +kernel); (case p9_2 => decide +kernel); (case p9_3 => decide +kernel); (case p9_4 => rfl)),
    (by apply Exists.intro; apply Exists.intro; refine ⟨?p10_0, ?p10_1, ?p10_2, ?p10_3, ?p10_4, ?p10_5⟩; (case p10_0 => decide +kernel); (case p10_1 => decide +kernel); (case p10_2 => decide +kernel); (case p10_3 => decide +kernel); (case p10_4 => rfl); (case p10_5 => decide +kernel)),
    ⟨by decide +kernel, by decide +kernel⟩,
    ⟨by decide +kernel, by decide +kernel, by decide +kernel⟩,
    ⟨by decide +kernel, by decide +kernel, by decide +kernel⟩,
    ⟨by decide +kernel, by decide +kernel, by decide +kernel⟩,
    ⟨by decide +kernel, by decide +kernel, by decide +kernel, by decide +kernel⟩,
    ⟨by decide +kernel, by decide +kernel, by decide +kernel⟩⟩

theorem test_wit_Attachments_1 :
    (let s : State := on .prompt (fun x => let x := dma (ctx3 { ent .sealed with committed := 64 } x); { x with pfx := { x.pfx with answered := [⟨6, 7, 0, zAttachMsg, 99⟩] } }); let c : ChId := .c0; let peer : Nat := 6; let n : Nat := 7; let m : AttachMsg := { zAttachMsg with owner := h3, attacher := h3, tag := 77, n := 4, chain := 9, reqNum := 7 }; let a : AttachAnswer := ⟨6, 7, 0, zAttachMsg, 99⟩; let i := Instr.attach .c0 6 ({ zAttachMsg with owner := h3, attacher := h3, tag := 77, n := 4, chain := 9, reqNum := 7 }); let x := s.ch c; let hears := x.serves = true ∧ x.ctx.ready = true; let earlier := x.pfx.answered.find? (fun a => decide (a.peer = peer ∧ a.reqNum = m.reqNum ∧ x.time < a.until_)); hears ∧ earlier = some a ∧ (i = Instr.attach c peer m ∨ i = Instr.detach c peer m)) ∧
    (let s : State := on .prompt (fun x => let x := dma (ctx3 { ent .sealed with committed := 64 } x); x); let c : ChId := .c0; let peer : Nat := 6; let n : Nat := 7; let m : AttachMsg := { zAttachMsg with owner := h3, attacher := h3, tag := 77, n := 4, chain := 9, reqNum := 7 }; let r : Nat := 4; let x := s.ch c; let hears := x.serves = true ∧ x.ctx.ready = true; let earlier := x.pfx.answered.find? (fun a => decide (a.peer = peer ∧ a.reqNum = m.reqNum ∧ x.time < a.until_)); let owner := bits m.owner 29 16; hears ∧ earlier = none ∧ x.attachReason owner m = some r) ∧
    (let s : State := on .prompt (fun x => let x := dma (ctx3 { ent .sealed with committed := 64 } x); x); let c : ChId := .c0; let peer : Nat := 6; let n : Nat := 7; let m : AttachMsg := { zAttachMsg with owner := h3, attacher := h3, tag := 77, n := 5, chain := 9, reqNum := 7 }; let r : Nat := 3; let x := s.ch c; let hears := x.serves = true ∧ x.ctx.ready = true; let earlier := x.pfx.answered.find? (fun a => decide (a.peer = peer ∧ a.reqNum = m.reqNum ∧ x.time < a.until_)); let owner := bits m.owner 29 16; hears ∧ earlier = none ∧ x.attachReason owner m = some r) ∧
    (let s : State := on .prompt (fun x => let x := dma (ctx3 { ent .offered with committed := 64 } x); x); let c : ChId := .c0; let peer : Nat := 6; let n : Nat := 7; let m : AttachMsg := { zAttachMsg with owner := h3, attacher := h3, tag := 77, n := 4, chain := 9, reqNum := 7 }; let r : Nat := 5; let x := s.ch c; let hears := x.serves = true ∧ x.ctx.ready = true; let earlier := x.pfx.answered.find? (fun a => decide (a.peer = peer ∧ a.reqNum = m.reqNum ∧ x.time < a.until_)); let owner := bits m.owner 29 16; hears ∧ earlier = none ∧ x.attachReason owner m = some r) ∧
    (let s : State := on .prompt (fun x => let x := dma (ctx3 { ent .sealed with committed := 64 } x); x.setMap 3 ((x.map 3).setRec 3 { PgRec.init with chain := 9 })); let c : ChId := .c0; let peer : Nat := 6; let n : Nat := 7; let m : AttachMsg := { zAttachMsg with owner := h3, attacher := h3, tag := 77, n := 4, chain := 9, reqNum := 7 }; let x := s.ch c; let hears := x.serves = true ∧ x.ctx.ready = true; let earlier := x.pfx.answered.find? (fun a => decide (a.peer = peer ∧ a.reqNum = m.reqNum ∧ x.time < a.until_)); let owner := bits m.owner 29 16; hears ∧ earlier = none ∧ x.attachReason owner m = none) ∧
    (let s : State := on .prompt (fun x => let x := dma (ctx3 { ent .sealed with committed := 64, prefixOwner := true } x); x); let c : ChId := .c0; let peer : Nat := 6; let slot : Nat := 3; let n : Nat := 7; let m : AttachMsg := { zAttachMsg with owner := h3, attacher := h3, tag := 77, n := 4, chain := 9, reqNum := 7 }; let x := s.ch c; let hears := x.serves = true ∧ x.ctx.ready = true; let earlier := x.pfx.answered.find? (fun a => decide (a.peer = peer ∧ a.reqNum = m.reqNum ∧ x.time < a.until_)); hears ∧ earlier = none ∧ x.ownerSlot m.owner = some slot) ∧
    (let s : State := on .prompt (fun x => let x := dma (ctx3 { ent .sealed with committed := 64 } x); x); let c : ChId := .c0; let peer : Nat := 6; let n : Nat := 7; let m : AttachMsg := { zAttachMsg with owner := h3, attacher := h3, tag := 77, n := 4, chain := 9, reqNum := 7 }; let x := s.ch c; let hears := x.serves = true ∧ x.ctx.ready = true; let earlier := x.pfx.answered.find? (fun a => decide (a.peer = peer ∧ a.reqNum = m.reqNum ∧ x.time < a.until_)); hears ∧ earlier = none ∧ x.ownerSlot m.owner = none) ∧
    (let s : State := on .prompt (fun x => let x := dma (ctx3 { ent .sealed with committed := 64 } x); { x with pfx := { x.pfx with reqs := [(7, { zAttachReq with peer := 6, msg := { zAttachMsg with owner := h3, attacher := h3, tag := 77, n := 4, chain := 9, reqNum := 7 } })] } }); let c : ChId := .c0; let peer : Nat := 6; let n : Nat := 7; let m : AttachMsg := { zAttachMsg with owner := h3, attacher := h3, tag := 77, n := 4, chain := 9, reqNum := 7 }; let q : AttachReq := { zAttachReq with peer := 6, msg := { zAttachMsg with owner := h3, attacher := h3, tag := 77, n := 4, chain := 9, reqNum := 7 } }; let x := s.ch c; let asked := fun (detach : Bool) => x.serves = true ∧ x.pfx.reqs.find m.reqNum = some q ∧ q.peer = peer ∧ q.isDetach = detach; asked false) ∧
    (let s : State := on .prompt (fun x => let x := dma (ctx3 { ent .sealed with committed := 64 } x); { x with pfx := { x.pfx with reqs := [(7, { zAttachReq with peer := 6, msg := { zAttachMsg with owner := h3, attacher := h3 + 1, tag := 77, n := 4, chain := 9, reqNum := 7 } })] } }); let c : ChId := .c0; let peer : Nat := 6; let n : Nat := 7; let m : AttachMsg := { zAttachMsg with owner := h3, attacher := h3, tag := 77, n := 4, chain := 9, reqNum := 7 }; let r : Nat := 0x20; let q : AttachReq := { zAttachReq with peer := 6, msg := { zAttachMsg with owner := h3, attacher := h3 + 1, tag := 77, n := 4, chain := 9, reqNum := 7 } }; let x := s.ch c; let asked := fun (detach : Bool) => x.serves = true ∧ x.pfx.reqs.find m.reqNum = some q ∧ q.peer = peer ∧ q.isDetach = detach; let rest := { x with pfx := { x.pfx with reqs := x.pfx.reqs.del m.reqNum } }; asked false ∧ rest.checkHandle q.msg.attacher = .error r) ∧
    (let s : State := on .prompt (fun x => let x := dma (ctx3 { ent .sealed with committed := 64 } x); { x with pfx := { x.pfx with reqs := [(7, { zAttachReq with peer := 6, msg := { zAttachMsg with owner := h3, attacher := h3, tag := 77, n := 4, chain := 9, reqNum := 7 } })] } }); let c : ChId := .c0; let peer : Nat := 6; let slot : Nat := 3; let n : Nat := 7; let m : AttachMsg := { zAttachMsg with owner := h3, attacher := h3, tag := 77, n := 4, chain := 9, reqNum := 7 }; let q : AttachReq := { zAttachReq with peer := 6, msg := { zAttachMsg with owner := h3, attacher := h3, tag := 77, n := 4, chain := 9, reqNum := 7 } }; let x := s.ch c; let asked := fun (detach : Bool) => x.serves = true ∧ x.pfx.reqs.find m.reqNum = some q ∧ q.peer = peer ∧ q.isDetach = detach; let rest := { x with pfx := { x.pfx with reqs := x.pfx.reqs.del m.reqNum } }; asked false ∧ rest.checkHandle q.msg.attacher = .ok slot ∧ rest.attachable slot = false) := by
  dsimp only
  exact ⟨⟨by decide +kernel, by decide +kernel, Or.inl rfl⟩,
    ⟨by decide +kernel, by decide +kernel, by decide +kernel⟩,
    ⟨by decide +kernel, by decide +kernel, by decide +kernel⟩,
    ⟨by decide +kernel, by decide +kernel, by decide +kernel⟩,
    ⟨by decide +kernel, by decide +kernel, by decide +kernel⟩,
    ⟨by decide +kernel, by decide +kernel, by decide +kernel⟩,
    ⟨by decide +kernel, by decide +kernel, by decide +kernel⟩,
    by decide +kernel,
    ⟨by decide +kernel, rfl⟩,
    ⟨by decide +kernel, rfl, by decide +kernel⟩⟩

theorem test_wit_Attachments_2 :
    (let s : State := on .prompt (fun x => let x := dma (ctx3 { ent .prefilling with committed := 0 } x); let x := { x with pfx := { x.pfx with reqs := [(7, { zAttachReq with peer := 6, msg := { zAttachMsg with owner := h3, attacher := h3, tag := 77, n := 4, chain := 9, reqNum := 7 } })] } }; { x with pool := { x.pool with blocks := [(pgtBase, 512 * mib)] } }); let c : ChId := .c0; let peer : Nat := 6; let slot : Nat := 3; let n : Nat := 7; let m : AttachMsg := { zAttachMsg with owner := h3, attacher := h3, tag := 77, n := 4, chain := 9, reqNum := 7 }; let q : AttachReq := { zAttachReq with peer := 6, msg := { zAttachMsg with owner := h3, attacher := h3, tag := 77, n := 4, chain := 9, reqNum := 7 } }; let x := s.ch c; let asked := fun (detach : Bool) => x.serves = true ∧ x.pfx.reqs.find m.reqNum = some q ∧ q.peer = peer ∧ q.isDetach = detach; let rest := { x with pfx := { x.pfx with reqs := x.pfx.reqs.del m.reqNum } }; asked false ∧ rest.checkHandle q.msg.attacher = .ok slot ∧ rest.attachable slot = true ∧ rest.needBlocks slot q.msg.n = none) ∧
    (let s : State := on .prompt (fun x => let x := dma (ctx3 { ent .prefilling with committed := 0 } x); { x with pfx := { x.pfx with reqs := [(7, { zAttachReq with peer := 6, msg := { zAttachMsg with owner := h3, attacher := h3, tag := 77, n := 4, chain := 9, reqNum := 7 } })] } }); let c : ChId := .c0; let peer : Nat := 6; let slot : Nat := 3; let n : Nat := 7; let m : AttachMsg := { zAttachMsg with owner := h3, attacher := h3, tag := 77, n := 4, chain := 9, reqNum := 7 }; let q : AttachReq := { zAttachReq with peer := 6, msg := { zAttachMsg with owner := h3, attacher := h3, tag := 77, n := 4, chain := 9, reqNum := 7 } }; let x := s.ch c; let asked := fun (detach : Bool) => x.serves = true ∧ x.pfx.reqs.find m.reqNum = some q ∧ q.peer = peer ∧ q.isDetach = detach; let rest := { x with pfx := { x.pfx with reqs := x.pfx.reqs.del m.reqNum } }; ∃ (y : Chan), asked false ∧ rest.checkHandle q.msg.attacher = .ok slot ∧ rest.attachable slot = true ∧ rest.needBlocks slot q.msg.n = some y) ∧
    (let s : State := on .prompt (fun x => let x := dma (ctx3 { ent .sealed with committed := 64, prefixAttached := true } x); let x := x.setMap 3 ((x.map 3).setRec 0 { PgRec.init with shared := true, owner := h3 }); { x with pfx := { x.pfx with reqs := [(7, { zAttachReq with peer := 6, isDetach := true, msg := { zAttachMsg with owner := h3, attacher := h3, tag := 77, n := 4, chain := 9, reqNum := 7 } })] } }); let c : ChId := .c0; let peer : Nat := 6; let slot : Nat := 3; let n : Nat := 7; let m : AttachMsg := { zAttachMsg with owner := h3, attacher := h3, tag := 77, n := 4, chain := 9, reqNum := 7 }; let q : AttachReq := { zAttachReq with peer := 6, isDetach := true, msg := { zAttachMsg with owner := h3, attacher := h3, tag := 77, n := 4, chain := 9, reqNum := 7 } }; let x := s.ch c; let asked := fun (detach : Bool) => x.serves = true ∧ x.pfx.reqs.find m.reqNum = some q ∧ q.peer = peer ∧ q.isDetach = detach; let rest := { x with pfx := { x.pfx with reqs := x.pfx.reqs.del m.reqNum } }; asked true ∧ rest.checkHandle q.msg.attacher = .ok slot ∧ (rest.entry slot).prefixAttached = true ∧ (rest.map slot).attachment.1 = q.msg.owner) ∧
    (let s : State := on .prompt (fun x => let x := dma (ctx3 { ent .sealed with committed := 64 } x); { x with pfx := { x.pfx with reqs := [(7, { zAttachReq with tries := 7, peer := 6, msg := { zAttachMsg with owner := h3, attacher := h3, tag := 77, n := 4, chain := 9, reqNum := 7 } })] } }); let c : ChId := .c0; let peer : Nat := 6; let n : Nat := 7; let q : AttachReq := { zAttachReq with tries := 7, peer := 6, msg := { zAttachMsg with owner := h3, attacher := h3, tag := 77, n := 4, chain := 9, reqNum := 7 } }; let x := s.ch c; x.serves = true ∧ x.pfx.reqs.find n = some q ∧ q.tries < 8) ∧
    (let s : State := on .prompt (fun x => let x := dma (ctx3 { ent .sealed with committed := 64 } x); { x with pfx := { x.pfx with reqs := [(7, { zAttachReq with tries := 8, peer := 6, msg := { zAttachMsg with owner := h3, attacher := h3, tag := 77, n := 4, chain := 9, reqNum := 7 } })] } }); let c : ChId := .c0; let peer : Nat := 6; let n : Nat := 7; let q : AttachReq := { zAttachReq with tries := 8, peer := 6, msg := { zAttachMsg with owner := h3, attacher := h3, tag := 77, n := 4, chain := 9, reqNum := 7 } }; let x := s.ch c; x.serves = true ∧ x.pfx.reqs.find n = some q ∧ 8 ≤ q.tries ∧ q.isDetach = false) := by
  dsimp only
  exact ⟨⟨by decide +kernel, rfl, by decide +kernel, by decide +kernel⟩,
    (by apply Exists.intro; refine ⟨?p9_0, ?p9_1, ?p9_2, ?p9_3⟩; (case p9_0 => decide +kernel); (case p9_1 => rfl); (case p9_2 => decide +kernel); (case p9_3 => apply get_one; decide +kernel)),
    ⟨by decide +kernel, rfl, by decide +kernel, by decide +kernel⟩,
    ⟨by decide +kernel, by decide +kernel, by decide +kernel⟩,
    ⟨by decide +kernel, by decide +kernel, by decide +kernel, by decide +kernel⟩⟩

theorem test_wit_Cascade_1 :
    (let s : State := on .prompt (fun x => let x := x.wr Reg.PFX_CASC_CFG (2 ^ 63 + 16 + 2); x); let c : ChId := .c0; let f : CascFrame := { zCascFrame with crcOk := true, probe := true }; let x := s.ch c; let taken := x.serves = true ∧ f.crcOk = true ∧ x.cascState ≠ 0; taken ∧ f.pos ≠ x.cascPos ∧ f.probe = true) ∧
    (let s : State := on .prompt (fun x => let x := x.wr Reg.PFX_CASC_CFG (2 ^ 63 + 16 + 2); let x := run [0x1FF] (x.wr (Reg.PFX_SEG_CFG 255) (2 ^ 62 + 2 ^ 61)); { x with pfx := { x.pfx with entries := [(130560, ⟨5, 2 ^ 128 - 1, 9⟩)] } }); let c : ChId := .c0; let f : CascFrame := { zCascFrame with crcOk := true, seg := 255, use := 1, tag := 77, key := 5 }; let r : Nat := 9; let x := s.ch c; let taken := x.serves = true ∧ f.crcOk = true ∧ x.cascState ≠ 0; let found := x.segUse f.seg = f.use ∧ f.use ≠ 2 ∧ x.flag (Reg.PFX_SEG_CFG f.seg) 61 = true ∧ x.segTag f.seg = f.tag ∧ x.pfxSearch f.seg f.key = some r; taken ∧ f.pos ≠ x.cascPos ∧ f.probe = false ∧ found ∧ (f.hit = false ∨ x.cascPos < f.hitPos)) ∧
    (let s : State := on .prompt (fun x => let x := x.wr Reg.PFX_CASC_CFG (2 ^ 63 + 16 + 2); let x := run [0x1FF] (x.wr (Reg.PFX_SEG_CFG 255) (2 ^ 62 + 2 ^ 61)); { x with pfx := { x.pfx with entries := [(130560, ⟨5, 2 ^ 128 - 1, 9⟩)] } }); let c : ChId := .c0; let f : CascFrame := { zCascFrame with crcOk := true, hit := true, hitPos := 2, seg := 255, use := 1, tag := 77, key := 5 }; let r : Nat := 9; let x := s.ch c; let taken := x.serves = true ∧ f.crcOk = true ∧ x.cascState ≠ 0; let found := x.segUse f.seg = f.use ∧ f.use ≠ 2 ∧ x.flag (Reg.PFX_SEG_CFG f.seg) 61 = true ∧ x.segTag f.seg = f.tag ∧ x.pfxSearch f.seg f.key = some r; taken ∧ f.pos ≠ x.cascPos ∧ f.probe = false ∧ found ∧ (f.hit = false ∨ x.cascPos < f.hitPos)) ∧
    (let s : State := on .prompt (fun x => let x := x.wr Reg.PFX_CASC_CFG (2 ^ 63 + 16 + 2); let x := run [0x1FF] (x.wr (Reg.PFX_SEG_CFG 255) (2 ^ 62 + 2 ^ 61)); { x with pfx := { x.pfx with entries := [(130560, ⟨5, 2 ^ 128 - 1, 9⟩)] } }); let c : ChId := .c0; let f : CascFrame := { zCascFrame with crcOk := true, hit := true, hitPos := 1, seg := 255, use := 1, tag := 77, key := 5 }; let r : Nat := 9; let x := s.ch c; let taken := x.serves = true ∧ f.crcOk = true ∧ x.cascState ≠ 0; let found := x.segUse f.seg = f.use ∧ f.use ≠ 2 ∧ x.flag (Reg.PFX_SEG_CFG f.seg) 61 = true ∧ x.segTag f.seg = f.tag ∧ x.pfxSearch f.seg f.key = some r; taken ∧ f.pos ≠ x.cascPos ∧ f.probe = false ∧ found ∧ f.hit = true ∧ f.hitPos ≤ x.cascPos) ∧
    (let s : State := on .prompt (fun x => let x := x.wr Reg.PFX_CASC_CFG (2 ^ 63 + 16 + 2); { x with pfx := { x.pfx with waits := [⟨3, .cmd pf 0 0, 255, none, 9, false⟩], casc := 0, miss := 0 } }); let c : ChId := .c0; let f : CascFrame := { zCascFrame with crcOk := true, pos := 1, seq := 3, hit := true, hitPos := 2 }; let w : CascWait := ⟨3, .cmd pf 0 0, 255, none, 9, false⟩; let seq : Nat := 3; let x := s.ch c; let taken := x.serves = true ∧ f.crcOk = true ∧ x.cascState ≠ 0; let mine := x.pfx.waits.find? (fun w => decide (w.seq = f.seq ∧ w.probe = f.probe)) = some w; taken ∧ f.pos = x.cascPos ∧ mine ∧ w.probe = false ∧ f.hit = true ∧ f.hitPos ≠ x.cascPos) ∧
    (let s : State := on .prompt (fun x => let x := x.wr Reg.PFX_CASC_CFG (2 ^ 63 + 16 + 2); { x with pfx := { x.pfx with waits := [⟨3, .cmd pf 0 0, 255, none, 9, false⟩], casc := 0, miss := 0 } }); let c : ChId := .c0; let f : CascFrame := { zCascFrame with crcOk := true, pos := 1, seq := 3, hit := true, hitPos := 1 }; let w : CascWait := ⟨3, .cmd pf 0 0, 255, none, 9, false⟩; let seq : Nat := 3; let x := s.ch c; let taken := x.serves = true ∧ f.crcOk = true ∧ x.cascState ≠ 0; let mine := x.pfx.waits.find? (fun w => decide (w.seq = f.seq ∧ w.probe = f.probe)) = some w; taken ∧ f.pos = x.cascPos ∧ mine ∧ w.probe = false ∧ f.hit = true ∧ f.hitPos = x.cascPos) ∧
    (let s : State := on .prompt (fun x => let x := x.wr Reg.PFX_CASC_CFG (2 ^ 63 + 16 + 2); { x with pfx := { x.pfx with waits := [⟨3, .cmd pf 0 0, 255, none, 9, false⟩], casc := 0, miss := 0 } }); let c : ChId := .c0; let f : CascFrame := { zCascFrame with crcOk := true, pos := 1, seq := 3 }; let w : CascWait := ⟨3, .cmd pf 0 0, 255, none, 9, false⟩; let seq : Nat := 3; let x := s.ch c; let taken := x.serves = true ∧ f.crcOk = true ∧ x.cascState ≠ 0; let mine := x.pfx.waits.find? (fun w => decide (w.seq = f.seq ∧ w.probe = f.probe)) = some w; taken ∧ f.pos = x.cascPos ∧ mine ∧ w.probe = false ∧ f.hit = false) ∧
    (let s : State := on .prompt (fun x => let x := x.wr Reg.PFX_CASC_CFG (2 ^ 63 + 16 + 2); { x with pfx := { x.pfx with waits := [⟨3, .cmd pf 0 0, 255, none, 9, true⟩], casc := 2, miss := 0 } }); let c : ChId := .c0; let f : CascFrame := { zCascFrame with crcOk := true, pos := 1, seq := 3, probe := true }; let w : CascWait := ⟨3, .cmd pf 0 0, 255, none, 9, true⟩; let seq : Nat := 3; let x := s.ch c; let taken := x.serves = true ∧ f.crcOk = true ∧ x.cascState ≠ 0; let mine := x.pfx.waits.find? (fun w => decide (w.seq = f.seq ∧ w.probe = f.probe)) = some w; taken ∧ f.pos = x.cascPos ∧ mine ∧ w.probe = true ∧ x.pfx.casc = 2) ∧
    (let s : State := State.reset; let c : ChId := .c0; let f : CascFrame := { zCascFrame with crcOk := true, pos := 0 }; let x := s.ch c; (x.serves = false ∨ f.crcOk = false ∨ x.cascState = 0)) ∧
    (let s : State := on .prompt (fun x => let x := x.wr Reg.PFX_CASC_CFG (2 ^ 63 + 16 + 2); { x with pfx := { x.pfx with waits := [⟨3, .cmd pf 0 0, 255, none, 9, false⟩], casc := 0, miss := 2 } }); let c : ChId := .c0; let w : CascWait := ⟨3, .cmd pf 0 0, 255, none, 9, false⟩; let seq : Nat := 3; let x := s.ch c; let late := let y := (x.reach w.due).bump Reg.PFX_CASC_CNT 63 32 1; { y with pfx := { y.pfx with miss := y.pfx.miss + 1 } }; x.pfx.waits.find? (fun w => decide (w.seq = seq)) = some w ∧ 3 ≤ late.pfx.miss ∧ late.cascState = 1) := by
  dsimp only
  exact ⟨⟨by decide +kernel, by decide +kernel, by decide +kernel⟩,
    ⟨by decide +kernel, by decide +kernel, by decide +kernel, by decide +kernel, by decide +kernel⟩,
    ⟨by decide +kernel, by decide +kernel, by decide +kernel, by decide +kernel, by decide +kernel⟩,
    ⟨by decide +kernel, by decide +kernel, by decide +kernel, by decide +kernel, by decide +kernel, by decide +kernel⟩,
    ⟨by decide +kernel, by decide +kernel, by decide +kernel, by decide +kernel, by decide +kernel, by decide +kernel⟩,
    ⟨by decide +kernel, by decide +kernel, by decide +kernel, by decide +kernel, by decide +kernel, by decide +kernel⟩,
    ⟨by decide +kernel, by decide +kernel, by decide +kernel, by decide +kernel, by decide +kernel⟩,
    ⟨by decide +kernel, by decide +kernel, by decide +kernel, by decide +kernel, by decide +kernel⟩,
    by decide +kernel,
    ⟨by decide +kernel, by decide +kernel, by decide +kernel⟩⟩

theorem test_wit_Cascade_2 :
    (let s : State := on .prompt (fun x => let x := x.wr Reg.PFX_CASC_CFG (2 ^ 63 + 16 + 2); { x with pfx := { x.pfx with waits := [⟨3, .cmd pf 0 0, 255, none, 9, false⟩], casc := 0, miss := 1 } }); let c : ChId := .c0; let w : CascWait := ⟨3, .cmd pf 0 0, 255, none, 9, false⟩; let seq : Nat := 3; let x := s.ch c; let late := let y := (x.reach w.due).bump Reg.PFX_CASC_CNT 63 32 1; { y with pfx := { y.pfx with miss := y.pfx.miss + 1 } }; x.pfx.waits.find? (fun w => decide (w.seq = seq)) = some w ∧ (late.pfx.miss < 3 ∨ late.cascState ≠ 1)) ∧
    (let s : State := on .prompt (fun x => let x := x.wr Reg.PFX_CASC_CFG (2 ^ 63 + 16 + 2); { x with pfx := { x.pfx with waits := [⟨3, .cmd pf 0 0, 255, none, 9, false⟩], casc := 2, miss := 0 } }); let c : ChId := .c0; let x := s.ch c; x.serves = true ∧ x.cascState = 2) := by
  dsimp only
  exact ⟨⟨by decide +kernel, by decide +kernel⟩,
    ⟨by decide +kernel, by decide +kernel⟩⟩

/-! ### Witnesses: Tiers and fragments -/

/-- An object of no bytes under a storage key opens with its own tag. -/
def objKey : List Byte := List.replicate 32 1
def objAad : List Byte := objectAad 42 77 1 0 2
def objTag : List Byte := gcmTag (aesKeys objKey) [] objAad []
theorem objTag_length : objTag.length ≤ 16 := by
  have h : (beBytes 16 (ghash (beVal (aesBlock (aesKeys objKey) (List.replicate 16 0)))
    (padBlock objAad ++ padBlock [] ++ beBytes 8 (8 * objAad.length) ++ beBytes 8 (8 * 0)))).length = 16 := by simp [beBytes]
  unfold objTag gcmTag xorBytes
  simp only [List.length_zipWith, List.length_nil]
  omega
theorem obj_opens : gcmOpen objKey [] objAad [] ((objTag.drop 0).take 16) = some [] := by
  rw [List.drop_zero, List.take_of_length_le objTag_length]
  unfold gcmOpen objTag
  simp [gcmCtr, piecesOf, chunks]

/-- The connection of the tier statements: a cache role with a session to EID 6, with a context in slot 3. -/
def tierX (r : Role) (e : Entry) (f : Tiers → Tiers) : State :=
  on r (fun x => let x := ctx3 e (dma (withKey (peer6 x))); { x with tiers := f x.tiers })
def obj0 : TierObj := { zTierObj with epoch := 1, tag := objTag }

/-- A channel whose peer of EID 6 has a certificate with a module serial that is not this module's. -/
def awayChain : List Byte := List.replicate 264 0 ++ (leBytes 16 (if Config.moduleSerial = 0 then 1 else 0) ++ List.replicate 232 0)
def awayX (f : Tiers → Tiers) : State :=
  on .cache (fun x => let x := ctx3 (ent .parked) (dma (withKey (x.wr Reg.PG_RESERVE (2 ^ 32)))); { x with tiers := f x.tiers, sec := { x.sec with peers := [(6, ⟨awayChain, []⟩)] } })
theorem away_serial : leVal ((((awayChain.drop 256).take 256).drop 8).take 16) ≠ Config.moduleSerial := by
  have h : ∀ v : Nat, (((List.replicate 264 (0 : Byte) ++ (leBytes 16 v ++ List.replicate 232 0)).drop 256).take 256 |>.drop 8).take 16 = leBytes 16 v := fun _ => rfl
  unfold awayChain
  rw [h, leVal_leBytes]
  split <;> rename_i hs <;> omega
theorem away_open (f : Tiers → Tiers) (m : TierMsg) (h : (f (up .cache State.reset.ch0).tiers).sets.anyOf (fun _ f => f.isOf m && decide (f.index ≠ m.index)) = false) :
    ((awayX f).ch .c0).openRefusal 6 m = none := by
  have h1 : ((awayX f).ch .c0).rel.mode = .serving := rfl
  have h2 : ((awayX f).ch .c0).role.cur = .cache := rfl
  have h3 : ((awayX f).ch .c0).offModule 6 = true := by
    have := away_serial
    show decide (leVal ((((awayChain.drop 256).take 256).drop 8).take 16) ≠ Config.moduleSerial) = true
    simpa using this
  have h4 : ((awayX f).ch .c0).tiers.sets.anyOf (fun _ f => f.isOf m && decide (f.index ≠ m.index)) = false := h
  unfold Chan.openRefusal
  rw [if_neg (by rw [h1]; decide), if_neg (by rw [h2]; decide), if_neg (by rw [h3]; decide), h4]
  rfl

theorem test_wit_TierMoves_1 :
    (let s : State := tierX .cache ({ ent .parked with committed := 16 }) (fun t => t); let c : ChId := .c0; let src : Src := pf; let h : Nat := h3; let slot : Nat := 3; let first : Nat := 0; let count : Nat := 1; let target : Nat := 2; let lease : Nat := 0xFFFF; let st : Nat := 0xA7; let x := s.ch c; x.admitsCtx src ⟨false, false, false⟩ = true ∧ x.owns src h slot = true ∧ x.moveRefusal slot first count target lease = some st) ∧
    (let s : State := tierX .cache ({ ent .parked with committed := 16 }) (fun t => t); let c : ChId := .c0; let src : Src := pf; let h : Nat := h3; let slot : Nat := 3; let first : Nat := 0; let count : Nat := 2; let target : Nat := 2; let lease : Nat := 0xFFFF; let st : Nat := 0x28; let x := s.ch c; x.admitsCtx src ⟨false, false, false⟩ = true ∧ x.owns src h slot = true ∧ x.moveRefusal slot first count target lease = some st) ∧
    (let s : State := tierX .cache ({ ent .parked with committed := 16 }) (fun t => t); let c : ChId := .c0; let src : Src := pf; let h : Nat := h3; let slot : Nat := 3; let first : Nat := 0; let count : Nat := 0; let target : Nat := 2; let lease : Nat := 0xFFFF; let st : Nat := 0x28; let x := s.ch c; x.admitsCtx src ⟨false, false, false⟩ = true ∧ x.owns src h slot = true ∧ x.moveRefusal slot first count target lease = some st) ∧
    (let s : State := tierX .cache ({ ent .parked with committed := 16 }) (fun t => t); let c : ChId := .c0; let src : Src := pf; let h : Nat := h3; let slot : Nat := 3; let first : Nat := 0; let count : Nat := 1; let target : Nat := 3; let lease : Nat := 0xFFFF; let st : Nat := 0x28; let x := s.ch c; x.admitsCtx src ⟨false, false, false⟩ = true ∧ x.owns src h slot = true ∧ x.moveRefusal slot first count target lease = some st) ∧
    (let s : State := tierX .cache ({ ent .parked with committed := 16 }) (fun t => { t with t2Units := 1 }); let c : ChId := .c0; let src : Src := pf; let h : Nat := h3; let slot : Nat := 3; let first : Nat := 0; let count : Nat := 1; let target : Nat := 2; let lease : Nat := 0xFFFF; let x := s.ch c; x.admitsCtx src ⟨false, false, false⟩ = true ∧ x.owns src h slot = true ∧ x.moveRefusal slot first count target lease = none) ∧
    (let s : State := on .cache (fun x => let x := ctx3 ({ ent .parked with committed := 16 }) (dma (withKey (peer6 x))); let x := { x with tiers := { x.tiers with moves := [(3, { zTierMove with cmd := pf, reading := true })], objs := [(0, obj0)] } }; x.setMap 3 ((x.map 3).setRec 0 { PgRec.init with loc := .t2, frames := [(0, 0)] })); let c : ChId := .c0; let slot : Nat := 3; let m : TierMove := { zTierMove with cmd := pf, reading := true }; let o : TierObj := obj0; let bytes : List Byte := objTag; let body : List Byte := []; let x := s.ch c; let on := x.serves = true ∧ x.tiers.moves.find slot = some m ∧ x.moveObj slot m = some o; let read := o.t1 = false ∧ m.reading = true ∧ m.plain = none ∧ m.failed = false; on ∧ read ∧ x.openGroup slot o bytes = some body ∧ m.obj = none) ∧
    (let s : State := on .cache (fun x => let x := ctx3 ({ ent .parked with committed := 16 }) (dma (withKey (peer6 x))); let x := { x with tiers := { x.tiers with moves := [(3, { zTierMove with cmd := pf, reading := true, obj := some 0 })], objs := [(0, obj0)] } }; x.setMap 3 ((x.map 3).setRec 0 { PgRec.init with loc := .t2, frames := [(0, 0)] })); let c : ChId := .c0; let slot : Nat := 3; let k : Nat := 0; let m : TierMove := { zTierMove with cmd := pf, reading := true, obj := some 0 }; let o : TierObj := obj0; let bytes : List Byte := objTag; let body : List Byte := []; let x := s.ch c; let on := x.serves = true ∧ x.tiers.moves.find slot = some m ∧ x.moveObj slot m = some o; let read := o.t1 = false ∧ m.reading = true ∧ m.plain = none ∧ m.failed = false; on ∧ read ∧ x.openGroup slot o bytes = some body ∧ m.obj = some k ∧ x.tiers.objs.find k = some o) ∧
    (let s : State := on .cache (fun x => let x := ctx3 ({ ent .parked with committed := 16 }) (dma (withKey (peer6 x))); let x := { x with tiers := { x.tiers with moves := [(3, { zTierMove with cmd := pf, reading := true })], objs := [(0, obj0)] } }; x.setMap 3 ((x.map 3).setRec 0 { PgRec.init with loc := .t2, frames := [(0, 0)] })); let c : ChId := .c0; let slot : Nat := 3; let m : TierMove := { zTierMove with cmd := pf, reading := true }; let o : TierObj := obj0; let bytes : List Byte := []; let x := s.ch c; let on := x.serves = true ∧ x.tiers.moves.find slot = some m ∧ x.moveObj slot m = some o; let read := o.t1 = false ∧ m.reading = true ∧ m.plain = none ∧ m.failed = false; on ∧ read ∧ x.openGroup slot o bytes = none) ∧
    (let s : State := on .cache (fun x => let x := ctx3 ({ ent .parked with committed := 16 }) (dma (withKey (peer6 x))); let x := { x with tiers := { x.tiers with moves := [(3, { zTierMove with cmd := pf, obj := some 0 })], objs := [(0, { zTierObj with t1 := true })] } }; x); let c : ChId := .c0; let slot : Nat := 3; let m : TierMove := { zTierMove with cmd := pf, obj := some 0 }; let o : TierObj := { zTierObj with t1 := true }; let x := s.ch c; let on := x.serves = true ∧ x.tiers.moves.find slot = some m ∧ x.moveObj slot m = some o; on ∧ m.reading = false ∧ o.t1 = true ∧ m.left = 0 ∧ m.failed = false) ∧
    (let s : State := on .cache (fun x => let x := ctx3 ({ ent .parked with committed := 16 }) (dma (withKey (peer6 x))); let x := { x with tiers := { x.tiers with moves := [(3, { zTierMove with cmd := pf, obj := some 0 })], objs := [(0, zTierObj)] } }; x); let c : ChId := .c0; let slot : Nat := 3; let m : TierMove := { zTierMove with cmd := pf, obj := some 0 }; let o : TierObj := zTierObj; let x := s.ch c; let on := x.serves = true ∧ x.tiers.moves.find slot = some m ∧ x.moveObj slot m = some o; on ∧ m.reading = false ∧ o.t1 = false) := by
  dsimp only
  exact ⟨⟨by decide +kernel, by decide +kernel, by decide +kernel⟩,
    ⟨by decide +kernel, by decide +kernel, by decide +kernel⟩,
    ⟨by decide +kernel, by decide +kernel, by decide +kernel⟩,
    ⟨by decide +kernel, by decide +kernel, by decide +kernel⟩,
    ⟨by decide +kernel, by decide +kernel, by decide +kernel⟩,
    ⟨⟨by decide +kernel, by decide +kernel, by decide +kernel⟩, by decide +kernel, obj_opens, by decide +kernel⟩,
    ⟨⟨by decide +kernel, by decide +kernel, rfl⟩, by decide +kernel, obj_opens, by decide +kernel, rfl⟩,
    ⟨⟨by decide +kernel, by decide +kernel, rfl⟩, by decide +kernel, by decide +kernel⟩,
    ⟨by decide +kernel, by decide +kernel, by decide +kernel, by decide +kernel, by decide +kernel⟩,
    ⟨by decide +kernel, by decide +kernel, by decide +kernel⟩⟩

theorem test_wit_TierMoves_2 :
    (let s : State := tierX .cache (ent .parked) (fun t => { t with reads := [(3, { zShareRead with unit := 1, red := 1, shares := [{ zShare with index := 1 }] })] }); let c : ChId := .c0; let slot : Nat := 3; let stripe : Nat := 0; let share : Nat := 1; let r : ShareRead := { zShareRead with unit := 1, red := 1, shares := [{ zShare with index := 1 }] }; let f : Share := { zShare with index := 1 }; let x := s.ch c; x.serves = true ∧ x.tiers.reads.find slot = some r ∧ r.unit = stripe + 1 ∧ r.chosen.find? (fun y => decide (y.index = share)) = some f ∧ (r.whole f = false ∨ f.head = [])) ∧
    (let s : State := tierX .cache (ent .parked) (fun t => { t with reads := [(3, { zShareRead with unit := 1, red := 1, shares := [{ zShare with index := 1, head := [1], buf := List.replicate 16 0 }] })] }); let c : ChId := .c0; let slot : Nat := 3; let stripe : Nat := 0; let share : Nat := 1; let r : ShareRead := { zShareRead with unit := 1, red := 1, shares := [{ zShare with index := 1, head := [1], buf := List.replicate 16 0 }] }; let f : Share := { zShare with index := 1, head := [1], buf := List.replicate 16 0 }; let x := s.ch c; x.serves = true ∧ x.tiers.reads.find slot = some r ∧ r.unit = stripe + 1 ∧ r.chosen.find? (fun y => decide (y.index = share)) = some f ∧ r.whole f = true ∧ f.head ≠ []) := by
  dsimp only
  exact ⟨⟨by decide +kernel, by decide +kernel, by decide +kernel, by decide +kernel, by decide +kernel⟩,
    ⟨by decide +kernel, by decide +kernel, by decide +kernel, by decide +kernel, by decide +kernel, by decide +kernel⟩⟩

theorem test_wit_Leases_1 :
    (let s : State := tierX .cache (ent .parked) (fun t => t); let c : ChId := .c0; let src : Src := pf; let peer : Nat := 6; let n : Nat := 65537; let x := s.ch c; let pf := x.admits src ⟨true, false, false⟩ = true; let sized := 1 ≤ n ∧ n ≤ 65536 ∧ peer < 2 ^ 18; pf ∧ ¬ sized) ∧
    (let s : State := tierX .cache (ent .parked) (fun t => t); let c : ChId := .c0; let src : Src := pf; let peer : Nat := 6; let n : Nat := 0; let x := s.ch c; let pf := x.admits src ⟨true, false, false⟩ = true; let sized := 1 ≤ n ∧ n ≤ 65536 ∧ peer < 2 ^ 18; pf ∧ ¬ sized) ∧
    (let s : State := tierX .cache (ent .parked) (fun t => t); let c : ChId := .c0; let src : Src := pf; let peer : Nat := 2 ^ 18; let n : Nat := 65536; let x := s.ch c; let pf := x.admits src ⟨true, false, false⟩ = true; let sized := 1 ≤ n ∧ n ≤ 65536 ∧ peer < 2 ^ 18; pf ∧ ¬ sized) ∧
    (let s : State := on .cache (fun x => x.wr Reg.CHN_EID 0); let c : ChId := .c0; let src : Src := pf; let peer : Nat := 6; let n : Nat := 65536; let x := s.ch c; let pf := x.admits src ⟨true, false, false⟩ = true; let sized := 1 ≤ n ∧ n ≤ 65536 ∧ peer < 2 ^ 18; pf ∧ sized ∧ x.eid = none) ∧
    (let s : State := tierX .cache (ent .parked) (fun t => t); let c : ChId := .c0; let src : Src := pf; let peer : Nat := 5; let n : Nat := 65536; let me : Nat := 5; let x := s.ch c; let pf := x.admits src ⟨true, false, false⟩ = true; let sized := 1 ≤ n ∧ n ≤ 65536 ∧ peer < 2 ^ 18; pf ∧ sized ∧ x.eid = some me ∧ peer = me) ∧
    (let s : State := tierX .cache (ent .parked) (fun t => t); let c : ChId := .c0; let src : Src := pf; let peer : Nat := 7; let n : Nat := 65536; let me : Nat := 5; let x := s.ch c; let pf := x.admits src ⟨true, false, false⟩ = true; let sized := 1 ≤ n ∧ n ≤ 65536 ∧ peer < 2 ^ 18; pf ∧ sized ∧ x.eid = some me ∧ peer ≠ me ∧ x.session peer = false) ∧
    (let s : State := on .cache (fun x => peer6 (x.wr Reg.TIER_LEND_CFG (2 ^ 18 * 2 ^ 32 - 2 ^ 32))); let c : ChId := .c0; let src : Src := pf; let peer : Nat := 6; let n : Nat := 65536; let me : Nat := 5; let x := s.ch c; let pf := x.admits src ⟨true, false, false⟩ = true; let sized := 1 ≤ n ∧ n ≤ 65536 ∧ peer < 2 ^ 18; pf ∧ sized ∧ x.eid = some me ∧ peer ≠ me ∧ x.session peer = true ∧ x.idleSlabs < n) ∧
    (let s : State := tierX .cache (ent .parked) (fun t => t); let c : ChId := .c0; let src : Src := pf; let peer : Nat := 6; let n : Nat := 1; let i : Nat := 0; let me : Nat := 5; let x := s.ch c; let pf := x.admits src ⟨true, false, false⟩ = true; let sized := 1 ≤ n ∧ n ≤ 65536 ∧ peer < 2 ^ 18; ∃ (r : Nat) (slabs : List Nat) (y : Chan) (z : Chan), pf ∧ sized ∧ x.eid = some me ∧ peer ≠ me ∧ x.session peer = true ∧ n ≤ x.idleSlabs ∧ x.freeLease = some i ∧ x.takeSlabs n 3 = some (slabs, y) ∧ y.register { Region.init with kind := .lease i, pd := 0, rights := 3, ownerCheck := true, ownerEid := peer, slabs := slabs, size := n * (2 * mib) } = some (r, z)) ∧
    (let s : State := on .cache (fun x => let x := peer6 x; { x with rel := { x.rel with mode := .shadow } }); let c : ChId := .c0; let peer : Nat := 6; let m : TierMsg := zTierMsg; let x := s.ch c; let asked := x.serves = true ∧ x.eid ≠ none ∧ x.session peer = true ∧ x.tiers.answered.find? (fun a => decide (a.peer = peer ∧ a.reqNum = m.reqNum ∧ x.time < a.until_)) = none; asked ∧ x.rel.mode = .shadow) ∧
    (let s : State := tierX .cache (ent .parked) (fun t => { t with leases := (List.range 256).map (fun i => (i, zLease)) }); let c : ChId := .c0; let peer : Nat := 6; let m : TierMsg := zTierMsg; let x := s.ch c; let asked := x.serves = true ∧ x.eid ≠ none ∧ x.session peer = true ∧ x.tiers.answered.find? (fun a => decide (a.peer = peer ∧ a.reqNum = m.reqNum ∧ x.time < a.until_)) = none; asked ∧ x.rel.mode ≠ .shadow ∧ x.freeLease = none) := by
  dsimp only
  exact ⟨⟨by decide +kernel, by decide +kernel⟩,
    ⟨by decide +kernel, by decide +kernel⟩,
    ⟨by decide +kernel, by decide +kernel⟩,
    ⟨by decide +kernel, by decide +kernel, by decide +kernel⟩,
    ⟨by decide +kernel, by decide +kernel, by decide +kernel, by decide +kernel⟩,
    ⟨by decide +kernel, by decide +kernel, by decide +kernel, by decide +kernel, by decide +kernel⟩,
    ⟨by decide +kernel, by decide +kernel, by decide +kernel, by decide +kernel, by decide +kernel, by decide +kernel⟩,
    (by apply Exists.intro; apply Exists.intro; apply Exists.intro; apply Exists.intro; refine ⟨?p5_0, ?p5_1, ?p5_2, ?p5_3, ?p5_4, ?p5_5, ?p5_6, ?p5_7, ?p5_8⟩; (case p5_0 => decide +kernel); (case p5_1 => decide +kernel); (case p5_2 => decide +kernel); (case p5_3 => decide +kernel); (case p5_4 => decide +kernel); (case p5_5 => decide +kernel); (case p5_6 => decide +kernel); (case p5_7 => apply get_pair; decide +kernel); (case p5_8 => apply get_pair; decide +kernel)),
    ⟨by decide +kernel, by decide +kernel⟩,
    ⟨by decide +kernel, by decide +kernel, by decide +kernel⟩⟩

theorem test_wit_Leases_2 :
    (let s : State := tierX .cache (ent .parked) (fun t => t); let c : ChId := .c0; let peer : Nat := 6; let i : Nat := 0; let m : TierMsg := zTierMsg; let x := s.ch c; let asked := x.serves = true ∧ x.eid ≠ none ∧ x.session peer = true ∧ x.tiers.answered.find? (fun a => decide (a.peer = peer ∧ a.reqNum = m.reqNum ∧ x.time < a.until_)) = none; asked ∧ x.rel.mode ≠ .shadow ∧ x.freeLease = some i) ∧
    (let s : State := tierX .cache (ent .parked) (fun t => { t with reqs := [(0, { zTierReq with ty := 1, peer := 6, what := .lease 0 })], leases := [(0, zLease)] }); let c : ChId := .c0; let peer : Nat := 6; let i : Nat := 0; let m : TierMsg := zTierMsg; let l : Lease := zLease; let q : TierReq := { zTierReq with ty := 1, peer := 6, what := .lease 0 }; let x := s.ch c; let answers := fun (tys : List Nat) => x.serves = true ∧ x.tiers.reqs.find m.reqNum = some q ∧ q.peer = peer ∧ tys.contains q.ty = true; answers [1] ∧ q.what = .lease i ∧ x.tiers.leases.find i = some l) ∧
    (let s : State := tierX .cache (ent .parked) (fun t => { t with reqs := [(0, { zTierReq with ty := 1, peer := 6, what := .free })] }); let c : ChId := .c0; let peer : Nat := 6; let m : TierMsg := zTierMsg; let q : TierReq := { zTierReq with ty := 1, peer := 6, what := .free }; let x := s.ch c; let answers := fun (tys : List Nat) => x.serves = true ∧ x.tiers.reqs.find m.reqNum = some q ∧ q.peer = peer ∧ tys.contains q.ty = true; answers [1, 3, 5, 7, 9, 0x0C]) ∧
    (let s : State := tierX .cache (ent .parked) (fun t => { t with reqs := [(0, { zTierReq with ty := 0x0C, peer := 6, what := .free })] }); let c : ChId := .c0; let peer : Nat := 6; let m : TierMsg := zTierMsg; let q : TierReq := { zTierReq with ty := 0x0C, peer := 6, what := .free }; let x := s.ch c; let answers := fun (tys : List Nat) => x.serves = true ∧ x.tiers.reqs.find m.reqNum = some q ∧ q.peer = peer ∧ tys.contains q.ty = true; answers [1, 3, 5, 7, 9, 0x0C]) ∧
    (let s : State := tierX .cache (ent .parked) (fun t => t); let c : ChId := .c0; let src : Src := pf; let i : Nat := 0; let x := s.ch c; let pf := x.admits src ⟨true, false, false⟩ = true; pf ∧ x.tiers.leases.find i = none) ∧
    (let s : State := tierX .cache (ent .parked) (fun t => { t with leases := [(0, { zLease with peer := 6, lent := true })] }); let c : ChId := .c0; let src : Src := pf; let peer : Nat := 6; let i : Nat := 0; let l : Lease := { zLease with peer := 6, lent := true }; let x := s.ch c; let pf := x.admits src ⟨true, false, false⟩ = true; pf ∧ x.tiers.leases.find i = some l ∧ l.lent = true ∧ (l.granted = false ∨ l.cmd ≠ none)) ∧
    (let s : State := tierX .cache (ent .parked) (fun t => { t with leases := [(0, { zLease with peer := 6, lent := true, granted := true })] }); let c : ChId := .c0; let src : Src := pf; let peer : Nat := 6; let i : Nat := 0; let l : Lease := { zLease with peer := 6, lent := true, granted := true }; let x := s.ch c; let pf := x.admits src ⟨true, false, false⟩ = true; pf ∧ x.tiers.leases.find i = some l ∧ l.lent = true ∧ l.granted = true ∧ l.cmd = none) ∧
    (let s : State := tierX .cache (ent .parked) (fun t => t); let c : ChId := .c0; let peer : Nat := 6; let m : TierMsg := zTierMsg; let x := s.ch c; let asked := x.serves = true ∧ x.eid ≠ none ∧ x.session peer = true ∧ x.tiers.answered.find? (fun a => decide (a.peer = peer ∧ a.reqNum = m.reqNum ∧ x.time < a.until_)) = none; asked ∧ x.borrowed peer m.region = none) ∧
    (let s : State := tierX .cache (ent .parked) (fun t => { t with leases := [(0, { zLease with peer := 6, recalling := true })] }); let c : ChId := .c0; let peer : Nat := 6; let i : Nat := 0; let m : TierMsg := zTierMsg; let l : Lease := { zLease with peer := 6, recalling := true }; let x := s.ch c; let asked := x.serves = true ∧ x.eid ≠ none ∧ x.session peer = true ∧ x.tiers.answered.find? (fun a => decide (a.peer = peer ∧ a.reqNum = m.reqNum ∧ x.time < a.until_)) = none; asked ∧ x.borrowed peer m.region = some i ∧ x.tiers.leases.find i = some l ∧ l.recalling = true) ∧
    (let s : State := tierX .cache (ent .parked) (fun t => { t with leases := [(0, { zLease with peer := 6, granted := true })] }); let c : ChId := .c0; let peer : Nat := 6; let i : Nat := 0; let m : TierMsg := zTierMsg; let l : Lease := { zLease with peer := 6, granted := true }; let x := s.ch c; let asked := x.serves = true ∧ x.eid ≠ none ∧ x.session peer = true ∧ x.tiers.answered.find? (fun a => decide (a.peer = peer ∧ a.reqNum = m.reqNum ∧ x.time < a.until_)) = none; asked ∧ x.borrowed peer m.region = some i ∧ x.tiers.leases.find i = some l ∧ l.recalling = false) := by
  dsimp only
  exact ⟨⟨by decide +kernel, by decide +kernel, by decide +kernel⟩,
    ⟨by decide +kernel, by decide +kernel, by decide +kernel⟩,
    by decide +kernel,
    by decide +kernel,
    ⟨by decide +kernel, by decide +kernel⟩,
    ⟨by decide +kernel, by decide +kernel, by decide +kernel, by decide +kernel⟩,
    ⟨by decide +kernel, by decide +kernel, by decide +kernel, by decide +kernel, by decide +kernel⟩,
    ⟨by decide +kernel, by decide +kernel⟩,
    ⟨by decide +kernel, by decide +kernel, by decide +kernel, by decide +kernel⟩,
    ⟨by decide +kernel, by decide +kernel, by decide +kernel, by decide +kernel⟩⟩

theorem test_wit_Leases_3 :
    (let s : State := tierX .cache (ent .parked) (fun t => { t with leases := [(0, { zLease with peer := 6, lent := true, recalling := true, region := 5 })] }); let c : ChId := .c0; let peer : Nat := 6; let i : Nat := 0; let m : TierMsg := { zTierMsg with region := regionWord 5 0 0 }; let l : Lease := { zLease with peer := 6, lent := true, recalling := true, region := 5 }; let x := s.ch c; x.serves = true ∧ ((x.tiers.leases.keysWhere (fun _ l => l.lent && l.recalling && decide (l.peer = peer ∧ x.regionField l.region = m.region))).head? = some i) ∧ x.tiers.leases.find i = some l) ∧
    (let s : State := tierX .cache (ent .parked) (fun t => { t with leases := [(0, { zLease with peer := 6, recallEnd := some 9 })] }); let c : ChId := .c0; let peer : Nat := 6; let i : Nat := 0; let t : Nat := 9; let l : Lease := { zLease with peer := 6, recallEnd := some 9 }; let x := s.ch c; x.tiers.leases.find i = some l ∧ l.recallEnd = some t) ∧
    (let s : State := tierX .cache (ent .parked) (fun t => { t with reqs := [(0, { zTierReq with ty := 1, peer := 6, tries := 7 })] }); let c : ChId := .c0; let peer : Nat := 6; let req : Nat := 0; let q : TierReq := { zTierReq with ty := 1, peer := 6, tries := 7 }; let x := s.ch c; x.tiers.reqs.find req = some q ∧ x.serves = true ∧ q.tries < 8) ∧
    (let s : State := tierX .cache (ent .parked) (fun t => { t with reqs := [(0, { zTierReq with ty := 1, peer := 6, tries := 8 })] }); let c : ChId := .c0; let peer : Nat := 6; let req : Nat := 0; let q : TierReq := { zTierReq with ty := 1, peer := 6, tries := 8 }; let x := s.ch c; x.tiers.reqs.find req = some q ∧ x.serves = true ∧ 8 ≤ q.tries) ∧
    (let s : State := tierX .cache (ent .parked) (fun t => { t with t2Units := 1 }); let c : ChId := .c0; let src : Src := pf; let addr : Nat := 2 ^ 64 - 2097152; let units : Nat := 1; let x := s.ch c; let pf := x.admits src ⟨true, false, false⟩ = true; pf ∧ x.tiers.t2Units ≠ 0 ∧ addr % (2 * mib) = 0 ∧ 1 ≤ units ∧ units ≤ 2 ^ 32 ∧ addr + units * (2 * mib) ≤ 2 ^ 64) ∧
    (let s : State := tierX .cache (ent .parked) (fun t => t); let c : ChId := .c0; let src : Src := pf; let addr : Nat := 0; let units : Nat := 2 ^ 32; let x := s.ch c; let pf := x.admits src ⟨true, false, false⟩ = true; pf ∧ x.tiers.t2Units = 0 ∧ addr % (2 * mib) = 0 ∧ 1 ≤ units ∧ units ≤ 2 ^ 32 ∧ addr + units * (2 * mib) ≤ 2 ^ 64) ∧
    (let s : State := tierX .cache (ent .parked) (fun t => t); let c : ChId := .c0; let src : Src := pf; let x := s.ch c; let pf := x.admits src ⟨true, false, false⟩ = true; pf ∧ x.tiers.t2Units = 0) ∧
    (let s : State := tierX .cache (ent .parked) (fun t => { t with t2Units := 1 }); let c : ChId := .c0; let src : Src := pf; let force : Bool := false; let x := s.ch c; let pf := x.admits src ⟨true, false, false⟩ = true; pf ∧ x.tiers.t2Units ≠ 0 ∧ force = false ∧ x.tiers.t2Removing = none) := by
  dsimp only
  exact ⟨⟨by decide +kernel, by decide +kernel, by decide +kernel⟩,
    ⟨by decide +kernel, by decide +kernel⟩,
    ⟨by decide +kernel, by decide +kernel, by decide +kernel⟩,
    ⟨by decide +kernel, by decide +kernel, by decide +kernel⟩,
    ⟨by decide +kernel, by decide +kernel, by decide +kernel, by decide +kernel, by decide +kernel, by decide +kernel⟩,
    ⟨by decide +kernel, by decide +kernel, by decide +kernel, by decide +kernel, by decide +kernel, by decide +kernel⟩,
    ⟨by decide +kernel, by decide +kernel⟩,
    ⟨by decide +kernel, by decide +kernel, by decide +kernel, by decide +kernel⟩⟩

theorem test_wit_FragmentSets_1 :
    (let s : State := tierX .prompt (ent .parked) (fun t => t); let c : ChId := .c0; let req : Nat := 42; let tag : Nat := 77; let epoch : Nat := 1; let peer : Nat := 6; let reason : Nat := 1; let m : TierMsg := { zTierMsg with req := 42, tag := 77, epoch := 1, length := 4096 }; let x := s.ch c; let asked := x.serves = true ∧ x.eid ≠ none ∧ x.session peer = true ∧ x.tiers.answered.find? (fun a => decide (a.peer = peer ∧ a.reqNum = m.reqNum ∧ x.time < a.until_)) = none; asked ∧ x.openRefusal peer m = some reason) ∧
    (let s : State := awayX (fun t => t); let c : ChId := .c0; let req : Nat := 42; let tag : Nat := 77; let epoch : Nat := 1; let peer : Nat := 6; let k : Nat := 0; let m : TierMsg := { zTierMsg with req := 42, tag := 77, epoch := 1, length := 2 ^ 30 + 1 }; let f : FragSet := zFragSet; let x := s.ch c; let asked := x.serves = true ∧ x.eid ≠ none ∧ x.session peer = true ∧ x.tiers.answered.find? (fun a => decide (a.peer = peer ∧ a.reqNum = m.reqNum ∧ x.time < a.until_)) = none; let room := (x.tiers.sets.keysWhere (fun _ f => f.isOf m)).foldl (fun x k => x.dropSet k false) x; asked ∧ x.openRefusal peer m = none ∧ room.fragRoom m.length = none) ∧
    (let s : State := (awayX (fun t => t)); let c : ChId := .c0; let req : Nat := 42; let tag : Nat := 77; let epoch : Nat := 1; let peer : Nat := 6; let k : Nat := 0; let m : TierMsg := { zTierMsg with req := 42, tag := 77, epoch := 1, length := 4096 }; let f : FragSet := zFragSet; let x := s.ch c; let asked := x.serves = true ∧ x.eid ≠ none ∧ x.session peer = true ∧ x.tiers.answered.find? (fun a => decide (a.peer = peer ∧ a.reqNum = m.reqNum ∧ x.time < a.until_)) = none; let room := (x.tiers.sets.keysWhere (fun _ f => f.isOf m)).foldl (fun x k => x.dropSet k false) x; ∃ (base : Nat) (r : Nat) (y : Chan), let region := { Region.init with kind := .frag room.tiers.nextSet, pd := 0, rights := 3, ownerCheck := true, ownerEid := peer, base := room.fragBase + base, size := m.length }; asked ∧ x.openRefusal peer m = none ∧ room.fragRoom m.length = some base ∧ room.register region = some (r, y)) ∧
    (let s : State := tierX .cache (ent .parked) (fun t => t); let c : ChId := .c0; let req : Nat := 42; let tag : Nat := 77; let epoch : Nat := 1; let peer : Nat := 6; let m : TierMsg := { zTierMsg with req := 42, tag := 77, epoch := 1, length := 4096 }; let f : FragSet := zFragSet; let x := s.ch c; let asked := x.serves = true ∧ x.eid ≠ none ∧ x.session peer = true ∧ x.tiers.answered.find? (fun a => decide (a.peer = peer ∧ a.reqNum = m.reqNum ∧ x.time < a.until_)) = none; let sealing := (x.tiers.sets.keysWhere (fun _ f => f.isOf m && decide (f.index = m.index ∧ f.home = peer))).head?; asked ∧ sealing = none) ∧
    (let s : State := tierX .cache (ent .parked) (fun t => { t with sets := [(0, { zFragSet with home := 6, req := 42, tag := 77, epoch := 1, length := 0 })] }); let c : ChId := .c0; let req : Nat := 42; let tag : Nat := 77; let epoch : Nat := 1; let peer : Nat := 6; let k : Nat := 0; let m : TierMsg := { zTierMsg with req := 42, tag := 77, epoch := 1, check := 2 ^ 128, length := 4096 }; let f : FragSet := { zFragSet with home := 6, req := 42, tag := 77, epoch := 1, length := 0 }; let x := s.ch c; let asked := x.serves = true ∧ x.eid ≠ none ∧ x.session peer = true ∧ x.tiers.answered.find? (fun a => decide (a.peer = peer ∧ a.reqNum = m.reqNum ∧ x.time < a.until_)) = none; let sums := beVal ((sha512t256 (x.regionRead (x.region f.region) 0 f.length)).take 16) = m.check; let sealing := (x.tiers.sets.keysWhere (fun _ f => f.isOf m && decide (f.index = m.index ∧ f.home = peer))).head?; asked ∧ sealing = some k ∧ x.tiers.sets.find k = some f ∧ ¬ sums) ∧
    (let s : State := tierX .cache (ent .parked) (fun t => { t with sets := [(0, { zFragSet with home := 6, req := 42, tag := 77, epoch := 1, length := 0 })] }); let c : ChId := .c0; let req : Nat := 42; let tag : Nat := 77; let epoch : Nat := 1; let peer : Nat := 6; let k : Nat := 0; let m : TierMsg := { zTierMsg with req := 42, tag := 77, epoch := 1, check := beVal ((sha512t256 []).take 16) }; let f : FragSet := { zFragSet with home := 6, req := 42, tag := 77, epoch := 1, length := 0 }; let x := s.ch c; let asked := x.serves = true ∧ x.eid ≠ none ∧ x.session peer = true ∧ x.tiers.answered.find? (fun a => decide (a.peer = peer ∧ a.reqNum = m.reqNum ∧ x.time < a.until_)) = none; let sums := beVal ((sha512t256 (x.regionRead (x.region f.region) 0 f.length)).take 16) = m.check; let sealing := (x.tiers.sets.keysWhere (fun _ f => f.isOf m && decide (f.index = m.index ∧ f.home = peer))).head?; asked ∧ sealing = some k ∧ x.tiers.sets.find k = some f ∧ sums) ∧
    (let s : State := tierX .cache (ent .parked) (fun t => t); let c : ChId := .c0; let req : Nat := 42; let tag : Nat := 77; let epoch : Nat := 1; let peer : Nat := 6; let m : TierMsg := { zTierMsg with req := 42, tag := 77, epoch := 1, length := 4096 }; let x := s.ch c; let asked := x.serves = true ∧ x.eid ≠ none ∧ x.session peer = true ∧ x.tiers.answered.find? (fun a => decide (a.peer = peer ∧ a.reqNum = m.reqNum ∧ x.time < a.until_)) = none; asked ∧ x.freedBy peer m = []) ∧
    (let s : State := tierX .cache (ent .parked) (fun t => { t with sets := [(0, { zFragSet with home := 6, req := 42, tag := 77, epoch := 1, length := 0 })] }); let c : ChId := .c0; let req : Nat := 42; let tag : Nat := 77; let epoch : Nat := 1; let peer : Nat := 6; let k : Nat := 0; let m : TierMsg := { zTierMsg with req := 42, tag := 77, epoch := 1, length := 4096 }; let ks : List Nat := []; let x := s.ch c; let asked := x.serves = true ∧ x.eid ≠ none ∧ x.session peer = true ∧ x.tiers.answered.find? (fun a => decide (a.peer = peer ∧ a.reqNum = m.reqNum ∧ x.time < a.until_)) = none; asked ∧ x.freedBy peer m = k :: ks) ∧
    (let s : State := tierX .cache (ent .parked) (fun t => t); let c : ChId := .c0; let req : Nat := 42; let tag : Nat := 77; let epoch : Nat := 1; let peer : Nat := 6; let m : TierMsg := { zTierMsg with req := 42, tag := 77, epoch := 1, length := 4096 }; let f : FragSet := zFragSet; let x := s.ch c; let asked := x.serves = true ∧ x.eid ≠ none ∧ x.session peer = true ∧ x.tiers.answered.find? (fun a => decide (a.peer = peer ∧ a.reqNum = m.reqNum ∧ x.time < a.until_)) = none; let wanted := (x.tiers.sets.keysWhere (fun _ f => f.isOf m && f.isSealed && decide (f.index = m.index))).head?; asked ∧ wanted = none) ∧
    (let s : State := tierX .cache (ent .parked) (fun t => { t with sets := [(0, { zFragSet with home := 6, req := 42, tag := 77, epoch := 1, length := 0, isSealed := true })] }); let c : ChId := .c0; let req : Nat := 42; let tag : Nat := 77; let epoch : Nat := 1; let peer : Nat := 6; let k : Nat := 0; let m : TierMsg := { zTierMsg with req := 42, tag := 77, epoch := 1, length := 4096 }; let f : FragSet := { zFragSet with home := 6, req := 42, tag := 77, epoch := 1, length := 0, isSealed := true }; let x := s.ch c; let asked := x.serves = true ∧ x.eid ≠ none ∧ x.session peer = true ∧ x.tiers.answered.find? (fun a => decide (a.peer = peer ∧ a.reqNum = m.reqNum ∧ x.time < a.until_)) = none; let wanted := (x.tiers.sets.keysWhere (fun _ f => f.isOf m && f.isSealed && decide (f.index = m.index))).head?; asked ∧ wanted = some k ∧ x.tiers.sets.find k = some f) := by
  dsimp only
  exact ⟨⟨by decide +kernel, by decide +kernel⟩,
    ⟨by decide +kernel, away_open _ _ rfl, by decide +kernel⟩,
    (by apply Exists.intro; apply Exists.intro; apply Exists.intro; refine ⟨?p2_0, ?p2_1, ?p2_2, ?p2_3⟩; (case p2_0 => decide +kernel); (case p2_1 => exact away_open _ _ rfl); (case p2_2 => apply get_one; decide +kernel); (case p2_3 => apply get_pair; decide +kernel)),
    ⟨by decide +kernel, by decide +kernel⟩,
    ⟨by decide +kernel, by decide +kernel, by decide +kernel, by decide +kernel⟩,
    ⟨by decide +kernel, by decide +kernel, rfl, rfl⟩,
    ⟨by decide +kernel, by decide +kernel⟩,
    ⟨by decide +kernel, by decide +kernel⟩,
    ⟨by decide +kernel, by decide +kernel⟩,
    ⟨by decide +kernel, by decide +kernel, by decide +kernel⟩⟩

theorem test_wit_FragmentSets_2 :
    (let s : State := tierX .cache (ent .parked) (fun t => { t with reqs := [(0, { zTierReq with ty := 5, peer := 6, what := .home 3 0 })] }); let c : ChId := .c0; let slot : Nat := 3; let peer : Nat := 6; let i : Nat := 0; let m : TierMsg := zTierMsg; let q : TierReq := { zTierReq with ty := 5, peer := 6, what := .home 3 0 }; let x := s.ch c; let answers := fun (ty : Nat) => x.serves = true ∧ x.tiers.reqs.find m.reqNum = some q ∧ q.peer = peer ∧ q.ty = ty; answers 5 ∧ q.what = .home slot i) ∧
    (let s : State := tierX .cache (ent .parked) (fun t => { t with reqs := [(0, { zTierReq with ty := 7, peer := 6, what := .home 3 0 })], writing := [(3, { zHomeSet with red := 1, holders := [{ zHolder with step := 2 }] })] }); let c : ChId := .c0; let slot : Nat := 3; let peer : Nat := 6; let i : Nat := 0; let m : TierMsg := zTierMsg; let q : TierReq := { zTierReq with ty := 7, peer := 6, what := .home 3 0 }; let y : Chan := State.reset.ch0; let x := s.ch c; let answers := fun (ty : Nat) => x.serves = true ∧ x.tiers.reqs.find m.reqNum = some q ∧ q.peer = peer ∧ q.ty = ty; let rest := { x with tiers := { x.tiers with reqs := x.tiers.reqs.del m.reqNum } }; let sealed3 := rest.setHolder slot i (fun y => { y with step := 3 }); ∃ (w : HomeSet), answers 7 ∧ q.what = .home slot i ∧ sealed3.tiers.writing.find slot = some w ∧ w.holders.length = schemeN w.red ∧ (∀ y ∈ w.holders, y.step = 3)) ∧
    (let s : State := tierX .cache (ent .parked) (fun t => { t with reqs := [(0, { zTierReq with ty := 7, peer := 6, what := .home 3 1 })], writing := [(3, { zHomeSet with red := 1, holders := [{ zHolder with index := 0, step := 2 }, { zHolder with index := 1, step := 3 }] })] }); let c : ChId := .c0; let slot : Nat := 3; let peer : Nat := 6; let i : Nat := 1; let m : TierMsg := zTierMsg; let q : TierReq := { zTierReq with ty := 7, peer := 6, what := .home 3 1 }; let y : Chan := State.reset.ch0; let x := s.ch c; let answers := fun (ty : Nat) => x.serves = true ∧ x.tiers.reqs.find m.reqNum = some q ∧ q.peer = peer ∧ q.ty = ty; let rest := { x with tiers := { x.tiers with reqs := x.tiers.reqs.del m.reqNum } }; let sealed3 := rest.setHolder slot i (fun y => { y with step := 3 }); ∃ (w : HomeSet), answers 7 ∧ q.what = .home slot i ∧ sealed3.tiers.writing.find slot = some w ∧ (∃ y ∈ w.holders, y.step ≠ 3)) ∧
    (let s : State := tierX .cache (ent .parked) (fun t => { t with reqs := [(0, { zTierReq with ty := 9, peer := 6, what := .free })] }); let c : ChId := .c0; let peer : Nat := 6; let m : TierMsg := zTierMsg; let q : TierReq := { zTierReq with ty := 9, peer := 6, what := .free }; let x := s.ch c; let answers := fun (ty : Nat) => x.serves = true ∧ x.tiers.reqs.find m.reqNum = some q ∧ q.peer = peer ∧ q.ty = ty; answers 9) ∧
    (let s : State := tierX .cache (ent .parked) (fun t => { t with reqs := [(0, { zTierReq with ty := 0x0C, peer := 6, what := .share 3 0 })], reads := [(3, zShareRead)] }); let c : ChId := .c0; let slot : Nat := 3; let peer : Nat := 6; let i : Nat := 0; let m : TierMsg := zTierMsg; let q : TierReq := { zTierReq with ty := 0x0C, peer := 6, what := .share 3 0 }; let v : ShareRead := zShareRead; let x := s.ch c; let answers := fun (ty : Nat) => x.serves = true ∧ x.tiers.reqs.find m.reqNum = some q ∧ q.peer = peer ∧ q.ty = ty; answers 0x0C ∧ q.what = .share slot i ∧ x.tiers.reads.find slot = some v) ∧
    (let s : State := tierX .cache (ent .parked) (fun t => t); let c : ChId := .c0; let src : Src := pf; let h : Nat := h3; let slot : Nat := 3; let x := s.ch c; x.admitsCtx src ⟨false, false, false⟩ = true ∧ x.owns src h slot = true ∧ x.tiers.homes.find slot = none) ∧
    (let s : State := tierX .cache (ent .parked) (fun t => { t with homes := [(3, zHomeSet)] }); let c : ChId := .c0; let src : Src := pf; let h : Nat := h3; let slot : Nat := 3; let w : HomeSet := zHomeSet; let x := s.ch c; x.admitsCtx src ⟨false, false, false⟩ = true ∧ x.owns src h slot = true ∧ x.tiers.homes.find slot = some w) ∧
    (let s : State := tierX .cache (ent .parked) (fun t => t); let c : ChId := .c0; let src : Src := pf; let x := s.ch c; let pf := x.admits src ⟨true, false, false⟩ = true; pf) ∧
    (let s : State := tierX .cache (ent .parked) (fun t => t); let c : ChId := .c0; let src : Src := pf; let req : Nat := 42; let tag : Nat := 77; let epoch : Nat := 1; let f : FragSet := zFragSet; let x := s.ch c; let pf := x.admits src ⟨true, false, false⟩ = true; let named := x.tiers.sets.keysWhere (fun _ f => decide (f.req = req ∧ f.tag = tag ∧ f.epoch = epoch)); pf ∧ named = []) ∧
    (let s : State := tierX .cache (ent .parked) (fun t => { t with sets := [(0, { zFragSet with home := 6, req := 42, tag := 77, epoch := 1, length := 0 })] }); let c : ChId := .c0; let src : Src := pf; let req : Nat := 42; let tag : Nat := 77; let epoch : Nat := 1; let k : Nat := 0; let f : FragSet := zFragSet; let ks : List Nat := []; let x := s.ch c; let pf := x.admits src ⟨true, false, false⟩ = true; let named := x.tiers.sets.keysWhere (fun _ f => decide (f.req = req ∧ f.tag = tag ∧ f.epoch = epoch)); pf ∧ named = k :: ks) := by
  dsimp only
  exact ⟨⟨by decide +kernel, by decide +kernel⟩,
    (by apply Exists.intro; refine ⟨?p11_0, ?p11_1, ?p11_2, ?p11_3, ?p11_4⟩; (case p11_0 => decide +kernel); (case p11_1 => decide +kernel); (case p11_2 => rfl); (case p11_3 => decide +kernel); (case p11_4 => decide +kernel)),
    (by apply Exists.intro; refine ⟨?p12_0, ?p12_1, ?p12_2, ?p12_3⟩; (case p12_0 => decide +kernel); (case p12_1 => decide +kernel); (case p12_2 => rfl); (case p12_3 => decide +kernel)),
    by decide +kernel,
    ⟨by decide +kernel, by decide +kernel, by decide +kernel⟩,
    ⟨by decide +kernel, by decide +kernel, by decide +kernel⟩,
    ⟨by decide +kernel, by decide +kernel, by decide +kernel⟩,
    by decide +kernel,
    ⟨by decide +kernel, by decide +kernel⟩,
    ⟨by decide +kernel, by decide +kernel⟩⟩

/-! ### Witnesses: Security and metering -/

/-- The import key pair and import record of tenant slot 0: a record of key kind `k`, sealed to that pair. -/
def imp0 : List Byte × List Byte := (List.replicate 32 1, List.replicate 32 2)
def keyHead (k : Byte) : List Byte := [1, k, 0] ++ List.replicate 13 0
def impWrap : List Byte :=
  expand (hkdfExtract imp0.2 (x25519 imp0.1 (List.replicate 32 3))) (ascii "VXF-IMPORT" ++ leBytes 4 77 ++ leBytes 1 0 ++ leBytes 1 0) 32
def impSeal (k : Byte) : List Byte := gcmTag (aesKeys impWrap) (List.replicate 12 0) (keyHead k) (List.replicate 32 0)
def impRec (k : Byte) : List Byte := keyHead k ++ (List.replicate 32 3 ++ (List.replicate 32 0 ++ (impSeal k ++ List.replicate 32 0)))
theorem impSeal_length : (impSeal 1).length = 16 ∧ (impSeal 4).length = 16 := by decide +kernel
theorem fourth_slice (a b c d e : List Byte) (ha : a.length = 16) (hb : b.length = 32) (hc : c.length = 32) (hd : d.length = 16) :
    slice (a ++ (b ++ (c ++ (d ++ e)))) 80 16 = d := by
  unfold slice
  have h : a ++ (b ++ (c ++ (d ++ e))) = (a ++ b ++ c) ++ (d ++ e) := by simp
  rw [h, List.drop_left' (by simp; omega), List.take_left' hd]
theorem imp_opens (k : Byte) :
    gcmOpen impWrap (List.replicate 12 0) (keyHead k) (List.replicate 32 0) (impSeal k) = some (gcmCtr (aesKeys impWrap) (List.replicate 12 0) (List.replicate 32 0)) := by
  unfold gcmOpen impSeal
  simp
theorem imp_unwraps (x : Chan) (k : Byte) (hk : k = 1 ∨ k = 4) (ht : x.tag 0 = 77) (hn : x.num = 0) :
    x.unwrap 0 imp0 (impRec k) = some (gcmCtr (aesKeys impWrap) (List.replicate 12 0) (List.replicate 32 0)) := by
  have hl : (impSeal k).length = 16 := by rcases hk with rfl | rfl <;> [exact impSeal_length.1; exact impSeal_length.2]
  have hr : (impRec k).length = 128 := by simp [impRec, keyHead, hl]
  have h1 : (impRec k).take 16 = keyHead k := rfl
  have h2 : slice (impRec k) 16 32 = List.replicate 32 3 := rfl
  have h3 : slice (impRec k) 48 32 = List.replicate 32 0 := rfl
  have h4 : slice (impRec k) 80 16 = impSeal k := fourth_slice _ _ _ _ _ rfl rfl rfl hl
  have h5 : field (impRec k) 0 1 = 1 := rfl
  rw [← imp_opens k]
  unfold Chan.unwrap
  simp only [hr, h1, h2, h3, h4, h5, ht, hn, and_self, if_true, impWrap]

/-- The Ed25519 key of the neutral point, under which the point and 0 sign everything, and a configuration record of no items with that signature. -/
def idKey : List Byte := leBytes 32 1
def cfgRec : List Byte := leBytes 4 0xBAF1C001 ++ ([1, 1] ++ (List.replicate 58 0 ++ (idKey ++ List.replicate 32 0)))
def noFw (x : Chan) : Chan := { x with sec := { x.sec with mode := .failed } }

/-- A channel in recovery whose link is up. -/
def recX : Chan := (let x := dma State.reset.ch0; { x with host := { x.host with linkUp := true }, sec := { x.sec with mode := .recovery } })

/-- The premises of the clauses of KeysAndFirmware on a chain and on images that Vexenaub's own keys sign: every chain and image that those keys
accept meets them together with a state and a caller (the keys are open constants, so no such chain or image can be written out). -/
theorem test_wit_KeysAndFirmware_signed (chain b : List Byte) (h1 : chainOk chain = true) (h2 : ((on .prompt dma).ch .c0).fwFault b = none)
    (h3 : (recX.writeReg Reg.SEC_REC_CTRL ⟨.both, 2 ^ 63 + 128⟩).fwFault (b.take 128) = none) :
    (let s := on .prompt dma
     let x := s.ch .c0
     x.admits pf ⟨true, true, false⟩ = true ∧ x.dmaFault pf.fn = none ∧ chainOk chain = true ∧ x.bindingOk 6 chain [] = true ∧ x.sec.peers.length < 4096 ∧ x.fwFault b = none) ∧
    (let x := (wch (fun _ => recX)).ch .c0
     let y := x.writeReg Reg.SEC_REC_CTRL ⟨.both, 2 ^ 63 + 128⟩
     x.sec.mode = .recovery ∧ x.pwr.pending = none ∧ (x.pci .pf).d3hot = false ∧ x.host.linkUp = true ∧ y.dmaFault .pf = none ∧
       y.fget Reg.SEC_REC_CTRL 27 0 = 128 ∧ y.fwFault (b.take 128) = none) := by
  refine ⟨⟨?_, ?_, h1, rfl, ?_, h2⟩, ?_, ?_, ?_, ?_, ?_, ?_, h3⟩ <;> decide +kernel

theorem test_wit_KeysAndIdentity_1 :
    (let s : State := on .prompt (fun x => let x := dma x; x); let c : ChId := .c0; let src : Src := pf; let x := s.ch c; let adm := fun a => x.admits src a = true; adm ⟨false, true, false⟩) ∧
    (let s : State := on .prompt (fun x => let x := dma x; x); let c : ChId := .c0; let src : Src := pf; let x := s.ch c; let adm := fun a => x.admits src a = true; adm ⟨false, true, false⟩ ∧ src.vf = none) ∧
    (let s : State := on .prompt (fun x => let x := dma x; x); let c : ChId := .c0; let src : Src := vf0; let t : Nat := 0; let x := s.ch c; let adm := fun a => x.admits src a = true; adm ⟨false, true, false⟩ ∧ src.vf = some t) ∧
    (let s : State := on .prompt (fun x => let x := dma x; x); let c : ChId := .c0; let src : Src := pf; let x := s.ch c; let adm := fun a => x.admits src a = true; let u := src.slot; adm ⟨false, true, true⟩ ∧ x.dmaFault src.fn = none ∧ (x.keysOf u).importKey = none) ∧
    (let s : State := on .prompt (fun x => let x := dma x; { x with sec := { x.sec with keys := [(0, { TenKeys.init with importKey := some imp0 })] } }); let c : ChId := .c0; let src : Src := pf; let r : List Byte := []; let imp : List Byte × List Byte := imp0; let x := s.ch c; let adm := fun a => x.admits src a = true; let u := src.slot; let used := x.setKeys u { x.keysOf u with importKey := none }; adm ⟨false, true, true⟩ ∧ x.dmaFault src.fn = none ∧ (x.keysOf u).importKey = some imp ∧ used.unwrap u imp r = none) ∧
    (let s : State := on .prompt (fun x => let x := dma x; { x with sec := { x.sec with keys := [(0, { TenKeys.init with importKey := some imp0 })] } }); let c : ChId := .c0; let src : Src := pf; let r : List Byte := impRec 4; let imp : List Byte × List Byte := imp0; let x := s.ch c; let adm := fun a => x.admits src a = true; let u := src.slot; let used := x.setKeys u { x.keysOf u with importKey := none }; ∃ (key : List Byte), adm ⟨false, true, true⟩ ∧ x.dmaFault src.fn = none ∧ (x.keysOf u).importKey = some imp ∧ used.unwrap u imp r = some key ∧ keyNamed (field r 1 1) (field r 2 1) = false) ∧
    (let s : State := on .prompt (fun x => let x := dma x; { x with sec := { x.sec with keys := [(0, { TenKeys.init with importKey := some imp0 })] } }); let c : ChId := .c0; let src : Src := pf; let r : List Byte := impRec 1; let imp : List Byte × List Byte := imp0; let x := s.ch c; let adm := fun a => x.admits src a = true; let u := src.slot; let used := x.setKeys u { x.keysOf u with importKey := none }; ∃ (key : List Byte), adm ⟨false, true, true⟩ ∧ x.dmaFault src.fn = none ∧ (x.keysOf u).importKey = some imp ∧ used.unwrap u imp r = some key ∧ keyNamed (field r 1 1) (field r 2 1) = true) ∧
    (let s : State := on .prompt (fun x => let x := dma x; x); let c : ChId := .c0; let src : Src := pf; let kind : Nat := 1; let index : Nat := 0; let x := s.ch c; let adm := fun a => x.admits src a = true; adm ⟨false, true, true⟩ ∧ keyNamed kind index = true) ∧
    (let s : State := on .prompt (fun x => let x := dma x; x); let c : ChId := .c0; let src : Src := pf; let kind : Nat := 2; let index : Nat := 15; let x := s.ch c; let adm := fun a => x.admits src a = true; adm ⟨false, true, true⟩ ∧ keyNamed kind index = true) ∧
    (let s : State := on .prompt (fun x => let x := dma x; x); let c : ChId := .c0; let src : Src := pf; let kind : Nat := 3; let index : Nat := 7; let x := s.ch c; let adm := fun a => x.admits src a = true; adm ⟨false, true, true⟩ ∧ keyNamed kind index = true) := by
  dsimp only
  exact ⟨by decide +kernel,
    ⟨by decide +kernel, by decide +kernel⟩,
    ⟨by decide +kernel, by decide +kernel⟩,
    ⟨by decide +kernel, by decide +kernel, by decide +kernel⟩,
    ⟨by decide +kernel, by decide +kernel, by decide +kernel, by decide +kernel⟩,
    (by apply Exists.intro; refine ⟨?p5_0, ?p5_1, ?p5_2, ?p5_3, ?p5_4⟩; (case p5_0 => decide +kernel); (case p5_1 => decide +kernel); (case p5_2 => rfl); (case p5_3 => exact imp_unwraps _ 4 (.inr rfl) (by decide +kernel) rfl); (case p5_4 => decide +kernel)),
    (by apply Exists.intro; refine ⟨?p6_0, ?p6_1, ?p6_2, ?p6_3, ?p6_4⟩; (case p6_0 => decide +kernel); (case p6_1 => decide +kernel); (case p6_2 => rfl); (case p6_3 => exact imp_unwraps _ 1 (.inl rfl) (by decide +kernel) rfl); (case p6_4 => decide +kernel)),
    ⟨by decide +kernel, by decide +kernel⟩,
    ⟨by decide +kernel, by decide +kernel⟩,
    ⟨by decide +kernel, by decide +kernel⟩⟩

theorem test_wit_KeysAndIdentity_2 :
    (let s : State := on .prompt (fun x => let x := dma x; x); let c : ChId := .c0; let src : Src := pf; let kind : Nat := 1; let index : Nat := 1; let x := s.ch c; let adm := fun a => x.admits src a = true; adm ⟨false, true, true⟩ ∧ keyNamed kind index = false) ∧
    (let s : State := on .prompt (fun x => let x := dma x; x); let c : ChId := .c0; let src : Src := pf; let kind : Nat := 2; let index : Nat := 16; let x := s.ch c; let adm := fun a => x.admits src a = true; adm ⟨false, true, true⟩ ∧ keyNamed kind index = false) ∧
    (let s : State := on .prompt (fun x => let x := dma x; x); let c : ChId := .c0; let src : Src := pf; let kind : Nat := 3; let index : Nat := 8; let x := s.ch c; let adm := fun a => x.admits src a = true; adm ⟨false, true, true⟩ ∧ keyNamed kind index = false) ∧
    (let s : State := on .prompt (fun x => let x := dma x; x); let c : ChId := .c0; let src : Src := pf; let kind : Nat := 0; let index : Nat := 7; let x := s.ch c; let adm := fun a => x.admits src a = true; adm ⟨false, true, true⟩ ∧ keyNamed kind index = false) ∧
    (let s : State := on .prompt (fun x => let x := dma x; x); let c : ChId := .c0; let src : Src := pf; let x := s.ch c; let adm := fun a => x.admits src a = true; adm ⟨true, true, false⟩) ∧
    (let s : State := on .prompt (fun x => let x := dma x; x); let c : ChId := .c0; let src : Src := pf; let chain : List Byte := []; let bind : List Byte := []; let eid : Nat := 2 ^ 18 - 1; let x := s.ch c; let adm := fun a => x.admits src a = true; let e := eid % 2 ^ 18; adm ⟨true, true, false⟩ ∧ x.dmaFault src.fn = none ∧ (chainOk chain = false ∨ x.bindingOk e chain bind = false)) ∧
    (let s : State := on .prompt (fun x => let x := dma x; { x with sec := { x.sec with flash := { x.sec.flash with owner := some [] } } }); let c : ChId := .c0; let src : Src := pf; let b : List Byte := []; let x := s.ch c; let adm := fun a => x.admits src a = true; let allowed := match x.sec.flash.owner with | none => true | some k => signs k (slice b 0 32 ++ x.deviceKeyId ++ ascii "VXF-OWN") (slice b 32 64); adm ⟨true, true, false⟩ ∧ x.dmaFault src.fn = none ∧ allowed = false) ∧
    (let s : State := on .prompt (fun x => let x := dma x; x); let c : ChId := .c0; let src : Src := pf; let b : List Byte := []; let x := s.ch c; let adm := fun a => x.admits src a = true; let allowed := match x.sec.flash.owner with | none => true | some k => signs k (slice b 0 32 ++ x.deviceKeyId ++ ascii "VXF-OWN") (slice b 32 64); adm ⟨true, true, false⟩ ∧ x.dmaFault src.fn = none ∧ allowed = true) ∧
    (let s : State := on .prompt (fun x => let x := dma x; x); let c : ChId := .c0; let src : Src := pf; let r : List Byte := []; let x := s.ch c; let adm := fun a => x.admits src a = true; adm ⟨true, true, false⟩ ∧ x.dmaFault src.fn = none ∧ x.cfgFormed r = false) ∧
    (let s : State := on .prompt (fun x => let x := dma x; x); let c : ChId := .c0; let src : Src := pf; let r : List Byte := cfgRec; let x := s.ch c; let adm := fun a => x.admits src a = true; adm ⟨true, true, false⟩ ∧ x.dmaFault src.fn = none ∧ x.cfgFormed r = true ∧ x.cfgSigned r = false) := by
  dsimp only
  exact ⟨⟨by decide +kernel, by decide +kernel⟩,
    ⟨by decide +kernel, by decide +kernel⟩,
    ⟨by decide +kernel, by decide +kernel⟩,
    ⟨by decide +kernel, by decide +kernel⟩,
    by decide +kernel,
    ⟨by decide +kernel, by decide +kernel, by decide +kernel⟩,
    ⟨by decide +kernel, by decide +kernel, by decide +kernel⟩,
    ⟨by decide +kernel, by decide +kernel, by decide +kernel⟩,
    ⟨by decide +kernel, by decide +kernel, by decide +kernel⟩,
    ⟨by decide +kernel, by decide +kernel, by decide +kernel, by decide +kernel⟩⟩

theorem test_wit_KeysAndIdentity_3 :
    (let s : State := on .prompt (fun x => let x := dma x; { x with sec := { x.sec with flash := { x.sec.flash with owner := some idKey } } }); let c : ChId := .c0; let src : Src := pf; let r : List Byte := cfgRec; let x := s.ch c; let adm := fun a => x.admits src a = true; adm ⟨true, true, false⟩ ∧ x.dmaFault src.fn = none ∧ x.cfgFormed r = true ∧ x.cfgSigned r = true) := by
  dsimp only
  exact ⟨by decide +kernel, by decide +kernel, by decide +kernel, by decide +kernel⟩

theorem test_wit_FirmwareAndRecovery :
    (let s : State := on .prompt (fun x => let x := dma x; x); let c : ChId := .c0; let src : Src := pf; let b : List Byte := []; let st : Nat := 0xC4; let x := s.ch c; x.admits src ⟨true, true, false⟩ = true ∧ x.dmaFault src.fn = none ∧ x.fwFault b = some st) ∧
    (let s : State := on .prompt (fun x => let x := dma x; x); let c : ChId := .c0; let src : Src := pf; let x := s.ch c; x.admits src ⟨true, true, false⟩ = true ∧ x.mayCommit = false) ∧
    (let s : State := on .prompt (fun x => let x := dma x; let x := x.setFn 0 { x.fn 0 with st := .stopped }; { x with sec := { x.sec with staged := some ⟨2, [], 1⟩ } }); let c : ChId := .c0; let src : Src := pf; let st : Nat := 0xC4; let x := s.ch c; x.admits src ⟨true, true, false⟩ = true ∧ x.mayCommit = true) ∧
    (let s : State := on .prompt (fun x => let x := dma x; { x with sec := { x.sec with staged := some ⟨2, [], 1⟩, commit := some (pf, true), mode := .updating } }); let c : ChId := .c0; let owner : Src := pf; let raise : Bool := true; let f : StagedFw := ⟨2, [], 1⟩; let x := s.ch c; x.sec.staged = some f ∧ x.sec.commit = some (owner, raise) ∧ x.sec.mode = .updating ∧ x.pwr.pending = none) ∧
    (let s : State := wch (fun x => let x := dma x; { x with host := { x.host with linkUp := true }, sec := { x.sec with mode := .recovery } }); let c : ChId := .c0; let a : Access := ⟨.low, 2 ^ 63⟩; let x := s.ch c; x.sec.mode = .recovery ∧ x.host.linkUp = true ∧ (x.pci .pf).d3hot = false ∧ x.pwr.pending = none ∧ a.covers 63 63 = false) ∧
    (let s : State := wch (fun x => let x := dma x; { x with host := { x.host with linkUp := true }, sec := { x.sec with mode := .recovery } }); let c : ChId := .c0; let b : List Byte := []; let st : Nat := 0xC4; let a : Access := ⟨.both, 2 ^ 63⟩; let x := s.ch c; let y := x.writeReg Reg.SEC_REC_CTRL a; let img := b.take (y.fget Reg.SEC_REC_CTRL 27 0); x.sec.mode = .recovery ∧ x.host.linkUp = true ∧ (x.pci .pf).d3hot = false ∧ x.pwr.pending = none ∧ a.covers 63 63 = true ∧ (a.apply 0).testBit 63 = true ∧ y.dmaFault .pf = none ∧ y.fwFault img = some st) ∧
    (let s : State := wch (fun x => { x with sec := { x.sec with mode := .serving } }); let k : Nat := 0; s.responder = some k ∧ s.hub.bus ≠ .lost) ∧
    (let s : State := { State.reset with ch0 := noFw State.reset.ch0, ch1 := noFw State.reset.ch1, ch2 := noFw State.reset.ch2, ch3 := noFw State.reset.ch3 }; s.responder = none) := by
  dsimp only
  exact ⟨⟨by decide +kernel, by decide +kernel, by decide +kernel⟩,
    ⟨by decide +kernel, by decide +kernel⟩,
    ⟨by decide +kernel, by decide +kernel⟩,
    ⟨by decide +kernel, by decide +kernel, by decide +kernel, by decide +kernel⟩,
    ⟨by decide +kernel, by decide +kernel, by decide +kernel, by decide +kernel, by decide +kernel⟩,
    ⟨by decide +kernel, by decide +kernel, by decide +kernel, by decide +kernel, by decide +kernel, by decide +kernel, by decide +kernel, by decide +kernel⟩,
    ⟨by decide +kernel, by decide +kernel⟩,
    by decide +kernel⟩

theorem test_wit_MeterLink_1 :
    (let s : State := on .prompt (fun x => let x := dma x; { x with mtr := { x.mtr with credits := 1, tot := [(0, { Totals.init with prompt := 5 })] } }); let c : ChId := .c0; let slot : Nat := 0; let x := s.ch c; let open_ := x.sec.mode ≠ .failed ∧ x.pwr.st ≠ .c3 ∧ x.mtr.absent = false; open_ ∧ slot < 16 ∧ x.tag slot ≠ 0 ∧ x.mtr.credits ≠ 0 ∧ (x.totals slot).sent ≠ x.totalsNow slot) ∧
    (let s : State := on .prompt (fun x => let x := dma x; { x with mtr := { x.mtr with credits := 1 } }); let c : ChId := .c0; let slot : Nat := 0; let x := s.ch c; let open_ := x.sec.mode ≠ .failed ∧ x.pwr.st ≠ .c3 ∧ x.mtr.absent = false; open_ ∧ slot < 16 ∧ x.tag slot ≠ 0 ∧ x.mtr.credits ≠ 0 ∧ (x.totals slot).sent = x.totalsNow slot) ∧
    (let s : State := on .prompt (fun x => let x := dma x; { x with mtr := { x.mtr with absent := true } }); let c : ChId := .c0; let slot : Nat := 0; let x := s.ch c; let open_ := x.sec.mode ≠ .failed ∧ x.pwr.st ≠ .c3 ∧ x.mtr.absent = false; (¬ open_ ∨ x.tag slot = 0 ∨ x.mtr.credits = 0)) ∧
    (let s : State := on .prompt (fun x => let x := dma x; { x with mtr := { x.mtr with credits := 64 } }); let c : ChId := .c0; let slot : Nat := 15; let x := s.ch c; let open_ := x.sec.mode ≠ .failed ∧ x.pwr.st ≠ .c3 ∧ x.mtr.absent = false; (¬ open_ ∨ x.tag slot = 0 ∨ x.mtr.credits = 0)) ∧
    (let s : State := on .prompt (fun x => let x := dma x; { x with mtr := { x.mtr with credits := 0 } }); let c : ChId := .c0; let slot : Nat := 0; let x := s.ch c; let open_ := x.sec.mode ≠ .failed ∧ x.pwr.st ≠ .c3 ∧ x.mtr.absent = false; (¬ open_ ∨ x.tag slot = 0 ∨ x.mtr.credits = 0)) ∧
    (let s : State := on .prompt (fun x => let x := dma x; { x with mtr := { x.mtr with credits := 64 } }); let c : ChId := .c0; let x := s.ch c; let open_ := x.sec.mode ≠ .failed ∧ x.pwr.st ≠ .c3 ∧ x.mtr.absent = false; open_ ∧ x.mtr.credits ≠ 0) ∧
    (let s : State := on .prompt (fun x => let x := dma x; { x with mtr := { x.mtr with credits := 0 } }); let c : ChId := .c0; let x := s.ch c; let open_ := x.sec.mode ≠ .failed ∧ x.pwr.st ≠ .c3 ∧ x.mtr.absent = false; (¬ open_ ∨ x.mtr.credits = 0)) ∧
    (let s : State := on .prompt (fun x => let x := dma x; { x with mtr := { x.mtr with credits := 64 } }); let c : ChId := .c0; let x := s.ch c; x.mtr.owed = []) ∧
    (let s : State := on .prompt (fun x => let x := dma x; { x with mtr := { x.mtr with owed := [(2, { zLinkFrame with slot := 15 })] } }); let c : ChId := .c0; let slot : Nat := 0; let ty : Nat := 2; let f : LinkFrame := { zLinkFrame with slot := 15 }; let rest : List (Nat × LinkFrame) := []; let x := s.ch c; x.mtr.owed = (ty, f) :: rest ∧ x.mtr.absent = false ∧ (x.sec.mode ≠ .failed ∧ (x.pwr.st ≠ .c3 ∨ ty = 3))) ∧
    (let s : State := on .prompt (fun x => let x := dma x; { x with mtr := { x.mtr with credits := 64 } }); let c : ChId := .c0; let x := s.ch c; x.mtr.absent = false) := by
  dsimp only
  exact ⟨⟨by decide +kernel, by decide +kernel, by decide +kernel, by decide +kernel, by decide +kernel⟩,
    ⟨by decide +kernel, by decide +kernel, by decide +kernel, by decide +kernel, by decide +kernel⟩,
    by decide +kernel,
    by decide +kernel,
    by decide +kernel,
    ⟨by decide +kernel, by decide +kernel⟩,
    by decide +kernel,
    by decide +kernel,
    ⟨by decide +kernel, by decide +kernel, by decide +kernel⟩,
    by decide +kernel⟩

theorem test_wit_MeterLink_2 :
    (let s : State := on .prompt (fun x => let x := dma x; { x with mtr := { x.mtr with absent := true } }); let c : ChId := .c0; let x := s.ch c; x.mtr.absent = true) ∧
    (let s : State := on .prompt (fun x => let x := dma x; { x with mtr := { x.mtr with absent := true, credits := 1 } }); let c : ChId := .c0; let x := s.ch c; x.mtr.absent = true ∧ x.mtr.credits ≠ 0) := by
  dsimp only
  exact ⟨by decide +kernel,
    ⟨by decide +kernel, by decide +kernel⟩⟩

theorem test_wit_MeterRecords_1 :
    (let s : State := whub (fun h => { h with meter := some { zMeter with timeUs := 0 } }); let m : Meter := { zMeter with timeUs := 0 }; let h := s.hub; h.meter = some m) ∧
    (let s : State := whub (fun h => { h with meter := some { zMeter with slots := [{ zMeterSlot with slot := 15, prompt := 1 }] } }); let f : LinkFrame := { zLinkFrame with slot := 15 }; let m : Meter := { zMeter with slots := [{ zMeterSlot with slot := 15, prompt := 1 }] }; let h := s.hub; let ch := chNum f.ch; let old := m.slots.find? (fun y => decide (y.ch = ch ∧ y.stream = f.stream ∧ y.slot = f.slot)); let o := old.getD ⟨ch, f.stream, f.slot, f.tag, 0, 0, 0, 0, 0, m.timeUs, true⟩; let fell := f.prompt < o.prompt ∨ f.output < o.output ∨ f.attached < o.attached; h.meter = some m ∧ fell) ∧
    (let s : State := whub (fun h => { h with meter := some { zMeter with timeUs := 0 } }); let f : LinkFrame := { zLinkFrame with slot := 15 }; let m : Meter := { zMeter with timeUs := 0 }; let h := s.hub; let ch := chNum f.ch; let old := m.slots.find? (fun y => decide (y.ch = ch ∧ y.stream = f.stream ∧ y.slot = f.slot)); let o := old.getD ⟨ch, f.stream, f.slot, f.tag, 0, 0, 0, 0, 0, m.timeUs, true⟩; let fell := f.prompt < o.prompt ∨ f.output < o.output ∨ f.attached < o.attached; h.meter = some m ∧ ¬ fell) ∧
    (let s : State := whub (fun h => { h with meter := some { zMeter with slots := [{ zMeterSlot with slot := 15, prompt := 1 }] } }); let f : LinkFrame := { zLinkFrame with slot := 15 }; let m : Meter := { zMeter with slots := [{ zMeterSlot with slot := 15, prompt := 1 }] }; let h := s.hub; let ch := chNum f.ch; h.meter = some m ∧ (m.slots.any (fun y => decide (y.ch = ch ∧ y.stream = f.stream)) = true)) ∧
    (let s : State := whub (fun h => { h with meter := some { zMeter with timeUs := 0 } }); let f : LinkFrame := { zLinkFrame with slot := 15 }; let m : Meter := { zMeter with timeUs := 0 }; let h := s.hub; let ch := chNum f.ch; h.meter = some m ∧ (m.slots.any (fun y => decide (y.ch = ch ∧ y.stream = f.stream)) = false)) ∧
    (let s : State := whub (fun h => { h with meter := some { zMeter with timeUs := 0 } }); let f : LinkFrame := { zLinkFrame with supply := 1 }; let m : Meter := { zMeter with timeUs := 0 }; let h := s.hub; h.meter = some m ∧ f.supply.testBit 0 = true) ∧
    (let s : State := whub (fun h => { h with meter := some { zMeter with supplyAt := [(0, 7)] } }); let f : LinkFrame := { zLinkFrame with supply := 2 }; let m : Meter := { zMeter with supplyAt := [(0, 7)] }; let t0 : Nat := 7; let h := s.hub; let ch := chNum f.ch; h.meter = some m ∧ f.supply.testBit 0 = false ∧ f.supply.testBit 1 = true ∧ AMap.find m.supplyAt ch = some t0) ∧
    (let s : State := whub (fun h => { h with meter := some { zMeter with extended := true } }); let m : Meter := { zMeter with extended := true }; let h := s.hub; h.meter = some m ∧ m.extended = true) ∧
    (let s : State := whub (fun h => { h with meter := some { zMeter with timeUs := 0 } }); let m : Meter := { zMeter with timeUs := 0 }; let h := s.hub; h.meter = some m ∧ m.extended = false) ∧
    (let s : State := whub (fun h => { h with meter := some { zMeter with lastFrame := [(0, 7)] } }); let c : ChId := .c0; let m : Meter := { zMeter with lastFrame := [(0, 7)] }; let t : Nat := 7; let h := s.hub; h.meter = some m ∧ AMap.find m.lastFrame (chNum c) = some t) := by
  dsimp only
  exact ⟨by decide +kernel,
    ⟨by decide +kernel, by decide +kernel⟩,
    ⟨by decide +kernel, by decide +kernel⟩,
    ⟨by decide +kernel, by decide +kernel⟩,
    ⟨by decide +kernel, by decide +kernel⟩,
    ⟨by decide +kernel, by decide +kernel⟩,
    ⟨by decide +kernel, by decide +kernel, by decide +kernel, by decide +kernel⟩,
    ⟨by decide +kernel, by decide +kernel⟩,
    ⟨by decide +kernel, by decide +kernel⟩,
    ⟨by decide +kernel, by decide +kernel⟩⟩

theorem test_wit_MeterRecords_2 :
    (let s : State := whub (fun h => { h with meter := some { zMeter with timeUs := 0 } }); let c : ChId := .c0; let m : Meter := { zMeter with timeUs := 0 }; let h := s.hub; h.meter = some m ∧ AMap.find m.lastFrame (chNum c) = none) ∧
    (let s : State := whub (fun h => { h with meter := some { zMeter with timeUs := 0 } }); let m : Meter := { zMeter with timeUs := 0 }; let h := s.hub; h.meter = some m ∧ m.removing = none) ∧
    (let s : State := whub (fun h => { h with meter := some { zMeter with removing := some 1 } }); let m : Meter := { zMeter with removing := some 1 }; let h := s.hub; h.meter = some m ∧ m.removing ≠ none) := by
  dsimp only
  exact ⟨⟨by decide +kernel, by decide +kernel⟩,
    ⟨by decide +kernel, by decide +kernel⟩,
    ⟨by decide +kernel, by decide +kernel⟩⟩

/-! ### Witnesses: Reliability and power -/

theorem test_wit_PeersAndShadow_1 :
    (let s : State := on .prompt (fun x => let x := dma x; conn1 cOpen x); let c : ChId := .c0; let p : FmtPkt := { fmt1 with data := List.replicate 128 0 }; let x := s.ch c; ∃ (y : Chan), x.comesIn p false = some y ∧ p.data.length = 128) ∧
    (let s : State := on .prompt (fun x => let x := dma x; conn1 cOpen x); let c : ChId := .c0; let p : FmtPkt := fmt1; let x := s.ch c; ∃ (y : Chan), x.comesIn p false = some y ∧ p.data.length ≠ 128) ∧
    (let s : State := on .prompt (fun x => let x := dma x; conn1 { cOpen with pd := 0 } x); let c : ChId := .c0; let k : Nat := 1; let x := s.ch c; let z := x.conn k; z.st = .open_ ∧ z.pd = 0 ∧ z.roce = none ∧ x.serves = true) ∧
    (let s : State := on .prompt (fun x => let x := dma x; (peer6 x).wr (Reg.REL_HB_PEER 15) (2 ^ 63 + 6)); let c : ChId := .c0; let i : Nat := 15; let x := s.ch c; let peer := x.fget (Reg.REL_HB_PEER i) 17 0; i < 16 ∧ x.flag (Reg.REL_HB_PEER i) 63 = true ∧ x.rel.silent.contains peer = false ∧ x.serves = true) ∧
    (let s : State := on .prompt (fun x => let x := dma x; x); let c : ChId := .c0; let src : Src := pf; let eid : Nat := 6; let remove : Bool := true; let x := s.ch c; let takes := x.admits src ⟨true, true, false⟩ = true; takes ∧ (remove = true ∨ x.rel.expects.find eid ≠ none ∨ x.rel.expects.length < 4096)) ∧
    (let s : State := on .prompt (fun x => let x := dma x; x); let c : ChId := .c0; let src : Src := pf; let eid : Nat := 6; let remove : Bool := false; let x := s.ch c; let takes := x.admits src ⟨true, true, false⟩ = true; takes ∧ (remove = true ∨ x.rel.expects.find eid ≠ none ∨ x.rel.expects.length < 4096)) ∧
    (let s : State := on .prompt (fun x => let x := dma x; { x with rel := { x.rel with expects := (List.range 4096).map (fun i => (7 + i, ⟨0, false, none⟩)) } }); let c : ChId := .c0; let src : Src := pf; let eid : Nat := 6; let remove : Bool := false; let x := s.ch c; let takes := x.admits src ⟨true, true, false⟩ = true; takes ∧ remove = false ∧ x.rel.expects.find eid = none ∧ 4096 ≤ x.rel.expects.length) ∧
    (let s : State := on .prompt (fun x => let x := dma x; x); let c : ChId := .c0; let src : Src := pf; let most : Nat := 1; let x := s.ch c; let takes := x.admits src ⟨true, true, false⟩ = true; let marked := (x.rel.expects.keysWhere (fun _ e => e.marked)).take most; takes ∧ marked = []) ∧
    (let s : State := on .prompt (fun x => let x := dma x; { x with rel := { x.rel with expects := [(6, ⟨0, true, none⟩)] } }); let c : ChId := .c0; let src : Src := pf; let host : Nat := 4096; let most : Nat := 1; let x := s.ch c; let takes := x.admits src ⟨true, true, false⟩ = true; let marked := (x.rel.expects.keysWhere (fun _ e => e.marked)).take most; let wrote := x.hostWrite src.fn host (marked.flatMap (leBytes 4)); takes ∧ marked ≠ [] ∧ wrote.1 = true) ∧
    (let s : State := on .prompt (fun x => let x := x; { x with rel := { x.rel with expects := [(6, ⟨0, true, none⟩)] } }); let c : ChId := .c0; let src : Src := pf; let host : Nat := 4096; let most : Nat := 1; let x := s.ch c; let takes := x.admits src ⟨true, true, false⟩ = true; let marked := (x.rel.expects.keysWhere (fun _ e => e.marked)).take most; let wrote := x.hostWrite src.fn host (marked.flatMap (leBytes 4)); takes ∧ marked ≠ [] ∧ wrote.1 = false) := by
  dsimp only
  exact ⟨(by apply Exists.intro; refine ⟨?p0_0, ?p0_1⟩; (case p0_0 => apply get_one; decide +kernel); (case p0_1 => decide +kernel)),
    (by apply Exists.intro; refine ⟨?p1_0, ?p1_1⟩; (case p1_0 => apply get_one; decide +kernel); (case p1_1 => decide +kernel)),
    ⟨by decide +kernel, by decide +kernel, by decide +kernel, by decide +kernel⟩,
    ⟨by decide +kernel, by decide +kernel, by decide +kernel, by decide +kernel⟩,
    ⟨by decide +kernel, by decide +kernel⟩,
    ⟨by decide +kernel, by decide +kernel⟩,
    ⟨by decide +kernel, by decide +kernel, by decide +kernel, by decide +kernel⟩,
    ⟨by decide +kernel, by decide +kernel⟩,
    ⟨by decide +kernel, by decide +kernel, by decide +kernel⟩,
    ⟨by decide +kernel, by decide +kernel, by decide +kernel⟩⟩

theorem test_wit_PeersAndShadow_2 :
    (let s : State := on .prompt (fun x => let x := dma x; { x with rel := { x.rel with mode := .shadow } }); let c : ChId := .c0; let src : Src := pf; let x := s.ch c; let takes := x.admits src ⟨true, true, false⟩ = true; takes ∧ x.rel.mode = .shadow) ∧
    (let s : State := on .prompt (fun x => let x := dma x; x); let c : ChId := .c0; let src : Src := pf; let x := s.ch c; let takes := x.admits src ⟨true, true, false⟩ = true; takes ∧ x.rel.mode ≠ .shadow) ∧
    (let s : State := on .prompt (fun x => let x := dma x; peer6 x); let c : ChId := .c0; let src : Src := pf; let eid : Nat := 6; let role : Nat := 2; let x := s.ch c; let takes := x.admits src ⟨true, true, false⟩ = true; takes ∧ (role = 1 ∧ x.rel.mode = .shadow ∨ role = 2 ∧ x.rel.mode ≠ .shadow) ∧ x.session eid = true) ∧
    (let s : State := on .prompt (fun x => let x := dma x; { peer6 x with rel := { x.rel with mode := .shadow } }); let c : ChId := .c0; let src : Src := pf; let eid : Nat := 6; let role : Nat := 1; let x := s.ch c; let takes := x.admits src ⟨true, true, false⟩ = true; takes ∧ (role = 1 ∧ x.rel.mode = .shadow ∨ role = 2 ∧ x.rel.mode ≠ .shadow) ∧ x.session eid = true) ∧
    (let s : State := on .prompt (fun x => let x := dma x; { x with rel := { x.rel with mode := .shadow } }); let c : ChId := .c0; let src : Src := pf; let eid : Nat := 6; let role : Nat := 1; let x := s.ch c; let takes := x.admits src ⟨true, true, false⟩ = true; takes ∧ (role = 1 ∧ x.rel.mode = .shadow ∨ role = 2 ∧ x.rel.mode ≠ .shadow) ∧ x.session eid = false) ∧
    (let s : State := on .prompt (fun x => let x := dma x; x); let c : ChId := .c0; let src : Src := pf; let eid : Nat := 6; let role : Nat := 2; let x := s.ch c; let takes := x.admits src ⟨true, true, false⟩ = true; takes ∧ (role = 1 ∧ x.rel.mode = .shadow ∨ role = 2 ∧ x.rel.mode ≠ .shadow) ∧ x.session eid = false) ∧
    (let s : State := on .prompt (fun x => let x := dma x; { x with rel := { x.rel with mode := .shadow, part := 1, peer := 6, ops := 2 } }); let c : ChId := .c0; let eid : Nat := 6; let m : MirrorMsg := { zMirrorMsg with eid := 6, version := 1, kind := 3, param := [0], result := sha512t256 [] }; let r : List Byte := []; let x := s.ch c; let judges := x.serves = true ∧ x.rel.mode = .shadow ∧ x.rel.part = 1 ∧ m.eid = x.rel.peer ∧ m.version = 1 ∧ m.payload.length ≤ 8128 ∧ x.mirrorResult m = some r; judges ∧ sha512t256 r = m.result ∧ x.rel.count + 1 < x.rel.ops) ∧
    (let s : State := on .prompt (fun x => let x := dma x; { x with rel := { x.rel with mode := .shadow, part := 1, peer := 6, ops := 1 } }); let c : ChId := .c0; let eid : Nat := 6; let m : MirrorMsg := { zMirrorMsg with eid := 6, version := 1, kind := 3, param := [0], result := sha512t256 [] }; let r : List Byte := []; let x := s.ch c; let judges := x.serves = true ∧ x.rel.mode = .shadow ∧ x.rel.part = 1 ∧ m.eid = x.rel.peer ∧ m.version = 1 ∧ m.payload.length ≤ 8128 ∧ x.mirrorResult m = some r; judges ∧ sha512t256 r = m.result ∧ x.rel.ops ≤ x.rel.count + 1) ∧
    (let s : State := on .prompt (fun x => let x := dma x; { x with rel := { x.rel with mode := .shadow, part := 1, peer := 6 } }); let c : ChId := .c0; let eid : Nat := 6; let m : MirrorMsg := { zMirrorMsg with eid := 6, version := 1, kind := 3, param := [0] }; let r : List Byte := []; let x := s.ch c; let judges := x.serves = true ∧ x.rel.mode = .shadow ∧ x.rel.part = 1 ∧ m.eid = x.rel.peer ∧ m.version = 1 ∧ m.payload.length ≤ 8128 ∧ x.mirrorResult m = some r; judges ∧ sha512t256 r ≠ m.result) ∧
    (let s : State := on .prompt (fun x => let x := dma x; x); let c : ChId := .c0; let eid : Nat := 6; let m : MirrorMsg := { zMirrorMsg with eid := 6, version := 1, kind := 3, param := [0], result := sha512t256 [] }; let x := s.ch c; (x.rel.mode ≠ .shadow ∨ x.rel.part ≠ 1 ∨ m.eid ≠ x.rel.peer)) := by
  dsimp only
  exact ⟨⟨by decide +kernel, by decide +kernel⟩,
    ⟨by decide +kernel, by decide +kernel⟩,
    ⟨by decide +kernel, by decide +kernel, by decide +kernel⟩,
    ⟨by decide +kernel, by decide +kernel, by decide +kernel⟩,
    ⟨by decide +kernel, by decide +kernel, by decide +kernel⟩,
    ⟨by decide +kernel, by decide +kernel, by decide +kernel⟩,
    ⟨⟨by decide +kernel, by decide +kernel, by decide +kernel, by decide +kernel, by decide +kernel, by decide +kernel, rfl⟩, rfl, by decide +kernel⟩,
    ⟨⟨by decide +kernel, by decide +kernel, by decide +kernel, by decide +kernel, by decide +kernel, by decide +kernel, rfl⟩, rfl, by decide +kernel⟩,
    ⟨⟨by decide +kernel, by decide +kernel, by decide +kernel, by decide +kernel, by decide +kernel, by decide +kernel, rfl⟩, by decide +kernel⟩,
    by decide +kernel⟩

theorem test_wit_PeersAndShadow_3 :
    (let s : State := on .prompt (fun x => let x := dma x; { x with rel := { x.rel with mode := .shadow } }); let c : ChId := .c0; let eid : Nat := 6; let m : MirrorMsg := { zMirrorMsg with eid := 6, version := 1, kind := 3, param := [0], result := sha512t256 [] }; let x := s.ch c; (x.rel.mode ≠ .shadow ∨ x.rel.part ≠ 1 ∨ m.eid ≠ x.rel.peer)) ∧
    (let s : State := on .prompt (fun x => let x := dma x; { x with rel := { x.rel with mode := .shadow, part := 1 } }); let c : ChId := .c0; let eid : Nat := 6; let m : MirrorMsg := { zMirrorMsg with eid := 6, version := 1, kind := 3, param := [0], result := sha512t256 [] }; let x := s.ch c; (x.rel.mode ≠ .shadow ∨ x.rel.part ≠ 1 ∨ m.eid ≠ x.rel.peer)) ∧
    (let s : State := on .prompt (fun x => let x := dma x; { x with rel := { x.rel with mode := .shadow } }); let c : ChId := .c0; let x := s.ch c; x.rel.mode = .shadow ∧ x.rel.stalled = false ∧ x.serves = true) := by
  dsimp only
  exact ⟨by decide +kernel,
    by decide +kernel,
    ⟨by decide +kernel, by decide +kernel, by decide +kernel⟩⟩

theorem test_wit_Repair_1 :
    (let s : State := on .prompt (fun x => let x := dma x; x); let c : ChId := .c0; let k : Nat := 4194304; let x := s.ch c; let seen := (x.rel.cw.keysWhere (fun k _ => decide (x.rel.patrolAt ≤ k))).head?; let awake := x.hbmAwake = true; awake ∧ seen = none) ∧
    (let s : State := on .prompt (fun x => let x := dma x; let x := { x with rel := { x.rel with cw := [(4194304, .err 1)] } }; x); let c : ChId := .c0; let k : Nat := 4194304; let x := s.ch c; let seen := (x.rel.cw.keysWhere (fun k _ => decide (x.rel.patrolAt ≤ k))).head?; let awake := x.hbmAwake = true; ∃ (y : Chan), awake ∧ seen = some k ∧ x.readCw k 10 = (true, y)) ∧
    (let s : State := on .prompt (fun x => let x := dma x; let x := { x with rel := { x.rel with cw := [(43188224, .poison)] } }; { x with pool := { x.pool with cullet := [0], slabs := [(0, { zSlab with gran := 16 })] } }); let c : ChId := .c0; let k : Nat := 43188224; let x := s.ch c; let seen := (x.rel.cw.keysWhere (fun k _ => decide (x.rel.patrolAt ≤ k))).head?; let awake := x.hbmAwake = true; ∃ (f : Nat) (y : Chan), let at_ := fun (y : Chan) (ok : Bool) => { y with rel := { y.rel with patrolAt := k + 1, patrolCe := if ok = true then y.rel.patrolCe + 1 else y.rel.patrolCe } }; awake ∧ seen = some k ∧ x.readCw k 10 = (false, y) ∧ (at_ y false).culletAt (64 * k) = some f) ∧
    (let s : State := on .prompt (fun x => let x := dma x; let x := { x with rel := { x.rel with cw := [(4194304, .poison)] } }; x); let c : ChId := .c0; let k : Nat := 4194304; let x := s.ch c; let seen := (x.rel.cw.keysWhere (fun k _ => decide (x.rel.patrolAt ≤ k))).head?; let awake := x.hbmAwake = true; ∃ (y : Chan), let at_ := fun (y : Chan) (ok : Bool) => { y with rel := { y.rel with patrolAt := k + 1, patrolCe := if ok = true then y.rel.patrolCe + 1 else y.rel.patrolCe } }; awake ∧ seen = some k ∧ x.readCw k 10 = (false, y) ∧ (at_ y false).culletAt (64 * k) = none) ∧
    (let s : State := wch (fun x => { x with pwr := { x.pwr with st := .c2 } }); let c : ChId := .c0; let x := s.ch c; let awake := x.hbmAwake = true; ¬ awake) ∧
    (let s : State := on .prompt (fun x => let x := dma x; { x with rel := { x.rel with rowUe := [7], rows := (List.range 1024).map (fun _ => 7) } }); let c : ChId := .c0; let row : Nat := 7; let x := s.ch c; let used := x.sparesUsed (x.pchOf (row * 1024)); let awake := x.hbmAwake = true; awake ∧ x.rowFails row = true ∧ row * 1024 < x.hbmMib * mib ∧ 1024 ≤ used) ∧
    (let s : State := on .prompt (fun x => let x := dma x; { x with rel := { x.rel with rowUe := [7], rows := (List.range 1023).map (fun _ => 7) } }); let c : ChId := .c0; let row : Nat := 7; let x := s.ch c; let used := x.sparesUsed (x.pchOf (row * 1024)); let awake := x.hbmAwake = true; awake ∧ x.rowFails row = true ∧ row * 1024 < x.hbmMib * mib ∧ used < 1024) ∧
    (let s : State := on .prompt (fun x => let x := dma x; x); let c : ChId := .c0; let row : Nat := 7; let x := s.ch c; x.rowFails row = false) ∧
    (let s : State := on .prompt (fun x => let x := dma x; { x with rel := { x.rel with lanes := (List.range 2).map (fun i => (5, i)) } }); let c : ChId := .c0; let pch : Nat := 5; let x := s.ch c; let lanes := x.rel.lanes.countP (fun l => l.1 == pch); let awake := x.hbmAwake = true; awake ∧ pch < x.pchs ∧ 2 ≤ lanes) ∧
    (let s : State := on .prompt (fun x => let x := dma x; { x with rel := { x.rel with lanes := (List.range 1).map (fun i => (5, i)) } }); let c : ChId := .c0; let pch : Nat := 5; let x := s.ch c; let lanes := x.rel.lanes.countP (fun l => l.1 == pch); let awake := x.hbmAwake = true; awake ∧ pch < x.pchs ∧ lanes < 2) := by
  dsimp only
  exact ⟨⟨by decide +kernel, by decide +kernel⟩,
    (by apply Exists.intro; refine ⟨?p1_0, ?p1_1, ?p1_2⟩; (case p1_0 => decide +kernel); (case p1_1 => decide +kernel); (case p1_2 => apply fst_pair; decide +kernel)),
    (by apply Exists.intro; apply Exists.intro; refine ⟨?p2_0, ?p2_1, ?p2_2, ?p2_3⟩; (case p2_0 => decide +kernel); (case p2_1 => decide +kernel); (case p2_2 => apply fst_pair; decide +kernel); (case p2_3 => apply get_one; decide +kernel)),
    (by apply Exists.intro; refine ⟨?p3_0, ?p3_1, ?p3_2, ?p3_3⟩; (case p3_0 => decide +kernel); (case p3_1 => decide +kernel); (case p3_2 => apply fst_pair; decide +kernel); (case p3_3 => decide +kernel)),
    by decide +kernel,
    ⟨by decide +kernel, by decide +kernel, by decide +kernel, by decide +kernel⟩,
    ⟨by decide +kernel, by decide +kernel, by decide +kernel, by decide +kernel⟩,
    by decide +kernel,
    ⟨by decide +kernel, by decide +kernel, by decide +kernel⟩,
    ⟨by decide +kernel, by decide +kernel, by decide +kernel⟩⟩

theorem test_wit_Repair_2 :
    (let s : State := on .prompt (fun x => let x := dma x; x); let c : ChId := .c0; let x := s.ch c; let powered := x.pwr.st ≠ .c3 ∧ x.pwr.st ≠ .held; powered) ∧
    (let s : State := on .prompt (fun x => let x := dma x; x); let c : ChId := .c0; let e : SramErr := .control; let x := s.ch c; let powered := x.pwr.st ≠ .c3 ∧ x.pwr.st ≠ .held; powered ∧ e ≠ .single) ∧
    (let s : State := on .prompt (fun x => let x := dma x; x); let c : ChId := .c0; let x := s.ch c; (x.pwr.st = .c0 ∨ x.pwr.st = .c1)) ∧
    (let s : State := on .prompt (fun x => let x := dma x; x); let c : ChId := .c0; let src : Src := pf; let x := s.ch c; let takes := x.admits src ⟨true, true, false⟩ = true; x.sec.mode ≠ .updating ∧ takes) ∧
    (let s : State := wch (fun x => { x with sec := { x.sec with mode := .updating } }); let c : ChId := .c0; let src : Src := pf; let x := s.ch c; x.sec.mode = .updating ∧ src.vf = none) ∧
    (let s : State := on .prompt (fun x => let x := dma x; x); let c : ChId := .c0; let src : Src := pf; let addr : Nat := 2 ^ 38; let kind : Nat := 3; let count : Nat := 1; let x := s.ch c; let takes := x.admits src ⟨true, true, false⟩ = true; let inside := addr < x.hbmMib * mib ∧ x.ctxOwned (addr / 1024 * 1024) = false ∧ 1 ≤ kind ∧ kind ≤ 3; ∃ (n : Nat) (y : Chan), takes ∧ inside ∧ x.inject addr kind count = (n, y)) ∧
    (let s : State := on .prompt (fun x => let x := dma x; x); let c : ChId := .c0; let src : Src := pf; let addr : Nat := 2 ^ 38; let kind : Nat := 1; let count : Nat := 1; let x := s.ch c; let takes := x.admits src ⟨true, true, false⟩ = true; let inside := addr < x.hbmMib * mib ∧ x.ctxOwned (addr / 1024 * 1024) = false ∧ 1 ≤ kind ∧ kind ≤ 3; ∃ (n : Nat) (y : Chan), takes ∧ inside ∧ x.inject addr kind count = (n, y)) ∧
    (let s : State := on .prompt (fun x => let x := dma x; x); let c : ChId := .c0; let src : Src := pf; let addr : Nat := 2 ^ 38; let kind : Nat := 0; let x := s.ch c; let takes := x.admits src ⟨true, true, false⟩ = true; let inside := addr < x.hbmMib * mib ∧ x.ctxOwned (addr / 1024 * 1024) = false ∧ 1 ≤ kind ∧ kind ≤ 3; takes ∧ ¬ inside) ∧
    (let s : State := on .prompt (fun x => let x := dma x; x); let c : ChId := .c0; let src : Src := pf; let addr : Nat := 2 ^ 38; let kind : Nat := 4; let x := s.ch c; let takes := x.admits src ⟨true, true, false⟩ = true; let inside := addr < x.hbmMib * mib ∧ x.ctxOwned (addr / 1024 * 1024) = false ∧ 1 ≤ kind ∧ kind ≤ 3; takes ∧ ¬ inside) ∧
    (let s : State := on .prompt (fun x => let x := dma x; x); let c : ChId := .c0; let src : Src := pf; let addr : Nat := 393216 * 1048576; let kind : Nat := 3; let x := s.ch c; let takes := x.admits src ⟨true, true, false⟩ = true; let inside := addr < x.hbmMib * mib ∧ x.ctxOwned (addr / 1024 * 1024) = false ∧ 1 ≤ kind ∧ kind ≤ 3; takes ∧ ¬ inside) := by
  dsimp only
  exact ⟨by decide +kernel,
    ⟨by decide +kernel, by decide +kernel⟩,
    by decide +kernel,
    ⟨by decide +kernel, by decide +kernel⟩,
    ⟨by decide +kernel, by decide +kernel⟩,
    (by apply Exists.intro; apply Exists.intro; refine ⟨?p15_0, ?p15_1, ?p15_2⟩; (case p15_0 => decide +kernel); (case p15_1 => decide +kernel); (case p15_2 => exact any_pair _)),
    (by apply Exists.intro; apply Exists.intro; refine ⟨?p15_0, ?p15_1, ?p15_2⟩; (case p15_0 => decide +kernel); (case p15_1 => decide +kernel); (case p15_2 => exact any_pair _)),
    ⟨by decide +kernel, by decide +kernel⟩,
    ⟨by decide +kernel, by decide +kernel⟩,
    ⟨by decide +kernel, by decide +kernel⟩⟩

theorem test_wit_Repair_3 :
    (let s : State := on .prompt (fun x => let x := dma x; let x := x.wr Reg.REL_ISO_CFG (2 ^ 63); { x with rel := { x.rel with isoAt := some 7, mode := .isolated, isoTimes := [7] } }); let c : ChId := .c0; let t : Nat := 7; let x := s.ch c; x.rel.isoAt = some t ∧ x.rel.mode = .isolated ∧ x.flag Reg.REL_ISO_CFG 63 = true ∧ x.fget Reg.REL_STATE 15 8 ≠ 5 ∧ x.pwr.pending = none ∧ x.rel.isoTimes.length ≤ x.orD Reg.REL_ISO_CFG 7 0 1) ∧
    (let s : State := on .prompt (fun x => let x := dma x; { x with rel := { x.rel with isoAt := some 7 } }); let c : ChId := .c0; let t : Nat := 7; let x := s.ch c; x.rel.isoAt = some t ∧ (x.flag Reg.REL_ISO_CFG 63 = false ∨ x.fget Reg.REL_STATE 15 8 = 5 ∨ x.orD Reg.REL_ISO_CFG 7 0 1 < x.rel.isoTimes.length)) ∧
    (let s : State := on .prompt (fun x => let x := dma x; let x := x.wr Reg.REL_ISO_CFG (2 ^ 63); { x with rel := { x.rel with isoAt := some 7, isoTimes := [7, 8] } }); let c : ChId := .c0; let t : Nat := 7; let x := s.ch c; x.rel.isoAt = some t ∧ (x.flag Reg.REL_ISO_CFG 63 = false ∨ x.fget Reg.REL_STATE 15 8 = 5 ∨ x.orD Reg.REL_ISO_CFG 7 0 1 < x.rel.isoTimes.length)) := by
  dsimp only
  exact ⟨⟨by decide +kernel, by decide +kernel, by decide +kernel, by decide +kernel, by decide +kernel, by decide +kernel⟩,
    ⟨by decide +kernel, by decide +kernel⟩,
    ⟨by decide +kernel, by decide +kernel⟩⟩

theorem test_wit_InputAndManagement_1 :
    (let s : State := whub (fun h => { h with plugged := true, bus := .normal }); let vin : Nat := 4699; let h := s.hub; h.bus = .normal ∧ vin < 4700) ∧
    (let s : State := whub (fun h => { h with plugged := true, bus := .normal }); let vin : Nat := 4700; let h := s.hub; (h.bus ≠ .normal ∨ 4700 ≤ vin)) ∧
    (let s : State := whub (fun h => { h with plugged := true, bus := .below }); let vin : Nat := 4699; let h := s.hub; (h.bus ≠ .normal ∨ 4700 ≤ vin)) ∧
    (let s : State := whub (fun h => { h with plugged := true, bus := .warning }); let vin : Nat := 4800; let h := s.hub; h.bus = .warning ∧ 4800 ≤ vin ∧ h.plugged = true) ∧
    (let s : State := whub (fun h => { h with plugged := true, bus := .warning }); let vin : Nat := 4799; let h := s.hub; (h.bus ≠ .warning ∨ vin < 4800)) ∧
    (let s : State := whub (fun h => { h with plugged := true, bus := .normal }); let vin : Nat := 4800; let h := s.hub; (h.bus ≠ .warning ∨ vin < 4800)) ∧
    (let s : State := whub (fun h => { h with plugged := true, bus := .normal }); let vin : Nat := 4299; let h := s.hub; (h.bus = .normal ∨ h.bus = .warning) ∧ vin < 4300) ∧
    (let s : State := whub (fun h => { h with plugged := true, bus := .warning }); let vin : Nat := 4299; let h := s.hub; (h.bus = .normal ∨ h.bus = .warning) ∧ vin < 4300) ∧
    (let s : State := whub (fun h => { h with plugged := true, bus := .below }); let vin : Nat := 4800; let h := s.hub; h.bus = .below ∧ 4800 ≤ vin ∧ h.plugged = true) ∧
    (let s : State := whub (fun h => { h with plugged := true, bus := .below }); let vin : Nat := 3599; let h := s.hub; h.bus = .below ∧ vin < 3600) := by
  dsimp only
  exact ⟨⟨by decide +kernel, by decide +kernel⟩,
    by decide +kernel,
    by decide +kernel,
    ⟨by decide +kernel, by decide +kernel, by decide +kernel⟩,
    by decide +kernel,
    by decide +kernel,
    ⟨by decide +kernel, by decide +kernel⟩,
    ⟨by decide +kernel, by decide +kernel⟩,
    ⟨by decide +kernel, by decide +kernel, by decide +kernel⟩,
    ⟨by decide +kernel, by decide +kernel⟩⟩

theorem test_wit_InputAndManagement_2 :
    (let s : State := whub (fun h => { h with plugged := true, bus := .below }); let vin : Nat := 3600; let h := s.hub; (h.bus ≠ .below ∨ (3600 ≤ vin ∧ vin < 4800))) ∧
    (let s : State := whub (fun h => { h with plugged := true, bus := .below }); let vin : Nat := 4799; let h := s.hub; (h.bus ≠ .below ∨ (3600 ≤ vin ∧ vin < 4800))) ∧
    (let s : State := whub (fun h => { h with plugged := true, bus := .normal }); let vin : Nat := 4699; let h := s.hub; (h.bus ≠ .below ∨ (3600 ≤ vin ∧ vin < 4800))) ∧
    (let s : State := whub (fun h => { h with plugged := true, overvoltage := false }); let h := s.hub; h.plugged = true ∧ h.overvoltage = false) ∧
    (let s : State := whub (fun h => { h with plugged := false }); let h := s.hub; (h.plugged = false ∨ h.overvoltage = true)) ∧
    (let s : State := whub (fun h => { h with plugged := true, overvoltage := true }); let h := s.hub; (h.plugged = false ∨ h.overvoltage = true)) ∧
    (let s : State := whub (fun h => { h with plugged := false }); let h := s.hub; h.plugged = false) ∧
    (let s : State := whub (fun h => { h with plugged := true }); let h := s.hub; h.plugged = true) ∧
    (let s : State := whub (fun h => { h with plugged := true, bus := .normal }); let h := s.hub; h.barLive = true) ∧
    (let s : State := whub (fun h => { h with plugged := true, bus := .normal }); let wet : Bool := true; let h := s.hub; h.leak ≠ wet) := by
  dsimp only
  exact ⟨by decide +kernel,
    by decide +kernel,
    by decide +kernel,
    ⟨by decide +kernel, by decide +kernel⟩,
    by decide +kernel,
    by decide +kernel,
    by decide +kernel,
    by decide +kernel,
    by decide +kernel,
    by decide +kernel⟩

theorem test_wit_InputAndManagement_3 :
    (let s : State := whub (fun h => { h with plugged := true, bus := .normal }); let wet : Bool := false; let h := s.hub; h.leak = wet) ∧
    (let s : State := whub (fun h => { h with plugged := true, bus := .normal }); let h := s.hub; h.bus ≠ .lost) := by
  dsimp only
  exact ⟨by decide +kernel,
    by decide +kernel⟩

theorem test_wit_PaceAndClocks_1 :
    (let s : State := on .prompt (fun x => let x := dma x; { x with pwr := { x.pwr with st := .c2 } }); let c : ChId := .c0; let x := s.ch c; x.pwr.st = .c2) ∧
    (let s : State := on .prompt (fun x => let x := dma x; { x with pwr := { x.pwr with index := 1024 } }); let c : ChId := .c0; let p : PaceIn := { zPaceIn with index := 1024, draw := 100 }; let x := s.ch c; let awake := x.pwr.st = .c0 ∨ x.pwr.st = .c1; let cap := x.fget Reg.PWR_LIMIT 15 0; let excess := max 200 (min 470 cap) < p.draw ∧ p.index ≤ 768; let low := 768 ≤ x.pwr.index ∧ p.index < 768; awake ∧ ¬ low ∧ (¬ excess ∨ x.pwr.capped = true)) ∧
    (let s : State := on .prompt (fun x => let x := dma x; { x with pwr := { x.pwr with index := 768 } }); let c : ChId := .c0; let p : PaceIn := { zPaceIn with index := 768, draw := 100 }; let x := s.ch c; let awake := x.pwr.st = .c0 ∨ x.pwr.st = .c1; let cap := x.fget Reg.PWR_LIMIT 15 0; let excess := max 200 (min 470 cap) < p.draw ∧ p.index ≤ 768; let low := 768 ≤ x.pwr.index ∧ p.index < 768; awake ∧ ¬ low ∧ (¬ excess ∨ x.pwr.capped = true)) ∧
    (let s : State := on .prompt (fun x => let x := dma x; { x with pwr := { x.pwr with index := 1024 } }); let c : ChId := .c0; let p : PaceIn := { zPaceIn with index := 769, draw := 1000 }; let x := s.ch c; let awake := x.pwr.st = .c0 ∨ x.pwr.st = .c1; let cap := x.fget Reg.PWR_LIMIT 15 0; let excess := max 200 (min 470 cap) < p.draw ∧ p.index ≤ 768; let low := 768 ≤ x.pwr.index ∧ p.index < 768; awake ∧ ¬ low ∧ (¬ excess ∨ x.pwr.capped = true)) ∧
    (let s : State := on .prompt (fun x => let x := dma x; { x with pwr := { x.pwr with index := 768 } }); let c : ChId := .c0; let p : PaceIn := { zPaceIn with index := 767, draw := 100 }; let x := s.ch c; let awake := x.pwr.st = .c0 ∨ x.pwr.st = .c1; let cap := x.fget Reg.PWR_LIMIT 15 0; let excess := max 200 (min 470 cap) < p.draw ∧ p.index ≤ 768; let low := 768 ≤ x.pwr.index ∧ p.index < 768; awake ∧ low ∧ (¬ excess ∨ x.pwr.capped = true)) ∧
    (let s : State := on .prompt (fun x => let x := dma x; { x with pwr := { x.pwr with index := 1024 } }); let c : ChId := .c0; let p : PaceIn := { zPaceIn with index := 768, draw := 471 }; let x := s.ch c; let awake := x.pwr.st = .c0 ∨ x.pwr.st = .c1; let cap := x.fget Reg.PWR_LIMIT 15 0; let excess := max 200 (min 470 cap) < p.draw ∧ p.index ≤ 768; let low := 768 ≤ x.pwr.index ∧ p.index < 768; awake ∧ ¬ low ∧ excess ∧ x.pwr.capped = false) ∧
    (let s : State := on .prompt (fun x => let x := dma x; { x with pwr := { x.pwr with index := 768 } }); let c : ChId := .c0; let p : PaceIn := { zPaceIn with index := 767, draw := 1000 }; let x := s.ch c; let awake := x.pwr.st = .c0 ∨ x.pwr.st = .c1; let cap := x.fget Reg.PWR_LIMIT 15 0; let excess := max 200 (min 470 cap) < p.draw ∧ p.index ≤ 768; let low := 768 ≤ x.pwr.index ∧ p.index < 768; awake ∧ low ∧ excess ∧ x.pwr.capped = false) ∧
    (let s : State := on .prompt (fun x => let x := dma x; { x with pwr := { x.pwr with index := 1024 } }); let c : ChId := .c0; let x := s.ch c; x.regsLive = true) ∧
    (let s : State := on .prompt (fun x => let x := dma x; { x with pwr := { x.pwr with index := 1024 } }); let c : ChId := .c0; let ctl : Nat := 110; let base : Nat := 0; let x := s.ch c; let awake := x.pwr.st = .c0 ∨ x.pwr.st = .c1; (110 ≤ ctl ∨ 100 ≤ base) ∧ awake ∧ x.pwr.tripped = false) ∧
    (let s : State := on .prompt (fun x => let x := dma x; { x with pwr := { x.pwr with index := 1024 } }); let c : ChId := .c0; let ctl : Nat := 0; let base : Nat := 100; let x := s.ch c; let awake := x.pwr.st = .c0 ∨ x.pwr.st = .c1; (110 ≤ ctl ∨ 100 ≤ base) ∧ awake ∧ x.pwr.tripped = false) := by
  dsimp only
  exact ⟨by decide +kernel,
    ⟨by decide +kernel, by decide +kernel, by decide +kernel⟩,
    ⟨by decide +kernel, by decide +kernel, by decide +kernel⟩,
    ⟨by decide +kernel, by decide +kernel, by decide +kernel⟩,
    ⟨by decide +kernel, by decide +kernel, by decide +kernel⟩,
    ⟨by decide +kernel, by decide +kernel, by decide +kernel, by decide +kernel⟩,
    ⟨by decide +kernel, by decide +kernel, by decide +kernel, by decide +kernel⟩,
    by decide +kernel,
    ⟨by decide +kernel, by decide +kernel, by decide +kernel⟩,
    ⟨by decide +kernel, by decide +kernel, by decide +kernel⟩⟩

theorem test_wit_PaceAndClocks_2 :
    (let s : State := on .prompt (fun x => let x := dma x; { x with pwr := { x.pwr with st := .c1 } }); let c : ChId := .c0; let ctl : Nat := 110; let base : Nat := 0; let x := s.ch c; let awake := x.pwr.st = .c0 ∨ x.pwr.st = .c1; (110 ≤ ctl ∨ 100 ≤ base) ∧ awake ∧ x.pwr.tripped = false) ∧
    (let s : State := on .prompt (fun x => let x := dma x; { x with pwr := { x.pwr with st := .c2 } }); let c : ChId := .c0; let ctl : Nat := 110; let base : Nat := 0; let x := s.ch c; (110 ≤ ctl ∨ 100 ≤ base) ∧ x.pwr.st = .c2 ∧ x.pwr.tripped = false) ∧
    (let s : State := on .prompt (fun x => let x := dma x; { x with pwr := { x.pwr with index := 1024 } }); let c : ChId := .c0; let ctl : Nat := 109; let base : Nat := 99; let x := s.ch c; ((ctl < 110 ∧ base < 100) ∨ x.pwr.tripped = true)) ∧
    (let s : State := on .prompt (fun x => let x := dma x; { x with pwr := { x.pwr with tripped := true } }); let c : ChId := .c0; let ctl : Nat := 110; let base : Nat := 0; let x := s.ch c; ((ctl < 110 ∧ base < 100) ∨ x.pwr.tripped = true)) ∧
    (let s : State := on .prompt (fun x => let x := x.wr Reg.CLK_SRC 0; { x with pwr := { x.pwr with oscReady := true } }); let c : ChId := .c0; let source : Nat := 1; let x := s.ch c; let lost := (List.range 3).filter (fun d => decide (x.fget Reg.CLK_SRC d d = source) && !x.pwr.coast.testBit d); let fails := source ≤ 1 ∧ x.pwr.st ≠ .c3 ∧ x.sourceReady source = true; fails ∧ lost = []) ∧
    (let s : State := on .prompt (fun x => let x := x.wr Reg.CLK_SRC 1; { x with pwr := { x.pwr with oscReady := true } }); let c : ChId := .c0; let source : Nat := 1; let x := s.ch c; let lost := (List.range 3).filter (fun d => decide (x.fget Reg.CLK_SRC d d = source) && !x.pwr.coast.testBit d); let fails := source ≤ 1 ∧ x.pwr.st ≠ .c3 ∧ x.sourceReady source = true; fails ∧ lost ≠ [] ∧ lost.contains 1 = false) ∧
    (let s : State := on .prompt (fun x => let x := x.wr Reg.CLK_SRC 7; { x with pwr := { x.pwr with oscReady := true } }); let c : ChId := .c0; let source : Nat := 1; let x := s.ch c; let lost := (List.range 3).filter (fun d => decide (x.fget Reg.CLK_SRC d d = source) && !x.pwr.coast.testBit d); let fails := source ≤ 1 ∧ x.pwr.st ≠ .c3 ∧ x.sourceReady source = true; fails ∧ lost.contains 1 = true) ∧
    (let s : State := on .prompt (fun x => let x := dma x; { x with pwr := { x.pwr with oscDue := some 7 } }); let c : ChId := .c0; let t : Nat := 7; let x := s.ch c; x.pwr.oscDue = some t) ∧
    (let s : State := on .prompt (fun x => let x := dma x; { x with pwr := { x.pwr with index := 1024 } }); let c : ChId := .c0; let x := s.ch c; x.pwr.st ≠ .c3) ∧
    (let s : State := on .prompt (fun x => let x := dma x; { x with pwr := { x.pwr with index := 1024 } }); let c : ChId := .c0; let a : Access := ⟨.both, 7⟩; let x := s.ch c; x.regsLive = true ∧ reaches a 2 0 = true) := by
  dsimp only
  exact ⟨⟨by decide +kernel, by decide +kernel, by decide +kernel⟩,
    ⟨by decide +kernel, by decide +kernel, by decide +kernel⟩,
    by decide +kernel,
    by decide +kernel,
    ⟨by decide +kernel, by decide +kernel⟩,
    ⟨by decide +kernel, by decide +kernel, by decide +kernel⟩,
    ⟨by decide +kernel, by decide +kernel⟩,
    by decide +kernel,
    by decide +kernel,
    ⟨by decide +kernel, by decide +kernel⟩⟩

theorem test_wit_PaceAndClocks_3 :
    (let s : State := on .prompt (fun x => let x := x.wr Reg.CLK_SRC 1; { x with pwr := { x.pwr with refReady := true } }); let c : ChId := .c0; let want : Nat := 0; let d : Nat := 0; let x := s.ch c; let new := bits want d d; x.fget Reg.CLK_SRC d d ≠ new ∧ x.sourceReady new = true) ∧
    (let s : State := on .prompt (fun x => let x := x.wr Reg.CLK_SRC 1; { x with pwr := { x.pwr with refReady := false } }); let c : ChId := .c0; let want : Nat := 0; let d : Nat := 0; let x := s.ch c; let new := bits want d d; x.fget Reg.CLK_SRC d d ≠ new ∧ x.sourceReady new = false) ∧
    (let s : State := on .prompt (fun x => let x := x.wr Reg.CLK_SRC 0; { x with pwr := { x.pwr with refReady := true } }); let c : ChId := .c0; let want : Nat := 0; let d : Nat := 0; let x := s.ch c; let new := bits want d d; x.fget Reg.CLK_SRC d d = new ∧ x.pwr.coast.testBit d = false) := by
  dsimp only
  exact ⟨⟨by decide +kernel, by decide +kernel⟩,
    ⟨by decide +kernel, by decide +kernel⟩,
    ⟨by decide +kernel, by decide +kernel⟩⟩

theorem test_wit_PowerRequests_1 :
    (let s : State := on .prompt (fun x => let x := dma x; { x with pwr := { x.pwr with busy := true } }); let c : ChId := .c0; let x := s.ch c; s.hub.barLive = true ∧ (x.pwr.busy = true ∨ x.pwr.st = .held)) ∧
    (let s : State := on .prompt (fun x => let x := dma x; { x with pwr := { x.pwr with st := .held } }); let c : ChId := .c0; let st : PwrState := .c1; let x := s.ch c; s.hub.barLive = true ∧ (x.pwr.busy = true ∨ x.pwr.st = .held)) ∧
    (let s : State := on .prompt (fun x => let x := dma x; { x with pwr := { x.pwr with st := .c1 } }); let c : ChId := .c0; let st : PwrState := .c1; let x := s.ch c; let free := s.hub.barLive = true ∧ x.pwr.busy = false ∧ x.pwr.st ≠ .held; let goes := st = .c0 ∨ st = .c1; free ∧ goes ∧ x.pwr.st = st) ∧
    (let s : State := on .prompt (fun x => let x := dma x; { x with pwr := { x.pwr with st := .c0 } }); let c : ChId := .c0; let st : PwrState := .c0; let x := s.ch c; let free := s.hub.barLive = true ∧ x.pwr.busy = false ∧ x.pwr.st ≠ .held; let goes := st = .c0 ∨ st = .c1; free ∧ goes ∧ x.pwr.st = st) ∧
    (let s : State := on .prompt (fun x => let x := dma x; { x with pwr := { x.pwr with busy := false } }); let c : ChId := .c0; let st : PwrState := .c1; let x := s.ch c; let free := s.hub.barLive = true ∧ x.pwr.busy = false ∧ x.pwr.st ≠ .held; let active := x.pwr.st = .c0 ∨ x.pwr.st = .c1; let goes := st = .c0 ∨ st = .c1; free ∧ goes ∧ active ∧ x.pwr.st ≠ st) ∧
    (let s : State := on .prompt (fun x => let x := dma x; { x with pwr := { x.pwr with st := .c2, tripped := true, tempCtl := 95 } }); let c : ChId := .c0; let st : PwrState := .c1; let x := s.ch c; let free := s.hub.barLive = true ∧ x.pwr.busy = false ∧ x.pwr.st ≠ .held; let tripHolds := x.pwr.tripped = true ∧ (95 ≤ x.pwr.tempCtl ∨ 95 ≤ x.pwr.tempBase); let goes := st = .c0 ∨ st = .c1; free ∧ goes ∧ x.pwr.st = .c2 ∧ tripHolds) ∧
    (let s : State := on .prompt (fun x => let x := dma x; { x with pwr := { x.pwr with st := .c2, tripped := true, tempBase := 95 } }); let c : ChId := .c0; let st : PwrState := .c0; let x := s.ch c; let free := s.hub.barLive = true ∧ x.pwr.busy = false ∧ x.pwr.st ≠ .held; let tripHolds := x.pwr.tripped = true ∧ (95 ≤ x.pwr.tempCtl ∨ 95 ≤ x.pwr.tempBase); let goes := st = .c0 ∨ st = .c1; free ∧ goes ∧ x.pwr.st = .c2 ∧ tripHolds) ∧
    (let s : State := on .prompt (fun x => let x := dma x; { x with pwr := { x.pwr with st := .c2 } }); let c : ChId := .c0; let st : PwrState := .c1; let x := s.ch c; let free := s.hub.barLive = true ∧ x.pwr.busy = false ∧ x.pwr.st ≠ .held; let tripHolds := x.pwr.tripped = true ∧ (95 ≤ x.pwr.tempCtl ∨ 95 ≤ x.pwr.tempBase); let goes := st = .c0 ∨ st = .c1; free ∧ goes ∧ x.pwr.st = .c2 ∧ ¬ tripHolds) ∧
    (let s : State := on .prompt (fun x => let x := dma x; { x with pwr := { x.pwr with st := .c2, tripped := true, tempCtl := 94, tempBase := 94 } }); let c : ChId := .c0; let st : PwrState := .c0; let x := s.ch c; let free := s.hub.barLive = true ∧ x.pwr.busy = false ∧ x.pwr.st ≠ .held; let tripHolds := x.pwr.tripped = true ∧ (95 ≤ x.pwr.tempCtl ∨ 95 ≤ x.pwr.tempBase); let goes := st = .c0 ∨ st = .c1; free ∧ goes ∧ x.pwr.st = .c2 ∧ ¬ tripHolds) ∧
    (let s : State := on .prompt (fun x => let x := dma x; { x with pwr := { x.pwr with st := .c3 } }); let c : ChId := .c0; let st : PwrState := .c1; let x := s.ch c; let free := s.hub.barLive = true ∧ x.pwr.busy = false ∧ x.pwr.st ≠ .held; free ∧ x.pwr.st = .c3) := by
  dsimp only
  exact ⟨⟨by decide +kernel, by decide +kernel⟩,
    ⟨by decide +kernel, by decide +kernel⟩,
    ⟨by decide +kernel, by decide +kernel, by decide +kernel⟩,
    ⟨by decide +kernel, by decide +kernel, by decide +kernel⟩,
    ⟨by decide +kernel, by decide +kernel, by decide +kernel, by decide +kernel⟩,
    ⟨by decide +kernel, by decide +kernel, by decide +kernel, by decide +kernel⟩,
    ⟨by decide +kernel, by decide +kernel, by decide +kernel, by decide +kernel⟩,
    ⟨by decide +kernel, by decide +kernel, by decide +kernel, by decide +kernel⟩,
    ⟨by decide +kernel, by decide +kernel, by decide +kernel, by decide +kernel⟩,
    ⟨by decide +kernel, by decide +kernel⟩⟩

theorem test_wit_PowerRequests_2 :
    (let s : State := on .prompt (fun x => let x := dma x; { x with pwr := { x.pwr with busy := false } }); let c : ChId := .c0; let x := s.ch c; let free := s.hub.barLive = true ∧ x.pwr.busy = false ∧ x.pwr.st ≠ .held; let active := x.pwr.st = .c0 ∨ x.pwr.st = .c1; free ∧ active ∧ x.sec.mode = .serving) ∧
    (let s : State := on .prompt (fun x => let x := dma x; { x with pwr := { x.pwr with st := .c1 } }); let c : ChId := .c0; let st : PwrState := .c1; let x := s.ch c; let free := s.hub.barLive = true ∧ x.pwr.busy = false ∧ x.pwr.st ≠ .held; let active := x.pwr.st = .c0 ∨ x.pwr.st = .c1; free ∧ active ∧ x.sec.mode = .serving) ∧
    (let s : State := on .prompt (fun x => let x := dma x; let x := ctx3 (ent .offered) x; { x with pwr := { x.pwr with c2Due := some 7 } }); let c : ChId := .c0; let t : Nat := 7; let x := s.ch c; x.pwr.c2Due = some t ∧ x.handoffsOpen = true) ∧
    (let s : State := on .prompt (fun x => let x := dma x; { x with pwr := { x.pwr with c2Due := some 7 } }); let c : ChId := .c0; let t : Nat := 7; let x := s.ch c; x.pwr.c2Due = some t ∧ x.handoffsOpen = false) ∧
    (let s : State := on .prompt (fun x => let x := dma x; { x with pwr := { x.pwr with busy := false } }); let c : ChId := .c0; let x := s.ch c; x.pwr.c2Due = none) ∧
    (let s : State := on .prompt (fun x => let x := dma x; let x := ctx3 (ent .offered) x; { x with pwr := { x.pwr with busy := false } }); let c : ChId := .c0; let force : Bool := false; let x := s.ch c; let free := s.hub.barLive = true ∧ x.pwr.busy = false ∧ x.pwr.st ≠ .held; let tripHolds := x.pwr.tripped = true ∧ (95 ≤ x.pwr.tempCtl ∨ 95 ≤ x.pwr.tempBase); let holds := x.ctx.entries.anyOf (fun _ e => decide (e.state ≠ .free ∧ e.state ≠ .retired)) = true; free ∧ x.pwr.st ≠ .c3 ∧ x.sec.mode ≠ .updating ∧ ¬ tripHolds ∧ force = false ∧ holds) ∧
    (let s : State := on .prompt (fun x => let x := dma x; { x with pwr := { x.pwr with busy := false } }); let c : ChId := .c0; let force : Bool := false; let x := s.ch c; let free := s.hub.barLive = true ∧ x.pwr.busy = false ∧ x.pwr.st ≠ .held; let tripHolds := x.pwr.tripped = true ∧ (95 ≤ x.pwr.tempCtl ∨ 95 ≤ x.pwr.tempBase); let holds := x.ctx.entries.anyOf (fun _ e => decide (e.state ≠ .free ∧ e.state ≠ .retired)) = true; free ∧ x.pwr.st ≠ .c3 ∧ x.sec.mode ≠ .updating ∧ ¬ tripHolds ∧ (force = true ∨ ¬ holds)) ∧
    (let s : State := on .prompt (fun x => let x := dma x; let x := ctx3 (ent .offered) x; { x with pwr := { x.pwr with busy := false } }); let c : ChId := .c0; let force : Bool := true; let x := s.ch c; let free := s.hub.barLive = true ∧ x.pwr.busy = false ∧ x.pwr.st ≠ .held; let tripHolds := x.pwr.tripped = true ∧ (95 ≤ x.pwr.tempCtl ∨ 95 ≤ x.pwr.tempBase); let holds := x.ctx.entries.anyOf (fun _ e => decide (e.state ≠ .free ∧ e.state ≠ .retired)) = true; free ∧ x.pwr.st ≠ .c3 ∧ x.sec.mode ≠ .updating ∧ ¬ tripHolds ∧ (force = true ∨ ¬ holds)) ∧
    (let s : State := on .prompt (fun x => let x := dma x; { x with pwr := { x.pwr with busy := false } }); let c : ChId := .c0; let x := s.ch c; let free := s.hub.barLive = true ∧ x.pwr.busy = false ∧ x.pwr.st ≠ .held; let tripHolds := x.pwr.tripped = true ∧ (95 ≤ x.pwr.tempCtl ∨ 95 ≤ x.pwr.tempBase); free ∧ x.pwr.st ≠ .c3 ∧ x.sec.mode ≠ .updating ∧ ¬ tripHolds ∧ x.sec.mode ≠ .failed) ∧
    (let s : State := on .prompt (fun x => let x := dma x; { x with sec := { x.sec with mode := .failed } }); let c : ChId := .c0; let x := s.ch c; let free := s.hub.barLive = true ∧ x.pwr.busy = false ∧ x.pwr.st ≠ .held; let tripHolds := x.pwr.tripped = true ∧ (95 ≤ x.pwr.tempCtl ∨ 95 ≤ x.pwr.tempBase); free ∧ x.pwr.st ≠ .c3 ∧ x.sec.mode ≠ .updating ∧ ¬ tripHolds ∧ x.sec.mode = .failed) := by
  dsimp only
  exact ⟨⟨by decide +kernel, by decide +kernel, by decide +kernel⟩,
    ⟨by decide +kernel, by decide +kernel, by decide +kernel⟩,
    ⟨by decide +kernel, by decide +kernel⟩,
    ⟨by decide +kernel, by decide +kernel⟩,
    by decide +kernel,
    ⟨by decide +kernel, by decide +kernel, by decide +kernel, by decide +kernel, by decide +kernel, by decide +kernel⟩,
    ⟨by decide +kernel, by decide +kernel, by decide +kernel, by decide +kernel, by decide +kernel⟩,
    ⟨by decide +kernel, by decide +kernel, by decide +kernel, by decide +kernel, by decide +kernel⟩,
    ⟨by decide +kernel, by decide +kernel, by decide +kernel, by decide +kernel, by decide +kernel⟩,
    ⟨by decide +kernel, by decide +kernel, by decide +kernel, by decide +kernel, by decide +kernel⟩⟩

theorem test_wit_PowerRequests_3 :
    (let s : State := on .prompt (fun x => let x := dma x; { x with pwr := { x.pwr with busy := false } }); let c : ChId := .c0; let x := s.ch c; let free := s.hub.barLive = true ∧ x.pwr.busy = false ∧ x.pwr.st ≠ .held; free ∧ x.pwr.st ≠ .c3 ∧ x.sec.mode ≠ .updating) ∧
    (let s : State := on .prompt (fun x => let x := dma x; { x with sec := { x.sec with mode := .updating } }); let c : ChId := .c0; let x := s.ch c; let free := s.hub.barLive = true ∧ x.pwr.busy = false ∧ x.pwr.st ≠ .held; free ∧ x.sec.mode = .updating) := by
  dsimp only
  exact ⟨⟨by decide +kernel, by decide +kernel, by decide +kernel⟩,
    ⟨by decide +kernel, by decide +kernel⟩⟩

theorem test_wit_Resets_1 :
    (let s : State := on .prompt (fun x => let x := dma x; let x := { x with pwr := { x.pwr with pending := some 6, st := .held } }; x); let c : ChId := .c0; let w : WarmIn := zWarmIn; let k : Nat := 6; let x := s.ch c; let h := s.hub; let up := h.bus = .normal ∨ h.bus = .warning; let waits := fun (k : Nat) => x.pwr.pending = some k ∧ x.pwr.st = .held; up ∧ 4 ≤ k ∧ k ≤ 7 ∧ waits k ∧ (x.sec.mode = .failed ∨ w.pufOk = false)) ∧
    (let s : State := on .prompt (fun x => let x := dma x; let x := { x with pwr := { x.pwr with pending := some 4, st := .held } }; x); let c : ChId := .c0; let w : WarmIn := zWarmIn; let k : Nat := 4; let x := s.ch c; let h := s.hub; let up := h.bus = .normal ∨ h.bus = .warning; let waits := fun (k : Nat) => x.pwr.pending = some k ∧ x.pwr.st = .held; up ∧ 4 ≤ k ∧ k ≤ 7 ∧ waits k ∧ (x.sec.mode = .failed ∨ w.pufOk = false)) ∧
    (let s : State := on .prompt (fun x => let x := dma x; let x := { x with pwr := { x.pwr with pending := some 7, st := .held } }; x); let c : ChId := .c0; let w : WarmIn := zWarmIn; let k : Nat := 7; let x := s.ch c; let h := s.hub; let up := h.bus = .normal ∨ h.bus = .warning; let waits := fun (k : Nat) => x.pwr.pending = some k ∧ x.pwr.st = .held; up ∧ 4 ≤ k ∧ k ≤ 7 ∧ waits k ∧ (x.sec.mode = .failed ∨ w.pufOk = false)) ∧
    (let s : State := on .prompt (fun x => let x := dma x; let x := { x with pwr := { x.pwr with pending := some 7, st := .held } }; { x with sec := { x.sec with flash := { x.sec.flash with fwValid := false } } }); let c : ChId := .c0; let w : WarmIn := { zWarmIn with pufOk := true }; let k : Nat := 7; let pufOk : Bool := true; let x := s.ch c; let h := s.hub; let up := h.bus = .normal ∨ h.bus = .warning; let waits := fun (k : Nat) => x.pwr.pending = some k ∧ x.pwr.st = .held; let commit := if k = 7 ∨ x.pwr.pending = some 7 then x.sec.commit.map Prod.fst else none; let cleared := ({ x.warmClear with sec := { x.warmClear.sec with commit := none } }.resetDone k).bump Reg.PWR_RESET_LOG 31 16 1; up ∧ 4 ≤ k ∧ k ≤ 7 ∧ waits k ∧ x.sec.mode ≠ .failed ∧ w.pufOk = true ∧ cleared.sec.flash.fwValid = false) ∧
    (let s : State := on .prompt (fun x => let x := dma x; let x := { x with pwr := { x.pwr with pending := some 6, st := .held } }; x); let c : ChId := .c0; let w : WarmIn := { zWarmIn with pufOk := true }; let k : Nat := 6; let pufOk : Bool := true; let x := s.ch c; let h := s.hub; let up := h.bus = .normal ∨ h.bus = .warning; let waits := fun (k : Nat) => x.pwr.pending = some k ∧ x.pwr.st = .held; let commit := if k = 7 ∨ x.pwr.pending = some 7 then x.sec.commit.map Prod.fst else none; let cleared := ({ x.warmClear with sec := { x.warmClear.sec with commit := none } }.resetDone k).bump Reg.PWR_RESET_LOG 31 16 1; up ∧ 4 ≤ k ∧ k ≤ 7 ∧ waits k ∧ x.sec.mode ≠ .failed ∧ w.pufOk = true ∧ cleared.sec.flash.fwValid = true ∧ w.lost = none) ∧
    (let s : State := on .prompt (fun x => let x := dma x; let x := { x with pwr := { x.pwr with pending := some 4, st := .held } }; x); let c : ChId := .c0; let w : WarmIn := { zWarmIn with pufOk := true }; let k : Nat := 4; let pufOk : Bool := true; let x := s.ch c; let h := s.hub; let up := h.bus = .normal ∨ h.bus = .warning; let waits := fun (k : Nat) => x.pwr.pending = some k ∧ x.pwr.st = .held; let commit := if k = 7 ∨ x.pwr.pending = some 7 then x.sec.commit.map Prod.fst else none; let cleared := ({ x.warmClear with sec := { x.warmClear.sec with commit := none } }.resetDone k).bump Reg.PWR_RESET_LOG 31 16 1; up ∧ 4 ≤ k ∧ k ≤ 7 ∧ waits k ∧ x.sec.mode ≠ .failed ∧ w.pufOk = true ∧ cleared.sec.flash.fwValid = true ∧ w.lost = none) ∧
    (let s : State := on .prompt (fun x => let x := dma x; let x := { x with pwr := { x.pwr with pending := some 3, st := .held } }; x); let c : ChId := .c0; let k : Nat := 3; let pufOk : Bool := true; let x := s.ch c; let h := s.hub; let up := h.bus = .normal ∨ h.bus = .warning; let waits := fun (k : Nat) => x.pwr.pending = some k ∧ x.pwr.st = .held; let booted := (x.loseKeys.unpowered true .held).boot k pufOk; up ∧ (k = 3 ∨ k = 8) ∧ waits k ∧ booted.sec.mode = .serving) ∧
    (let s : State := on .prompt (fun x => let x := dma x; let x := { x with pwr := { x.pwr with pending := some 8, st := .held } }; x); let c : ChId := .c0; let k : Nat := 8; let pufOk : Bool := true; let x := s.ch c; let h := s.hub; let up := h.bus = .normal ∨ h.bus = .warning; let waits := fun (k : Nat) => x.pwr.pending = some k ∧ x.pwr.st = .held; let booted := (x.loseKeys.unpowered true .held).boot k pufOk; up ∧ (k = 3 ∨ k = 8) ∧ waits k ∧ booted.sec.mode = .serving) ∧
    (let s : State := on .prompt (fun x => let x := dma x; let x := { x with pwr := { x.pwr with pending := some 3, st := .held } }; x); let c : ChId := .c0; let k : Nat := 3; let pufOk : Bool := false; let x := s.ch c; let h := s.hub; let up := h.bus = .normal ∨ h.bus = .warning; let waits := fun (k : Nat) => x.pwr.pending = some k ∧ x.pwr.st = .held; let booted := (x.loseKeys.unpowered true .held).boot k pufOk; up ∧ (k = 3 ∨ k = 8) ∧ waits k ∧ booted.sec.mode ≠ .serving) ∧
    (let s : State := whub (fun h => { h with bus := .lost }); let h := s.hub; let up := h.bus = .normal ∨ h.bus = .warning; ¬ up) := by
  dsimp only
  exact ⟨⟨by decide +kernel, by decide +kernel, by decide +kernel, by decide +kernel, by decide +kernel⟩,
    ⟨by decide +kernel, by decide +kernel, by decide +kernel, by decide +kernel, by decide +kernel⟩,
    ⟨by decide +kernel, by decide +kernel, by decide +kernel, by decide +kernel, by decide +kernel⟩,
    ⟨by decide +kernel, by decide +kernel, by decide +kernel, by decide +kernel, by decide +kernel, by decide +kernel, by decide +kernel⟩,
    ⟨by decide +kernel, by decide +kernel, by decide +kernel, by decide +kernel, by decide +kernel, by decide +kernel, by decide +kernel, by decide +kernel⟩,
    ⟨by decide +kernel, by decide +kernel, by decide +kernel, by decide +kernel, by decide +kernel, by decide +kernel, by decide +kernel, by decide +kernel⟩,
    ⟨by decide +kernel, by decide +kernel, by decide +kernel, by decide +kernel⟩,
    ⟨by decide +kernel, by decide +kernel, by decide +kernel, by decide +kernel⟩,
    ⟨by decide +kernel, by decide +kernel, by decide +kernel, by decide +kernel⟩,
    by decide +kernel⟩

theorem test_wit_Resets_2 :
    (let s : State := on .prompt (fun x => let x := dma x; let x := { x with pwr := { x.pwr with pending := some 6, st := .held } }; x); let h := s.hub; let up := h.bus = .normal ∨ h.bus = .warning; up) ∧
    (let s : State := whub (fun h => { h with bus := .lost }); let h := s.hub; h.bus = .lost ∧ h.plugged = true) ∧
    (let s : State := on .prompt (fun x => let x := dma x; let x := { x with pwr := { x.pwr with pending := some 6, st := .held } }; x); let h := s.hub; h.bus ≠ .lost) ∧
    (let s : State := on .prompt (fun x => let x := dma x; coreP roleP runG x); let c : ChId := .c0; let core : Nat := 40; let i : Invocation := { zInvocation with prog := 4 }; let x := s.ch c; x.regsLive = true ∧ core < 64 ∧ (x.core core).inv = some i) ∧
    (let s : State := on .prompt (fun x => let x := dma x; x); let c : ChId := .c0; let port : Nat := 15; let x := s.ch c; x.regsLive = true ∧ x.hasPort port = true) ∧
    (let s : State := on .prompt (fun x => let x := dma x; x.setPci .pf { x.pci .pf with numVfs := 1 }); let c : ChId := .c0; let slot : Nat := 0; let x := s.ch c; slot < 16 ∧ x.fnExists (.vf slot) = true ∧ x.host.linkUp = true ∧ x.sec.mode = .serving ∧ (x.pwr.st = .c0 ∨ x.pwr.st = .c1)) := by
  dsimp only
  exact ⟨by decide +kernel,
    ⟨by decide +kernel, by decide +kernel⟩,
    by decide +kernel,
    ⟨by decide +kernel, by decide +kernel, by decide +kernel⟩,
    ⟨by decide +kernel, by decide +kernel⟩,
    ⟨by decide +kernel, by decide +kernel, by decide +kernel, by decide +kernel, by decide +kernel⟩⟩

/-- The premises of RegisterFields: a register with fields, one whose fields a running owner locks, a register of the last port, and an offset where none is defined. -/
theorem test_wit_RegisterFields :
    (findReg channelRegs (Reg.TM_PORT_SCHED 15)).any (fun r => decide (r.2.headD 0 = 15)) = true ∧ State.reset.ch0.absentPortReg (Reg.TM_PORT_SCHED 15) 15 = false ∧
    (findReg channelRegs Reg.FAB_LANE_MODE).any (fun r => r.1.fields.any (fun f => match f.acc with | .rwl o => (State.reset.ch0.lock o 0).isNone && ((run [0x10] State.reset.ch0).lock o 0).isSome | _ => false)) = true ∧
    findReg channelRegs 0xFFFFF8 = none := by
  refine ⟨?_, ?_, ?_, ?_⟩ <;> decide +kernel

/-- The premises of ChannelIsolation: a command of a channel, and one of the hub. -/
theorem test_wit_ChannelIsolation : scopeOf (.fnStop .c3 pf 1) = .channel .c3 ∧ scopeOf .pcieCorrectableError = .hub := ⟨rfl, rfl⟩

/-! ### Well-formed commands: each check accepts a record and refuses one that breaks it -/

theorem test_wf_records : [
    srcWf (zSrc), ringEntryWf (zRingEntry), hoMsgWf ({ zHoMsg with digest := List.replicate 64 0 }), rowOpWf (zRowOp),
    specWf (zSpecRec), entryRecWf (zEntryRec), imageWf ({ zImageIn with digest := List.replicate 64 0 }), ifieldsWf (zIFields),
    fmtWf (zFmtPkt), roceWf (zRocePkt), fabOpWf (zFabOpIn), roceInWf (zRoceIn),
    attachMsgWf (zAttachMsg), cascWf (zCascFrame), tierMsgWf (zTierMsg), fragLocWf ({ zFragLoc with digest := List.replicate 64 0 }),
    rebuildWf (zRebuildIn), warmWf (zWarmIn), linkFrameWf (zLinkFrame), newMeterWf ({ zNewMeter with chain := List.replicate 64 0 }),
    mirrorWf ({ zMirrorMsg with result := List.replicate 32 0, param := List.replicate 8 0 }), paceWf (zPaceIn)].all (fun b => b == true) = true := by decide +kernel

theorem test_wf_records_refused_1 : [
    srcWf ({ zSrc with n := 2 ^ 4 }), srcWf ({ zSrc with cid := 2 ^ 16 }), srcWf ({ zSrc with tslot := 2 ^ 4 }), srcWf ({ zSrc with res := 2 ^ 64 }),
    srcWf ({ zSrc with vf := some (2 ^ 4) }), ringEntryWf ({ zRingEntry with code := 2 ^ 16 }), ringEntryWf ({ zRingEntry with cid := 2 ^ 16 }), ringEntryWf ({ zRingEntry with tslot := 2 ^ 4 }),
    hoMsgWf ({ ({ zHoMsg with digest := List.replicate 64 0 } : HoMsg) with version := 2 ^ 8 }), hoMsgWf ({ ({ zHoMsg with digest := List.replicate 64 0 } : HoMsg) with reason := 2 ^ 8 }), hoMsgWf ({ ({ zHoMsg with digest := List.replicate 64 0 } : HoMsg) with ctr := 2 ^ 64 }), hoMsgWf ({ ({ zHoMsg with digest := List.replicate 64 0 } : HoMsg) with req := 2 ^ 64 }),
    hoMsgWf ({ ({ zHoMsg with digest := List.replicate 64 0 } : HoMsg) with epoch := 2 ^ 32 }), hoMsgWf ({ ({ zHoMsg with digest := List.replicate 64 0 } : HoMsg) with srcH := 2 ^ 48 }), hoMsgWf ({ ({ zHoMsg with digest := List.replicate 64 0 } : HoMsg) with dstH := 2 ^ 48 }), hoMsgWf ({ ({ zHoMsg with digest := List.replicate 64 0 } : HoMsg) with tag := 2 ^ 32 }),
    hoMsgWf ({ ({ zHoMsg with digest := List.replicate 64 0 } : HoMsg) with profileId := 2 ^ 32 }), hoMsgWf ({ ({ zHoMsg with digest := List.replicate 64 0 } : HoMsg) with len := 2 ^ 32 }), hoMsgWf ({ ({ zHoMsg with digest := List.replicate 64 0 } : HoMsg) with budget := 2 ^ 64 }), hoMsgWf ({ ({ zHoMsg with digest := List.replicate 64 0 } : HoMsg) with stripe := 2 ^ 32 }),
    hoMsgWf ({ ({ zHoMsg with digest := List.replicate 64 0 } : HoMsg) with member := 2 ^ 4 }), hoMsgWf ({ ({ zHoMsg with digest := List.replicate 64 0 } : HoMsg) with format := 2 ^ 4 }), hoMsgWf ({ ({ zHoMsg with digest := List.replicate 64 0 } : HoMsg) with red := 2 ^ 3 }), hoMsgWf ({ ({ zHoMsg with digest := List.replicate 64 0 } : HoMsg) with prio := 2 ^ 3 }),
    hoMsgWf ({ ({ zHoMsg with digest := List.replicate 64 0 } : HoMsg) with region := 2 ^ 64 }), hoMsgWf ({ ({ zHoMsg with digest := List.replicate 64 0 } : HoMsg) with groups := 2 ^ 32 }), hoMsgWf ({ ({ zHoMsg with digest := List.replicate 64 0 } : HoMsg) with digest := [] }), rowOpWf ({ zRowOp with op := 2 ^ 8 }),
    rowOpWf ({ zRowOp with rows := 2 ^ 16 }), rowOpWf ({ zRowOp with dst := 2 ^ 64 }), rowOpWf ({ zRowOp with src1 := 2 ^ 64 }), rowOpWf ({ zRowOp with src2 := 2 ^ 64 }),
    rowOpWf ({ zRowOp with pattern := 2 ^ 64 }), specWf ({ zSpecRec with version := 2 ^ 8 }), specWf ({ zSpecRec with count := 2 ^ 16 }), specWf ({ zSpecRec with h := 2 ^ 48 }),
    specWf ({ zSpecRec with epoch := 2 ^ 32 }), specWf ({ zSpecRec with base := 2 ^ 32 }), specWf ({ zSpecRec with reqTag := 2 ^ 64 }), specWf ({ zSpecRec with replyAddr := 2 ^ 64 }),
    specWf ({ zSpecRec with replyKey := 2 ^ 32 }), specWf ({ zSpecRec with replyGen := 2 ^ 16 }), specWf ({ zSpecRec with table := [2 ^ 8] }), entryRecWf ({ zEntryRec with id := 2 ^ 16 }),
    entryRecWf ({ zEntryRec with offset := 2 ^ 32 }), entryRecWf ({ zEntryRec with budget := 2 ^ 32 }), imageWf ({ ({ zImageIn with digest := List.replicate 64 0 } : ImageIn) with magic := 2 ^ 32 }), imageWf ({ ({ zImageIn with digest := List.replicate 64 0 } : ImageIn) with hdrVersion := 2 ^ 8 }),
    imageWf ({ ({ zImageIn with digest := List.replicate 64 0 } : ImageIn) with kind := 2 ^ 8 }), imageWf ({ ({ zImageIn with digest := List.replicate 64 0 } : ImageIn) with role := 2 ^ 8 }), imageWf ({ ({ zImageIn with digest := List.replicate 64 0 } : ImageIn) with grants := 2 ^ 8 }), imageWf ({ ({ zImageIn with digest := List.replicate 64 0 } : ImageIn) with version := 2 ^ 32 }),
    imageWf ({ ({ zImageIn with digest := List.replicate 64 0 } : ImageIn) with keyId := 2 ^ 32 }), imageWf ({ ({ zImageIn with digest := List.replicate 64 0 } : ImageIn) with textBytes := 2 ^ 32 }), imageWf ({ ({ zImageIn with digest := List.replicate 64 0 } : ImageIn) with dataBytes := 2 ^ 32 }), imageWf ({ ({ zImageIn with digest := List.replicate 64 0 } : ImageIn) with scratchBytes := 2 ^ 32 }),
    imageWf ({ ({ zImageIn with digest := List.replicate 64 0 } : ImageIn) with evcCount := 2 ^ 16 }), imageWf ({ ({ zImageIn with digest := List.replicate 64 0 } : ImageIn) with coresMax := 2 ^ 8 }), imageWf ({ ({ zImageIn with digest := List.replicate 64 0 } : ImageIn) with tenantTag := 2 ^ 32 }), imageWf ({ ({ zImageIn with digest := List.replicate 64 0 } : ImageIn) with size := 2 ^ 32 }),
    imageWf ({ ({ zImageIn with digest := List.replicate 64 0 } : ImageIn) with digest := [] }), ifieldsWf ({ zIFields with gp := 2 ^ 3 }), ifieldsWf ({ zIFields with d := 2 ^ 5 }), ifieldsWf ({ zIFields with a := 2 ^ 5 }),
    ifieldsWf ({ zIFields with b := 2 ^ 5 }), ifieldsWf ({ zIFields with x := 2 ^ 5 }), ifieldsWf ({ zIFields with i := 2 ^ 32 }), fmtWf ({ zFmtPkt with srcEid := 2 ^ 18 }),
    fmtWf ({ zFmtPkt with srcConn := 2 ^ 13 }), fmtWf ({ zFmtPkt with dstEid := 2 ^ 18 })].all (fun b => b == false) = true := by decide +kernel

theorem test_wf_records_refused_2 : [
    fmtWf ({ zFmtPkt with dstConn := 2 ^ 13 }), fmtWf ({ zFmtPkt with psn := 2 ^ 24 }), fmtWf ({ zFmtPkt with syndrome := 2 ^ 8 }), fmtWf ({ zFmtPkt with reason := 2 ^ 8 }),
    fmtWf ({ zFmtPkt with gen := 2 ^ 16 }), fmtWf ({ zFmtPkt with key := 2 ^ 32 }), fmtWf ({ zFmtPkt with region := 2 ^ 16 }), fmtWf ({ zFmtPkt with window := 2 ^ 16 }),
    fmtWf ({ zFmtPkt with oplen := 2 ^ 32 }), fmtWf ({ zFmtPkt with addr := 2 ^ 64 }), fmtWf ({ zFmtPkt with data := List.replicate 8193 0 }), roceWf ({ zRocePkt with qp := 2 ^ 13 }),
    roceWf ({ zRocePkt with opcode := 2 ^ 8 }), roceWf ({ zRocePkt with psn := 2 ^ 24 }), roceWf ({ zRocePkt with va := 2 ^ 64 }), roceWf ({ zRocePkt with rkey := 2 ^ 32 }),
    roceWf ({ zRocePkt with dmaLen := 2 ^ 32 }), roceWf ({ zRocePkt with syndrome := 2 ^ 8 }), roceWf ({ zRocePkt with data := List.replicate 8193 0 }), roceWf ({ zRocePkt with imm := some (2 ^ 32) }),
    fabOpWf ({ zFabOpIn with conn := 2 ^ 16 }), fabOpWf ({ zFabOpIn with opcode := 2 ^ 8 }), fabOpWf ({ zFabOpIn with addr := 2 ^ 64 }), fabOpWf ({ zFabOpIn with key := 2 ^ 32 }),
    fabOpWf ({ zFabOpIn with gen := 2 ^ 16 }), fabOpWf ({ zFabOpIn with region := 2 ^ 16 }), fabOpWf ({ zFabOpIn with len := 2 ^ 32 }), fabOpWf ({ zFabOpIn with host := 2 ^ 64 }),
    fabOpWf ({ zFabOpIn with swap := 2 ^ 64 }), fabOpWf ({ zFabOpIn with compare := 2 ^ 64 }), roceInWf ({ zRoceIn with pd := 2 ^ 16 }), roceInWf ({ zRoceIn with ip := 2 ^ 128 }),
    roceInWf ({ zRoceIn with qpn := 2 ^ 24 }), roceInWf ({ zRoceIn with sendPsn := 2 ^ 24 }), roceInWf ({ zRoceIn with recvPsn := 2 ^ 24 }), roceInWf ({ zRoceIn with mtu := 2 ^ 16 }),
    roceInWf ({ zRoceIn with timeout := 2 ^ 8 }), roceInWf ({ zRoceIn with ringRegion := 2 ^ 16 }), roceInWf ({ zRoceIn with ringSlots := 2 ^ 16 }), roceInWf ({ zRoceIn with slotSize := 2 ^ 32 }),
    roceInWf ({ zRoceIn with word := 2 ^ 16 }), roceInWf ({ zRoceIn with prog := 2 ^ 8 }), roceInWf ({ zRoceIn with counter := 2 ^ 16 }), attachMsgWf ({ zAttachMsg with reason := 2 ^ 8 }),
    attachMsgWf ({ zAttachMsg with reqNum := 2 ^ 64 }), attachMsgWf ({ zAttachMsg with owner := 2 ^ 48 }), attachMsgWf ({ zAttachMsg with attacher := 2 ^ 48 }), attachMsgWf ({ zAttachMsg with tag := 2 ^ 32 }),
    attachMsgWf ({ zAttachMsg with profileId := 2 ^ 32 }), attachMsgWf ({ zAttachMsg with n := 2 ^ 32 }), attachMsgWf ({ zAttachMsg with chain := 2 ^ 128 }), cascWf ({ zCascFrame with pos := 2 ^ 3 }),
    cascWf ({ zCascFrame with hitPos := 2 ^ 3 }), cascWf ({ zCascFrame with use := 2 ^ 2 }), cascWf ({ zCascFrame with seg := 2 ^ 8 }), cascWf ({ zCascFrame with seq := 2 ^ 7 }),
    cascWf ({ zCascFrame with tag := 2 ^ 32 }), cascWf ({ zCascFrame with key := 2 ^ 128 }), cascWf ({ zCascFrame with result := 2 ^ 32 }), tierMsgWf ({ zTierMsg with reason := 2 ^ 8 }),
    tierMsgWf ({ zTierMsg with index := 2 ^ 8 }), tierMsgWf ({ zTierMsg with red := 2 ^ 8 }), tierMsgWf ({ zTierMsg with reqNum := 2 ^ 64 }), tierMsgWf ({ zTierMsg with req := 2 ^ 64 }),
    tierMsgWf ({ zTierMsg with tag := 2 ^ 32 }), tierMsgWf ({ zTierMsg with epoch := 2 ^ 32 }), tierMsgWf ({ zTierMsg with region := 2 ^ 64 }), tierMsgWf ({ zTierMsg with length := 2 ^ 64 }),
    tierMsgWf ({ zTierMsg with check := 2 ^ 128 }), fragLocWf ({ ({ zFragLoc with digest := List.replicate 64 0 } : FragLoc) with req := 2 ^ 64 })].all (fun b => b == false) = true := by decide +kernel

theorem test_wf_records_refused_3 : [
    fragLocWf ({ ({ zFragLoc with digest := List.replicate 64 0 } : FragLoc) with tag := 2 ^ 32 }), fragLocWf ({ ({ zFragLoc with digest := List.replicate 64 0 } : FragLoc) with epoch := 2 ^ 32 }), fragLocWf ({ ({ zFragLoc with digest := List.replicate 64 0 } : FragLoc) with red := 2 ^ 8 }), fragLocWf ({ ({ zFragLoc with digest := List.replicate 64 0 } : FragLoc) with groups := 2 ^ 32 }),
    fragLocWf ({ ({ zFragLoc with digest := List.replicate 64 0 } : FragLoc) with len := 2 ^ 32 }), fragLocWf ({ ({ zFragLoc with digest := List.replicate 64 0 } : FragLoc) with digest := [] }), rebuildWf ({ zRebuildIn with req := 2 ^ 64 }), rebuildWf ({ zRebuildIn with profile := 2 ^ 8 }),
    rebuildWf ({ zRebuildIn with red := 2 ^ 8 }), rebuildWf ({ zRebuildIn with len := 2 ^ 32 }), rebuildWf ({ zRebuildIn with epoch := 2 ^ 32 }), rebuildWf ({ zRebuildIn with preds := [2 ^ 18] }),
    warmWf ({ zWarmIn with badTables := [2 ^ 14] }), warmWf ({ zWarmIn with badImages := [2 ^ 14] }), warmWf ({ zWarmIn with lost := some (2 ^ 64) }), linkFrameWf ({ zLinkFrame with slot := 2 ^ 4 }),
    linkFrameWf ({ zLinkFrame with supply := 2 ^ 2 }), linkFrameWf ({ zLinkFrame with seq := 2 ^ 32 }), linkFrameWf ({ zLinkFrame with stream := 2 ^ 32 }), linkFrameWf ({ zLinkFrame with tag := 2 ^ 32 }),
    linkFrameWf ({ zLinkFrame with prompt := 2 ^ 64 }), linkFrameWf ({ zLinkFrame with output := 2 ^ 64 }), linkFrameWf ({ zLinkFrame with attached := 2 ^ 64 }), linkFrameWf ({ zLinkFrame with t0 := 2 ^ 32 }),
    linkFrameWf ({ zLinkFrame with out := 2 ^ 32 }), linkFrameWf ({ zLinkFrame with unmetered := 2 ^ 64 }), newMeterWf ({ ({ zNewMeter with chain := List.replicate 64 0 } : NewMeter) with serial := 2 ^ 64 }), newMeterWf ({ ({ zNewMeter with chain := List.replicate 64 0 } : NewMeter) with timeUs := 2 ^ 64 }),
    newMeterWf ({ ({ zNewMeter with chain := List.replicate 64 0 } : NewMeter) with lastCtr := 2 ^ 64 }), newMeterWf ({ ({ zNewMeter with chain := List.replicate 64 0 } : NewMeter) with chain := [] }), mirrorWf ({ ({ zMirrorMsg with result := List.replicate 32 0, param := List.replicate 8 0 } : MirrorMsg) with eid := 2 ^ 18 }), mirrorWf ({ ({ zMirrorMsg with result := List.replicate 32 0, param := List.replicate 8 0 } : MirrorMsg) with version := 2 ^ 8 }),
    mirrorWf ({ ({ zMirrorMsg with result := List.replicate 32 0, param := List.replicate 8 0 } : MirrorMsg) with kind := 2 ^ 8 }), mirrorWf ({ ({ zMirrorMsg with result := List.replicate 32 0, param := List.replicate 8 0 } : MirrorMsg) with opNum := 2 ^ 32 }), mirrorWf ({ ({ zMirrorMsg with result := List.replicate 32 0, param := List.replicate 8 0 } : MirrorMsg) with result := [] }), mirrorWf ({ ({ zMirrorMsg with result := List.replicate 32 0, param := List.replicate 8 0 } : MirrorMsg) with param := [] }),
    mirrorWf ({ ({ zMirrorMsg with result := List.replicate 32 0, param := List.replicate 8 0 } : MirrorMsg) with payload := List.replicate 8129 0 }), paceWf ({ zPaceIn with vcore := 2 ^ 16 }), paceWf ({ zPaceIn with draw := 2 ^ 16 }), paceWf ({ zPaceIn with tempCtl := 2 ^ 8 }),
    paceWf ({ zPaceIn with tempBase := 2 ^ 8 }), srcWf ({ zSrc with vf := some 16 }), srcWf ({ zSrc with res := 32 }), accessWf (⟨.both, 2 ^ 64⟩),
    accessWf (⟨.low, 2 ^ 32⟩), accessWf (⟨.high, 1⟩), destWf (.host (2 ^ 64)), destWf (.fabric (2 ^ 64)),
    windowWf (.vf .c0 16), ringWinWf (.vf 16), evqWinWf (.vf .c0 16), readForWf (.entry .pf 16),
    readForWf (.command { zSrc with n := 16 }), configSetWf (.vfs 17), viaWf (.fmt (2 ^ 13) 0), viaWf (.roce (2 ^ 13) 0),
    imageWf ({ zImageIn with digest := List.replicate 64 0, entries := [{ zEntryRec with id := 2 ^ 16 }] }), spdmWf (.selective 256 0 0), spdmWf (.selective 0 (2 ^ 16) 0), spdmWf (.selective 0 0 (2 ^ 16)),
    spdmWf (.stop 256), fragLocWf ({ zFragLoc with digest := List.replicate 64 0, holders := [(2 ^ 18, 0)] }), fragLocWf ({ zFragLoc with digest := List.replicate 64 0, holders := [(0, 16)] }), sramWf (.entry (2 ^ 14) true),
    sramWf (.scratch 64), sramWf (.icache 64), sramWf (.packet (2 ^ 16)), sramWf (.prefixEntry (2 ^ 17)),
    sramWf (.keyStore 16 0 0), sramWf (.keyStore 0 256 0)].all (fun b => b == false) = true := by decide +kernel

theorem test_wf_records_refused_4 : [
    sramWf (.keyStore 0 0 256), paceWf ({ zPaceIn with index := 1025 }), fabOpWf ({ zFabOpIn with data := .failed 8 })].all (fun b => b == false) = true := by decide +kernel

theorem test_wf_commands_refused_1 : ([
    .fnStop .c0 zSrc (2 ^ 16), .fnStart .c0 zSrc (2 ^ 16), .roleStop .c0 zSrc (2 ^ 32), .roleLoad .c0 zSrc (.failed 8), .roleStart .c0 ({ zSrc with n := 2 ^ 4 }),
    .fnStateStop .c0 (2 ^ 16), .fnStateStart .c0 (2 ^ 16), .functionQuiesced .c0 (2 ^ 9), .chnEidWrite .c0 (⟨.both, 2 ^ 64⟩), .registerWrite .hub (2 ^ 64) zAccess,
    .ctxPeekSelWrite .c0 (⟨.both, 2 ^ 64⟩), .hubLinkRestored .c0 (2 ^ 64) 0, .ctxOpen .c0 zSrc (2 ^ 64) 0 0 0 0 0, .ctxSeal .c0 zSrc (2 ^ 48), .sealComplete .c0 (2 ^ 14),
    .ctxRetire .c0 zSrc (2 ^ 48), .drainComplete .c0 (2 ^ 14), .ctxQuery .c0 zSrc (2 ^ 48), .ctxFind .c0 zSrc (2 ^ 64), .ctxSet .c0 zSrc (2 ^ 48) 0 0 0 0,
    .ctxSignal .c0 zSrc (2 ^ 48) 0, .deadlineReached .c0 (2 ^ 14), .tombstoneEnd .c0 (2 ^ 14), .journalWriteFail .c0 (2 ^ 14) 0, .pgWindow .c0 zSrc (2 ^ 48) 0 0,
    .pgAttach .c0 zSrc (2 ^ 48) 0 0, .pgExport .c0 zSrc (2 ^ 48) 0 0 0 (.host 0), .pgImport .c0 zSrc (2 ^ 48) (.failed 1), .pgScale .c0 zSrc (2 ^ 8) (.failed 1), .unitPlaced .c0 (2 ^ 14) 0 0 0,
    .hoOffer .c0 zSrc (2 ^ 48) 0 false 0 0, .hoCancel .c0 zSrc (2 ^ 48) false, .hoRebuild .c0 zSrc (.failed 8), .hoProbe .c0 zSrc (2 ^ 64), .offer .c0 (2 ^ 18) ({ zHoMsg with digest := List.replicate 64 0 }) false,
    .take .c0 (2 ^ 18) ({ zHoMsg with digest := List.replicate 64 0 }) false, .refuse .c0 (2 ^ 18) ({ zHoMsg with digest := List.replicate 64 0 }) false, .manifest .c0 (2 ^ 18) ({ zHoMsg with digest := List.replicate 64 0 }) false, .accept .c0 (2 ^ 18) ({ zHoMsg with digest := List.replicate 64 0 }) false, .release .c0 (2 ^ 18) ({ zHoMsg with digest := List.replicate 64 0 }) false,
    .abort .c0 (2 ^ 18) ({ zHoMsg with digest := List.replicate 64 0 }) false, .cancel .c0 (2 ^ 18) ({ zHoMsg with digest := List.replicate 64 0 }) false, .superseded .c0 (2 ^ 18) ({ zHoMsg with digest := List.replicate 64 0 }) false, .fenceMessage .c0 (2 ^ 18) ({ zHoMsg with digest := List.replicate 64 0 }) false, .fenceReply .c0 (2 ^ 18) ({ zHoMsg with digest := List.replicate 64 0 }) false,
    .offerRetryExpiry .c0 (2 ^ 14), .acceptRetrySource .c0 (2 ^ 14), .acceptRetryDest .c0 (2 ^ 14), .transferIdleSource .c0 (2 ^ 14), .transferIdleDest .c0 (2 ^ 14),
    .stuckTimeExpiry .c0 (2 ^ 14), .transferBodiesDone .c0 (2 ^ 14), .digestVerified .c0 (2 ^ 14), .releaseComplete .c0 (2 ^ 14), .fenceRetry .c0 (2 ^ 14),
    .fenceTimeExpiry .c0 (2 ^ 14), .rebuildDecoded .c0 (2 ^ 14), .cruQueueCreate .c0 zSrc (2 ^ 16) 0 0, .cruQueueDelete .c0 zSrc (2 ^ 16), .queueDeleteDone .c0 (2 ^ 16),
    .cruJob .c0 zSrc (.failed 1) (2 ^ 64), .cruRowop .c0 zSrc ({ zRowOp with op := 2 ^ 8 }), .jobAccept .c0 (2 ^ 16), .jobComplete .c0 (2 ^ 64), .refreshDue .c0 (2 ^ 8),
    .baseDieHot .c0 (2 ^ 3) 0, .spcBegin .c0 zSrc (.failed 8), .spcVerify .c0 zSrc (.failed 8), .spcAbandon .c0 zSrc (.failed 8), .spcGovern .c0 zSrc (2 ^ 48) false 0,
    .specBeginRecord .c0 (2 ^ 5) (.fmt 0 0) zSpecRec, .specVerifyRecord .c0 (2 ^ 5) (.fmt 0 0) zSpecRec, .specAbandonRecord .c0 (2 ^ 5) (.fmt 0 0) zSpecRec, .verifyCommit .c0 (2 ^ 14), .gafLoad .c0 zSrc (.failed 8),
    .gafUnload .c0 zSrc (2 ^ 8), .gafInvoke .c0 zSrc (2 ^ 8) 0 [], .gafQuery .c0 zSrc (2 ^ 8), .invocationStart .c0 (2 ^ 6), .triggerFire .c0 (2 ^ 16),
    .waitTimeout .c0 (2 ^ 6), .cheapPointOverdue .c0 (2 ^ 6), .budgetExceeded .c0 (2 ^ 6), .residentRestart .c0 (2 ^ 8) 0, .poolQuantumExpiry .c0 (2 ^ 6)] : List Instr).all (fun i => !i.wf) = true := by decide +kernel

theorem test_wf_commands_refused_2 : ([
    .preemptionDeferredRelease .c0 (2 ^ 6), .gafEvcAdd .c0 (⟨.both, 2 ^ 64⟩), .nop .c0 (2 ^ 6) 0 zIFields, .iAdd .c0 (2 ^ 6) zIFields, .iSub .c0 (2 ^ 6) zIFields,
    .iMul .c0 (2 ^ 6) zIFields, .iMulhu .c0 (2 ^ 6) zIFields, .iMulhs .c0 (2 ^ 6) zIFields, .iDivu .c0 (2 ^ 6) zIFields, .iRemu .c0 (2 ^ 6) zIFields,
    .iAnd .c0 (2 ^ 6) zIFields, .iOr .c0 (2 ^ 6) zIFields, .iXor .c0 (2 ^ 6) zIFields, .iShl .c0 (2 ^ 6) zIFields, .iShr .c0 (2 ^ 6) zIFields,
    .iSar .c0 (2 ^ 6) zIFields, .iMinu .c0 (2 ^ 6) zIFields, .iMaxu .c0 (2 ^ 6) zIFields, .iAddi .c0 (2 ^ 6) zIFields, .iAndi .c0 (2 ^ 6) zIFields,
    .iOri .c0 (2 ^ 6) zIFields, .iXori .c0 (2 ^ 6) zIFields, .iShli .c0 (2 ^ 6) zIFields, .iShri .c0 (2 ^ 6) zIFields, .iSari .c0 (2 ^ 6) zIFields,
    .iMovi .c0 (2 ^ 6) zIFields, .iMovhi .c0 (2 ^ 6) zIFields, .iExtr .c0 (2 ^ 6) zIFields, .iInsr .c0 (2 ^ 6) zIFields, .iClz .c0 (2 ^ 6) zIFields,
    .iPopc .c0 (2 ^ 6) zIFields, .iSel .c0 (2 ^ 6) zIFields, .iRdtime .c0 (2 ^ 6) zIFields, .iRdid .c0 (2 ^ 6) zIFields, .iCmp .c0 (2 ^ 6) zIFields,
    .iCmpi .c0 (2 ^ 6) zIFields, .iPlog .c0 (2 ^ 6) zIFields, .iPrd .c0 (2 ^ 6) zIFields, .iBr .c0 (2 ^ 6) zIFields, .iCall .c0 (2 ^ 6) zIFields,
    .iJmp .c0 (2 ^ 6) zIFields, .iLoop .c0 (2 ^ 6) zIFields, .iEnd .c0 (2 ^ 6) zIFields, .iLd .c0 (2 ^ 6) zIFields, .iSt .c0 (2 ^ 6) zIFields,
    .iVld .c0 (2 ^ 6) zIFields, .iVst .c0 (2 ^ 6) zIFields, .iVadd .c0 (2 ^ 6) zIFields, .iVsub .c0 (2 ^ 6) zIFields, .iVmul .c0 (2 ^ 6) zIFields,
    .iVand .c0 (2 ^ 6) zIFields, .iVor .c0 (2 ^ 6) zIFields, .iVxor .c0 (2 ^ 6) zIFields, .iVshl .c0 (2 ^ 6) zIFields, .iVshr .c0 (2 ^ 6) zIFields,
    .iVbcast .c0 (2 ^ 6) zIFields, .iVext .c0 (2 ^ 6) zIFields, .iVins .c0 (2 ^ 6) zIFields, .iVperm .c0 (2 ^ 6) zIFields, .iVfadd .c0 (2 ^ 6) zIFields,
    .iVfmul .c0 (2 ^ 6) zIFields, .iVfma .c0 (2 ^ 6) zIFields, .iVfmax .c0 (2 ^ 6) zIFields, .iVfsum .c0 (2 ^ 6) zIFields, .iVqnt .c0 (2 ^ 6) zIFields,
    .iVdqnt .c0 (2 ^ 6) zIFields, .iVgfmul .c0 (2 ^ 6) zIFields, .iVgfmac .c0 (2 ^ 6) zIFields, .iDmov .c0 (2 ^ 6) zIFields, .dmovDone .c0 (2 ^ 6) none,
    .iTrd .c0 (2 ^ 6) zIFields, .iTcas .c0 (2 ^ 6) zIFields, .iSwld .c0 (2 ^ 6) zIFields, .iSwst .c0 (2 ^ 6) zIFields, .iSwcas .c0 (2 ^ 6) zIFields,
    .iSwadd .c0 (2 ^ 6) zIFields, .iSig .c0 (2 ^ 6) zIFields, .iSigi .c0 (2 ^ 6) zIFields, .iWait .c0 (2 ^ 6) zIFields, .iArm .c0 (2 ^ 6) zIFields,
    .iDisarm .c0 (2 ^ 6) zIFields, .iFence .c0 (2 ^ 6) zIFields, .iCtrrd .c0 (2 ^ 6) zIFields, .iSrch .c0 (2 ^ 6) zIFields, .iPfxw .c0 (2 ^ 6) zIFields] : List Instr).all (fun i => !i.wf) = true := by decide +kernel

theorem test_wf_commands_refused_3 : ([
    .iCrypt .c0 (2 ^ 6) zIFields, .cryptDone .c0 (2 ^ 6), .iPalloc .c0 (2 ^ 6) zIFields, .iPfree .c0 (2 ^ 6) zIFields, .iPrx .c0 (2 ^ 6) zIFields,
    .iPld .c0 (2 ^ 6) zIFields, .iPst .c0 (2 ^ 6) zIFields, .iPvld .c0 (2 ^ 6) zIFields, .iPvst .c0 (2 ^ 6) zIFields, .iPparse .c0 (2 ^ 6) zIFields,
    .iPbuild .c0 (2 ^ 6) zIFields, .iPtx .c0 (2 ^ 6) zIFields, .yieldI .c0 (2 ^ 6) 0 0 0 0, .fabPd .c0 zSrc (2 ^ 16) 0 false, .fabReg .c0 zSrc (2 ^ 16) 0 0 0 false,
    .fabRevoke .c0 zSrc (2 ^ 16), .revokeComplete .c0 (2 ^ 16), .regionQuarantineEnd .c0 (2 ^ 16), .fabOwner .c0 zSrc (2 ^ 16) 0 false, .fabConnOpen .c0 zSrc (2 ^ 18) 0 0 0 0,
    .fabConnClose .c0 zSrc (2 ^ 16), .fabOp .c0 zSrc (.failed 8), .fabRoce .c0 zSrc (.failed 8), .fabLaneModeWrite .c0 (⟨.both, 2 ^ 64⟩), .fabConnSelWrite .c0 (⟨.both, 2 ^ 64⟩),
    .fabRegionSelWrite .c0 (⟨.both, 2 ^ 64⟩), .frameReceive .c0 (2 ^ 5) [] false, .pfcFrameReceived .c0 (2 ^ 5) 0 0, .pauseExpiry .c0 (2 ^ 5) 0, .pfcPauseRepeat .c0 (2 ^ 5) 0,
    .pfcWatchdogExpiry .c0 (2 ^ 5) 0, .watchdogDropEnd .c0 (2 ^ 5) 0, .linkUp .c0 (2 ^ 5), .linkDown .c0 (2 ^ 5), .store .c0 ({ zFmtPkt with srcEid := 2 ^ 18 }),
    .fstore .c0 ({ zFmtPkt with srcEid := 2 ^ 18 }), .load .c0 ({ zFmtPkt with srcEid := 2 ^ 18 }), .loadResp .c0 ({ zFmtPkt with srcEid := 2 ^ 18 }), .fadd64 .c0 ({ zFmtPkt with srcEid := 2 ^ 18 }), .cswap64 .c0 ({ zFmtPkt with srcEid := 2 ^ 18 }),
    .swap64 .c0 ({ zFmtPkt with srcEid := 2 ^ 18 }), .atomicResp .c0 ({ zFmtPkt with srcEid := 2 ^ 18 }), .ack .c0 ({ zFmtPkt with srcEid := 2 ^ 18 }), .nak .c0 ({ zFmtPkt with srcEid := 2 ^ 18 }), .connReq .c0 ({ zFmtPkt with srcEid := 2 ^ 18 }),
    .connAcc .c0 ({ zFmtPkt with srcEid := 2 ^ 18 }), .connRej .c0 ({ zFmtPkt with srcEid := 2 ^ 18 }), .close .c0 ({ zFmtPkt with srcEid := 2 ^ 18 }), .closeAck .c0 ({ zFmtPkt with srcEid := 2 ^ 18 }), .heartbeat .c0 ({ zFmtPkt with srcEid := 2 ^ 18 }),
    .eidAssign .c0 (2 ^ 5) 0 false 0 false, .eidReply .c0 (2 ^ 5) 0 false 0 0, .retransmitTimeout .c0 (2 ^ 13), .ackDelayExpiry .c0 (2 ^ 13), .rnrDelayExpiry .c0 (2 ^ 13),
    .connReqRetry .c0 (2 ^ 13), .closeRetry .c0 (2 ^ 13), .quarantineEnd .c0 (2 ^ 13), .pd0IdleClose .c0 (2 ^ 13), .keepaliveExpiry .c0 (2 ^ 13),
    .roceSend .c0 ({ zRocePkt with qp := 2 ^ 13 }), .roceRdmaWrite .c0 ({ zRocePkt with qp := 2 ^ 13 }), .roceRdmaReadRequest .c0 ({ zRocePkt with qp := 2 ^ 13 }), .roceAcknowledge .c0 ({ zRocePkt with qp := 2 ^ 13 }), .roceCnp .c0 ({ zRocePkt with qp := 2 ^ 13 }),
    .roceUnsupportedOpcode .c0 ({ zRocePkt with qp := 2 ^ 13 }), .wireFree .c0 (2 ^ 5), .gateEntryExpiry .c0 (2 ^ 5), .tmBucketWrite .c0 (2 ^ 64) zAccess, .hwmRead .c0 (2 ^ 64) .both,
    .tmSmpCidxWrite .c0 (2 ^ 32), .sojournAlarm .c0 (2 ^ 5) 0, .shaperBucketRefill .c0 (2 ^ 5) none, .pfxChain .c0 zSrc (2 ^ 48) 0 0 (.failed 1), .pfxPublish .c0 zSrc (2 ^ 48) 0 (.failed 1),
    .pfxLookup .c0 zSrc (2 ^ 8) (.failed 1) 0, .pfxWrite .c0 zSrc (2 ^ 32) 0 0 0 false, .pfxUnpin .c0 zSrc (2 ^ 48) 0, .attach .c0 (2 ^ 18) zAttachMsg, .attachAck .c0 (2 ^ 18) zAttachMsg,
    .attachRefuse .c0 (2 ^ 18) zAttachMsg, .detach .c0 (2 ^ 18) zAttachMsg, .detachAck .c0 (2 ^ 18) zAttachMsg, .attachMsgRetry .c0 (2 ^ 64), .cascadeFrame .c0 ({ zCascFrame with pos := 2 ^ 3 })] : List Instr).all (fun i => !i.wf) = true := by decide +kernel

theorem test_wf_commands_refused_4 : ([
    .cascadeTimeout .c0 (2 ^ 7), .tierMove .c0 zSrc (2 ^ 48) 0 0 0 0, .tierGroupWritten .c0 (2 ^ 14) (.failed 1), .tierLend .c0 zSrc (2 ^ 18) 0, .tierRecall .c0 zSrc (2 ^ 16) false,
    .recallTimeExpiry .c0 (2 ^ 16), .tierT2Pool .c0 zSrc (2 ^ 64) 0 false false, .tierFragWhere .c0 zSrc (2 ^ 48) 0, .tierFragList .c0 zSrc (2 ^ 64) 0, .tierFragDrop .c0 zSrc (2 ^ 64) 0 0,
    .lend .c0 (2 ^ 18) zTierMsg, .lendAck .c0 (2 ^ 18) zTierMsg, .recall .c0 (2 ^ 18) zTierMsg, .recallDone .c0 (2 ^ 18) zTierMsg, .fragOpen .c0 (2 ^ 18) zTierMsg,
    .fragOpenAck .c0 (2 ^ 18) zTierMsg, .fragSeal .c0 (2 ^ 18) zTierMsg, .fragSealAck .c0 (2 ^ 18) zTierMsg, .fragFree .c0 (2 ^ 18) zTierMsg, .fragFreeAck .c0 (2 ^ 18) zTierMsg,
    .tierRefuse .c0 (2 ^ 18) zTierMsg, .fragRead .c0 (2 ^ 18) zTierMsg, .fragReadAck .c0 (2 ^ 18) zTierMsg, .tierMsgRetry .c0 (2 ^ 64), .hedgeDeadline .c0 (2 ^ 14) 0 0,
    .pcieCompletionTimeout .c0 (.entry .pf 16), .pcieErrorCompletion .c0 (.entry .pf 16) .ur, .smbusMctpRequest (2 ^ 8), .tenSqDoorbell .c0 .pf (2 ^ 4) 0, .tenCqDoorbell .c0 .pf (2 ^ 4) 0,
    .entryTake .c0 .pf (2 ^ 4) (.failed 1), .coalTimeExpiry .c0 .pf (2 ^ 4), .tenRingCfgWrite .c0 .pf (2 ^ 4) zAccess, .tenEvqCfgWrite (.vf .c0 16) zAccess, .tenEvqCidxWrite (.vf .c0 16) zAccess,
    .vectorUnmask .hub (2 ^ 11), .pcieConfigWrite (.vf .c0 16) (.bme 0), .secCert .c0 ({ zSrc with n := 2 ^ 4 }), .secAttest .c0 ({ zSrc with n := 2 ^ 4 }) [], .secKeyImport .c0 zSrc (.failed 8),
    .secKeyDestroy .c0 zSrc (2 ^ 8) 0, .secPeer .c0 zSrc (2 ^ 18) false (.failed 1) none, .secOwn .c0 zSrc (.failed 8), .secCfgWrite .c0 zSrc (.failed 8) false, .secFwStage .c0 zSrc (.failed 8),
    .secFwCommit .c0 ({ zSrc with n := 2 ^ 4 }) false, .secRecGo .c0 (⟨.both, 2 ^ 64⟩) (.failed 1) false, .spdmRequest (.selective 256 0 0), .totalsDue .c0 (2 ^ 4), .meterTotalsFrame ({ zLinkFrame with slot := 2 ^ 4 }) false,
    .meterHelloFrame ({ zLinkFrame with slot := 2 ^ 4 }) false, .meterSupplyFrame ({ zLinkFrame with slot := 2 ^ 4 }) false, .meterUnmeteredFrame ({ zLinkFrame with slot := 2 ^ 4 }) false, .meterInserted ({ ({ zNewMeter with chain := List.replicate 64 0 } : NewMeter) with serial := 2 ^ 64 }), .mtrDrainSelWrite (⟨.both, 2 ^ 64⟩),
    .mtrDrainAckWrite (2 ^ 64), .relExpect .c0 zSrc (2 ^ 18) false 0, .relShadow .c0 zSrc (2 ^ 18) 0 0 0, .relIsolate .c0 ({ zSrc with n := 2 ^ 4 }), .relInject .c0 zSrc (2 ^ 64) 0 0,
    .relMismatchList .c0 zSrc (2 ^ 64) 0, .mirrorMessage .c0 ({ ({ zMirrorMsg with result := List.replicate 32 0, param := List.replicate 8 0 } : MirrorMsg) with eid := 2 ^ 18 }), .peerSilent .c0 (2 ^ 4), .rowSpare .c0 (2 ^ 64) false, .laneSpare .c0 (2 ^ 8) 0 false,
    .sramError .c0 (.entry (2 ^ 14) true), .busWarning (2 ^ 16), .warningLeft (2 ^ 16) 0, .busResetLevel (2 ^ 16), .retentionRecovered (2 ^ 16) zWarmIn zWarmIn zWarmIn zWarmIn,
    .retentionLost (2 ^ 16), .powerOnReset [4], .paceSample .c0 ({ zPaceIn with vcore := 2 ^ 16 }), .thermalTrip .c0 (2 ^ 8) 0, .clockSourceFail .c0 (2 ^ 1),
    .clkSrcWrite .c0 (⟨.both, 2 ^ 64⟩), .warmChannelReset .c0 ({ zWarmIn with badTables := [2 ^ 14] }), .moduleReset [4], .coreReset .c0 (2 ^ 6), .portReset .c0 (2 ^ 5),
    .tenantReset .c0 (2 ^ 4), .fecDegradedWindow .c0 (2 ^ 5) 0 0 0] : List Instr).all (fun i => !i.wf) = true := by decide +kernel

/-! ### The spec's worked examples, and known answers of the algorithms it names -/

/-- The fragment of chapter 09: the words of its table, from OP and the fields. -/
theorem test_words_of_the_fragment :
    wordOf 0x52 { f0 with d := 1, i := 0x1000 } = 0x5200800000001000 ∧ wordOf 0x71 { f0 with d := 2, a := 1, x := 10, i := 3 } = 0x7101040A00000003 ∧
    wordOf 0x53 { f0 with b := 2, i := 0x2000 } = 0x5300004000002000 ∧ wordOf 0x51 { f0 with b := 10, i := 0x2040 } = 0x5100014000002040 ∧
    wordOf 0x40 { f0 with gn := true, gp := 1, i := 0xFFFFFFFD } = 0x40900000FFFFFFFD ∧ wordOf 0x17 { f0 with d := 1 } = 0x1700800000000000 ∧
    wordOf 0x44 f0 = 0x4400000000000000 ∧ yieldOf 0xE0C0000200000003 = (3, 0, 4, 3) := by decide +kernel

/-- The marver example of chapter 04: with 3.2 the largest magnitude, the scale code is 0x7E, and 3.2, −0.7 and 0.125 become 0x7, 0xB and 0x0. -/
theorem test_mxfp4_block :
    (let q := quantiseBlock 3 0 (([0x404D, 0xBF33, 0x3E00] ++ List.replicate 29 0).map (ofInput false))
     q.scale = 0x7E ∧ q.codes.take 3 = [7, 0xB, 0] ∧ q.nonfinite = 0 ∧ q.saturated = 1) := by decide +kernel

/-- The M96 append of chapter 04: the offset names layer 41, token 70,013 and unit 52 of the record. -/
theorem test_append_address :
    (let x := (State.reset.ch0.wr (Reg.PG_PROF_GEOM 3) (2 ^ 63 + 96 * 2 ^ 47 + 8 * 2 ^ 40 + 64 * 2 ^ 31 + 2 * 2 ^ 28 + 3 * 2 ^ 24)).setEntry 0x123 { ent .prefilling with profile := 3 }
     (x.setMap 0x123 { PageMap.init with fill := [(41, 69900)] }).decodeUnit 0x123 0x1497DD00 = .ok (41, 70013, 52)) := by decide +kernel

/-- The handles of chapters 03 and 06. -/
theorem test_handles :
    (State.reset.ch0.wr Reg.CHN_EID (2 ^ 63 + 0xA3C5)).ctxh 0x123 6 = 0x28F141230006 ∧ (State.reset.ch0.wr Reg.CHN_EID (2 ^ 63 + 0x10B72)).ctxh 0xA50 3 = 0x42DC8A500003 := by
  decide +kernel

/-- ctx.open of chapter 14: slot 0x0123 at generation 0x0007, with the CTXH as RESULT. -/
theorem test_ctx_open_example :
    (let x := up .prompt State.reset.ch0
     let x := (((x.wr Reg.CHN_EID (2 ^ 63 + 0xA3C5)).wr (Reg.TEN_SLOT_CFG 2) 0xA17).wr (Reg.CTX_TEN_LIMIT 2) (16384 * 2 ^ 32)).wr (Reg.PG_PROF_GEOM 3) (x.rd (Reg.PG_PROF_GEOM 0))
     let x := (x.setEntry 0x123 { Entry.free with gen := 6 }).setPci (.vf 2) ⟨true, false, 0⟩
     let s := wch (fun _ => { x with ctx := { x.ctx with freeQ := [(0x123, 1)] } })
     let src : Src := ⟨some 2, 0, 0x42, 2, 0x4012345000⟩
     match exec (.ctxOpen .c0 src 0x00072C100000A117 2 120000000000 3 2 0) s with
     | .next t => (t.ch .c0).out.contains (.done src 0 0x28F141230007) && decide (((t.ch .c0).entry 0x123).epoch = 1)
     | _ => false) = true := by decide +kernel

/-- A channel with the shipped SPC_GOV_CFG. -/
def govX : Chan := State.reset.ch0.wr Reg.SPC_GOV_CFG (8 * 2 ^ 56 + 64 * 2 ^ 48 + 192 * 2 ^ 39 + 64 * 2 ^ 30 + 16 * 2 ^ 23 + 4 * 2 ^ 16 + 64)

/-- Both verify cycles of chapter 07: chain, then tree. -/
theorem test_governor_cycles :
    govX.govern (4 * 2 ^ 25 + 192 * 2 ^ 16) 2 4 = (4 * 2 ^ 25 + 184 * 2 ^ 16, false) ∧
    govX.govern (4 * 2 ^ 25 + 184 * 2 ^ 16) 3 3 = (5 * 2 ^ 25 + 193 * 2 ^ 16, false) := by decide +kernel

/-- A draft rejected every time (chapter 07): D, ACC, ZERO_RUN and LIMIT of the eight verifies, and HOLD at the end. -/
theorem test_governor_rejections :
    (([4, 2, 1, 1, 1, 1, 1, 1] : List Nat).foldl (fun (r : Nat × List (Nat × Nat × Nat × Nat)) d =>
      let v := (govX.govern r.1 0 d).1
      (v, r.2 ++ [(bits v 24 16, bits v 15 8, bits v 31 25, bits v 7 0)])) (4 * 2 ^ 25 + 192 * 2 ^ 16, [])).2 =
    [(168, 1, 2, 0), (147, 2, 1, 0), (129, 3, 1, 0), (113, 4, 1, 0), (99, 5, 1, 0), (87, 6, 1, 0), (76, 7, 1, 0), (67, 8, 0, 64)] := by decide +kernel

/-- The policer of chapter 11 at frames 0, 8 and 17. -/
theorem test_policer_colours :
    (let x := (State.reset.ch0.wr (Reg.TM_POL_RATE 4) (2 ^ 63 + 80000 * 2 ^ 24 + 40000)).wr (Reg.TM_POL_BURST 4) (131072 * 2 ^ 32 + 65536)
     let at_ := fun tc tp => { x with tm := { x.tm with tc := [(4, ⟨tc, 0⟩)], tp := [(4, ⟨tp, 0⟩)] } }
     (x.police 2 0 8302).1 = .green ∧ ((at_ 19590400 570508800).police 2 0 8302).1 = .yellow ∧ ((at_ 49549600 32683200).police 2 0 8302).1 = .red) := by decide +kernel

/-- The residency of chapter 16: 108,000 tokens over 10 s, with 3 more from 4,001 ms and 4 more from 4,013 ms, in token-µs. -/
theorem test_residency :
    (let m0 : Meter := { zMeter with slots := [{ zMeterSlot with t0 := 108000, tag := 0xA17 }] }
     let frame := fun (m : Meter) t out t0 => { m with timeUs := t }.onTotals { zLinkFrame with tag := 0xA17, output := out, t0 := t0 }
     let m := frame (frame m0 4001000 3 108003) 4013000 7 108007
     let a := (m.slots.foldl (fun m y => m.accrue y 10000000) m).account 0 0xA17
     a.output = 7 ∧ a.resT0 = 1080041945000) := by decide +kernel

/-- CRC-32C of "123456789" (RFC 3720's polynomial), SHA-512 of "abc" and AES-256 (FIPS 180-4 and FIPS 197, C.3), and Ed25519's public key of RFC 8032, 7.1, test 1. -/
theorem test_known_answers :
    crc32c (ascii "123456789") = 0xE3069283 ∧ beVal ((sha512 (ascii "abc")).take 8) = 0xDDAF35A193617ABA ∧
    beVal (aesBlock (aesKeys ((List.range 32).map (BitVec.ofNat 8))) ((List.range 16).map (fun i => BitVec.ofNat 8 (17 * i)))) = 0x8EA2B7CA516745BFEAFC49904B496089 := by
  refine ⟨?_, ?_, ?_⟩ <;> decide +kernel
theorem test_ed25519_key :
    beVal (edPublic (beBytes 32 0x9d61b19deffd5a60ba844af492ec2cc44449c5697b326919703bac031cae7f60)) =
      0xd75a980182b10ab7d54bfed3c964073a0ee172f3daa62325af021a68f707511a := by decide +kernel

end Sys2Proof.Tests
end

section
/-! PROOFS. A write to a register of the channel window, field by field (R16, R17, R19). -/
namespace Sys2Proof.Machine
open Sys2Proof

/-- The locked-write event moves no register but CHN_EVT_DROP. -/
theorem Chan.lockedWrite_rd (x : Chan) (off fn : Nat) {o : Nat} (h : Reg.CHN_EVT_DROP ≠ o) : (x.lockedWrite off fn).rd o = x.rd o :=
  Chan.event_rd _ _ _ _ _ h

theorem Chan.writeReg_of_undefined (x : Chan) (off : Nat) (a : Access) (h : findReg channelRegs off = none) : x.writeReg off a = x := by
  simp only [Chan.writeReg, h]

/-- The bits that a write leaves in a register with the fields `l`, the element `i` of its array. -/
def Chan.bitsWritten (x : Chan) (i : Nat) (a : Access) (l : List FieldDesc) (off : Nat) : Nat :=
  (l.foldl (x.writeField i a) (x.rd off, none)).1

/-- Whether or not a lock discards part of a write, the registers other than CHN_EVT_DROP read as after a plain store of the bits written. -/
theorem Chan.writeReg_rd (x : Chan) (off : Nat) (a : Access) {d : RegDesc} {ix : List Nat} (hd : findReg channelRegs off = some (d, ix))
    (hp : x.absentPortReg off (ix.headD 0) = false) {o : Nat} (ho : Reg.CHN_EVT_DROP ≠ o) :
    (x.writeReg off a).rd o = (x.wr off (x.bitsWritten (ix.headD 0) a d.fields off)).rd o := by
  simp only [Chan.writeReg, hd, hp, Bool.false_eq_true, if_false, Chan.bitsWritten]
  split
  · rfl
  · exact Chan.lockedWrite_rd _ _ _ ho

theorem RegDesc.apart_iff (d : RegDesc) :
    d.apart = true ↔ (∀ f ∈ d.fields, f.lo ≤ f.hi ∧ f.hi < 64) ∧ d.fields.Pairwise (fun f g => f.hi < g.lo ∨ g.hi < f.lo) := by
  simp [RegDesc.apart]

/-- After a write a field of the register is what its access type makes of it: no other field of the register meets it. -/
theorem Chan.writeReg_fget (x : Chan) (off : Nat) (a : Access) {d : RegDesc} {ix : List Nat} (hd : findReg channelRegs off = some (d, ix))
    (hp : x.absentPortReg off (ix.headD 0) = false) (ho : Reg.CHN_EVT_DROP ≠ off) {f : FieldDesc} (hf : f ∈ d.fields) :
    (x.writeReg off a).fget off f.hi f.lo = x.fieldAfter (ix.headD 0) a f (x.rd off) := by
  obtain ⟨hrange, hapart⟩ := d.apart_iff.1 (List.all_eq_true.1 channelRegs_apart d (findReg_mem hd))
  rw [Chan.fget, x.writeReg_rd off a hd hp ho, Chan.rd_wr_self]
  exact x.writeFields_self _ a d.fields _ f hf hrange hapart

/-- Settles O7: the write is one store of the bits that its fields leave, field by field, followed at most by the locked-write event. -/
theorem registerFields : Obligations.RegisterFields := by
  unfold Obligations.RegisterFields
  intro x off a
  refine ⟨x.writeReg_of_undefined off a, fun d ix hd hp => ⟨fun ho f hf => ?_, fun o hne ho => ?_⟩⟩
  · exact x.writeReg_fget off a hd hp ho.symm hf
  · rw [x.writeReg_rd off a hd hp ho.symm, Chan.rd_wr_ne _ _ hne.symm]

end Sys2Proof.Machine
end

section
/-! PROOFS. How far a command reaches (R38): it completes and keeps the queue; one of a channel changes that channel and, of the hub, its event ring, its link records and its
outputs, by what the two hold alone; one of the hub changes no channel. -/
namespace Sys2Proof.Machine
open Sys2Proof

/-! ### What a command of a channel leaves of the hub -/

/-- The hub without what a command of a channel may change: PF0's event ring with its vector and severities, the records of its links with its count, and its outputs. -/
def Hub.rest (h : Hub) : Hub :=
  { h with out := [], evq := EvRing.init, vec := Vec.init, sevs := [], time := 0, lost := [], downAt := [], downCnt := 0 }

@[simp] theorem Hub.event_rest (h : Hub) (code subject detail : Nat) : (h.event code subject detail).rest = h.rest := by
  simp only [Hub.event]
  split
  · split <;> split <;> rfl
  · split <;> rfl

@[simp] theorem Hub.events_rest (l : List (Nat × Nat × Nat)) (h : Hub) : (h.events l).rest = h.rest := by
  induction l generalizing h with
  | nil => rfl
  | cons e l ih => exact (ih _).trans (h.event_rest ..)

/-! ### The reach of an effect -/

/-- The effect completes at every state, keeps the queue, and relates the state before it and the state after it by `p`. -/
def Completes (m : State → Host.Outcome State Fault Refusal) (p : State → State → Prop) : Prop :=
  ∀ s, ∃ t, m s = .next t ∧ t.pending = s.pending ∧ p s t

/-- Between two states only channel c and the hub's event ring, links and outputs differ. -/
def OnlyChannel (c : ChId) (s t : State) : Prop := (∀ d, d ≠ c → t.ch d = s.ch d) ∧ t.hub.rest = s.hub.rest

/-- From every state with the channel c and the hub of `s`, the effect leaves the channel c and the hub of `t`. -/
def DependsOnChannel (m : State → Host.Outcome State Fault Refusal) (c : ChId) (s t : State) : Prop :=
  ∀ s' : State, s'.ch c = s.ch c → s'.hub = s.hub → ∃ t', m s' = .next t' ∧ t'.ch c = t.ch c ∧ t'.hub = t.hub

/-- The effect completes, keeps the queue, and stays within its scope (R38). -/
def StaysWithin (m : State → Host.Outcome State Fault Refusal) : Scope → Prop
  | .channel c => Completes m (fun s t => OnlyChannel c s t ∧ DependsOnChannel m c s t)
  | .hub => Completes m (fun s t => ∀ d, t.ch d = s.ch d)
  | .module => Completes m (fun _ _ => True)

/-! ### Commands of one channel -/

theorem onHubCh_eq (c : ChId) (f : Hub → Chan → Hub × Chan) (s : State) :
    onHubCh c f s = .next ((s.withHub (f s.hub (s.ch c)).1).after c (f s.hub (s.ch c)).2) := by cases c <;> rfl

section
variable {m : State → Host.Outcome State Fault Refusal} {c : ChId}

/-- An effect on the hub and a channel stays with the channel where it keeps the rest of the hub. -/
theorem StaysWithin.of_onHubCh {f : Hub → Chan → Hub × Chan} (hm : ∀ s, m s = onHubCh c f s) (hf : ∀ h x, (f h x).1.rest = h.rest) :
    StaysWithin m (.channel c) := by
  have key : ∀ s, m s = .next ((s.withHub (f s.hub (s.ch c)).1).after c (f s.hub (s.ch c)).2) := fun s => (hm s).trans (onHubCh_eq c f s)
  intro s
  refine ⟨_, key s, by simp [State.withHub], ⟨fun d hd => ?_, by simp [hf]⟩, fun s' hch hhub => ⟨_, key s', ?_, ?_⟩⟩
  · rw [State.after_ch_ne _ _ hd, State.withHub_ch]
  · simp [hch, hhub]
  · simp [hch, hhub]

theorem StaysWithin.of_onCh {f : Chan → Chan} (hm : ∀ s, m s = onCh c f s) : StaysWithin m (.channel c) :=
  .of_onHubCh (f := fun h x => (h, f x)) hm (fun _ _ => rfl)

theorem StaysWithin.of_onChS {f : Chan → Chan} (hm : ∀ s, m s = onChS c f s) : StaysWithin m (.channel c) :=
  .of_onCh (f := fun x => (f x).serveEnded serveFuel) hm

theorem StaysWithin.of_onPwrReq {f : Chan → Chan} (hm : ∀ s, m s = onPwrReq c f s) : StaysWithin m (.channel c) :=
  .of_onHubCh hm (fun _ _ => rfl)

/-- An effect on a channel that the hub alone lets happen. -/
theorem StaysWithin.of_ite_onCh {b : Hub → Bool} {f : Chan → Chan} (hm : ∀ s, m s = if b s.hub then onCh c f s else .next s) :
    StaysWithin m (.channel c) := by
  intro s
  cases hb : b s.hub with
  | false => exact ⟨s, by simp [hm, hb], rfl, ⟨fun _ _ => rfl, rfl⟩, fun s' hch hhub => ⟨s', by simp [hm, hhub, hb], hch, hhub⟩⟩
  | true =>
    obtain ⟨t, ht, hqueue, honly, hdep⟩ := StaysWithin.of_onCh (m := onCh c f) (fun _ => rfl) s
    refine ⟨t, by simpa [hm, hb] using ht, hqueue, honly, fun s' hch hhub => ?_⟩
    simpa [hm, hhub, hb] using hdep s' hch hhub

end

theorem hubLinkDown_staysWithin (c : ChId) : StaysWithin (execHubLinkDown c) (.channel c) := by
  refine .of_onHubCh (fun _ => rfl) (fun h y => ?_)
  split
  · rfl
  · exact Hub.event_rest ..

theorem hubLinkRestored_staysWithin (c : ChId) (lost ns : Nat) : StaysWithin (execHubLinkRestored c lost ns) (.channel c) := by
  refine .of_onHubCh (fun _ => rfl) (fun h y => ?_)
  split
  · rfl
  · exact Hub.event_rest ..

/-! ### Commands of the hub and of the module -/

theorem StaysWithin.of_onHub {m : State → Host.Outcome State Fault Refusal} {f : Hub → Hub} (hm : ∀ s, m s = onHub f s) : StaysWithin m .hub :=
  fun s => ⟨_, hm s, rfl, fun d => s.withHub_ch _ d⟩

/-- A happening of the module completes whether or not its condition holds. -/
theorem completes_ite {s : State} {b : Prop} {_ : Decidable b} {o : Host.Outcome State Fault Refusal} {f : Hub → Hub} {g0 g1 g2 g3 : Chan → Chan}
    (ho : o = if b then onEach f g0 g1 g2 g3 s else .next s) : ∃ t, o = .next t ∧ t.pending = s.pending ∧ True := by
  subst ho
  split
  · exact ⟨_, rfl, rfl, trivial⟩
  · exact ⟨s, rfl, rfl, trivial⟩

theorem pcieHotReset_staysWithin : StaysWithin execPcieHotReset .module := by
  intro s
  simp only [execPcieHotReset]
  split <;> exact ⟨_, rfl, rfl, trivial⟩

theorem spdmRequest_staysWithin (req : SpdmReq) : StaysWithin (execSpdmRequest req) .module := by
  intro s
  simp only [execSpdmRequest]
  split
  · exact ⟨_, rfl, rfl, trivial⟩
  · split <;> exact ⟨_, rfl, rfl, trivial⟩

/-! ### Every command -/

/-- Every command stays within its scope: by the way in which its effect is laid on the module. -/
theorem exec_staysWithin (i : Instr) : StaysWithin (exec i) (scopeOf i) := by
  cases i with
  -- A register write, an interrupt's unmasking and a configuration write reach as far as the window or the function they name.
  | registerWrite w | tenEvqCfgWrite w | tenEvqCidxWrite w | vectorUnmask w =>
    cases w with
    | hub => exact .of_onHub (fun _ => by unfold exec; dsimp only [execRegisterWrite, execTenEvqCfgWrite, execTenEvqCidxWrite, execVectorUnmask])
    | _ => exact .of_onCh (fun _ => by unfold exec; dsimp only [execRegisterWrite, execTenEvqCfgWrite, execTenEvqCidxWrite, execVectorUnmask])
  | pcieConfigWrite w x =>
    cases w with
    | hub => exact .of_onHub (fun _ => by unfold exec; dsimp only [execPcieConfigWrite])
    | _ => exact .of_onHubCh (fun _ => by unfold exec; dsimp only [execPcieConfigWrite]) (fun _ _ => rfl)
  | pwrReqC0 | pwrReqC1 | pwrReqC2 | pwrReqC3 | pwrReqWarmReset | pwrReqColdReset => exact .of_onPwrReq (fun _ => by unfold exec; rfl)
  | warmChannelReset | coldChannelReset => exact .of_ite_onCh (b := Hub.powered) (fun _ => by unfold exec; rfl)
  | hubLinkDown c => exact hubLinkDown_staysWithin c
  | hubLinkRestored c lost ns => exact hubLinkRestored_staysWithin c lost ns
  | pcieCorrectableError | smbusMctpRequest | meterTotalsFrame | meterHelloFrame | meterSupplyFrame | meterUnmeteredFrame | meterCreditTick | meterIntervalBoundary
  | meterLinkGap | meterInserted | mtrDrainSelWrite | mtrDrainAckWrite | mtrRemove | inputOvervoltage | plugMate | plugBreak | pwrModInputRead
  | moistureSensorChange => exact .of_onHub (fun _ => by unfold exec; rfl)
  | busWarning | warningLeft | busResetLevel | retentionRecovered | retentionLost | powerOnReset | moduleReset => exact fun _ => completes_ite (by unfold exec; rfl)
  | pcieHotReset => exact pcieHotReset_staysWithin
  | spdmRequest req => exact spdmRequest_staysWithin req
  -- The commands that may end operations of the base programs.
  | fnStart | fnStateStart | functionQuiesced | chnEidWrite | ctxRetire | ctxSet | pgAttach | pgExport | hoOffer | hoCancel | hoRebuild | offer | take
  | refuse | manifest | accept | release | abort | cancel | superseded | fenceMessage | fenceReply | offerRetryExpiry | acceptRetrySource | acceptRetryDest
  | transferIdleSource | transferIdleDest | stuckTimeExpiry | transferBodiesDone | digestVerified | releaseComplete | fenceRetry | fenceTimeExpiry
  | rebuildDecoded | fabConnClose | fabOp | store | fstore | load | loadResp | fadd64 | cswap64 | swap64 | atomicResp | ack | nak | connReq | connAcc
  | connRej | close | closeAck | heartbeat | eidAssign | retransmitTimeout | rnrDelayExpiry | connReqRetry | closeRetry | pd0IdleClose | roceSend
  | roceRdmaWrite | roceRdmaReadRequest | roceAcknowledge | roceUnsupportedOpcode | attach | attachAck | attachRefuse | detach | detachAck | attachMsgRetry
  | tierMove | tierGroupWritten | tierLend | tierRecall | recallTimeExpiry | tierT2Pool | tierFragWhere | tierFragList | tierFragDrop | lend | lendAck
  | recallDone | fragOpen | fragOpenAck | fragSeal | fragSealAck | fragFree | tierRefuse | fragRead | fragReadAck | tierMsgRetry | hedgeDeadline
  | sramError | tenantReset => exact .of_onChS (fun _ => by unfold exec; rfl)
  -- The others act on their channel alone; RECALL, which may end operations as well, is among them because its constructor's name is a keyword of Mathlib.
  | _ => exact .of_onCh (fun _ => by unfold exec; dsimp only [execRecall, onChS] <;> rfl)

/-- Settles O4: every command is laid on the module by an operation that stays within its scope, and what that keeps of the hub has the fields named here. -/
theorem channelIsolation : Obligations.ChannelIsolation := by
  unfold Obligations.ChannelIsolation
  intro i s
  have hstay := exec_staysWithin i
  generalize scopeOf i = scope at hstay ⊢
  cases scope with
  | channel c =>
    obtain ⟨t, ht, hqueue, ⟨hothers, hrest⟩, hdep⟩ := hstay s
    refine ⟨t, ht, hqueue, fun c' hc => ?_, nofun⟩
    cases hc
    exact ⟨hothers, (congrArg Hub.meter hrest :), (congrArg Hub.bus hrest :), (congrArg Hub.ide hrest :), (congrArg Hub.pci hrest :), (congrArg Hub.vin hrest :),
      (congrArg Hub.plugged hrest :), (congrArg Hub.drainSel hrest :), hdep⟩
  | hub =>
    obtain ⟨t, ht, hqueue, hch⟩ := hstay s
    exact ⟨t, ht, hqueue, nofun, fun _ => hch⟩
  | module =>
    obtain ⟨t, ht, hqueue, -⟩ := hstay s
    exact ⟨t, ht, hqueue, nofun, nofun⟩

end Sys2Proof.Machine
end

section
/-! PROOFS. The scalar and predicate instructions (R240): each row of the table has one body on the registers of its core, and the value that the body writes is the
value of the row. -/
namespace Sys2Proof.Machine
open Sys2Proof

section
variable {i : Instr} {s : State} {c : ChId} {k op : Nat} {f : IFields}

/-! ### From an instruction's body to what it changes -/

/-- An instruction whose body replaces its core and goes on to the next steps its core, by what the body computes from the channel as it stands. -/
theorem StepsCore.of_instr {v : Chan → GCore → GCore} {h : GCore → GCore}
    (he : exec i s = onCh c (fun x => x.instr k op f (fun x g _ => x.stepCore k (v x g))) s) (hv : ∀ g, v (s.ch c) g = h g) : StepsCore i s c k op f h := by
  intro hi
  obtain ⟨p, -, hbody⟩ := Chan.instr_of_issues hi (fun x g _ => x.stepCore k (v x g))
  rw [he, onCh_eq, hbody, Chan.stepCore, hv]

/-- An instruction that writes scalar register D steps its core by that write of any equal value. -/
theorem StepsCore.of_setS {v : Chan → GCore → W64} {v' : GCore → W64}
    (he : exec i s = onCh c (fun x => x.instr k op f (fun x g _ => x.stepCore k (g.setS f.d (v x g)))) s) (hv : ∀ g, v (s.ch c) g = v' g) :
    StepsCore i s c k op f (fun g => g.setS f.d (v' g)) :=
  .of_instr (v := fun x g => g.setS f.d (v x g)) he (fun g => congrArg (g.setS f.d) (hv g))

/-- An instruction that writes predicate D steps its core by that write of any equal value. -/
theorem StepsCore.of_setP {v : Chan → GCore → Bool} {v' : GCore → Bool}
    (he : exec i s = onCh c (fun x => x.instr k op f (fun x g _ => x.stepCore k (g.setP f.d (v x g)))) s) (hv : ∀ g, v (s.ch c) g = v' g) :
    StepsCore i s c k op f (fun g => g.setP f.d (v' g)) :=
  .of_instr (v := fun x g => g.setP f.d (v x g)) he (fun g => congrArg (g.setP f.d) (hv g))

/-- The field I of an instruction that a core issues lies in its 32 bits (R234). -/
theorem Chan.imm_lt_of_issues {x : Chan} (h : x.issues k op f = true) : f.i < 2 ^ 32 := by
  simp only [Chan.issues, IFields.fits, Bool.and_eq_true, decide_eq_true_eq] at h
  obtain ⟨⟨⟨⟨⟨⟨⟨⟨-, -, -, -, -, hi⟩, -⟩, -⟩, -⟩, -⟩, -⟩, -⟩, -⟩ := h
  exact hi

/-- What an instruction changes may be shown under the bound of its field I. -/
theorem StepsCore.of_imm_lt {h : GCore → GCore} (hs : f.i < 2 ^ 32 → StepsCore i s c k op f h) : StepsCore i s c k op f h :=
  fun hi => hs (Chan.imm_lt_of_issues hi) hi

/-- A NOP leaves the registers as they are. -/
theorem exec_nop_zero : exec (.nop c k 0 f) s = onCh c (fun x => x.instr k 0 f (fun x g _ => x.stepCore k g)) s := by
  rw [exec_nop]
  simp only [execNop, true_or, if_true]
  rfl

end

/-! ### The values of the table -/

/-- MUL keeps the low 64 bits of the product of the operands' numbers. -/
theorem mul_eq_ofNat (a b : W64) : a * b = BitVec.ofNat 64 (a.toNat * b.toNat) :=
  BitVec.eq_of_toNat_eq (by rw [BitVec.toNat_mul, BitVec.toNat_ofNat])

/-- MINU chooses the operand with the smaller number. -/
theorem ite_le_eq_ofNat_min (a b : W64) : (if a.toNat ≤ b.toNat then a else b) = BitVec.ofNat 64 (min a.toNat b.toNat) := by
  rw [Nat.min_def, apply_ite (BitVec.ofNat 64), BitVec.ofNat_toNat, BitVec.ofNat_toNat, BitVec.setWidth_eq, BitVec.setWidth_eq]

/-- MAXU chooses the operand with the larger number. -/
theorem ite_le_eq_ofNat_max (a b : W64) : (if a.toNat ≤ b.toNat then b else a) = BitVec.ofNat 64 (max a.toNat b.toNat) := by
  rw [Nat.max_def, apply_ite (BitVec.ofNat 64), BitVec.ofNat_toNat, BitVec.ofNat_toNat, BitVec.setWidth_eq, BitVec.setWidth_eq]

/-- The zero extension of a field I of 32 bits is its number. -/
theorem zext_of_lt {n : Nat} (h : n < 2 ^ 32) : zext n = BitVec.ofNat 64 n := by rw [zext, w64, Nat.mod_eq_of_lt h]

/-- The width of a field is the six bits of I from bit 8. -/
theorem fieldWidth_eq (n : Nat) : fieldWidth n = if n / 256 % 64 = 0 then 64 else n / 256 % 64 := by
  simp only [fieldWidth, bits, Nat.shiftRight_eq_div_pow, Nat.reducePow, Nat.reduceAdd, Nat.reduceSub]

/-- EXTR shifts the field down to bit 0 and cuts it to its width. -/
theorem extr_eq (n : Nat) (a : W64) :
    extr n a = BitVec.ofNat 64 (a.toNat >>> (n % 64) % 2 ^ (if n / 256 % 64 = 0 then 64 else n / 256 % 64)) := by
  rw [extr, w64, fieldWidth_eq, Nat.shiftRight_eq_div_pow]

/-- Settles O27, row by row: the body of each instruction writes the register of its row, and what it computes is the row's value, by definition for all but MUL, MINU, MAXU, MOVHI,
EXTR and the zero-extended immediates. -/
theorem scalarTable : Obligations.ScalarTable := by
  unfold Obligations.ScalarTable
  intro s c k f
  exact ⟨
    .of_instr exec_nop_zero fun _ => rfl,
    -- Two registers.
    .of_setS exec_iAdd fun _ => rfl,
    .of_setS exec_iSub fun _ => rfl,
    .of_setS exec_iMul fun _ => mul_eq_ofNat _ _,
    .of_setS exec_iMulhu fun _ => rfl,
    .of_setS exec_iMulhs fun _ => rfl,
    .of_setS exec_iDivu fun _ => rfl,
    .of_setS exec_iRemu fun _ => rfl,
    .of_setS exec_iAnd fun _ => rfl,
    .of_setS exec_iOr fun _ => rfl,
    .of_setS exec_iXor fun _ => rfl,
    .of_setS exec_iShl fun _ => rfl,
    .of_setS exec_iShr fun _ => rfl,
    .of_setS exec_iSar fun _ => rfl,
    .of_setS exec_iMinu fun _ => ite_le_eq_ofNat_min _ _,
    .of_setS exec_iMaxu fun _ => ite_le_eq_ofNat_max _ _,
    -- A register and I, sign-extended or zero-extended.
    .of_setS exec_iAddi fun _ => rfl,
    .of_imm_lt fun hi => .of_setS exec_iAndi fun g => congrArg (g.sreg f.a &&& ·) (zext_of_lt hi),
    .of_imm_lt fun hi => .of_setS exec_iOri fun g => congrArg (g.sreg f.a ||| ·) (zext_of_lt hi),
    .of_imm_lt fun hi => .of_setS exec_iXori fun g => congrArg (g.sreg f.a ^^^ ·) (zext_of_lt hi),
    .of_setS exec_iShli fun _ => rfl,
    .of_setS exec_iShri fun _ => rfl,
    .of_setS exec_iSari fun _ => rfl,
    .of_imm_lt fun hi => .of_setS exec_iMovi fun _ => zext_of_lt hi,
    .of_setS exec_iMovhi fun g => congrArg (fun n => BitVec.ofNat 64 ((g.sreg f.d).toNat % 2 ^ 32 + n)) (Nat.mul_comm f.i (2 ^ 32)),
    -- Fields and counts of bits, the selection, and what the core reads of its channel.
    .of_setS exec_iExtr fun _ => extr_eq _ _,
    .of_setS exec_iInsr fun _ => rfl,
    .of_setS exec_iClz fun _ => rfl,
    .of_setS exec_iPopc fun _ => rfl,
    .of_setS exec_iSel fun _ => rfl,
    .of_setS exec_iRdtime fun _ => rfl,
    .of_setS exec_iRdid fun _ => rfl,
    -- Predicates.
    .of_setP exec_iCmp fun _ => rfl,
    .of_setP exec_iCmpi fun _ => rfl,
    .of_setP exec_iPlog fun _ => rfl,
    .of_setS exec_iPrd fun _ => rfl⟩

end Sys2Proof.Machine
end

section
/-! PROOFS. The canonical form between two commands (note 10), which every step keeps. -/
namespace Sys2Proof.Machine
open Sys2Proof
-- Theorem by theorem: side by side, the checks of this text take more memory than they are given.
set_option Elab.async false

/-! ### Every command settles what it changes -/

/-- The effect leaves every channel either as it found it or settled. -/
def SettlesEach (m : State → Host.Outcome State Fault Refusal) : Prop :=
  ∀ s t, m s = .next t → ∀ d, t.ch d = s.ch d ∨ ∃ x : Chan, t.ch d = x.settle

section
variable {m : State → Host.Outcome State Fault Refusal}

theorem SettlesEach.of_after (c : ChId) (hm : ∀ s, ∃ (h : Hub) (x : Chan), m s = .next ((s.withHub h).after c x)) : SettlesEach m := by
  intro s t ht d
  obtain ⟨h, x, hm⟩ := hm s
  obtain rfl := Host.Outcome.next.inj (ht.symm.trans hm)
  by_cases hd : d = c
  · subst hd; exact .inr ⟨x, State.after_ch ..⟩
  · exact .inl (by rw [State.after_ch_ne _ _ hd, State.withHub_ch])

/-- An effect within the hub's scope changes no channel. -/
theorem SettlesEach.of_staysWithin_hub (hm : StaysWithin m .hub) : SettlesEach m := by
  intro s t ht d
  obtain ⟨u, hu, -, hkeep⟩ := hm s
  obtain rfl := Host.Outcome.next.inj (ht.symm.trans hu)
  exact .inl (hkeep d)

theorem SettlesEach.onEach (f : Hub → Hub) (g0 g1 g2 g3 : Chan → Chan) : SettlesEach (onEach f g0 g1 g2 g3) := by
  intro s t ht d
  obtain rfl := Host.Outcome.next.inj ht
  cases d <;> exact .inr ⟨_, rfl⟩

theorem SettlesEach.next : SettlesEach .next := fun _ _ ht _ => .inl (by rw [Host.Outcome.next.inj ht])


/-- A conditional effect settles where each branch does, at the state that it meets. -/
theorem SettlesEach.of_ite {b : State → Prop} {_ : ∀ s, Decidable (b s)} {m' m'' : State → Host.Outcome State Fault Refusal}
    (h' : SettlesEach m') (h'' : SettlesEach m'') (hm : ∀ s, m s = if b s then m' s else m'' s) : SettlesEach m := by
  intro s t ht
  rw [hm] at ht
  split at ht
  · exact h' s t ht
  · exact h'' s t ht

end

theorem spdmRequest_settlesEach (req : SpdmReq) : SettlesEach (execSpdmRequest req) := by
  intro s t ht
  simp only [execSpdmRequest] at ht
  split at ht
  · exact SettlesEach.of_staysWithin_hub (.of_onHub fun _ => rfl) s t ht
  · split at ht
    · exact SettlesEach.of_staysWithin_hub (.of_onHub fun _ => rfl) s t ht
    · exact SettlesEach.onEach _ _ _ _ _ s t ht

/-- Every command settles what it changes, by the way in which its effect is laid on the module. -/
theorem exec_settlesEach (i : Instr) : SettlesEach (exec i) := by
  cases i with
  | registerWrite w | tenEvqCfgWrite w | tenEvqCidxWrite w | vectorUnmask w | pcieConfigWrite w =>
    cases w with
    | hub => exact .of_staysWithin_hub (exec_staysWithin _)
    | _ => exact .of_after _ (fun _ => ⟨_, _, rfl⟩)
  | pcieCorrectableError | smbusMctpRequest | meterTotalsFrame | meterHelloFrame | meterSupplyFrame | meterUnmeteredFrame | meterCreditTick | meterIntervalBoundary
  | meterLinkGap | meterInserted | mtrDrainSelWrite | mtrDrainAckWrite | mtrRemove | inputOvervoltage | plugMate | plugBreak | pwrModInputRead
  | moistureSensorChange => exact .of_staysWithin_hub (exec_staysWithin _)
  | busWarning | warningLeft | busResetLevel | retentionRecovered | retentionLost | powerOnReset | moduleReset =>
    exact .of_ite (.onEach _ _ _ _ _) .next (fun _ => by unfold exec; rfl)
  | pcieHotReset => exact .of_ite .next (.onEach _ _ _ _ _) (fun _ => by unfold exec; rfl)
  | spdmRequest req => exact spdmRequest_settlesEach req
  | warmChannelReset c | coldChannelReset c => exact .of_ite (.of_after c fun _ => ⟨_, _, rfl⟩) .next (fun _ => by unfold exec; rfl)
  | hubLinkDown | hubLinkRestored => exact .of_after _ (fun _ => ⟨_, _, by unfold exec; exact onHubCh_eq ..⟩)
  | _ => exact .of_after _ (fun _ => ⟨_, _, rfl⟩)

/-- A command keeps the module tidy. -/
theorem exec_tidy {i : Instr} {s t : State} (hs : s.tidy = true) (ht : exec i s = .next t) : t.tidy = true := by
  rw [State.tidy_iff]
  intro d
  obtain h | ⟨x, h⟩ := exec_settlesEach i s t ht d
  · rw [h]; exact State.tidy_ch hs d
  · rw [h]; exact x.settle_tidy

/-- Passing time touches no memory. -/
theorem Chan.idle_tidy (x : Chan) : x.idle.tidy = x.tidy := by
  rw [Chan.idle, Chan.reach_eq]; rfl

/-- Settles O3: a command settles what it changes, and an idle step touches no memory. -/
theorem everyStepTidy : Obligations.EveryStepTidy := by
  unfold Obligations.EveryStepTidy
  intro s t hs ht
  unfold step at ht
  split at ht
  · obtain rfl := Host.Outcome.next.inj ht
    rw [State.tidy_iff] at hs ⊢
    intro d
    cases d with
    | c0 => exact s.ch0.idle_tidy.trans (hs .c0)
    | c1 => exact s.ch1.idle_tidy.trans (hs .c1)
    | c2 => exact s.ch2.idle_tidy.trans (hs .c2)
    | c3 => exact s.ch3.idle_tidy.trans (hs .c3)
  · exact exec_tidy (by simpa [State.tidy_iff] using (State.tidy_iff s).1 hs) ht

end Sys2Proof.Machine
end

section
/-! PROOFS. One step and reset (R38, R49, R473), and how the base programs turn a caller away (R84, R89, R365, R372, R387, R448). -/
namespace Sys2Proof.Machine
open Sys2Proof
-- Theorem by theorem: side by side, the checks of this text take more memory than they are given.
set_option Elab.async false

/-! ### One step (R38, R473) -/

theorem Chan.reach_mtr_of_present {x : Chan} (h : x.mtr.absent = false) (t : Nat) : (x.reach t).mtr = x.mtr := by
  simp [Chan.reach, h]

/-- An idle channel changes at most its time, its free values and its meter link, and of the last only what the absence of the meter adds. -/
theorem Chan.idle_eq (x : Chan) : x.time ≤ x.idle.time ∧ x.idle = { x with time := x.idle.time, fresh := x.idle.fresh, mtr := x.idle.mtr } ∧
    (x.mtr.absent = false → x.idle.mtr = x.mtr) := by
  refine ⟨?_, ?_, fun h => Chan.reach_mtr_of_present h _⟩
  · simp [Chan.idle, Chan.reach]
  · simp only [Chan.idle]; rw [Chan.reach_eq]

theorem State.idle_ch (s : State) (c : ChId) : s.idle.ch c = (s.ch c).idle := by cases c <;> rfl

/-- Settles O1: both branches of the step are its definition, and an idle step is the idle step of each channel. -/
theorem steps : Obligations.Steps := by
  unfold Obligations.Steps
  refine ⟨fun _ _ => rfl, fun i rest s h => ?_, fun s h => ⟨s.idle, ?_, h, rfl, Nat.le_add_right .., fun c => ?_⟩⟩
  · simp only [step, h]
  · simp only [step, h]
  · rw [State.idle_ch]; exact (s.ch c).idle_eq

/-! ### Reset (R49, R73, R386, R461) -/

theorem State.reset_ch (c : ChId) : State.reset.ch c = Chan.reset (chNum c) false := by cases c <;> rfl

theorem Chan.reset_tidy (n : Nat) (g8x : Bool) : (Chan.reset n g8x).tidy = true := rfl

/-- The offset that the array TEN_SLOT_CFG reaches at index 0x80020 is CLK_SRC's, which holds the straps' selection at reset. -/
theorem Chan.reset_tag_of_clkSrc (n : Nat) (g8x : Bool) : (Chan.reset n g8x).tag 0x80020 = 7 := rfl

/-- Refutes O2: TAG is asked to read zero at every index, and index 0x80020, beyond the sixteen slots, lies on CLK_SRC, whose low 32 bits are 7 at reset. -/
theorem not_resetState : ¬ Obligations.ResetState := by
  unfold Obligations.ResetState
  intro h
  obtain ⟨-, -, -, -, hch⟩ := h
  obtain ⟨-, -, -, -, -, -, -, -, -, -, -, -, -, -, -, htag, -⟩ := hch .c0
  exact absurd (htag 0x80020) (by rw [State.reset_ch, Chan.reset_tag_of_clkSrc]; decide)

/-! ### Admission to the base programs (R84, R89, R365, R372, R387, R448) -/

/-- The channel `y` that a call leaves of `x` where it is turned away: `x` itself where the channel does not serve, else its completion with the first status that applies. -/
def BaseCall.turnsAway (k : BaseCall) (x y : Chan) : Prop :=
  let ends := fun st => y = x.complete k.src st 0
  let called := k.gate.pfOnly = false ∨ k.src.vf = none
  let taken := called ∧ (x.rel.mode ≠ .shadow ∨ k.gate.shadowOk = true)
  let tagged := (k.gate.needTag = false ∧ k.src.vf = none) ∨ x.tag k.src.slot ≠ 0
  (x.serves = false → x.sec.mode ≠ .updating → y = x) ∧
  (x.serves = true →
    (¬ called → ends 0x78) ∧ (called → ¬ taken → ends 0x29) ∧ (taken → ¬ tagged → ends 0xB0) ∧
    (taken → tagged → k.onTable = true → x.ctx.ready = false → ends 0x29))

/-- A command turns its caller away by the checks that come before its own. -/
theorem BaseCall.turnsAway_command {k : BaseCall} (x : Chan) (body : Chan → Chan)
    (hbody : k.onTable = true → x.ctx.ready = false → body x = x.complete k.src 0x29 0) : k.turnsAway x (x.command k.src k.gate body) := by
  have hpf : k.gate.pfOnly = false ∨ k.src.vf = none → (k.gate.pfOnly && k.src.vf.isSome) = false := by rintro (hc | hc) <;> simp [hc]
  have hsh : x.rel.mode ≠ .shadow ∨ k.gate.shadowOk = true → (decide (x.rel.mode = .shadow) && !k.gate.shadowOk) = false := by rintro (hc | hc) <;> simp [hc]
  refine ⟨fun h _ => by simp [Chan.command, h], fun h => ⟨fun hc => ?_, fun hc ht => ?_, fun ht hg => ?_, fun ht hg hk hr => ?_⟩⟩
  · obtain ⟨hp, hv⟩ := not_or.1 hc
    simp [Chan.command, h, hp, Option.isSome_iff_ne_none.2 hv]
  · obtain ⟨hm, hok⟩ := not_or.1 (fun h => ht ⟨hc, h⟩)
    simp [Chan.command, h, hpf hc, not_ne_iff.1 hm, hok]
  · have : (k.gate.needTag || k.src.vf.isSome) = true := by
      cases hn : k.gate.needTag <;> cases hv : k.src.vf <;> simp_all
    simp [Chan.command, h, hpf ht.1, hsh ht.2, this, not_ne_iff.1 (not_or.1 hg).2]
  · rw [Chan.command_of_admits _ body]
    · exact hbody hk hr
    · obtain ⟨hc, hm⟩ := ht
      simp only [Chan.admits, Bool.and_eq_true, Bool.or_eq_true, Bool.not_eq_true', decide_eq_true_eq]
      refine ⟨⟨⟨h, ?_⟩, hm⟩, ?_⟩
      · rcases hc with hc | hc <;> simp_all
      · rcases hg with hc | hc <;> simp_all

theorem BaseCall.turnsAway_ctxCommand {k : BaseCall} (x : Chan) (body : Chan → Chan) : k.turnsAway x (x.ctxCommand k.src k.gate body) :=
  turnsAway_command x _ (fun _ hr => by simp only [hr, Bool.false_eq_true, if_false])

/-- Every base-program entry that a command calls turns away as R84, R365, R372, R387 and R448 say. -/
def TurnsAway (i : Instr) (k : BaseCall) : Prop :=
  ∃ f : Chan → Chan, (∀ s, exec i s = onCh k.ch f s ∨ exec i s = onChS k.ch f s) ∧ ∀ x, k.turnsAway x (f x)

theorem TurnsAway.of_command {i : Instr} {c : ChId} {src : Src} {a : Admit} {body : Chan → Chan}
    (he : ∀ s, exec i s = onCh c (fun x => x.command src a body) s) : TurnsAway i ⟨c, src, a, false⟩ :=
  ⟨_, fun s => .inl (he s), fun x => BaseCall.turnsAway_command (k := ⟨c, src, a, false⟩) x body nofun⟩

theorem TurnsAway.of_commandS {i : Instr} {c : ChId} {src : Src} {a : Admit} {body : Chan → Chan}
    (he : ∀ s, exec i s = onChS c (fun x => x.command src a body) s) : TurnsAway i ⟨c, src, a, false⟩ :=
  ⟨_, fun s => .inr (he s), fun x => BaseCall.turnsAway_command (k := ⟨c, src, a, false⟩) x body nofun⟩

theorem TurnsAway.of_ctxCommand {i : Instr} {c : ChId} {src : Src} {a : Admit} {body : Chan → Chan}
    (he : ∀ s, exec i s = onCh c (fun x => x.ctxCommand src a body) s) : TurnsAway i ⟨c, src, a, true⟩ :=
  ⟨_, fun s => .inl (he s), fun x => BaseCall.turnsAway_ctxCommand (k := ⟨c, src, a, true⟩) x body⟩

theorem TurnsAway.of_ctxCommandS {i : Instr} {c : ChId} {src : Src} {a : Admit} {body : Chan → Chan}
    (he : ∀ s, exec i s = onChS c (fun x => x.ctxCommand src a body) s) : TurnsAway i ⟨c, src, a, true⟩ :=
  ⟨_, fun s => .inr (he s), fun x => BaseCall.turnsAway_ctxCommand (k := ⟨c, src, a, true⟩) x body⟩

/-- rel.isolate has one check of its own that comes first: while firmware is programmed, the channel does not serve (R459). -/
theorem relIsolate_turnsAway (c : ChId) (src : Src) : TurnsAway (.relIsolate c src) ⟨c, src, ⟨true, true, false⟩, false⟩ := by
  refine ⟨_, fun s => .inl exec_relIsolate, fun x => ?_⟩
  have hcmd := BaseCall.turnsAway_command (k := ⟨c, src, ⟨true, true, false⟩, false⟩) x (fun x => x.isolate 4) nofun
  by_cases hm : x.sec.mode = .updating
  · have hs : x.serves = false := by simp [Chan.serves, hm]
    exact ⟨fun _ h => absurd hm h, fun h => absurd (hs.symm.trans h) (by simp)⟩
  · simpa only [hm, if_false] using hcmd

theorem callOf_turnsAway {i : Instr} {k : BaseCall} (h : callOf i = some k) : TurnsAway i k := by
  cases i with
  | fnStop | roleStop | roleLoad | roleStart | cruQueueCreate | cruQueueDelete | cruRowop | spcBegin | spcVerify | spcAbandon | gafLoad | gafUnload | gafInvoke
  | gafQuery | fabPd | fabReg | fabRevoke | fabOwner | fabConnOpen | fabRoce | pfxLookup | pfxWrite | secCert | secAttest | secKeyImport | secKeyDestroy
  | secPeer | secOwn | secCfgWrite | secFwStage | secFwCommit | relExpect | relShadow | relInject | relMismatchList =>
    obtain rfl := Option.some.inj h
    exact .of_command (fun _ => rfl)
  | fnStart | fabConnClose | fabOp | tierLend | tierRecall | tierT2Pool | tierFragList | tierFragDrop =>
    obtain rfl := Option.some.inj h
    exact .of_commandS (fun _ => rfl)
  | ctxOpen | ctxSeal | ctxQuery | ctxFind | ctxSignal | pgWindow | pgImport | pgScale | hoProbe | cruJob | spcGovern | pfxChain | pfxPublish | pfxUnpin =>
    obtain rfl := Option.some.inj h
    exact .of_ctxCommand (fun _ => rfl)
  | ctxRetire | ctxSet | pgAttach | pgExport | hoOffer | hoCancel | hoRebuild | tierMove | tierFragWhere =>
    obtain rfl := Option.some.inj h
    exact .of_ctxCommandS (fun _ => rfl)
  | relIsolate c src =>
    obtain rfl := Option.some.inj h
    exact relIsolate_turnsAway c src
  | _ => cases h

/-- Settles O5: a command that is turned away ends no operation of the base programs, so its channel is left as the checks leave it. -/
theorem admission : Obligations.Admission := by
  unfold Obligations.Admission
  intro i s k hk x ends called taken tagged hended
  obtain ⟨f, he, hf⟩ := callOf_turnsAway hk
  obtain ⟨hidle, hserves⟩ := hf x
  have lay : ∀ {y : Chan}, f x = y → y.fab.ended = [] → exec i s = .next (s.after k.ch y) := fun hy hn =>
    (he s).elim (fun he => exec_after he hy) (fun he => execS_after he hy hn)
  have done : ∀ st, (x.complete k.src st 0).fab.ended = [] := fun st => by simpa using hended
  refine ⟨fun h hm => lay (hidle h hm) hended, fun h => ?_⟩
  obtain ⟨h78, h29, hB0, htable⟩ := hserves h
  exact ⟨fun hc => lay (h78 hc) (done _), fun hc ht => lay (h29 hc ht) (done _), fun ht hg => lay (hB0 ht hg) (done _),
    fun ht hg hk hr => lay (htable ht hg hk hr) (done _)⟩

end Sys2Proof.Machine
end

section
/-! PROOFS. What an event, a completion and an interrupt leave unchanged, and what each sends (R58 to R60, R369, R370, R376, R378). -/
namespace Sys2Proof.Machine
open Sys2Proof
-- Theorem by theorem: side by side, the checks of this text take more memory than they are given.
set_option Elab.async false

/-- From `x` to `y` only the host port, the outputs, which grow at the front, and CHN_EVT_DROP change. -/
def Chan.OnlyRecords (x y : Chan) : Prop :=
  (∃ h l r, y = { x with host := h, out := l ++ x.out, regs := r }) ∧ ∀ off, off ≠ Reg.CHN_EVT_DROP → y.rd off = x.rd off

theorem Chan.OnlyRecords.refl (x : Chan) : x.OnlyRecords x := ⟨⟨x.host, [], x.regs, rfl⟩, fun _ _ => rfl⟩

theorem Chan.OnlyRecords.trans {x y z : Chan} (h : x.OnlyRecords y) (h' : y.OnlyRecords z) : x.OnlyRecords z := by
  obtain ⟨⟨_, l, _, rfl⟩, hr⟩ := h
  obtain ⟨⟨_, l', _, rfl⟩, hr'⟩ := h'
  exact ⟨⟨_, l' ++ l, _, by rw [List.append_assoc]⟩, fun off ho => (hr' off ho).trans (hr off ho)⟩

/-- What `x` had sent `y` has sent as well. -/
theorem Chan.OnlyRecords.mem_out {x y : Chan} (h : x.OnlyRecords y) {o : Output} (ho : o ∈ x.out) : o ∈ y.out := by
  obtain ⟨⟨_, l, _, rfl⟩, -⟩ := h
  exact List.mem_append_right l ho

/-- A change of the host port that sends some outputs. -/
theorem Chan.OnlyRecords.host (x : Chan) (h : HostPort) (l : List Output) : x.OnlyRecords { x with host := h, out := l ++ x.out } :=
  ⟨⟨h, l, x.regs, rfl⟩, fun _ _ => rfl⟩

theorem Chan.OnlyRecords.emit (x : Chan) (o : Output) : x.OnlyRecords (x.emit o) := .host x x.host [o]

theorem Chan.OnlyRecords.bump (x : Chan) (n : Nat) : x.OnlyRecords (x.bump Reg.CHN_EVT_DROP 31 0 n) :=
  ⟨⟨x.host, [], _, rfl⟩, fun _ ho => Chan.rd_wr_ne _ _ ho.symm⟩

theorem Chan.OnlyRecords.interrupt (x : Chan) (f : PciFn) (v : Nat) : x.OnlyRecords (x.interrupt f v) := by
  simp only [Chan.interrupt]
  split
  · exact .host x _ []
  · split
    · exact .refl x
    · exact .emit x _

theorem Chan.OnlyRecords.setRing (x : Chan) (f : PciFn) (n : Nat) (r : Ring) : x.OnlyRecords (x.setRing f n r) := .host x _ []

/-- A step that is taken only where a condition holds. -/
theorem Chan.OnlyRecords.ite {x y z : Chan} {b : Prop} {_ : Decidable b} (h : x.OnlyRecords y) (h' : x.OnlyRecords z) : x.OnlyRecords (if b then y else z) := by
  split <;> assumption

theorem Chan.OnlyRecords.postEvent (x : Chan) (f : PciFn) (d : EventDef) (ten : Option Nat) (subject detail : Nat) :
    x.OnlyRecords (x.postEvent f d ten subject detail) := by
  simp only [Chan.postEvent]
  generalize EvRing.offer _ _ = r
  refine .trans (.host x _ []) (.trans (.ite (.ite (.refl _) (.bump _ _)) (.refl _)) (.trans (.ite (.emit _ _) (.refl _)) (.ite (.interrupt _ _ _) (.refl _))))

/-- An event is told first, and then offered to the rings that it concerns. -/
theorem Chan.OnlyRecords.event_of_emit (x : Chan) (code : Nat) (ten : Option Nat) (subject detail : Nat) :
    (x.emit (.event (eventDef code).code (eventDef code).sev ten subject detail)).OnlyRecords (x.event code ten subject detail) := by
  simp only [Chan.event, Chan.eventAs]
  split
  · exact .ite (.trans (.postEvent _ _ _ _ _ _) (.postEvent _ _ _ _ _ _)) (.postEvent _ _ _ _ _ _)
  · exact .postEvent _ _ _ _ _ _

theorem Chan.OnlyRecords.event (x : Chan) (code : Nat) (ten : Option Nat) (subject detail : Nat) : x.OnlyRecords (x.event code ten subject detail) :=
  .trans (.emit x _) (.event_of_emit ..)

theorem Chan.OnlyRecords.ringError (x : Chan) (f : PciFn) (n cause index : Nat) : x.OnlyRecords (x.ringError f n cause index) :=
  .ite (.refl x) (.trans (.setRing x f n _) (.event _ _ _ _ _))

theorem Chan.OnlyRecords.postCompletion (x : Chan) (f : PciFn) (n cid status result : Nat) : x.OnlyRecords (x.postCompletion f n cid status result) := by
  simp only [Chan.postCompletion]
  split
  · exact .refl x
  · refine .ite (.setRing x _ _ _) (.ite (.trans (.setRing x _ _ _) (.ringError _ _ _ _ _)) ?_)
    exact .trans (.emit x _) (.trans (.setRing _ _ _ _) (.ite (.interrupt _ _ _) (.refl _)))

/-- A command without a result record tells its end and posts its completion. -/
theorem Chan.complete_nil (x : Chan) (src : Src) (status result : Nat) :
    x.complete src status result = (x.emit (.done src status result)).postCompletion src.fn src.n src.cid status result := rfl

theorem Chan.OnlyRecords.complete (x : Chan) (src : Src) (status result : Nat) : x.OnlyRecords (x.complete src status result) :=
  .trans (.emit x _) (.postCompletion _ _ _ _ _ _)

/-! ### The rings that each leaves -/

theorem Chan.interrupt_rings (x : Chan) (f : PciFn) (v : Nat) : (x.interrupt f v).host.rings = x.host.rings ∧ (x.interrupt f v).host.evqs = x.host.evqs := by
  simp only [Chan.interrupt]
  split
  · exact ⟨rfl, rfl⟩
  · split <;> exact ⟨rfl, rfl⟩

theorem Chan.postEvent_rings (x : Chan) (f : PciFn) (d : EventDef) (ten : Option Nat) (subject detail : Nat) :
    (x.postEvent f d ten subject detail).host.rings = x.host.rings := by
  simp only [Chan.postEvent]
  generalize EvRing.offer _ _ = r
  split <;> (try rw [(Chan.interrupt_rings _ _ _).1]) <;> (repeat' split) <;> rfl

theorem Chan.event_rings (x : Chan) (code : Nat) (ten : Option Nat) (subject detail : Nat) : (x.event code ten subject detail).host.rings = x.host.rings := by
  simp only [Chan.event, Chan.eventAs]
  split
  · split <;> simp only [Chan.postEvent_rings] <;> rfl
  · simp only [Chan.postEvent_rings]; rfl

/-- A completion whose record does not fail leaves the event rings and the registers. -/
theorem Chan.postCompletion_evqs {x : Chan} {f : PciFn} {n : Nat} (h : x.dmaFault f = none ∨ (x.ring f n).err = true) (cid status result : Nat) :
    (x.postCompletion f n cid status result).host.evqs = x.host.evqs ∧ (x.postCompletion f n cid status result).regs = x.regs := by
  simp only [Chan.postCompletion]
  split
  · exact ⟨rfl, rfl⟩
  · split
    · exact ⟨rfl, rfl⟩
    · rename_i herr
      have hd : x.dmaFault f = none := h.resolve_right herr
      simp only [hd, Option.isSome_none, Bool.false_eq_true, if_false]
      split
      · exact ⟨(Chan.interrupt_rings _ _ _).2, (Chan.interrupt_frame ..).2.2.2.2.1⟩
      · exact ⟨rfl, rfl⟩

/-- Settles O6: each of the three is a chain of steps that touch only the host port, the outputs and CHN_EVT_DROP. -/
theorem recordFrames : Obligations.RecordFrames := by
  unfold Obligations.RecordFrames
  intro x code ten subject detail src status result f v only e d
  have frame : ∀ {y}, x.OnlyRecords y → only y := by
    rintro y ⟨⟨h, l, r, rfl⟩, hr⟩
    exact ⟨rfl, hr, l, rfl⟩
  refine ⟨frame (.event ..), frame (.complete ..), frame (.interrupt ..), ?_, ?_, Chan.event_rings .., by simp, fun h => ?_⟩
  · exact (Chan.OnlyRecords.event_of_emit ..).mem_out List.mem_cons_self
  · exact (Chan.OnlyRecords.postCompletion ..).mem_out List.mem_cons_self
  · exact Chan.postCompletion_evqs (x := x.emit (.done src status result)) h ..

end Sys2Proof.Machine
end

section
/-! PROOFS. The draft-length governor (R198 to R200). -/
namespace Sys2Proof.Machine
open Sys2Proof
-- Theorem by theorem: side by side, the checks of this text take more memory than they are given.
set_option Elab.async false

/-- A GOVERNOR word of the four fields of R198. -/
def govWord (limit acc run hold : Nat) : Nat := limit * 2 ^ 25 + acc % 512 * 2 ^ 16 + run * 2 ^ 8 + hold

/-- The fields of a GOVERNOR word read back, and the word has 32 bits. -/
theorem govWord_fields {limit acc run hold : Nat} (hl : limit < 128) (ha : acc < 512) (hr : run < 256) (hh : hold < 256) :
    govWord limit acc run hold < 2 ^ 32 ∧ govLimit (govWord limit acc run hold) = limit ∧ bits (govWord limit acc run hold) 24 16 = acc ∧
    bits (govWord limit acc run hold) 15 8 = run ∧ bits (govWord limit acc run hold) 7 0 = hold := by
  simp only [govLimit, bits, govWord, Nat.shiftRight_eq_div_pow]
  omega

/-- LIMIT after a VERIFY, before a disabled draft makes it zero (R200). -/
def Chan.nextLimit (x : Chan) (v a d acc : Nat) : Nat :=
  if a = 0 then max 1 (govLimit v / 2)
  else if acc < x.fget Reg.SPC_GOV_CFG 38 30 then max 1 (govLimit v - 1)
  else if a = d ∧ x.upThresh ≤ acc then min x.maxDepth (govLimit v + 1)
  else govLimit v

/-- LIMIT grows at most to MAX_DEPTH, and becomes zero only where it was. -/
theorem Chan.nextLimit_bounds (x : Chan) (v a d acc : Nat) :
    x.nextLimit v a d acc ≤ max 1 (max (govLimit v) x.maxDepth) ∧ x.nextLimit v a d acc < 128 ∧ (x.nextLimit v a d acc = 0 → govLimit v = 0) := by
  have hlimit : govLimit v < 128 := bits_lt v 31 25
  have hdepth : 1 ≤ x.maxDepth ∧ x.maxDepth ≤ 64 := by simp only [Chan.maxDepth]; omega
  simp only [Chan.nextLimit]
  (repeat' split) <;> omega

/-- ACC is an average that keeps within 256 where the share of accepted tokens does (R200). -/
theorem governAcc_le {old a d : Nat} (hold : old ≤ 256) (ha : a ≤ d) : (7 * old + 256 * a / d + 4) / 8 ≤ 256 := by
  have : 256 * a / d ≤ 256 := Nat.div_le_of_le_mul (by rw [Nat.mul_comm]; exact Nat.mul_le_mul_right _ ha)
  omega

/-- Settles O23: GOVERNOR is the word of its four fields, each of which keeps its bounds. -/
theorem governorBounds : Obligations.GovernorBounds := by
  unfold Obligations.GovernorBounds
  intro x v a d w _ ha hacc
  have hA := governAcc_le hacc ha
  generalize hacc' : (7 * bits v 24 16 + 256 * a / d + 4) / 8 = acc at hA
  obtain ⟨hle, hlt, hzero⟩ := x.nextLimit_bounds v a d acc
  generalize hrun : (if a = 0 then min (bits v 15 8 + 1) 255 else 0) = run
  have hR : run < 256 ∧ (run = 0 ↔ 0 < a) := by split at hrun <;> omega
  have hw : w = govWord (if (x.govern v a d).2 then 0 else x.nextLimit v a d acc) acc run (if (x.govern v a d).2 then x.fget Reg.SPC_GOV_CFG 55 48 else bits v 7 0) := by
    subst hacc' hrun; rfl
  have hH : (if (x.govern v a d).2 then x.fget Reg.SPC_GOV_CFG 55 48 else bits v 7 0) < 256 := by split <;> exact bits_lt ..
  obtain ⟨h32, hL, hA', hR', hH'⟩ := govWord_fields (limit := if (x.govern v a d).2 then 0 else x.nextLimit v a d acc) (acc := acc) (by split <;> omega) (by omega) hR.1 hH
  rw [hw, hL, hA', hR', hH']
  refine ⟨h32, ?_, hA, hR.2, fun hoff => if_pos hoff, fun h => ?_, rfl⟩
  · split <;> omega
  · split at h
    · exact .inl ‹_›
    · exact .inr (hzero h)

end Sys2Proof.Machine
end

section
/-! PROOFS. The instruction word (R234, R259): encoding and decoding are inverse. -/
namespace Sys2Proof.Machine
open Sys2Proof
-- Theorem by theorem: side by side, the checks of this text take more memory than they are given.
set_option Elab.async false

theorem b2n_testBit (n i : Nat) : b2n (n.testBit i) = n / 2 ^ i % 2 := by
  rw [Nat.testBit_eq_decide_div_mod_eq, b2n]
  simp only [decide_eq_true_eq]
  split <;> omega

theorem fits_iff (f : IFields) :
    f.fits = true ↔ f.gp < 8 ∧ f.d < 32 ∧ f.a < 32 ∧ f.b < 32 ∧ f.x < 32 ∧ f.i < 2 ^ 32 := by simp [IFields.fits]

theorem b2n_lt_two (b : Bool) : b2n b < 2 := by cases b <;> decide

/-- The number of an instruction word, whose fields lie in their widths. -/
theorem wordOf_toNat {op : Nat} {f : IFields} (ho : op < 256) (hf : f.fits = true) :
    (wordOf op f).toNat = op * 2 ^ 56 + b2n f.gn * 2 ^ 55 + f.gp * 2 ^ 52 + f.d * 2 ^ 47 + f.a * 2 ^ 42 + f.b * 2 ^ 37 + f.x * 2 ^ 32 + f.i := by
  have := b2n_lt_two f.gn
  obtain ⟨hgp, hd, ha, hb, hx, hi⟩ := (fits_iff f).1 hf
  rw [wordOf, w64, BitVec.toNat_ofNat, Nat.mod_eq_of_lt (by omega)]

theorem fields_wordOf {op : Nat} {f : IFields} (ho : op < 256) (hf : f.fits = true) : opOf (wordOf op f) = op ∧ fieldsOf (wordOf op f) = f := by
  have hn := b2n_lt_two f.gn
  obtain ⟨hgp, hd, ha, hb, hx, hi⟩ := (fits_iff f).1 hf
  have hword := wordOf_toNat ho hf
  have hgn : (wordOf op f).toNat.testBit 55 = f.gn := by
    rw [Nat.testBit_eq_decide_div_mod_eq, show (wordOf op f).toNat / 2 ^ 55 % 2 = b2n f.gn by omega]
    cases f.gn <;> rfl
  simp only [opOf, fieldsOf, bits, Nat.shiftRight_eq_div_pow, hgn]
  generalize (wordOf op f).toNat = n at hword
  obtain ⟨gn, gp, d, a, b, x, i⟩ := f
  simp only [IFields.mk.injEq, true_and] at *
  omega

theorem wordOf_fields (w : W64) : wordOf (opOf w) (fieldsOf w) = w := by
  apply BitVec.eq_of_toNat_eq
  have hlt := w.isLt
  simp only [wordOf, w64, BitVec.toNat_ofNat, opOf, fieldsOf, b2n_testBit, bits, Nat.shiftRight_eq_div_pow]
  generalize w.toNat = n at *
  omega

theorem yieldOf_yieldWord {scr pm vm sm : Nat} (hs : scr < 128) (hp : pm < 128) (hv : vm < 65536) (hm : sm < 2 ^ 31) :
    yieldOf (yieldWord scr pm vm sm) = (scr, pm, vm, sm) ∧ 0xE0 ≤ opOf (yieldWord scr pm vm sm) := by
  simp only [yieldOf, opOf, yieldWord, w64, BitVec.toNat_ofNat, bits, Nat.shiftRight_eq_div_pow, Prod.mk.injEq]
  omega

/-- Every OP that R235 lists is below those of YIELD. -/
theorem op_lt_of_wordOk {op : Nat} {f : IFields} (h : wordOk op f = true) : op < 0xE0 := by
  have hall : ∀ e ∈ scalarForms ++ vectorForms ++ systemForms, e.1 < 0xE0 := by decide
  unfold wordOk formOf at h
  cases hfind : (scalarForms ++ vectorForms ++ systemForms).find? (fun e => e.1 == op) with
  | none => simp only [hfind] at h; cases h
  | some e =>
    have hop := List.find?_some hfind
    have := hall e (List.mem_of_find?_eq_some hfind)
    simp at hop
    omega

/-- Settles O26: the fields of a word divide its 64 bits. -/
theorem instructionWords : Obligations.InstructionWords := by
  unfold Obligations.InstructionWords
  refine ⟨fun op f ho hf => fields_wordOf ho hf, fun w => ⟨wordOf_fields w, bits_lt .., ?_⟩, fun _ _ _ _ hs hp hv hm => yieldOf_yieldWord hs hp hv hm,
    fun op f h => op_lt_of_wordOk h⟩
  exact (fits_iff _).2 ⟨bits_lt .., bits_lt .., bits_lt .., bits_lt .., bits_lt .., bits_lt ..⟩

end Sys2Proof.Machine
end

section
/-! PROOFS. Bits, registers and lanes of a core (R206, R240, R244). -/
namespace Sys2Proof.Machine
open Sys2Proof
-- Theorem by theorem: side by side, the checks of this text take more memory than they are given.
set_option Elab.async false

/-! ### Digits -/

/-- The digits of a number in base `B`, lowest first. -/
def ofDigitsBelow (B : Nat) (h : Nat → Nat) (n : Nat) : Nat := ((List.range n).map (fun i => h i % B * B ^ i)).sum

theorem ofDigitsBelow_succ (B : Nat) (h : Nat → Nat) (n : Nat) : ofDigitsBelow B h (n + 1) = ofDigitsBelow B h n + h n % B * B ^ n := by
  simp [ofDigitsBelow, List.range_succ]

theorem ofDigitsBelow_lt {B : Nat} (hB : 0 < B) (h : Nat → Nat) (n : Nat) : ofDigitsBelow B h n < B ^ n := by
  induction n with
  | zero => simp [ofDigitsBelow]
  | succ n ih =>
    rw [ofDigitsBelow_succ, Nat.pow_succ]
    have : h n % B + 1 ≤ B := Nat.mod_lt _ hB
    calc ofDigitsBelow B h n + h n % B * B ^ n < B ^ n + h n % B * B ^ n := by omega
      _ = B ^ n * (h n % B + 1) := by ring
      _ ≤ B ^ n * B := Nat.mul_le_mul_left _ this

/-- Each digit reads back. -/
theorem ofDigitsBelow_digit {B : Nat} (hB : 0 < B) (h : Nat → Nat) {n i : Nat} (hi : i < n) : ofDigitsBelow B h n / B ^ i % B = h i % B := by
  have hpow : 0 < B ^ i := Nat.pow_pos hB
  induction n with
  | zero => omega
  | succ n ih =>
    rw [ofDigitsBelow_succ]
    by_cases hn : i = n
    · subst hn
      rw [Nat.add_mul_div_right _ _ hpow, Nat.div_eq_of_lt (ofDigitsBelow_lt hB h i), Nat.zero_add, Nat.mod_mod]
    · obtain ⟨e, rfl⟩ : ∃ e, n = i + (e + 1) := ⟨n - i - 1, by omega⟩
      rw [show h (i + (e + 1)) % B * B ^ (i + (e + 1)) = (h (i + (e + 1)) % B * B ^ e * B) * B ^ i by ring, Nat.add_mul_div_right _ _ hpow,
        Nat.add_mul_mod_self_right, ih (by omega)]

/-! ### Bits (R240) -/

/-- The mask of a field: ones in its width from its first bit on, and those above bit 63 dropped. -/
theorem fieldMask_getLsbD (w s n : Nat) (hn : n < 64) : (w64 ((2 ^ w - 1) * 2 ^ s)).getLsbD n = decide (s ≤ n ∧ n < s + w) := by
  rw [w64, BitVec.getLsbD_ofNat, Nat.testBit_mul_two_pow, Nat.testBit_two_pow_sub_one]
  by_cases h : s ≤ n
  · simp [hn, h, show n - s < w ↔ n < s + w by omega]
  · simp [h]

theorem insr_getLsbD (i : Nat) (a d : W64) {n : Nat} (hn : n < 64) :
    (insr i a d).getLsbD n = if i % 64 ≤ n ∧ n < i % 64 + fieldWidth i then a.getLsbD (n - i % 64) else d.getLsbD n := by
  have ha : (w64 (a.toNat * 2 ^ (i % 64))).getLsbD n = (decide (i % 64 ≤ n) && a.getLsbD (n - i % 64)) := by
    rw [w64, BitVec.getLsbD_ofNat, Nat.testBit_mul_two_pow, BitVec.testBit_toNat]
    simp [hn]
  rw [insr, BitVec.getLsbD_or, BitVec.getLsbD_and, BitVec.getLsbD_and, BitVec.getLsbD_not, fieldMask_getLsbD _ _ _ hn, ha]
  by_cases h : i % 64 ≤ n ∧ n < i % 64 + fieldWidth i
  · simp [h]
  · simp [h, hn]

theorem clz_zero : clz 0 = 64 := rfl

/-- The highest one bit of a nonzero word stands below its leading zeros. -/
theorem clz_bounds {a : W64} (ha : a ≠ 0) : clz a < 64 ∧ 2 ^ (63 - clz a) ≤ a.toNat ∧ a.toNat < 2 ^ (64 - clz a) := by
  have h0 : a.toNat ≠ 0 := fun h => ha (BitVec.eq_of_toNat_eq (by simpa using h))
  have hlog : a.toNat.log2 < 64 := (Nat.log2_lt h0).2 a.isLt
  have hlo := Nat.log2_self_le h0
  have hhi := Nat.lt_log2_self (n := a.toNat)
  rw [clz, if_neg h0]
  refine ⟨by omega, ?_, ?_⟩
  · rwa [show 63 - (63 - a.toNat.log2) = a.toNat.log2 by omega]
  · rwa [show 64 - (63 - a.toNat.log2) = a.toNat.log2 + 1 by omega]

/-- The predicates as digits of a byte. -/
theorem GCore.predByte_eq (g : GCore) : g.predByte = ofDigitsBelow 2 (fun n => b2n (g.pred n)) 8 := by
  simp only [GCore.predByte, ofDigitsBelow, Nat.mod_eq_of_lt (b2n_lt_two _)]

theorem GCore.predByte_lt (g : GCore) : g.predByte < 256 := g.predByte_eq ▸ ofDigitsBelow_lt Nat.two_pos _ 8

theorem GCore.predByte_testBit (g : GCore) {n : Nat} (hn : n < 8) : g.predByte.testBit n = g.pred n := by
  rw [Nat.testBit_eq_decide_div_mod_eq, g.predByte_eq, ofDigitsBelow_digit Nat.two_pos _ hn]
  cases g.pred n <;> rfl

/-! ### Registers (R206) -/

theorem GCore.sreg_setS (g : GCore) (d n : Nat) (v : W64) : (g.setS d v).sreg n = if n = d ∧ d ≠ 0 then v else g.sreg n := by
  by_cases hd : d = 0
  · simp [GCore.setS, hd]
  · simp only [GCore.setS, GCore.sreg, hd, if_false, AMap.getD_set]
    by_cases hn : n = 0
    · simp [hn, Ne.symm hd]
    · simp [hn, hd, eq_comm (a := d)]

theorem GCore.pred_setP (g : GCore) (d n : Nat) (b : Bool) : (g.setP d b).pred n = if n = d ∧ d ≠ 0 then b else g.pred n := by
  by_cases hd : d = 0
  · simp [GCore.setP, setPred, hd, GCore.pred]
  · simp only [GCore.setP, setPred, GCore.pred, hd, if_false, testBit_setBits _ _ _ _ _ (Nat.le_succ d)]
    by_cases hn : n = d
    · subst hn; cases b <;> simp [hd, b2n]
    · simp [hn, show ¬ (d ≤ n ∧ n ≤ d) by omega]

theorem GCore.vreg_setV (g : GCore) (d n : Nat) (w : BitVec 512) : (g.setV d w).vreg n = if n = d then w else g.vreg n := by
  simp only [GCore.setV, GCore.vreg, AMap.getD_set, eq_comm (a := d)]

/-! ### Lanes (R244) -/

theorem lane_ofLanes {w i : Nat} (h : Nat → Nat) (hw : w < 4) (hi : i < 64 / 2 ^ w) : lane w (ofLanes w h) i = h i % 2 ^ (8 * 2 ^ w) := by
  have hn : 8 * 2 ^ w * (64 / 2 ^ w) = 512 := by interval_cases w <;> rfl
  have hsum : ((List.range (laneCount w)).map (fun i => h i % 2 ^ laneBits w * 2 ^ (laneBits w * i))).sum = ofDigitsBelow (2 ^ (8 * 2 ^ w)) h (64 / 2 ^ w) := by
    simp only [ofDigitsBelow, laneCount, laneBits, Nat.pow_mul]
  have hlt := ofDigitsBelow_lt (Nat.two_pow_pos (8 * 2 ^ w)) h (64 / 2 ^ w)
  rw [← Nat.pow_mul, hn] at hlt
  rw [lane, ofLanes, hsum, BitVec.toNat_ofNat, Nat.mod_eq_of_lt hlt, laneBits, Nat.pow_mul _ (8 * 2 ^ w)]
  exact ofDigitsBelow_digit (Nat.two_pow_pos _) h hi

theorem lane_testBit (w i n : Nat) (v : BitVec 512) (hn : n < 8 * 2 ^ w) : (lane w v i).testBit n = v.getLsbD (8 * 2 ^ w * i + n) := by
  rw [lane, Nat.testBit_mod_two_pow, ← Nat.shiftRight_eq_div_pow, Nat.testBit_shiftRight, BitVec.testBit_toNat]
  simp [laneBits, hn]

/-- Settles O28: bits of a field, of a register file and of a lane, each by the law of its own. -/
theorem registersAndLanes : Obligations.RegistersAndLanes := by
  unfold Obligations.RegistersAndLanes
  refine ⟨⟨fun i a d n hn => ?_, fun a ha => ha ▸ clz_zero, fun a ha => clz_bounds ha, fun g n hn => g.predByte_testBit hn, fun g => g.predByte_lt⟩,
    fun g d n v w b => ?_, fun w i h hw hi => ⟨lane_ofLanes h hw hi, fun v n hn => lane_testBit w i n v hn⟩⟩
  · rw [← fieldWidth_eq]; exact insr_getLsbD i a d hn
  · obtain ⟨hv, hp, hpc, hscratch, -⟩ := g.setS_frame d v
    exact ⟨rfl, rfl, g.sreg_setS d n v, g.pred_setP d n b, g.vreg_setV d n w, hv, hp, hpc, hscratch, rfl, rfl, rfl, rfl, rfl, rfl, rfl, rfl⟩

end Sys2Proof.Machine
end

section
/-! PROOFS. The vector instructions (R244 to R247), the branches (R241, R242) and the scratch instructions (R208, R243). -/
namespace Sys2Proof.Machine
open Sys2Proof
-- Theorem by theorem: side by side, the checks of this text take more memory than they are given.
set_option Elab.async false

section
variable {i : Instr} {s : State} {c : ChId} {k op : Nat} {f : IFields}

/-- An instruction whose whole effect is on the registers of its core steps its core by that effect. -/
theorem StepsCore.of_regInstr {h : GCore → GCore} (he : exec i s = onCh c (fun x => x.regInstr k op f h) s) : StepsCore i s c k op f h :=
  fun hi => exec_after he (Chan.regInstr_of_issues hi h)

/-- What an instruction body leaves, where its core can issue it. -/
theorem exec_of_issues_eq {p : Prog} {b : Chan → GCore → Prog → Chan} {y : Chan} (he : exec i s = onCh c (fun x => x.instr k op f b) s)
    (hp : (s.ch c).coreProg k = some p) (hi : (s.ch c).issues k op f = true) (hb : b (s.ch c) ((s.ch c).core k) p = y) : exec i s = .next (s.after c y) := by
  rw [exec_of_issues b he hi hp, hb]

end

/-- Settles O30: each body is one write of the register of its row, by the row's own lane expression. -/
theorem vectorTable : Obligations.VectorTable := by
  unfold Obligations.VectorTable
  intro s c k f lanes
  exact ⟨.of_regInstr exec_iVadd, .of_regInstr exec_iVsub, .of_regInstr exec_iVmul, .of_regInstr exec_iVand, .of_regInstr exec_iVor, .of_regInstr exec_iVxor,
    .of_regInstr exec_iVshl, .of_regInstr exec_iVshr, .of_regInstr exec_iVbcast, .of_regInstr exec_iVext, .of_regInstr exec_iVins, .of_regInstr exec_iVperm,
    .of_regInstr exec_iVfadd, .of_regInstr exec_iVfmul, .of_regInstr exec_iVfma, .of_regInstr exec_iVfmax, .of_regInstr exec_iVfsum, .of_regInstr exec_iVqnt,
    .of_regInstr exec_iVdqnt, .of_regInstr exec_iVgfmul, .of_regInstr exec_iVgfmac⟩

/-! ### Branches (R241, R242) -/

theorem Chan.branchTo_eq_setCore {x : Chan} {k : Nat} {g : GCore} {p : Prog} {target : Int} {t : Nat} (h : GCore → GCore)
    (ht : (target % 8 = 0 ∧ 0 ≤ target ∧ target < p.textEnd) ∧ target = t) : x.branchTo k g p target h = x.setCore k { h g with pc := t } := by
  obtain ⟨⟨h8, h0, hend⟩, rfl⟩ := ht
  rw [Chan.branchTo, if_pos ⟨h0, h8, hend⟩, Int.toNat_natCast]

theorem Chan.branchTo_eq_exception {x : Chan} {k : Nat} {g : GCore} {p : Prog} {target : Int} (h : GCore → GCore)
    (ht : ¬ (target % 8 = 0 ∧ 0 ≤ target ∧ target < p.textEnd)) : x.branchTo k g p target h = x.exception k 1 g.pc := by
  rw [Chan.branchTo, if_neg (fun hn => ht ⟨hn.2.1, hn.1, hn.2.2⟩)]

/-! ### Scratch (R208, R243) -/

/-- A scratch access, by where its address lies. -/
theorem exec_scratch {i : Instr} {s : State} {c : ChId} {k op n : Nat} {f : IFields} {p : Prog} {h : GCore → Nat → GCore} {g' : GCore}
    (he : exec i s = onCh c (fun x => x.scratchInstr k op f n h) s) (hp : (s.ch c).coreProg k = some p) (hi : (s.ch c).issues k op f = true)
    (hg : h ((s.ch c).core k) (((s.ch c).core k).sreg f.a + sext f.i).toNat = g') :
    let x := s.ch c
    let g := x.core k
    let a := (g.sreg f.a + sext f.i).toNat
    (a < p.scratch ∧ a % n = 0 → exec i s = .next (s.after c (x.setCore k g'.next))) ∧
    (p.scratch ≤ a → exec i s = .next (s.after c (x.exception k 3 g.pc))) ∧
    (a < p.scratch ∧ a % n ≠ 0 → exec i s = .next (s.after c (x.exception k 4 g.pc))) := by
  subst hg
  refine ⟨fun ⟨hlt, hal⟩ => exec_of_issues_eq he hp hi ?_, fun hge => exec_of_issues_eq he hp hi (if_pos hge), fun ⟨hlt, hal⟩ => exec_of_issues_eq he hp hi ?_⟩
  · exact (if_neg (Nat.not_le.2 hlt)).trans (if_neg (not_not.2 hal))
  · exact (if_neg (Nat.not_le.2 hlt)).trans (if_pos hal)

theorem ldValue_eq (x : Nat) (b : List Byte) :
    ldValue x b = if x.testBit 2 = true ∧ (leVal b).testBit (8 * 2 ^ (x % 4) - 1) = true then BitVec.ofNat 64 (leVal b + (2 ^ 64 - 2 ^ (8 * 2 ^ (x % 4))))
      else BitVec.ofNat 64 (leVal b) := by
  simp only [ldValue, Bool.and_eq_true, w64]

/-- Settles O29: a branch by its target, and a scratch access by its address. -/
theorem branchesAndScratch : Obligations.BranchesAndScratch := by
  unfold Obligations.BranchesAndScratch
  refine ⟨?_, ?_⟩
  · intro s c k f p t x g inText rel faults goes hp
    refine ⟨fun hi => ?_, fun hi => ?_, fun hi => ?_, fun hi => ?_⟩
    · exact ⟨fun ht => exec_of_issues_eq exec_iBr hp hi (Chan.branchTo_eq_setCore id ht), fun ht => exec_of_issues_eq exec_iBr hp hi (Chan.branchTo_eq_exception id ht)⟩
    · exact ⟨fun ht => exec_of_issues_eq exec_iCall hp hi (Chan.branchTo_eq_setCore _ ht), fun ht => exec_of_issues_eq exec_iCall hp hi (Chan.branchTo_eq_exception _ ht)⟩
    · exact ⟨fun ht => exec_of_issues_eq exec_iJmp hp hi (Chan.branchTo_eq_setCore id (ht.imp_right (congrArg _))), fun ht => exec_of_issues_eq exec_iJmp hp hi (Chan.branchTo_eq_exception id ht)⟩
    · refine ⟨fun hd => exec_of_issues_eq exec_iLoop hp hi ((if_pos hd).trans ?_), fun hd => ⟨fun ht => ?_, fun ht => ?_⟩⟩
      · rw [hd]; rfl
      · exact exec_of_issues_eq exec_iLoop hp hi ((if_neg hd).trans (Chan.branchTo_eq_setCore _ ht))
      · exact exec_of_issues_eq exec_iLoop hp hi ((if_neg hd).trans (Chan.branchTo_eq_exception _ ht))
  · intro s c k f p x g a n v at_ hp
    exact ⟨fun hi => exec_scratch exec_iLd hp hi (congrArg (g.setS f.d) (ldValue_eq ..)), fun hi => exec_scratch exec_iSt hp hi rfl,
      fun hi => exec_scratch exec_iVld hp hi rfl, fun hi => exec_scratch exec_iVst hp hi rfl⟩

end Sys2Proof.Machine
end

section
/-! PROOFS. How a command of one channel comes to its effect: by the function that is laid on the channel, past the checks of its entry point. -/
namespace Sys2Proof.Machine
open Sys2Proof
-- Theorem by theorem: side by side, the checks of this text take more memory than they are given.
set_option Elab.async false

section
variable {i : Instr} {s : State} {c : ChId} {src : Src} {a : Admit} {f body : Chan → Chan} {z : Chan}

/-- A command of channel `c`, which stands as `x`, leaves what its function leaves of `x`. -/
theorem exec_on (x : Chan) (he : exec i s = onCh c f s) (h : f x = z) (hx : s.ch c = x := by rfl) : exec i s = .next (s.after c z) :=
  exec_after he (hx ▸ h)

/-- A command that may end operations of the base programs serves those that it ends. -/
theorem execS_on (x : Chan) (he : exec i s = onChS c f s) (h : f x = z) (hx : s.ch c = x := by rfl) : exec i s = .next (s.after c (z.serveEnded serveFuel)) := by
  rw [he, onChS, onCh_eq, hx, h]

/-- One that ends none leaves what its function leaves. -/
theorem execS_on_none (x : Chan) (he : exec i s = onChS c f s) (h : f x = z) (hn : z.fab.ended = []) (hx : s.ch c = x := by rfl) :
    exec i s = .next (s.after c z) := execS_after he (hx ▸ h) hn

/-- A command of the hub and a channel leaves what its function leaves of both. -/
theorem exec_onHubCh {g : Hub → Chan → Hub × Chan} {h' : Hub} {y : Chan} (h : Hub) (x : Chan) (he : exec i s = onHubCh c g s) (hg : g h x = (h', y))
    (hh : s.hub = h := by rfl) (hx : s.ch c = x := by rfl) : exec i s = .next { s.setCh c y.settle with hub := h'.events y.toHub } := by
  rw [he, onHubCh, hh, hx, hg]

variable {x : Chan}

/-- A read of host memory that does not fail gives its data. -/
theorem Chan.reading_ok {α : Type} (h : x.dmaFault src.fn = none) (d : α) (k : α → Chan) : x.reading src (.ok d) k = k d := by
  simp only [Chan.reading, h]

theorem exec_command (he : exec i s = onCh c (fun x => x.command src a body) s) (ha : x.admits src a = true) (h : body x = z)
    (hx : s.ch c = x := by rfl) : exec i s = .next (s.after c z) := exec_on x he ((Chan.command_of_admits ha body).trans h) hx

theorem execS_command (he : exec i s = onChS c (fun x => x.command src a body) s) (ha : x.admits src a = true) (h : body x = z)
    (hx : s.ch c = x := by rfl) : exec i s = .next (s.after c (z.serveEnded serveFuel)) := execS_on x he ((Chan.command_of_admits ha body).trans h) hx

theorem exec_ctxCommand (he : exec i s = onCh c (fun x => x.ctxCommand src a body) s) (ha : x.admitsCtx src a = true) (h : body x = z)
    (hx : s.ch c = x := by rfl) : exec i s = .next (s.after c z) := exec_on x he ((Chan.ctxCommand_of_admits ha body).trans h) hx

theorem execS_ctxCommand (he : exec i s = onChS c (fun x => x.ctxCommand src a body) s) (ha : x.admitsCtx src a = true) (h : body x = z)
    (hx : s.ch c = x := by rfl) : exec i s = .next (s.after c (z.serveEnded serveFuel)) := execS_on x he ((Chan.ctxCommand_of_admits ha body).trans h) hx

end

end Sys2Proof.Machine
end

section
/-! PROOFS. The register writes with an effect of their own (R16, R41, R52, R54, R55, R366). -/
namespace Sys2Proof.Machine
open Sys2Proof
-- Theorem by theorem: side by side, the checks of this text take more memory than they are given.
set_option Elab.async false

theorem exec_registerWrite_ch {c : ChId} {off : Nat} {a : Access} {s : State} : exec (.registerWrite (.ch c) off a) s = onCh c (fun x => x.windowWrite off a) s := rfl

/-- A register with no row, no schedule entry and no follow-up of its own is written field by field. -/
theorem Chan.windowWrite_plain {x : Chan} {off : Nat} (a : Access) (hl : x.regsLive = true) (hrow : x.ownRow off = false) (hring : off < 0xB10000 ∨ 0xB20000 ≤ off)
    (hsched : schedOffset off = none) (hsmp : off ≠ Reg.TM_SMP_CFG) (hpeer : ∀ j < 16, off ≠ Reg.REL_HB_PEER j) : x.windowWrite off a = x.writeReg off a := by
  have hany : (List.range 16).any (fun i => decide (off = Reg.REL_HB_PEER i)) = false := by simpa using hpeer
  simp only [Chan.windowWrite, hl, hrow, hsched, hsmp, hany, Bool.not_true, Bool.false_eq_true, if_false, false_and, show ¬ (0xB10000 ≤ off ∧ off < 0xB20000) by omega]

/-- A window that does not answer takes no write, outside the recovery of the channel. -/
theorem Chan.windowWrite_dead {x : Chan} (off : Nat) (a : Access) (hl : x.regsLive = false) (hm : x.sec.mode ≠ .recovery) : x.windowWrite off a = x := by
  simp [Chan.windowWrite, hl, hm]

/-- A ring copy of a function that answers takes the base of a ring that is disabled. -/
theorem Chan.ringReg_base {x : Chan} {f : PciFn} {off : Nat} {d : RegDesc} {ix : List Nat} (a : Access) (hb : x.barLive f = true)
    (hd : findReg vfRegs off = some (d, ix)) (he : (x.ring f (ix.headD 0)).en = false) :
    let r := x.ring f (ix.headD 0)
    (d.name = "TEN_SQ_BASE" → x.ringReg f off a = x.setRing f (ix.headD 0) { r with sqBase := bits (a.apply r.sqBase) 63 12 * 4096 }) ∧
    (d.name = "TEN_CQ_BASE" → x.ringReg f off a = x.setRing f (ix.headD 0) { r with cqBase := bits (a.apply r.cqBase) 63 12 * 4096 }) := by
  refine ⟨fun hn => ?_, fun hn => ?_⟩ <;> simp [Chan.ringReg, hb, hd, he, hn, -List.headD_eq_head?_getD]

/-- Settles O8, window by window. -/
theorem registerWrites : Obligations.RegisterWrites := by
  unfold Obligations.RegisterWrites
  intro s c off a t i n d ix x nx v base r
  refine ⟨fun hl hrow hring hsched hsmp hpeer => ?_, fun hl hm => ?_, fun hs ht hb hd hi he => ?_, fun hb => ?_, fun hl hp => ?_, fun hl hp => ?_, fun hl hr => ?_⟩
  · exact exec_on x exec_registerWrite_ch (Chan.windowWrite_plain a hl hrow hring hsched hsmp hpeer)
  · exact exec_on x exec_registerWrite_ch (Chan.windowWrite_dead off a hl hm)
  · subst hi
    obtain ⟨hsq, hcq⟩ := Chan.ringReg_base a hb hd he
    exact ⟨fun hn => exec_on x exec_registerWrite ((if_pos ⟨hs, ht⟩).trans (hsq hn)), fun hn => exec_on x exec_registerWrite ((if_pos ⟨hs, ht⟩).trans (hcq hn))⟩
  · rw [exec_registerWrite, execRegisterWrite, onHub_eq, if_pos ⟨hb, rfl⟩]
  · exact execS_on x exec_chnEidWrite (by simp only [hl, hp, Bool.not_true, Bool.false_eq_true, if_false])
  · exact execS_on x exec_chnEidWrite (by simp only [hl, hp, Bool.not_true, Bool.false_eq_true, if_false]; rfl)
  · exact exec_on x exec_ctxPeekSelWrite (by simp only [hl, hr, Bool.not_true, Bool.false_eq_true, or_self, if_false])

end Sys2Proof.Machine
end
section
/-! PROOFS. START and STOP of functions, the role commands, and the hub link (R32 to R36, R41, R44 to R48). -/
namespace Sys2Proof.Machine
open Sys2Proof
-- Theorem by theorem: side by side, the checks of this text take more memory than they are given.
set_option Elab.async false

/-! ### Functions (R44, R46 to R48) -/

theorem Chan.fn_congr {x y : Chan} (h : y.fns = x.fns) (n : Nat) : y.fn n = x.fn n := by simp only [Chan.fn, h]

/-- The state of a function depends on its record, the lane mode and the ports that the channel has. -/
theorem Chan.fnState_congr {x y : Chan} (hr : y.regs = x.regs) (hg : y.g8x = x.g8x) (hf : y.fns = x.fns) (n : Nat) : y.fnState n = x.fnState n := by
  have hports : y.ports = x.ports := by simp only [Chan.ports, Chan.fget, Chan.rd, hr, hg]
  rw [Chan.fnState, Chan.fnState, Chan.fnPresent, Chan.fnPresent, hports, Chan.fn_congr hf]

theorem Chan.fn_setFn (x : Chan) (n : Nat) (r : FnRec) : (x.setFn n r).fn n = r := AMap.getD_set_self ..

theorem Chan.fnState_setFn {x : Chan} {n : Nat} (hp : x.fnPresent n = true) (r : FnRec) : (x.setFn n r).fnState n = r.st := by
  rw [Chan.fnState, Chan.fn_setFn, if_pos (by exact hp)]

theorem Chan.fnCommand_stop {x : Chan} {n : Nat} (o : Option Src) (hp : x.fnPresent n = true) (hn : n ≠ 0) : x.fnCommand o n false = x.stopFn o n := by
  simp [Chan.fnCommand, hp, hn]

theorem Chan.fnCommand_start {x : Chan} {n : Nat} (o : Option Src) (hp : x.fnPresent n = true) (hn : n ≠ 0) : x.fnCommand o n true = x.startFn o n := by
  simp [Chan.fnCommand, hp, hn]

/-- The pauses that a stopping port sends touch neither registers nor functions. -/
theorem Chan.pausePartners_frame (f : Chan → Nat → Bool) (n : Nat) (l : List Nat) (x : Chan) :
    let y := l.foldl (fun c p => if f c p then c.pausePartner n p else c) x
    y.regs = x.regs ∧ y.g8x = x.g8x ∧ y.fns = x.fns := by
  induction l generalizing x with
  | nil => exact ⟨rfl, rfl, rfl⟩
  | cons p l ih =>
    obtain ⟨hr, hg, hf⟩ := ih (if f x p then x.pausePartner n p else x)
    rw [List.foldl_cons]
    refine ⟨hr.trans ?_, hg.trans ?_, hf.trans ?_⟩ <;> split <;> rfl

/-- A function that begins to stop is STOPPING, and its command waits for its end. -/
theorem Chan.beginStop_fn {x : Chan} {n : Nat} (o : Option Src) (hp : x.fnPresent n = true) :
    (x.beginStop o n).settle.fnState n = .stopping ∧ ((x.beginStop o n).settle.fn n).owner = o := by
  have key : ∀ y : Chan, y.regs = x.regs → y.g8x = x.g8x → y.fns = (x.setFn n { x.fn n with st := .stopping, owner := o }).fns →
      y.settle.fnState n = .stopping ∧ (y.settle.fn n).owner = o := fun y hr hg hf => by
    rw [Chan.fnState_congr (x := x.setFn n _) (y := y.settle) hr hg hf, Chan.fn_congr (x := x.setFn n _) (y := y.settle) hf, Chan.fn_setFn, Chan.fnState_setFn hp]
    exact ⟨rfl, rfl⟩
  simp only [Chan.beginStop]
  split
  · obtain ⟨hr, hg, hf⟩ := Chan.pausePartners_frame (fun c p => c.lossless (n - 0x10) p) (n - 0x10) (List.range 8) (x.setFn n { x.fn n with st := .stopping, owner := o })
    exact key _ hr hg hf
  · exact key _ rfl rfl rfl

theorem Chan.beginStop_of_not_port {x : Chan} {n : Nat} (o : Option Src) (hn : ¬ (0x10 ≤ n ∧ n < 0x30)) :
    x.beginStop o n = x.setFn n { x.fn n with st := .stopping, owner := o } := by
  simp only [Chan.beginStop, hn, if_false]

theorem Chan.startFn_not_stopped {x : Chan} {n : Nat} (o : Option Src) (h : x.fnState n ≠ .stopped) : x.startFn o n = (x.fnResult n 1 0).completeOpt o 1 0 := by
  rw [Chan.startFn, if_pos h]; rfl

theorem Chan.startFn_bad {x : Chan} {n r : Nat} (o : Option Src) (h : x.fnState n = .stopped) (hb : x.badReg n = some r) :
    x.startFn o n = ((((x.fnResult n 4 r).completeOpt o 4 r).fnEvent n .starting .stopped).heldStop n) := by
  simp only [Chan.startFn, h, hb, ne_eq, not_true, if_false, Chan.fnEnd]

theorem Chan.startFn_good {x : Chan} {n : Nat} (o : Option Src) (h : x.fnState n = .stopped) (hb : x.badReg n = none) :
    let up := (x.startEffect n).recompute.nextEpoch
    x.startFn o n = (((((up.setFn n { up.fn n with st := .running }).fnResult n 0 0).completeOpt o 0 0).fnEvent n .starting .running).heldStop n) := by
  simp only [Chan.startFn, h, hb, ne_eq, not_true, if_false, Chan.fnEnd]

/-- Settles O9: functions by their state, the role by its function and its image, the hub link by whether it stood. -/
theorem functionAndRoleCommands : Obligations.FunctionAndRoleCommands := by
  unfold Obligations.FunctionAndRoleCommands
  refine ⟨?_, ?_, ?_⟩
  · intro s c src n r x nx nxS up isPort stops starts hp hn
    have stopped_by : ∀ {i o}, (∀ {z}, x.stopFn o n = z → nx i z) → stops i o := fun {i o} he => by
      refine ⟨fun h => he ?_, fun h => he ?_, fun h hport => he ?_, fun h _ => ?_⟩
      · simp only [Chan.stopFn, h]; rfl
      · simp only [Chan.stopFn, h]
      · simp only [Chan.stopFn, h]; exact Chan.beginStop_of_not_port o hport
      · exact doesOn_after (he (z := x.beginStop o n) (by simp only [Chan.stopFn, h])) (Chan.beginStop_fn o hp)
    have started_by : ∀ {i o}, (∀ {z}, x.startFn o n = z → nxS i z) → starts i o := fun he =>
      ⟨fun h => he (Chan.startFn_not_stopped _ h), fun h hb => he (Chan.startFn_bad _ h hb), fun h hb => he (Chan.startFn_good _ h hb)⟩
    refine ⟨fun ha => ⟨stopped_by fun hz => ?_, started_by fun hz => ?_⟩, fun hl h512 => ⟨stopped_by fun hz => ?_, started_by fun hz => ?_⟩, fun h hq => ?_⟩
    · exact exec_command exec_fnStop ha ((Chan.fnCommand_stop _ hp hn).trans hz)
    · exact execS_command exec_fnStart ha ((Chan.fnCommand_start _ hp hn).trans hz)
    · exact exec_on x exec_fnStateStop ((if_pos ⟨hl, h512⟩).trans ((Chan.fnCommand_stop _ hp hn).trans hz))
    · exact execS_on x exec_fnStateStart ((if_pos ⟨hl, h512⟩).trans ((Chan.fnCommand_start _ hp hn).trans hz))
    · exact execS_on x exec_functionQuiesced (if_neg (by simp [hn, h, hq]))
  · intro s c src budget t m x y nx up load adm reads formed
    have hformed : formed ↔ ¬ ((!imageFormed m) = true ∨ m.tenantTag ≠ 0 ∨ 24 * mib < m.size) := by
      simp only [formed, mib]; cases imageFormed m <;> simp
    refine ⟨fun ha h => ?_, fun ha h hb => ?_, fun ha h => ?_, fun ha h hr hf => ?_, fun ha h hr hf hk => ?_, fun ha h hr hf hk hm hid hsig => ?_,
      fun ha h hr hf hk hm hid hsig => ?_, fun h hb => ?_, fun ht h hb => ?_⟩
    · exact exec_command exec_roleStop ha (if_pos h)
    · exact exec_command exec_roleStart ha (Chan.startFn_good (some src) h hb)
    · exact exec_command exec_roleLoad ha (if_pos h)
    · exact exec_command exec_roleLoad ha ((if_neg (not_not.2 h)).trans ((Chan.reading_ok hr _ _).trans (if_pos (not_not.1 (mt hformed.2 hf)))))
    · exact exec_command exec_roleLoad ha ((if_neg (not_not.2 h)).trans ((Chan.reading_ok hr _ _).trans ((if_neg (hformed.1 hf)).trans (if_pos hk))))
    · exact exec_command exec_roleLoad ha ((if_neg (not_not.2 h)).trans ((Chan.reading_ok hr _ _).trans ((if_neg (hformed.1 hf)).trans (by simp [hk, hm, hid, hsig]))))
    · exact exec_command exec_roleLoad ha ((if_neg (not_not.2 h)).trans ((Chan.reading_ok hr _ _).trans ((if_neg (hformed.1 hf)).trans (by simp [hk, hm, hid, hsig]))))
    · exact exec_on x exec_roleStopped (if_pos ⟨h, hb⟩)
    · exact exec_on x exec_roleStopAbandoned (by simp only [ht, h, hb, and_self, if_true]; rfl)
  · intro s c lost ns x h i vfs down hUp hDown nx
    refine ⟨fun hl => ?_, fun hl => ?_⟩
    · exact exec_onHubCh h x exec_hubLinkDown (by simp only [hl, Bool.not_true, Bool.false_eq_true, if_false]; rfl)
    · exact exec_onHubCh h x exec_hubLinkRestored (by simp only [hl, Bool.false_eq_true, if_false]; rfl)

end Sys2Proof.Machine
end
section
/-! PROOFS. ctx.open (R84). -/
namespace Sys2Proof.Machine
open Sys2Proof
-- Theorem by theorem: side by side, the checks of this text take more memory than they are given.
set_option Elab.async false

/-- The slot at the head of the free queue leaves the queue, and nothing else changes. -/
theorem Chan.nextSlot_eq {x y : Chan} {slot gen : Nat} (h : x.nextSlot = some (slot, gen, y)) : ∃ q, y = { x with ctx := { x.ctx with freeQ := q } } := by
  simp only [Chan.nextSlot] at h
  split at h
  · cases h
  · simp only [Option.some.injEq, Prod.mk.injEq] at h
    exact ⟨_, h.2.2.symm⟩

/-- A deadline within 64 bits is local time and the budget, or none without a budget (R75). -/
theorem Chan.deadlineOf_eq {x : Chan} {budget : Nat} (h : x.time + budget < 2 ^ 64) : x.deadlineOf budget = (if budget = 0 then 0 else x.time + budget, x) := by
  simp only [Chan.deadlineOf, h, if_true]; split <;> rfl

/-- Settles O10, check by check. -/
theorem contextOpen : Obligations.ContextOpen := by
  unfold Obligations.ContextOpen
  intro s c src req prio budget profile red flags slot gen y e es x t i nx record operands live deadline ha
  have opens : ∀ {z}, x.ctxOpen src req prio budget profile red flags = z → nx z := fun hz => exec_ctxCommand exec_ctxOpen ha hz
  have hoperands : operands ↔ ¬ (7 < prio ∨ 3 < flags ∨ 15 < profile ∨ (!x.profOk profile) = true ∨ (!(x.geom profile).redunOk red) = true) := by
    simp only [operands]
    cases x.profOk profile <;> cases (x.geom profile).redunOk red <;> simp
  have hflag : ∀ {b : Bool}, b = true → ¬ (!b) = true := by simp
  have heid : x.eid ≠ none → ¬ x.eid.isNone = true := by simp
  refine ⟨fun he => opens (if_pos (by simp [he])), fun he hr => ?_, fun he hr hs => ?_, fun he hr hs => ?_⟩
  · exact opens ((if_neg (heid he)).trans (if_pos (by rw [hr]; rfl)))
  · exact opens ((if_neg (heid he)).trans ((if_neg (hflag hr)).trans (if_pos hs)))
  refine ⟨fun ho => ?_, fun ho hl => ?_, fun ho hl hne => ?_, fun ho hnone => ?_⟩
  · exact opens ((if_neg (heid he)).trans ((if_neg (hflag hr)).trans ((if_neg hs).trans (if_pos (not_not.1 (mt hoperands.2 ho))))))
  · refine opens ((if_neg (heid he)).trans ((if_neg (hflag hr)).trans ((if_neg hs).trans ((if_neg (hoperands.1 ho)).trans ?_))))
    rw [show (x.entriesOf src.slot req).filter _ = e :: es from hl]; rfl
  · refine opens ((if_neg (heid he)).trans ((if_neg (hflag hr)).trans ((if_neg hs).trans ((if_neg (hoperands.1 ho)).trans ?_))))
    rw [show (x.entriesOf src.slot req).filter _ = [] from hl]
    exact if_pos (by simpa [List.isEmpty_iff] using hne)
  have free : ∀ {z}, (if x.quotaFull t then (x.quotaEvent t).complete src 0x24 0 else if x.noSlot then x.noSlotEvent.complete src 0x23 0
      else if x.paused t then x.complete src 0xD0 0 else _) = z → nx z := fun h =>
    opens ((if_neg (heid he)).trans ((if_neg (hflag hr)).trans ((if_neg hs).trans ((if_neg (hoperands.1 ho)).trans (by
      rw [show (x.entriesOf src.slot req).filter _ = [] by rw [show x.entriesOf src.slot req = [] from hnone]; rfl]
      exact (if_neg (by simpa using hnone)).trans h)))))
  refine ⟨fun hq => free (if_pos hq), fun hq hn => free ?_, fun hq hn hp => free ?_, fun hq hn hp hslot hb => free ?_⟩
  · rw [if_neg (by simp [hq]), if_pos hn]
  · rw [if_neg (by simp [hq]), if_neg (by simp [hn]), if_pos hp]
  · obtain ⟨q, rfl⟩ := Chan.nextSlot_eq hslot
    rw [if_neg (by simp [hq]), if_neg (by simp [hn]), if_neg (by simp [hp]), hslot]
    dsimp only
    rw [Chan.deadlineOf_eq (by exact hb)]
    rfl

end Sys2Proof.Machine
end
section
/-! PROOFS. The commands on a context and the timers of the table (R65, R67, R69, R70, R73, R75, R76, R82, R83, R86, R88). -/
namespace Sys2Proof.Machine
open Sys2Proof
-- Theorem by theorem: side by side, the checks of this text take more memory than they are given.
set_option Elab.async false

/-- Settles O11: the handle is checked, and then the state of the context decides. -/
theorem contextCommands : Obligations.ContextCommands := by
  unfold Obligations.ContextCommands
  intro s c src h slot req mask prio budget red amount st f fs x e nx adm live deadline
  refine ⟨fun hh ha => ?_, fun ha hl => ?_, fun ha hl => ?_, fun ho => ?_⟩
  · exact exec_ctxCommand exec_ctxQuery ha (by simp only [Chan.withCtx, hh])
  · refine exec_ctxCommand exec_ctxFind ha ?_
    simp only [show (x.entriesOf src.slot req).filter _ = f :: fs from hl]
  · refine exec_ctxCommand exec_ctxFind ha ?_
    simp only [hl, List.filter_nil, latest]
  have owned : ∀ k, x.withCtx src h k = k slot := fun k => Chan.withCtx_of_owns ho k
  refine ⟨fun ha hs hf => ?_, fun ha hs => ?_, fun ha hs => ?_, fun ha hs => ?_, fun ha hs => ?_, fun ha => ?_, fun ha hs hm hm0 hp hb => ?_, fun ha hs => ?_,
    fun ha hr hf hi h0 h32 => ?_⟩
  · exact exec_ctxCommand exec_ctxSeal ha ((owned _).trans (if_neg (by simp [show (x.entry slot).state = _ from hs, hf])))
  · exact exec_ctxCommand exec_ctxSeal ha ((owned _).trans (if_pos (.inl hs)))
  · exact execS_ctxCommand exec_ctxRetire ha ((owned _).trans (by simp only [show (x.entry slot).state = _ from hs]))
  · refine execS_ctxCommand exec_ctxRetire ha ((owned _).trans ?_)
    obtain hs | hs := hs <;> simp only [show (x.entry slot).state = _ from hs]
  · refine execS_ctxCommand exec_ctxRetire ha ((owned _).trans ?_)
    obtain hs | hs | hs | hs | hs := hs <;> simp only [show (x.entry slot).state = _ from hs]
  · exact exec_ctxCommand exec_ctxQuery ha (owned _)
  · have hset : x.ctxSet src slot mask prio budget red = (x.update slot 3 (fun e => e.settings mask prio deadline red)).complete src 0 0 := by
      have h2 : mask.testBit 2 = false := Nat.testBit_lt_two_pow hm
      have hprio : ¬ (mask.testBit 0 = true ∧ 7 < prio) := fun h => absurd (hp h.1) (by omega)
      simp only [Chan.ctxSet, Nat.mod_eq_of_lt (show mask < 8 by omega), hm0, h2, hprio, Chan.deadlineOf_eq hb, deadline]
      by_cases h1 : mask.testBit 1 = true <;> simp [h1]
    refine execS_ctxCommand exec_ctxSet ha ((owned _).trans ?_)
    obtain hs | hs | hs | hs := hs <;> simp only [show (x.entry slot).state = _ from hs, hset]
  · exact exec_ctxCommand exec_ctxSignal ha ((owned _).trans (if_pos (by obtain hs | hs := hs <;> simp [show (x.entry slot).state = _ from hs])))
  · refine exec_ctxCommand exec_ctxSignal ha ((owned _).trans ((if_neg (fun hn => ?_)).trans ?_))
    · obtain h | h | h := hn
      · exact hr h
      · exact hf h
      · exact hi h.1
    · simp only [Nat.mod_eq_of_lt h32, show amount ≠ 0 by omega, if_false]

/-- The ring of SNAP_RECORDS and the time of a snapshot aside, a snapshot is the table at the present JSEQ in the older buffer. -/
theorem Chan.snapshot_journal (x : Chan) :
    let j := x.ctx.journal
    let n := x.snapshot.ctx.journal
    n.seq = j.seq ∧ n.sinceSnap = 0 ∧ n.degraded = false ∧ x.snapshot.ctx.entries = x.ctx.entries ∧
    (if j.snapA.seq ≤ j.snapB.seq then n.snapA = ⟨j.seq, x.ctx.entries, true⟩ ∧ n.snapB = j.snapB
      else n.snapB = ⟨j.seq, x.ctx.entries, true⟩ ∧ n.snapA = j.snapA) := by
  refine ⟨rfl, rfl, rfl, rfl, ?_⟩
  split <;> rename_i h <;> simp [Chan.snapshot, h]

theorem Chan.reach_ctx (x : Chan) (t : Nat) : (x.reach t).ctx = x.ctx := by rw [Chan.reach_eq]

/-- Settles O12: each timer acts where its condition holds. -/
theorem contextTimers : Obligations.ContextTimers := by
  unfold Obligations.ContextTimers
  intro s c slot cause t src r x e j nx
  refine ⟨fun hs he hm => ?_, fun he hd hr => ?_, fun he hd hr h1 => ?_, fun h0 hf hr hd => ?_, fun he => ?_, fun ht => ?_, fun hr => ?_, ?_⟩
  · exact exec_on x exec_sealComplete (by simp only [hs]; exact if_pos ⟨he, by rw [hm]; rfl⟩)
  · exact exec_on x exec_drainComplete ((if_neg (by simp [show (x.entry slot).state = _ from he, hd])).trans (if_pos hr))
  · exact exec_on x exec_drainComplete ((if_neg (by simp [show (x.entry slot).state = _ from he, hd])).trans ((if_neg hr).trans (if_neg h1)))
  · exact exec_on x exec_deadlineReached (if_neg (by simp only [not_or]; exact ⟨h0, hf, hr, hd⟩))
  · exact exec_on x exec_tombstoneEnd (if_neg (not_not.2 he))
  · exact exec_on x exec_startupSlotHoldEnd (by simp only [ht])
  · exact exec_on x exec_journalWriteFail (by simp only [show x.ctx.journal.recs.find? _ = _ from hr]; rfl)
  · refine doesOn_onCh exec_snapshotDue ?_
    obtain ⟨y, hy, hctx⟩ : ∃ y : Chan, (if x.snapRecords ≤ j.sinceSnap then x else x.reach (j.snapTime + x.snapInterval)) = y ∧ y.ctx = x.ctx :=
      ⟨_, rfl, by split; exacts [rfl, Chan.reach_ctx ..]⟩
    have hsnap := y.snapshot_journal
    rw [hctx] at hsnap
    rw [← hy] at hsnap
    exact hsnap

end Sys2Proof.Machine
end
section
/-! PROOFS. Append windows, attachment, extents given out and taken in, and scale tables of page-groups (R107 to R109, R114, R122, R123). -/
namespace Sys2Proof.Machine
open Sys2Proof
-- Theorem by theorem: side by side, the checks of this text take more memory than they are given.
set_option Elab.async false

/-- A write to host memory on behalf of a function whose DMA does not fail is sent. -/
theorem Chan.hostWrite_ok {x : Chan} {f : PciFn} (h : x.dmaFault f = none) (a : Nat) (data : List Byte) : x.hostWrite f a data = (true, x.emit (.hostWrite f a data)) := by
  simp only [Chan.hostWrite, h]

/-- Settles O13, command by command. -/
theorem pageCommands : Obligations.PageCommands := by
  unfold Obligations.PageCommands
  intro s c src h slot pd r owner n o layer first log2 a p y z w body b x e geo nx nxS adm gs live head data exports ho
  have owned : ∀ k, x.withCtx src h k = k slot := fun k => Chan.withCtx_of_owns ho k
  have sameTenant : (src.vf = none ∨ (x.entry o).tslot = e.tslot) → ¬ (src.vf.isSome = true ∧ (x.entry o).tslot ≠ (x.entry slot).tslot) := by
    rintro (hv | ht) ⟨hs, hne⟩
    · simp [hv] at hs
    · exact hne ht
  refine ⟨fun ha hs hpd hw => ?_, fun ha hs => ?_, fun ha hr hat h0 hn hp => ?_, fun ha hs hpriv => ?_,
    fun ha hs hpriv hl h5 h12 hal hfirst hecc hpages hz hdma => ?_, fun ha hs => ?_, fun ha hs hp hok hdma => ?_, fun ha hs => ?_, fun ha hs hreb hdma => ?_⟩
  · refine exec_ctxCommand exec_pgWindow ha ((owned _).trans ((if_neg ?_).trans ((if_neg (not_not.2 hpd)).trans ?_)))
    · exact fun hn => hs.elim hn.1 hn.2
    · rw [hw]; rfl
  · exact exec_ctxCommand exec_pgWindow ha ((owned _).trans (if_pos hs))
  · have attach : ∀ {v}, (if bits owner 47 30 = x.fget Reg.CHN_EID 17 0 then _ else _) = v → nxS (.pgAttach c src h owner n) v := fun hv =>
      execS_ctxCommand exec_pgAttach ha ((owned _).trans ((if_neg hr).trans ((if_neg (by simp [hat])).trans ((if_neg (by omega)).trans
        ((if_neg (by simp [show x.paused (x.entry slot).tslot = _ from hp])).trans hv)))))
    refine ⟨fun heid hc hv => ⟨fun hf => attach ((if_pos heid).trans ?_), fun hf hb => attach ((if_pos heid).trans ?_)⟩, fun heid he hb => attach ((if_neg heid).trans ?_)⟩
    · rw [hc]
      exact (if_neg (sameTenant hv)).trans (if_pos (by simp [hf]))
    · rw [hc]
      exact (if_neg (sameTenant hv)).trans ((if_neg (by simp [hf])).trans (by rw [hb]))
    · rw [if_neg (by simpa using he), if_neg (by simp [hb])]
  · refine execS_ctxCommand exec_pgExport ha ((owned _).trans ((if_neg ?_).trans (if_pos hpriv)))
    exact fun hn => hs.elim hn.1 (fun hs => hs.elim hn.2.1 hn.2.2)
  · refine execS_ctxCommand exec_pgExport ha ((owned _).trans ((if_neg ?_).trans ((if_neg ?_).trans ((if_neg ?_).trans ?_))))
    · exact fun hn => hs.elim hn.1 (fun hs => hs.elim hn.2.1 hn.2.2)
    · simp [show (x.entry slot).isPrivate = _ from hpriv]
    · simp only [not_or, not_lt, not_le, not_not]
      exact ⟨hl, h5, h12, hal, hfirst⟩
    · dsimp only
      rw [show x.eccReads _ _ = _ from hecc]
      dsimp only
      rw [show y.exportPages _ _ _ = _ from hpages]
      dsimp only
      rw [Chan.hostWrite_ok hdma, hz]; rfl
  · exact exec_ctxCommand exec_pgImport ha ((owned _).trans (if_pos (.inl hs)))
  · refine exec_ctxCommand exec_pgScale ha ((if_neg (not_not.2 hs)).trans ((if_neg ?_).trans (Chan.reading_ok hdma _ _)))
    simp [hok]; omega
  · exact exec_ctxCommand exec_pgScale ha (if_pos hs)
  · intro f per pages formed
    have hformed : formed ↔ ¬ (f 0 4 ≠ geo.id ∨ f 11 1 ≠ geo.format ∨ f 12 4 ≠ geo.partBytes ∨ f 16 1 ≠ geo.parts ∨ geo.layers ≤ f 8 2 ∨ f 10 1 < 5 ∨ 12 < f 10 1 ∨
        f 4 4 % 2 ^ f 10 1 ≠ 0 ∨ 2 ^ f 10 1 < f 32 4 ∨ b.length ≠ 64 + 2 ^ f 10 1 / 16 * per) := by
      simp only [formed, not_or, not_not, not_lt, not_le, ne_eq]
    have imports : ∀ {v}, x.pgImport src slot b = v → nx (.pgImport c src h (.ok b)) v := fun hv =>
      exec_ctxCommand exec_pgImport ha ((owned _).trans ((if_neg (by rw [not_or]; exact ⟨not_not.2 hs, by simpa [Option.isSome_iff_ne_none] using hreb⟩)).trans ((Chan.reading_ok hdma _ _).trans hv)))
    refine ⟨fun hf => imports (if_pos (not_not.1 (mt hformed.2 hf))), fun hf hcrc => imports ((if_neg (hformed.1 hf)).trans (if_pos hcrc)), fun hf hcrc hlen hroom => ?_⟩
    refine imports ((if_neg (hformed.1 hf)).trans ((if_neg (not_not.2 hcrc)).trans ((if_neg (by simpa using hlen)).trans ?_)))
    dsimp only
    rw [show x.importRoom _ _ _ = _ from hroom]

end Sys2Proof.Machine
end
section
/-! PROOFS. Units placed and frames cleared (R105, R118, R119). -/
namespace Sys2Proof.Machine
open Sys2Proof
-- Theorem by theorem: side by side, the checks of this text take more memory than they are given.
set_option Elab.async false

/-- Settles O14: placement of a unit that has a frame, and the two ends of a frame's clearing. -/
theorem placement : Obligations.Placement := by
  unfold Obligations.Placement
  intro s c slot layer token unit f u y fs x geo hd tile at_ put m k nx rest
  refine ⟨fun hu hframe hregion => ?_, fun hc => ⟨?_, ?_⟩⟩
  · have hkey := List.find?_some hu
    simp only [decide_eq_true_eq] at hkey
    obtain ⟨hl, ht, hn⟩ := hkey
    refine exec_on x exec_unitPlaced ?_
    rw [hu]
    subst hl ht hn
    dsimp only [Chan.placeUnit]
    rw [show x.needFrame _ _ _ _ = some y from hframe]
    dsimp only
    rw [show (PageMap.region _) = none from hregion]
  · exact exec_on x exec_frameCleared (by simp only [Chan.clearFrame, hc]; rfl)
  · exact exec_on x exec_frameCleared (by simp only [Chan.clearFrame, hc]; rfl)

end Sys2Proof.Machine
end

section
/-! PROOFS. ho.offer, ho.cancel and ho.probe (R141, R143, R144, R150). -/
namespace Sys2Proof.Machine
open Sys2Proof
-- Theorem by theorem: side by side, the checks of this text take more memory than they are given.
set_option Elab.async false

/-- Settles O15: the checks of ho.offer in order, ho.cancel by the step of the handoff, and the list of ho.probe. -/
theorem handoffCommands : Obligations.HandoffCommands := by
  unfold Obligations.HandoffCommands
  intro s c src h slot dst stripe member r req push force y k x e d nx nxS offer adm may room sent l
  have offers : ∀ {z}, adm → (if x.eid.isNone then _ else _) = z → nxS offer z := fun ha hz => execS_ctxCommand exec_hoOffer ha hz
  have heid : x.eid ≠ none → ¬ x.eid.isNone = true := by simp
  refine ⟨fun ha he => offers ha (if_pos (by simp [he])), fun ha he hr => offers ha ((if_neg (heid he)).trans (if_pos hr)), fun ha he hr ho => ?_, fun ha ho hk => ?_, fun ha => ?_⟩
  · have owned : ∀ {z}, x.hoOffer src slot d push stripe member = z → nxS offer z := fun hz =>
      offers ha ((if_neg (heid he)).trans ((if_neg (by simp [hr])).trans ((Chan.withCtx_of_owns ho _).trans hz)))
    have hmay : may → ¬ (!decide may) = true := by simp
    have below : ∀ {z}, may → e.refs = 0 → e.epoch ≠ 0xFFFFFFFF → (if d = x.fget Reg.CHN_EID 17 0 then _ else _) = z → nxS offer z := fun hm hrefs hep hz =>
      owned ((if_neg (hmay hm)).trans ((if_neg (not_not.2 hrefs)).trans ((if_neg hep).trans hz)))
    refine ⟨fun hm => owned (if_pos (congrArg not (decide_eq_false hm))), fun hm hrefs => owned ((if_neg (hmay hm)).trans (if_pos hrefs)),
      fun hm hrefs hep => owned ((if_neg (hmay hm)).trans ((if_neg (not_not.2 hrefs)).trans (if_pos hep))),
      fun hm hrefs hep hd => below hm hrefs hep (if_pos hd), fun hm hrefs hep hd hroom => below hm hrefs hep ((if_neg hd).trans (if_pos (not_lt.1 hroom))),
      fun hm hrefs hep hd hroom => ?_⟩
    have starts : ∀ {z}, x.startOffer src slot d push stripe member = z → nxS offer z := fun hz =>
      below hm hrefs hep ((if_neg hd).trans ((if_neg (not_le.2 hroom)).trans hz))
    refine ⟨fun hp => ?_, fun hp hb => ?_⟩
    · subst hp
      exact ⟨fun hsess => starts (if_pos hsess), fun hsess => starts (if_neg (by simpa using hsess))⟩
    · subst hp
      have hstart : ∀ {z}, _ = z → x.startOffer src slot d false stripe member = z := fun hz => by
        simp only [Chan.startOffer, Bool.false_eq_true, if_false]
        rw [show x.baseRegion _ _ _ _ _ = _ from hb]
        exact hz
      exact ⟨fun hsess => starts (hstart (if_pos hsess)), fun hsess => starts (hstart (if_neg (by simpa using hsess)))⟩
  · have cancels : ∀ {z}, x.hoCancel src slot force = z → nxS (.hoCancel c src h force) z := fun hz =>
      execS_ctxCommand exec_hoCancel ha ((Chan.withCtx_of_owns ho _).trans hz)
    refine ⟨fun hs hsub => cancels ?_, fun hs hsub hf hc => cancels ?_, fun hs => cancels ?_⟩
    · simp only [Chan.hoCancel, hk]
      exact (if_neg (not_or.2 ⟨not_not.2 hs, Nat.ne_of_lt (hsub.trans (by decide))⟩)).trans (if_pos (.inl hsub))
    · simp only [Chan.hoCancel, hk]
      refine (if_neg (not_or.2 ⟨not_not.2 hs, by rw [show (x.entry slot).sub = _ from hsub]; decide⟩)).trans
        ((if_neg (by simp [hf, show (x.entry slot).sub = _ from hsub])).trans ?_)
      simp only [hc, List.isEmpty_nil, if_true]; rfl
    · simp only [Chan.hoCancel, hk]
      exact if_pos hs
  · exact exec_ctxCommand exec_hoProbe ha rfl

end Sys2Proof.Machine
end
section
/-! PROOFS. The source of a handoff (R65, R136, R137, R139, R142) and its destination (R132, R138 to R140). -/
namespace Sys2Proof.Machine
open Sys2Proof
-- Theorem by theorem: side by side, the checks of this text take more memory than they are given.
set_option Elab.async false

section
variable {x : Chan} {peer slot ty : Nat} {m : HoMsg} {h : Handoff}

/-- A message of version 1 whose tag holds is heard by a channel that serves under an EID. -/
theorem Chan.hoMsg_of_hears (hs : x.serves = true) (he : x.eid ≠ none) (hv : m.version = 1) (k : Chan → Chan) : x.hoMsg peer ty m true k = k x := by
  simp [Chan.hoMsg, hs, he, hv]

/-- A message for the source reaches the handoff of an offered context. -/
theorem Chan.forSource_of_offered (hr : x.ctx.ready = true) (hc : x.checkHandle m.srcH = .ok slot) (hs : (x.entry slot).state = .offered) (hh : x.hand slot = some h)
    (hp : bits (x.entry slot).peer 47 30 = peer) (k : Nat → Handoff → Chan) : x.forSource peer ty m k = k slot h := by
  simp only [Chan.forSource, hr, hc, hs, hh, hp, Bool.not_true, Bool.false_eq_true, if_false, if_true]

/-- A message for the destination reaches the handoff of an inbound context. -/
theorem Chan.forDest_of_inbound (hr : x.ctx.ready = true) (hc : x.checkHandle m.dstH = .ok slot) (hs : (x.entry slot).state = .inbound) (hh : x.hand slot = some h)
    (hp : (x.entry slot).peer = m.srcH) (hb : h.rebuild = none) (k : Nat → Handoff → Chan) : x.forDest m k = k slot h := by
  simp only [Chan.forDest, hr, hc, hs, hh, hp, hb, Bool.not_true, Bool.false_eq_true, if_false, if_true, Option.isNone_none, and_self]

/-- The timer of a handoff in the step that it belongs to. -/
theorem Chan.handTimer_of {st : CtxState} {sub : Nat → Bool} (hh : x.hand slot = some h) (hs : (x.entry slot).state = st) (hsub : sub (x.entry slot).sub = true)
    (due : Handoff → Nat) (k : Chan → Handoff → Chan) : x.handTimer slot st sub due k = k (x.reach (due h)) h := by
  simp only [Chan.handTimer, hh, hs, hsub, and_self, if_true]

end

/-- Settles O16: each message of the peer by the step of the offer, and each timer in its step. -/
theorem handoffSource : Obligations.HandoffSource := by
  unfold Obligations.HandoffSource
  intro s c peer slot m h x e nxS begun took refused late le waits gone ended hs hh
  have timer : ∀ {sub : Nat → Bool}, sub e.sub = true → ∀ due k, x.handTimer slot .offered sub due k = k (x.reach (due h)) h := fun hsub => Chan.handTimer_of hh hs hsub
  refine ⟨fun hserves heid hv hr hc hp => ?_, fun hsub ht => ?_, fun hsub ht => ?_, fun hsub => ?_, fun hsub hb => ?_, fun hsub hcan ht => ?_, fun hsub hcan => ?_, fun hsub => ?_⟩
  · have hears : ∀ {i : Instr} {ty : Nat} {k : Chan → Nat → Handoff → Chan} {z : Chan},
        exec i s = onChS c (fun x => x.hoMsg peer ty m true (fun x => x.forSource peer ty m (k x))) s → k x slot h = z → nxS i z := fun hi hz =>
      execS_on x hi ((Chan.hoMsg_of_hears hserves heid hv _).trans ((Chan.forSource_of_offered hr hc hs hh hp _).trans hz))
    have going : m.epoch = e.epoch → e.sub ≠ 3 → ¬ (m.epoch ≠ e.epoch ∨ e.sub = 3) := fun hm h3 => not_or.2 ⟨not_not.2 hm, h3⟩
    refine ⟨fun hm hsub => hears exec_take ((if_neg (going hm (by rw [hsub]; decide))).trans (if_pos hsub)), fun hm h3 => hears exec_refuse (if_neg (going hm h3)),
      fun hm hsub hcan => hears exec_abort ((if_neg (going hm (by rw [hsub]; decide))).trans (if_pos ⟨hsub, by simpa using hcan⟩)),
      fun hm h3 hcan => hears exec_abort ((if_neg (going hm h3)).trans (if_neg (by simp [hcan]))),
      fun hm h3 hd => hears exec_accept ((if_neg h3).trans (if_pos ⟨hm, .inl hd⟩)), hears exec_superseded rfl⟩
  · exact execS_on x exec_offerRetryExpiry ((timer (by simp [hsub]) _ _).trans (if_pos ht))
  · exact execS_on x exec_offerRetryExpiry ((timer (by simp [hsub]) _ _).trans (if_neg (not_lt.2 ht)))
  · exact execS_on x exec_transferIdleSource (timer (by simp [hsub]) _ _)
  · exact execS_on x exec_transferBodiesDone (by simp only [hh]; exact if_pos ⟨hs, hsub, hb⟩)
  · refine execS_on x exec_acceptRetrySource ((timer (by simp [hsub]) _ _).trans ?_)
    have hstuck : decide (le.stateTime + late.stuckTime < late.time) = false := by simpa using ht
    dsimp only
    rw [show decide (_ + late.stuckTime < late.time) = _ from hstuck]
    simp only [hcan, Bool.or_false, List.isEmpty_nil, if_true, Bool.false_and, Bool.false_eq_true, if_false]
    rfl
  · exact execS_on x exec_stuckTimeExpiry (by simp only [hh]; exact if_pos ⟨hs, hsub, by simpa using hcan⟩)
  · exact execS_on x exec_releaseComplete (by simp only [hh]; exact if_neg (by rw [not_or, not_not, not_not]; exact ⟨hs, hsub⟩))

/-- A CANCEL of a handoff that has not been accepted aborts it. -/
theorem Chan.answerOffer_cancel {x : Chan} {peer slot : Nat} {m : HoMsg} {e : Entry}
    (hf : (x.ofRequest m.req m.tag).find? (fun e => decide (e.2.state = .inbound ∧ e.2.peer = m.srcH ∧ e.2.epoch = m.epoch)) = some (slot, e)) (h3 : e.sub ≠ 3) :
    x.answerOffer peer m true = some (x.abortInbound slot 0x0C 0) := by
  simp only [Chan.answerOffer, hf, h3, if_false, if_true]

/-- Settles O17: the OFFER by its admission, and the other messages and the timers by the step of the inbound handoff. -/
theorem handoffDestination : Obligations.HandoffDestination := by
  unfold Obligations.HandoffDestination
  intro s c peer slot gen t p dl r ov m h y z w v x e nxS hears arrives mine taken
  have heard : ∀ {i : Instr} {ty : Nat} {f : Chan → Chan} {z : Chan}, exec i s = onChS c (fun x => x.hoMsg peer ty m true f) s → hears → f x = z → nxS i z :=
    fun hi hh hz => execS_on x hi ((Chan.hoMsg_of_hears hh.1 hh.2.1 hh.2.2 _).trans hz)
  have ready : x.ctx.ready = true → ¬ (!x.ctx.ready) = true := fun h => by simp [h]
  refine ⟨fun hh hr => heard exec_offer hh (if_pos (by simp [hr])), fun hh hr hans => ?_, fun hh hr hf h3 => ?_, fun hs hhand => ?_⟩
  · have admits : ∀ {z}, x.admitOffer peer m = z → nxS (.offer c peer m true) z := fun hz => heard exec_offer hh ((if_neg (ready hr)).trans (by rw [hans]; exact hz))
    refine ⟨fun hride => admits (if_pos hride), fun hride hreason h3 h4 => admits ?_, fun hride hok hp hslot hdl htake hroom => ?_⟩
    · simp only [Chan.admitOffer, hride, hreason, h3, h4, Bool.false_eq_true, if_false, false_and]
    · have room : ¬ x.hoLimit 47 32 ≤ x.countCtx (fun e => decide (e.state = .inbound)) := not_le.2 hroom
      refine ⟨fun hpush => admits ?_, fun hpush hb => admits ?_⟩
      · simp only [Chan.admitOffer, hride, hok, hp, hslot, hdl, htake, room, hpush, Bool.false_eq_true, if_false]
        rfl
      · simp only [Chan.admitOffer, hride, hok, hp, hslot, hdl, htake, room, hpush, hb, Bool.false_eq_true, if_false, if_true]
        rfl
  · exact heard exec_cancel hh ((if_neg (ready hr)).trans (by rw [Chan.answerOffer_cancel hf h3]; rfl))
  · have timer : ∀ {sub : Nat → Bool}, sub e.sub = true → ∀ due k, x.handTimer slot .inbound sub due k = k (x.reach (due h)) h := fun hsub => Chan.handTimer_of hhand hs hsub
    have told : ∀ {i : Instr} {ty : Nat} {k : Chan → Nat → Handoff → Chan} {z : Chan},
        exec i s = onChS c (fun x => x.hoMsg peer ty m true (fun x => x.forDest m (k x))) s → hears → mine → k x slot h = z → nxS i z := fun hi hh hm hz =>
      heard hi hh ((Chan.forDest_of_inbound hm.1 hm.2.1 hs hhand hm.2.2.1 hm.2.2.2 _).trans hz)
    refine ⟨fun hh hm hsub he => told exec_manifest hh hm (if_neg (not_or.2 ⟨not_lt.2 hsub, not_not.2 he⟩)), fun hh hm hsub he => told exec_release hh hm (if_pos ⟨hsub, he⟩),
      fun hsub hreb => ?_, fun hsub hd => ?_, fun hsub hd hset => ?_, fun hsub ht => ?_, fun hsub ht => ?_⟩
    · exact execS_on x exec_transferIdleDest ((timer (by simpa using hsub) _ _).trans (if_neg (by simp [hreb])))
    · refine execS_on x exec_digestVerified ?_
      simp only [hhand]
      exact (if_neg (not_or.2 ⟨not_not.2 hs, not_not.2 hsub⟩)).trans (if_pos hd)
    · refine execS_on x exec_digestVerified ?_
      simp only [hhand]
      exact (if_neg (not_or.2 ⟨not_not.2 hs, not_not.2 hsub⟩)).trans ((if_neg (not_not.2 hd)).trans (if_neg (by simp [hset])))
    · exact execS_on x exec_acceptRetryDest ((timer (by simp [hsub]) _ _).trans (if_pos ht))
    · exact execS_on x exec_acceptRetryDest ((timer (by simp [hsub]) _ _).trans (if_neg (not_lt.2 ht)))

end Sys2Proof.Machine
end
section
/-! PROOFS. Attention jobs, row operations, refresh and the heat of the base die (R158, R166, R173 to R181). -/
namespace Sys2Proof.Machine
open Sys2Proof
-- Theorem by theorem: side by side, the checks of this text take more memory than they are given.
set_option Elab.async false

/-- Settles O20: the job by its status and its unit, the row operation by its checks, the die by its temperature. -/
theorem attentionJobsAndRows : Obligations.AttentionJobsAndRows := by
  unfold Obligations.AttentionJobsAndRows
  refine ⟨?_, ?_⟩
  · intro s c job j y x d taken a status nx refused dark trailer hj
    have completes : ∀ {z}, (if j.status ≠ 0 then _ else _ : Chan).pumpHost 1 = z → nx (.jobComplete c job) z := fun hz =>
      exec_on x exec_jobComplete (by rw [hj]; exact hz)
    refine ⟨fun hs => completes (congrArg (Chan.pumpHost · 1) (if_pos hs)), fun hs hd => completes (congrArg (Chan.pumpHost · 1) ((if_neg (not_not.2 hs)).trans (if_pos hd))),
      fun hs hd he hg hf hn hsat => completes (congrArg (Chan.pumpHost · 1) ((if_neg (not_not.2 hs)).trans ((if_neg hd).trans ?_)))⟩
    have hlive : decide ((taken.entry j.slot).gen = j.gen ∧ (taken.entry j.slot).state ≠ .free) = true := decide_eq_true ⟨hg, hf⟩
    have hnans : (y.attend j (attnDesc j.image)).nans = 0 := hn
    have hsats : (y.attend j (attnDesc j.image)).sats = 0 := hsat
    dsimp only [taken] at hlive
    rw [show Chan.eccReads _ _ _ = _ from he]
    dsimp only
    rw [hlive]
    simp only [hnans, hsats, Bool.not_true, Bool.false_eq_true, if_false, if_true]
    rfl
  · intro s c src op r rest pch stack temp x nx owned done hot
    refine ⟨fun ha => ⟨fun ho => ?_, fun ho hown => ?_, fun ho hown => ?_⟩, fun hr => ?_, fun hp => ?_, fun hst ht hh => ?_, fun hst ht hh => ?_, fun hst h1 h2 => ?_, fun hl => ?_⟩
    · exact exec_command exec_cruRowop ha (if_pos (by simp [ho]))
    · exact exec_command exec_cruRowop ha ((if_neg (by simp [ho])).trans (if_pos hown))
    · exact exec_command exec_cruRowop ha ((if_neg (by simp [ho])).trans (if_neg (Bool.eq_false_iff.1 hown)))
    · exact exec_on x exec_rowopDone (by rw [hr])
    · exact exec_on x exec_refreshDue (if_pos hp)
    · exact exec_on x exec_baseDieHot ((if_neg (not_le.2 hst)).trans (if_pos ⟨ht, by simp [hh]⟩))
    · exact exec_on x exec_baseDieHot ((if_neg (not_le.2 hst)).trans ((if_neg (by omega)).trans (if_pos ⟨ht, hh⟩)))
    · exact exec_on x exec_baseDieHot ((if_neg (not_le.2 hst)).trans ((if_neg (by omega)).trans (if_neg (by omega))))
    · exact exec_on x exec_cruHoldMaxClear (if_pos hl)

end Sys2Proof.Machine
end
section
/-! PROOFS. Speculation records (R83, R185, R186, R190, R193, R195, R196, R204) and the commit of a verified path (R190, R200, R203). -/
namespace Sys2Proof.Machine
open Sys2Proof
-- Theorem by theorem: side by side, the checks of this text take more memory than they are given.
set_option Elab.async false

/-- What a record does on its context, by its OP. -/
def Chan.specEffect (op : Nat) : Chan → ReplyTo → SpecRec → Nat → Chan := if op = 1 then Chan.specBegin else if op = 2 then Chan.specVerify else Chan.specAbandon

/-- A record on a context that its sender may reach: the checks by the context's state, and the effect. -/
def Chan.specOnCtx (x : Chan) (q : ReplyTo) (op : Nat) (r : SpecRec) (slot : Nat) : Chan :=
  let e := x.entry slot
  if x.actingRole ≠ .generation then x.specEnd q (some slot) op r.reqTag 0x2E 0 0
  else if e.state ≠ .decoding then x.specEnd q (some slot) op r.reqTag 0x22 0 0
  else if e.sub = 2 then x.specEnd q (some slot) op r.reqTag 0x6C 0 0
  else if r.epoch ≠ e.epoch then x.specEnd q (some slot) op r.reqTag 0x61 0 0
  else if r.base ≠ e.committed then x.specEnd q (some slot) op r.reqTag 0x60 0 0
  else Chan.specEffect op x q r slot

section
variable {x : Chan} {slot op : Nat} {r : SpecRec}

/-- A record of a sender who may reach its context comes to the checks of that context. -/
theorem Chan.specRecord_reaches {tenant : Option Nat} {authorised : Nat → Bool} (hm : x.rel.mode ≠ .shadow) (hr : x.ctx.ready = true) (hc : x.checkHandle r.h = .ok slot)
    (ht : ¬ (tenant.isSome = true ∧ tenant ≠ some (x.entry slot).tslot)) (ha : authorised slot = true) (q : ReplyTo) :
    x.specRecord q op r tenant authorised (Chan.specEffect op x q r) = x.specOnCtx q op r slot := by
  simp only [Chan.specRecord, Chan.specOnCtx, hm, hr, hc, ht, ha, Bool.not_true, Bool.false_eq_true, or_self, if_false]

theorem exec_specHost {c : ChId} {src : Src} {s : State} (h1 : 1 ≤ op) (h3 : op ≤ 3) :
    exec (if op = 1 then Instr.spcBegin c src (.ok r) else if op = 2 then .spcVerify c src (.ok r) else .spcAbandon c src (.ok r)) s =
      onCh c (fun x => x.specCommand src op (.ok r) (Chan.specEffect op)) s := by
  obtain rfl | rfl | rfl : op = 1 ∨ op = 2 ∨ op = 3 := by omega
  · exact exec_spcBegin
  · exact exec_spcVerify
  · exact exec_spcAbandon

theorem exec_specFabric {c : ChId} {port : Nat} {via : Via} {s : State} (h1 : 1 ≤ op) (h3 : op ≤ 3) :
    exec (if op = 1 then Instr.specBeginRecord c port via r else if op = 2 then .specVerifyRecord c port via r else .specAbandonRecord c port via r) s =
      onCh c (fun x => x.specPort port via op r (Chan.specEffect op)) s := by
  obtain rfl | rfl | rfl : op = 1 ∨ op = 2 ∨ op = 3 := by omega
  · exact exec_specBeginRecord
  · exact exec_specVerifyRecord
  · exact exec_specAbandonRecord

/-- On a decoding context at the record's epoch and base the record has its effect. -/
theorem Chan.specOnCtx_effect (hg : x.actingRole = .generation) (hd : (x.entry slot).state = .decoding) (he : r.epoch = (x.entry slot).epoch)
    (hb : r.base = (x.entry slot).committed) (h2 : (x.entry slot).sub ≠ 2) (q : ReplyTo) : x.specOnCtx q op r slot = Chan.specEffect op x q r slot := by
  simp only [Chan.specOnCtx, hg, hd, he, hb, h2, ne_eq, not_true, if_false]

end

/-- Settles O21: the checks of a record's context in order, and then BEGIN, VERIFY or ABANDON. -/
theorem speculationRecords : Obligations.SpeculationRecords := by
  unfold Obligations.SpeculationRecords
  intro s c src port slot op via r ps d x e m layers nx peer ready host fabric hostCmd record gives refused plain h1 h3
  have runs : ∀ {z : ReplyTo → Chan}, (∀ q, x.specOnCtx q op r slot = z q) → gives z := fun {z} hz => by
    refine ⟨fun ⟨⟨hm, hr, hc⟩, ha, hd, ho⟩ => ?_, fun ⟨⟨hm, hr, hc⟩, hs, he, hp, hauth⟩ => ?_⟩
    · refine exec_on x (exec_specHost h1 h3) ((Chan.command_of_admits ha _).trans ((Chan.reading_ok hd _ _).trans ((Chan.specRecord_reaches hm hr hc ?_ rfl _).trans (hz _))))
      have hv := (Bool.and_eq_true ..).mp ho |>.2
      rintro ⟨hsome, hne⟩
      obtain ⟨t, ht⟩ := Option.isSome_iff_exists.1 hsome
      rw [ht] at hv hne
      exact hne (congrArg some (of_decide_eq_true hv).symm)
    · refine exec_on x (exec_specFabric h1 h3) ((if_neg (by simp [hs, he])).trans ((Chan.specRecord_reaches hm hr hc ?_ hauth _).trans (hz _)))
      simp [show (x.entry slot).tslot = _ from hp]
  have gen : ∀ {z}, x.actingRole = .generation → (∀ q, (if e.state ≠ .decoding then _ else _) = z q) → gives z := fun hg hz => runs fun q => (if_neg (not_not.2 hg)).trans (hz q)
  have dec : ∀ {z}, x.actingRole = .generation → e.state = .decoding → (∀ q, (if e.sub = 2 then _ else _) = z q) → gives z := fun hg hd hz =>
    gen hg fun q => (if_neg (not_not.2 hd)).trans (hz q)
  have effect : ∀ {z}, plain → e.sub ≠ 2 → (∀ q, Chan.specEffect op x q r slot = z q) → gives z := fun ⟨hg, hd, he, hb⟩ h2 hz =>
    runs fun q => (Chan.specOnCtx_effect hg hd he hb h2 q).trans (hz q)
  refine ⟨fun hg => runs fun q => if_pos hg, fun hg hd => gen hg fun q => if_pos hd, fun hg hd h2 => dec hg hd fun q => if_pos h2,
    fun hg hd h2 he => dec hg hd fun q => (if_neg h2).trans (if_pos he),
    fun hg hd h2 he hb => dec hg hd fun q => (if_neg h2).trans ((if_neg (not_not.2 he)).trans (if_pos hb)), ?_⟩
  refine ⟨fun hp hop hs => ?_, fun hp hop hs hfill hv hc1 hc2 hps => ?_, fun hp hop hs => ?_, fun hp hop hs hf hv hc1 hc2 => ?_, fun hp hop hs => ?_, fun hp hop hs hv hc => ?_⟩
  all_goals subst hop
  · exact effect hp (by rw [hs]; decide) fun q => if_pos hs
  · have begins : ∀ {z}, (∀ q, (if govLimit e.governor = 0 then _ else _) = z q) → gives z := fun {z} hz => effect hp (by rw [hs]; decide) fun q => by
      refine (if_neg (by rw [show (x.entry slot).sub = _ from hs]; decide)).trans ((if_neg ?_).trans ?_)
      · simpa using hfill
      · rw [if_pos ⟨hv, hc1, hc2⟩, hps]
        exact hz q
    refine ⟨fun h0 => begins fun q => if_pos h0, fun h0 hmax hwin hdep hlen => begins fun q => (if_neg h0).trans ((if_neg ?_).trans (if_neg (not_lt.2 hlen)))⟩
    rw [not_or, not_or]
    exact ⟨not_lt.2 hmax, not_lt.2 hwin, not_lt.2 hdep⟩
  · refine effect (z := fun q => x.specEnd q (some slot) 2 r.reqTag 0x67 0 0) hp (by rw [hs]; decide) fun q => ?_
    show x.specVerify q r slot = _
    simp only [Chan.specVerify, show (x.entry slot).sub = 0 from hs, Nat.zero_ne_one, if_false]
  · have verifies : ∀ {z}, (∀ q, (if !pathOk d (r.table.take r.count) then _ else _) = z q) → gives z := fun {z} hz => effect hp (by rw [hs]; decide) fun q => by
      show x.specVerify q r slot = _
      simp only [Chan.specVerify, show (x.entry slot).sub = 1 from hs, if_true, hf]
      exact (if_neg (by omega)).trans (hz q)
    exact ⟨fun hok => verifies fun q => if_pos (by simp [hok]), fun hok hpause => verifies fun q => (if_neg (by simp [hok])).trans (if_neg (by simp [show x.paused (x.entry slot).tslot = _ from hpause]))⟩
  · refine effect (z := fun q => x.specEnd q (some slot) 3 r.reqTag 0x67 0 0) hp (by rw [hs]; decide) fun q => ?_
    show x.specAbandon q r slot = _
    exact if_pos (show (x.entry slot).sub ≠ 1 by rw [show (x.entry slot).sub = 0 from hs]; decide)
  · exact effect hp (by rw [hs]; decide) fun q => (if_neg (not_not.2 hs)).trans (if_neg (not_or.2 ⟨not_not.2 hv, not_not.2 hc⟩))

/-- Settles O22: the commit by its rows and the room of its copies, and spc.govern by its operands. -/
theorem verifyCommit : Obligations.VerifyCommit := by
  unfold Obligations.VerifyCommit
  intro s c src h slot tag limit reset dest d path y z x e nx moves whole copied a depth placed gov left
  refine ⟨fun hd hs hsub hst => ?_, fun ha ho => ?_⟩
  · have commits : ∀ {v}, (if path.any (fun a => !x.rowComplete slot (d.base + a)) then _ else _) = v → nx (.verifyCommit c slot) v := fun hv => by
      refine exec_on x exec_verifyCommit ?_
      simp only [hd, Option.bind_some]
      exact (if_neg (not_or.2 ⟨not_not.2 hs, not_or.2 ⟨not_not.2 hsub, by simp [hst]⟩⟩)).trans hv
    have hwhole : whole ↔ ¬ (path.any (fun a => !x.rowComplete slot (d.base + a))) = true := by simp [whole]
    have copies : ∀ {r : CopyRoom × Chan} {v}, whole → x.copyFrames slot (moves.map Prod.snd) = r → (match r with
        | (.waits, x) => x
        | (.quota, x) => (x.tierQuotaEvent (x.entry slot).tslot 0).verifyBack slot 0x6D
        | (.exhausted, x) => x.verifyBack slot 0x6D
        | (.ready, x) => match moves.foldl (fun acc m => if acc.1 = true then acc.2.copyRow slot m.1 m.2 else acc) (true, x) with
          | (ok, x) => if ok then x.verifyDone slot { d with verify := some (path, dest, tag) } path dest tag else x.faultNow slot 2) = v → nx (.verifyCommit c slot) v :=
      fun hw hr hv => commits ((if_neg (hwhole.1 hw)).trans (by rw [← hr] at hv; exact hv))
    refine ⟨fun hw => commits (if_pos (not_not.1 (mt hwhole.2 hw))), fun hw hr => copies hw hr rfl, fun hw hr => copies hw hr rfl, fun hw hr hc hdep => copies hw hr ?_,
      fun hw hr hc hdep hoff => copies hw hr ?_, fun hw hr hc => copies hw hr ?_⟩
    · dsimp only
      rw [show List.foldl _ _ _ = _ from hc]
      simp only [Chan.verifyDone, show draftDepth d.parents d.anchor = 0 from hdep, if_true, Bool.false_eq_true, if_false]
      rfl
    · dsimp only
      rw [show List.foldl _ _ _ = _ from hc]
      have hgov : placed.govern gov a depth = ((placed.govern gov a depth).1, false) := Prod.ext rfl hoff
      simp only [Chan.verifyDone, show ¬ draftDepth d.parents d.anchor = 0 from hdep, if_true, if_false]
      rw [show Chan.govern _ _ _ _ = _ from hgov]
      simp only [Bool.false_eq_true, if_false]
      rfl
    · dsimp only
      rw [show List.foldl _ _ _ = _ from hc]
      rfl
  · have owned : ∀ k, x.withCtx src h k = k slot := fun k => Chan.withCtx_of_owns ho k
    refine ⟨fun hs => ?_, fun hs hr => ?_, fun hs hr hl => ?_, fun hs hr hl => ?_⟩
    · exact exec_ctxCommand exec_spcGovern ha ((owned _).trans (if_pos hs))
    · exact exec_ctxCommand exec_spcGovern ha ((owned _).trans ((if_neg (not_not.2 hs)).trans ((if_neg (by simp [hr])).trans (by rw [hr]; rfl))))
    · exact exec_ctxCommand exec_spcGovern ha ((owned _).trans ((if_neg (not_not.2 hs)).trans (if_pos ⟨by simp [hr], hl⟩)))
    · exact exec_ctxCommand exec_spcGovern ha ((owned _).trans ((if_neg (not_not.2 hs)).trans ((if_neg fun hn => not_lt.2 hl hn.2).trans (by rw [hr]; rfl))))

end Sys2Proof.Machine
end
section
/-! PROOFS. Programs and the cyclic schedule (R211 to R213, R215, R217, R219, R225, R226, R228, R231), and invocations (R215, R218, R221, R223, R226). -/
namespace Sys2Proof.Machine
open Sys2Proof
-- Theorem by theorem: side by side, the checks of this text take more memory than they are given.
set_option Elab.async false

section
variable (x : Chan) (t : Nat)

/-- A time that has passed already changes nothing. -/
theorem Chan.reach_of_le {x : Chan} {t : Nat} (h : t ≤ x.time) : x.reach t = x := by
  simp only [Chan.reach, Nat.sub_eq_zero_of_le h, Nat.lt_irrefl, decide_false, Bool.and_false, Bool.false_eq_true, if_false, Nat.max_eq_left h]

theorem Chan.reach_time : (x.reach t).time = max x.time t := by rw [Chan.reach_eq]

theorem Chan.reach_reach : (x.reach t).reach t = x.reach t := Chan.reach_of_le (by rw [Chan.reach_time]; exact Nat.le_max_right _ _)

theorem Chan.reach_gaf : (x.reach t).gaf = x.gaf := by rw [Chan.reach_eq]

theorem Chan.reach_core (k : Nat) : (x.reach t).core k = x.core k := by rw [Chan.reach_eq]; rfl

theorem Chan.reach_tableB : (x.reach t).tableB = x.tableB := by rw [Chan.reach_eq]; rfl

theorem Chan.reach_entry (slot : Nat) : (x.reach t).entry slot = x.entry slot := by rw [Chan.reach_eq]; rfl

end

section
variable {x : Chan} {src : Src} {n : Nat} {p : Prog}

/-- The PF and the tenant of a tenant program reach it. -/
theorem Chan.withProg_of (hp : x.prog n = some p) (hk : p.kind = .tenant) (hv : src.vf = none ∨ src.vf = some p.tenant) (k : Prog → Chan) : x.withProg src n k = k p := by
  have ht : p.isTenant = true := decide_eq_true hk
  obtain hv | hv := hv <;> simp [Chan.withProg, hp, ht, hv]

theorem Chan.withProg_none (hp : x.prog n = none) (k : Prog → Chan) : x.withProg src n k = x.complete src 0x77 0 := by simp only [Chan.withProg, hp]

theorem Chan.ownerOf_of_tenant {i : Invocation} (hp : x.prog i.prog = some p) (hk : p.kind = .tenant) : x.ownerOf i = p.tenant := by
  simp only [Chan.ownerOf, hp, Prog.isTenant, hk, decide_true, if_true]

end

section
variable {x : Chan} {l : List Nat}

/-- Past the last used slot of a frame no used slot follows. -/
theorem Chan.usedSlots_last (hu : x.usedSlots x.tableB = l ++ [x.gaf.curSlot]) (hl : ∀ i ∈ l, i < x.gaf.curSlot) :
    (x.usedSlots x.tableB).find? (fun i => decide (x.gaf.curSlot < i)) = none := by
  rw [List.find?_eq_none, hu]
  intro i hi
  rw [List.mem_append, List.mem_singleton] at hi
  obtain hi | rfl := hi
  · simpa using (hl i hi).le
  · simp

/-- The last slot of a frame ends with the frame. -/
theorem Chan.slotStep_last (hu : x.usedSlots x.tableB = l ++ [x.gaf.curSlot]) (hl : ∀ i ∈ l, i < x.gaf.curSlot) : x.slotStep = x.frameEnd := by
  rw [Chan.slotStep, Chan.usedSlots_last hu hl]
  exact if_neg (by rw [hu]; simp)

/-- The frame ends at the end of its last slot. -/
theorem Chan.frameRest_nil (hu : x.usedSlots x.tableB = l ++ [x.gaf.curSlot]) (hl : ∀ i ∈ l, i < x.gaf.curSlot) (n : Nat) :
    (x.usedSlots x.tableB).filter (fun i => decide (x.gaf.curSlot < i ∧ i ≤ n)) = [] := by
  have hnone := Chan.usedSlots_last hu hl
  rw [List.find?_eq_none] at hnone
  rw [List.filter_eq_nil_iff]
  intro i hi h
  exact hnone i hi (decide_eq_true (of_decide_eq_true h).1)

theorem Chan.frameEnd_reach (x : Chan) : (x.reach x.gaf.slotEnd).frameEnd = x.frameEnd := by
  rw [Chan.frameEnd, Chan.frameEnd, Chan.reach_gaf, Chan.reach_reach]

end

/-- Settles O24: loading check by check, the commands on a program, and the schedule's boundaries. -/
theorem programsAndSchedule : Obligations.ProgramsAndSchedule := by
  unfold Obligations.ProgramsAndSchedule
  refine ⟨?_, ?_⟩
  · intro s c src m ki a evc n entry key p en params i x t nx load refused form ours reached adm free
    refine ⟨fun ha hd => ?_, fun ha => ?_⟩
    · have loads : ∀ {z}, x.gafLoad src m = z → nx load z := fun hz => exec_command exec_gafLoad ha ((Chan.reading_ok hd _ _).trans hz)
      have formed : ∀ {z}, form → (if m.kind ≠ 3 ∨ m.tenantTag ≠ x.tag t then _ else _) = z → nx load z := fun hf hz =>
        loads ((if_neg (by simp [show imageFormed m = true from hf])).trans hz)
      have hours : ours ↔ ¬ (m.kind ≠ 3 ∨ m.tenantTag ≠ x.tag t) := by simp only [ours, not_or, not_not, ne_eq]
      have keyed : ∀ {z}, form → ours → x.progKey t m.keyId = some (ki, key) → (if !m.sigOk then _ else _) = z → nx load z := fun hf ho hk hz =>
        formed hf ((if_neg (hours.1 ho)).trans (by rw [hk]; exact hz))
      have versioned : ∀ {z}, form → ours → x.progKey t m.keyId = some (ki, key) → m.sigOk = true → key.floor ≤ m.version →
          (match free, x.imageRoom m.size with
            | some i, some a => if 4 ≤ (x.progsOf t).length then x.loadRefused src 0x74
                else match x.counterRoom m.evcCount with
                  | none => x.loadRefused src 0x76
                  | some evc => x.install src m (4 + i) ki a evc
            | _, _ => x.loadRefused src 0x74) = z → nx load z := fun hf ho hk hs hv hz =>
        keyed hf ho hk ((if_neg (by simp [hs])).trans ((if_neg (not_lt.2 hv)).trans hz))
      refine ⟨fun hf => loads (if_pos (by simpa [form] using hf)), fun hf ho => formed hf (if_pos (not_not.1 (mt hours.2 ho))),
        fun hf ho hk => formed hf ((if_neg (hours.1 ho)).trans (by rw [hk]; rfl)), fun hf ho hk hs => keyed hf ho hk (if_pos (by simp [hs])),
        fun hf ho hk hs hv => keyed hf ho hk ((if_neg (by simp [hs])).trans (if_pos hv)), fun hf ho hk hs hv hroom => versioned hf ho hk hs hv ?_,
        fun hf ho hk hs hv hi hr => ⟨fun h4 => versioned hf ho hk hs hv ?_, fun h4 hc => versioned hf ho hk hs hv ?_, fun h4 hc => versioned hf ho hk hs hv ?_⟩⟩
      · obtain h | h := hroom
        · rw [h]; rfl
        · rw [h]; cases free <;> rfl
      · rw [hi, hr]; exact if_pos h4
      · rw [hi, hr]; exact (if_neg (not_le.2 h4)).trans (by rw [hc]; rfl)
      · rw [hi, hr]; exact (if_neg (not_le.2 h4)).trans (by rw [hc])
    · refine ⟨fun hp i hi => ?_, fun ⟨hp, hk, hv⟩ hb => ?_, fun ⟨hp, hk, hv⟩ hb => ?_, fun ⟨hp, hk, hv⟩ hf => ?_, fun ⟨hp, hk, hv⟩ hf he => ?_, fun ⟨hp, hk, hv⟩ hf he hcall => ?_,
        fun ⟨hp, hk, hv⟩ hf he hcall => ?_, fun hp hv => ?_⟩
      · obtain rfl | rfl | rfl := hi
        · exact exec_command exec_gafUnload ha (Chan.withProg_none hp _)
        · exact exec_command exec_gafInvoke ha (Chan.withProg_none hp _)
        · exact exec_command exec_gafQuery ha (by simp only [hp])
      · exact exec_command exec_gafUnload ha ((Chan.withProg_of hp hk hv _).trans (if_pos hb))
      · exact exec_command exec_gafUnload ha ((Chan.withProg_of hp hk hv _).trans (if_neg (by simp [hb])))
      · exact exec_command exec_gafInvoke ha ((Chan.withProg_of hp hk hv _).trans (if_pos hf))
      · refine exec_command exec_gafInvoke ha ((Chan.withProg_of hp hk hv _).trans ((if_neg (by simp [hf])).trans ?_))
        rw [he]
      · refine exec_command exec_gafInvoke ha ((Chan.withProg_of hp hk hv _).trans ((if_neg (by simp [hf])).trans ?_))
        rw [he]
        refine if_neg ?_
        obtain hv | hv := hv <;> simpa [hv] using hcall
      · refine exec_command exec_gafInvoke ha ((Chan.withProg_of hp hk hv _).trans ((if_neg (by simp [hf])).trans ?_))
        rw [he]
        refine (if_pos ?_).trans ?_
        · obtain hv | hv := hv <;> simpa [hv] using hcall
        · simp only [Chan.invoke]
          rw [Chan.ownerOf_of_tenant (p := p) hp hk]
      · refine exec_command exec_gafQuery ha ?_
        simp only [hp]
        refine if_pos ?_
        obtain hv | ⟨hk, hv⟩ := hv
        · simp [hv]
        · simp [hv, hk, Prog.isTenant]
  · intro s c core i fault code at_ kept l inv a x g nx used b late next unasked began switched y us
    refine ⟨fun hs => ⟨fun hu => ?_, fun hu => ?_, fun hu hl f hf => ?_, fun hi hne h16 => ?_, fun hd hfree => ?_⟩, fun hl => ⟨?_, ?_, fun hh hv => ?_, fun hh => ?_⟩⟩
    · refine exec_on x exec_slotBoundary ((if_pos hs).trans ?_)
      rw [Chan.slotStep, hu]
      rfl
    · refine exec_on x exec_slotBoundary ((if_pos hs).trans ?_)
      rw [Chan.slotStep, show x.usedSlots x.tableB = [] from hu]
      rfl
    · have ends : ∀ {z}, x.frameEnd = z → nx f z := fun hz => by
        obtain rfl | rfl := hf
        · exact exec_on x exec_slotBoundary ((if_pos hs).trans ((Chan.slotStep_last hu hl).trans hz))
        · refine exec_on x exec_frameBoundary ((if_pos hs).trans ?_)
          dsimp only
          rw [Chan.frameRest_nil hu hl, List.map_nil, List.sum_nil, Nat.zero_mul, Nat.add_zero]
          exact (Chan.frameEnd_reach x).trans hz
      have hb : (!late.tableB) = b := congrArg not (Chan.reach_tableB ..)
      refine ⟨fun hflag => ends ?_, fun hflag hfault => ends ?_, fun hflag hfault => ends ?_⟩
      · exact congrArg (fun y : Chan => (y.enterSlot ((y.usedSlots y.tableB).headD 0) y.time).reassign late.coreOwner) (if_neg (Bool.eq_false_iff.1 hflag))
      · refine congrArg (fun y : Chan => (y.enterSlot ((y.usedSlots y.tableB).headD 0) y.time).reassign late.coreOwner) ((if_pos hflag).trans ?_)
        dsimp only
        rw [show (!Chan.tableB _) = _ from hb, show Chan.tableFault _ _ = _ from hfault]
      · refine congrArg (fun y : Chan => (y.enterSlot ((y.usedSlots y.tableB).headD 0) y.time).reassign late.coreOwner) ((if_pos hflag).trans ?_)
        dsimp only
        rw [show (!Chan.tableB _) = _ from hb, show Chan.tableFault _ _ = _ from hfault]
    · have pool : ∀ {z}, (if (y.runnable.any (fun r => decide (r.2.1 < 16 ∧ r.2.1 ≠ x.ownerOf inv) && !r.2.2)) = true then _ else _) = z → nx (.poolQuantumExpiry c core) z := fun hz => by
        refine exec_on x exec_poolQuantumExpiry ?_
        dsimp only
        have hinv : (x.core core).inv = some inv := hi
        rw [hinv]
        refine (if_pos (by simp [hs, hne, h16])).trans ?_
        rw [← hinv]
        exact hz
      exact ⟨fun hr => pool (if_pos hr), fun hr => pool (if_neg (Bool.eq_false_iff.1 hr))⟩
    · have released : ∀ {z}, (if x.fget Reg.GAF_PREEMPT_DEFER 31 0 < us then x.fset Reg.GAF_PREEMPT_DEFER 31 0 us else x).requestPreempt core kept = z →
          nx (.preemptionDeferredRelease c core) z := fun hz => by
        refine exec_on x exec_preemptionDeferredRelease ?_
        rw [show (x.core core).deferred = some (at_, kept) from hd]
        refine (if_pos ?_).trans hz
        cases kept <;> simp [hs] at hfree ⊢ <;> omega
      exact ⟨fun hu => released (congrArg (Chan.requestPreempt · core kept) (if_neg (not_lt.2 hu))), fun hu => released (congrArg (Chan.requestPreempt · core kept) (if_pos hu))⟩
    · exact exec_on x exec_gafSchedSwitch (if_pos hl)
    · exact exec_on x exec_gafPreemptMaxClear (if_pos hl)
    · exact exec_on x exec_gafEvcAdd (if_pos (by simp [hl, hh, hv]))
    · exact exec_on x exec_gafEvcAdd (if_neg (by simp [hh]))

/-- An exception between instructions is taken at once, or at the end of the wait. -/
theorem Chan.betweenExc_eq (x : Chan) (k code : Nat) :
    x.betweenExc k code = if (x.core k).wait = none then x.exception k code (x.core k).pc else x.setCore k { x.core k with dueExc := some ((x.core k).dueExc.getD code) } := by
  rw [Chan.betweenExc]
  cases h : (x.core k).wait with
  | none => simp
  | some w => simp [h]

/-- Settles O25: each happening of an invocation where its condition holds. -/
theorem invocations : Obligations.Invocations := by
  unfold Obligations.Invocations
  intro s c k n t rd target ctr h asked prog entry v b p tr i x g nx key freed due hs
  have overdue : ∀ u code, (x.reach u).betweenExc k code = due (x.reach u) code := fun u code => by rw [Chan.betweenExc_eq, Chan.reach_core]
  refine ⟨fun h64 hi hopen hp => ?_, fun ht htar hnamed hp hf => ?_, fun hst hw => ?_, fun hp hst hh => ?_, fun hi hb h0 hst hh => ?_, fun he hv hp => ?_⟩
  · refine exec_on x exec_invocationStart ?_
    have hcore : (x.core k).inv = none := hi
    have hcopen : x.coreOpen k = true := by
      obtain h | h := hopen
      · simp [Chan.coreOpen, hs, h64, h]
      · simp [Chan.coreOpen, Chan.schedulable, hs, h64, not_le.2 h]
    simp only [Chan.fillCore, hcore, hcopen, hp, Option.isNone_none, Bool.and_self, if_true]
  · refine exec_on x exec_triggerFire ?_
    simp only [ht]
    refine (if_pos ?_).trans ?_
    · obtain h | h := hnamed <;> simp [hs, htar, h]
    · have hprog : ({ x with gaf := { x.gaf with triggers := x.gaf.triggers.del k } } : Chan).prog tr.prog = some p := hp
      simp only [Chan.fire, hprog, hf, Bool.false_eq_true, if_false]
      rfl
  · refine exec_on x exec_waitTimeout ?_
    have hst' : (x.core k).st = .waiting := hst
    have hw' : (x.core k).wait = some (.counter ctr h target (some t) rd) := hw
    simp only [hst', hw', hs, if_true, Chan.reach_time]
    rfl
  · refine exec_on x exec_cheapPointOverdue ?_
    simp only [show (x.core k).preempt = some asked from hp]
    exact (if_pos (by simp [hs, show (x.core k).st = _ from hst, show (x.core k).held = _ from hh])).trans (overdue _ _)
  · refine exec_on x exec_budgetExceeded ?_
    simp only [show (x.core k).inv = some i from hi, hb]
    exact (if_pos (by simp [hs, h0, show (x.core k).st = _ from hst, show (x.core k).held = _ from hh])).trans (overdue _ _)
  · have restarts : ∀ {z}, (if 256 ≤ v then _ else _) = z → nx (.residentRestart c prog entry) z := fun hz => by
      refine exec_on x exec_residentRestart ?_
      simp only [show x.gaf.restarts.find (prog * 65536 + entry) = some v from hv, hp]
      exact (if_pos (by simp [hs, he])).trans hz
    exact ⟨fun h => restarts (if_pos h), fun h => restarts (if_neg (not_le.2 h))⟩

end Sys2Proof.Machine
end

section
/-! PROOFS. Frames, pauses and links of a port (R55, R263 to R268, R270, R271, R276, R286, R303). -/
namespace Sys2Proof.Machine
open Sys2Proof
-- Theorem by theorem: side by side, the checks of this text take more memory than they are given.
set_option Elab.async false

section
variable (x : Chan) (t n : Nat)

theorem Chan.reach_port : (x.reach t).port n = x.port n := by rw [Chan.reach_eq]; rfl

theorem Chan.reach_fnState : (x.reach t).fnState n = x.fnState n := by rw [Chan.reach_eq]; rfl

theorem Chan.reach_fget (off hi lo : Nat) : (x.reach t).fget off hi lo = x.fget off hi lo := by rw [Chan.reach_eq]; rfl

end

/-- Settles O34: a frame by its size, its check and its steering; pauses by what their priority holds. -/
theorem portFrames : Obligations.PortFrames := by
  unfold Obligations.PortFrames
  intro s c n p quanta t data ok h r x u size q up live clean nx late wd stormy drop
  have link : ∀ {P : Prop}, up → ¬ P → ¬ ((!x.serves) = true ∨ (!x.hasPort n) = true ∨ u.link ≠ .up ∨ P) := by
    rintro P ⟨hs, hp, hl⟩ hP
    simp [hs, hp, hl, hP]
  have sized : ∀ {z}, up → 64 ≤ size → (if x.maxFrame n < size then _ else _) = z → nx (.frameReceive c n data ok) z := fun hu h64 hz =>
    exec_on x exec_frameReceive ((if_neg (link hu (not_lt.2 h64))).trans hz)
  refine ⟨fun hu h64 => ?_, fun hu h64 hmax => sized hu h64 (if_pos hmax), fun hu h64 hmax hok => sized hu h64 ((if_neg (not_lt.2 hmax)).trans (if_pos (by simp [hok]))),
    fun ⟨hu, hrun⟩ h64 hmax hok ⟨hmac, hudp⟩ => ?_, fun ⟨hu, hrun⟩ hp hlos => ?_, fun hp => ?_, fun hp => ?_, fun hp hwd hst hport => ?_, fun hd h0 => ?_⟩
  · exact exec_on x exec_frameReceive (if_pos (.inr (.inr (.inr h64))))
  · have steers : ∀ {z}, x.steerFrame n data q = z → nx (.frameReceive c n data ok) z := fun hz => by
      refine sized hu h64 ((if_neg (not_lt.2 hmax)).trans ((if_neg (by simp [hok])).trans ((if_neg hmac).trans ((if_neg ?_).trans ((if_neg fun hn => hrun hn.1).trans hz)))))
      rintro ⟨h6, hisu, hd, hbad⟩
      rw [hudp h6 hisu hd] at hbad
      cases hbad
    refine ⟨fun hh => steers ?_, fun hh hr hroom => steers ?_, fun hh hr hroom => steers ?_, fun hh hr => steers ?_⟩
    · simp only [Chan.steerFrame, hh]; rfl
    · simp only [Chan.steerFrame, hh, hr]
      exact if_neg (not_le.2 hroom)
    · simp only [Chan.steerFrame, hh, hr]
      exact if_pos hroom
    · simp only [Chan.steerFrame, hh, hr]; rfl
  · have heard : ∀ k {z}, (if k = 0 then _ else _) = z → nx (.pfcFrameReceived c n p k) z := fun _ _ hz => by
      refine exec_on x exec_pfcFrameReceived ((if_neg ?_).trans hz)
      obtain ⟨hs, hprt, hl⟩ := hu
      simp [hs, hprt, show (x.port n).link = _ from hl, hrun, hlos, hp]
    exact ⟨heard 0 (if_pos rfl), fun h0 => heard quanta (if_neg h0)⟩
  · refine exec_on x exec_pauseExpiry ?_
    rw [show (x.port n).rxPaused.find p = _ from hp]
    dsimp only
    rw [Chan.reach_port, Chan.reach_time]
  · have repeats : ∀ {z}, (if late.xon n ≤ u.held.getD p 0 ∨ x.fnState (0x10 + n) = .stopping then _ else _) = z → nx (.pfcPauseRepeat c n p) z := fun hz => by
      refine exec_on x exec_pfcPauseRepeat ?_
      rw [show (x.port n).txPaused.find p = _ from hp]
      dsimp only
      rw [Chan.reach_port, Chan.reach_fnState]
      exact hz
    exact ⟨fun h => repeats (if_pos h), fun h1 h2 => repeats (if_neg (not_or.2 ⟨not_le.2 h1, h2⟩))⟩
  · refine exec_on x exec_pfcWatchdogExpiry ?_
    dsimp only
    rw [show (x.port n).pausedSince.find p = _ from hp]
    refine (if_neg ?_).trans ?_
    · simp only [List.contains_iff_mem, hport, Bool.not_true, Bool.false_eq_true, or_false, not_or]
      exact ⟨hwd, hst⟩
    · rw [Chan.reach_fget]
  · refine exec_on x exec_watchdogDropEnd ?_
    rw [show (x.port n).dropping.find p = _ from hd]
    obtain ⟨m, rfl⟩ := Nat.exists_eq_succ_of_ne_zero h0
    change (x.reach _).setPort n { (x.reach _).port n with dropping := ((x.reach _).port n).dropping.del p } = _
    rw [Chan.reach_port]

/-- Settles O35, happening by happening. -/
theorem portLinks : Obligations.PortLinks := by
  unfold Obligations.PortLinks
  intro s c n words fixed bad reqNo eid code valid ok a x u e nx nxS counted mode down assign
  refine ⟨fun hs hp hl => ?_, fun hp hl => ?_, fun hs hp => ?_, fun hl hr => ?_, fun hs hp hl => ?_, exec_on x exec_eidReply rfl⟩
  · exact exec_on x exec_linkUp (if_neg (by simp [hs, hp, show (x.port n).link ≠ _ from hl]))
  · exact exec_on x exec_linkDown (if_neg (by simp [hp, show (x.port n).link ≠ _ from hl]))
  · have counts : ∀ {z}, (if 0 < bad ∨ words < fixed * 100000 then _ else _) = z → nx (.fecDegradedWindow c n words fixed bad) z := fun hz =>
      exec_on x exec_fecDegradedWindow ((if_neg (by simp [hs, hp])).trans hz)
    exact ⟨fun h => counts (if_pos h), fun h0 hw => counts (if_neg (by omega))⟩
  · have writes : ∀ {z : Chan} {o : Option Nat}, x.portLock = o → (match o with
        | some n => x.lockedWrite Reg.FAB_LANE_MODE n
        | none => if mode = 3 then x.lockedWrite Reg.FAB_LANE_MODE 0x10 else if mode = x.fget Reg.FAB_LANE_MODE 1 0 then x else x.regroup mode) = z →
        nx (.fabLaneModeWrite c a) z := fun ho hz => exec_on x exec_fabLaneModeWrite ((if_neg (by simp [hl, hr])).trans (by subst ho; exact hz))
    exact ⟨fun p hp => writes hp rfl, fun hp h3 => writes hp (if_pos h3), fun hp h3 hm => writes hp ((if_neg h3).trans (if_pos hm)),
      fun hp h3 hm => writes hp ((if_neg h3).trans (if_neg hm))⟩
  · have assigned : ∀ {z}, (if x.sec.fmKey.isNone ∨ !ok then _ else _) = z → nxS assign z := fun hz =>
      execS_on x exec_eidAssign ((if_neg (by simp [hs, hp, show (x.port n).link = _ from hl])).trans hz)
    have signed : x.sec.fmKey ≠ none → ok = true → ¬ (x.sec.fmKey.isNone = true ∨ (!ok) = true) := fun hk ho => by simp [hk, ho]
    refine ⟨fun h => assigned (if_pos (by simpa using h)), fun hk ho hlock => assigned ((if_neg (signed hk ho)).trans (by rw [hlock])),
      fun p hk ho hlock => assigned ((if_neg (signed hk ho)).trans (by rw [hlock]))⟩

end Sys2Proof.Machine
end
section
/-! PROOFS. Protection domains and regions (R278, R279, R281), and the commands on connections (R283, R292, R296, R297). -/
namespace Sys2Proof.Machine
open Sys2Proof
-- Theorem by theorem: side by side, the checks of this text take more memory than they are given.
set_option Elab.async false

/-- A region under a protection domain, as its tenant and the PF reach it. -/
theorem Chan.withRegion_of {x : Chan} {src : Src} {r : Nat} (hp : (x.region r).pd ≠ 0) (hv : src.vf = none ∨ (x.region r).tenant = src.slot) (k : Region → Chan) :
    ((x.region r).st = .valid → x.withRegion src r k = k (x.region r)) ∧ ((x.region r).st = .revoking → x.withRegion src r k = x.complete src 0x8B 0) := by
  have hmine : ¬ (src.vf.isSome = true ∧ (x.region r).tenant ≠ src.slot) := by
    obtain hv | hv := hv <;> simp [hv]
  refine ⟨fun h => ?_, fun h => ?_⟩ <;> simp [Chan.withRegion, h, hp, hmine]

/-- Settles O36, command by command. -/
theorem regionCommands : Obligations.RegionCommands := by
  unfold Obligations.RegionCommands
  intro s c src pd slot units rights eid r acl check slabs y z a x t u nx adm shaped made ours reg
  refine ⟨fun ha => ?_, fun ha => ?_, fun ha ⟨hp, hv⟩ => ⟨fun h => ?_, fun h => ?_, fun h he => ?_⟩, fun h hb => ?_, fun h => ?_, fun hl hr => ?_, fun hl hr => ?_⟩
  · have assigns : ∀ k {z}, (if 15 < k ∧ k ≠ 0xFF then _ else _) = z → nx (.fabPd c src pd k acl) z := fun _ _ hz => exec_command exec_fabPd ha hz
    have slotOk : ∀ {k}, k ≤ 15 ∨ k = 0xFF → ¬ (15 < k ∧ k ≠ 0xFF) := by omega
    have used : 1 ≤ pd → pd ≤ 1023 → ¬ (pd = 0 ∨ 1023 < pd) := by omega
    refine ⟨fun h15 h255 => assigns _ (if_pos ⟨h15, h255⟩), fun hs hpd => assigns _ ((if_neg (slotOk hs)).trans (if_pos hpd)),
      fun hs ht h1 h2 hu => assigns _ ((if_neg (slotOk (.inl hs))).trans ((if_neg (used h1 h2)).trans ((if_neg fun h => ht h.2).trans (if_pos hu)))),
      fun hs ht h1 h2 hu => assigns _ ((if_neg (slotOk (.inl hs))).trans ((if_neg (used h1 h2)).trans ((if_neg fun h => ht h.2).trans ((if_neg (by simp [hu])).trans ?_)))),
      fun h1 h2 hu => assigns _ ((if_neg (slotOk (.inr rfl))).trans ((if_neg (used h1 h2)).trans ((if_neg fun h => h.1 rfl).trans (if_neg (by simp [hu])))))⟩
    rw [if_neg (show slot ≠ 0xFF by omega)]
  · have regs : ∀ {z}, x.fabReg src pd units rights eid check = z → nx reg z := fun hz => exec_command exec_fabReg ha hz
    have hshaped : shaped ↔ ¬ (units = 0 ∨ 128 < units ∨ 7 < rights ∨ 2 ^ 18 ≤ eid) := by
      simp only [shaped]; omega
    have fits : ∀ {z}, x.pdSlot pd = some t → shaped → (if !x.quotaAllows t 0 (512 * units) then _ else _) = z → nx reg z := fun hp hs hz =>
      regs ((if_neg (not_not.2 hp)).trans ((if_neg (hshaped.1 hs)).trans hz))
    refine ⟨fun hp => regs (if_pos hp), fun hp hs => regs ((if_neg (not_not.2 hp)).trans (if_pos (not_not.1 (mt hshaped.2 hs)))), fun hp hs hq => fits hp hs (if_pos (by simp [hq])),
      fun hp hs hq hk => fits hp hs ((if_neg (by simp [hq])).trans (by rw [hk])), fun hp hs hq hk hreg => fits hp hs ((if_neg (by simp [hq])).trans ?_)⟩
    rw [hk]
    dsimp only
    rw [show y.register _ = _ from hreg]
    rfl
  · exact exec_command exec_fabRevoke ha ((Chan.withRegion_of hp hv _).1 h)
  · exact exec_command exec_fabRevoke ha ((Chan.withRegion_of hp hv _).2 h)
  · exact exec_command exec_fabOwner ha (((Chan.withRegion_of hp hv _).1 h).trans (if_neg (not_le.2 he)))
  · exact exec_on x exec_revokeComplete (if_pos ⟨h, by simp [hb]⟩)
  · exact exec_on x exec_regionQuarantineEnd (if_pos h)
  · exact exec_on x exec_fabConnSelWrite (if_neg (by simp [hl, hr]))
  · exact exec_on x exec_fabRegionSelWrite (if_neg (by simp [hl, hr]))

/-- Settles O37, command by command. -/
theorem connectionCommands : Obligations.ConnectionCommands := by
  unfold Obligations.ConnectionCommands
  intro s c src peer pd target prio pmtu k o data y q ctr x t u nx nxS open_ close op roce adm shaped psn rpsn qp
  have heid : x.eid ≠ none → ¬ x.eid.isNone = true := by simp
  refine ⟨fun ha => ?_, fun ha hk => ?_, fun ha hk hc => ?_, fun ha hd => ?_, fun ha hd he hp => ⟨fun hpriv => ?_, fun hpriv hm ht hw hr hctr hk => ?_⟩⟩
  · have opens : ∀ {z}, x.fabConnOpen src peer pd target prio pmtu = z → nx open_ z := fun hz => exec_command exec_fabConnOpen ha hz
    have hshaped : shaped ↔ ¬ (7 < prio ∨ 3 < pmtu ∨ 1023 < target ∨ 2 ^ 18 ≤ peer) := by
      simp only [shaped, not_or, not_lt, not_le]
    have fits : ∀ {z}, x.eid ≠ none → x.pdSlot pd = some t → shaped → (if !x.session peer then _ else _) = z → nx open_ z := fun he hp hs hz =>
      opens ((if_neg (heid he)).trans ((if_neg (not_not.2 hp)).trans ((if_neg (hshaped.1 hs)).trans hz)))
    exact ⟨fun he => opens (if_pos (by simp [he])), fun he hp => opens ((if_neg (heid he)).trans (if_pos hp)),
      fun he hp hs => opens ((if_neg (heid he)).trans ((if_neg (not_not.2 hp)).trans (if_pos (not_not.1 (mt hshaped.2 hs))))),
      fun he hp hs hn => fits he hp hs (if_pos (by simp [hn])), fun he hp hs hn hk => fits he hp hs ((if_neg (by simp [hn])).trans (by rw [hk])),
      fun he hp hs hn hk => fits he hp hs ((if_neg (by simp [hn])).trans (by rw [hk]))⟩
  · exact execS_command exec_fabConnClose ha (if_pos (.inl hk))
  · have closes : ∀ {st z}, u.st = st → (match st with
        | .closed => x.complete src 0x82 0
        | .quarantine => x.complete src 0 0
        | .error => (x.connQuarantine k).complete src 0 0
        | .reqSent => (((x.completeOpt u.openCmd 0x82 0).failOps k 0x82).connQuarantine k).complete src 0 0
        | .open_ => if u.roce.isSome then ((x.failOps k 0x82).connQuarantine k).complete src 0 0 else (x.setConn k { u with closeCmd := [src] }).startClose k
        | .closing => x.setConn k { u with closeCmd := u.closeCmd ++ [src] }) = z → nxS close z := fun hst hz =>
      execS_command exec_fabConnClose ha ((if_neg (not_or.2 ⟨not_lt.2 hk, by simp [hc]⟩)).trans (by subst hst; exact hz))
    exact ⟨fun h => closes h rfl, fun h => closes h rfl, fun h => closes h rfl, fun h => closes h rfl, fun h hr => closes h (if_pos (by simpa [Option.isSome_iff_ne_none] using hr)),
      fun h hr => closes h (if_neg (by simp [hr])), fun h => closes h rfl⟩
  · have ops : ∀ {z}, x.fabOp src o = z → nxS op z := fun hz => execS_command exec_fabOp ha ((Chan.reading_ok hd _ _).trans hz)
    refine ⟨fun he => ops (if_pos (by simp [he])), fun he hc => ops ((if_neg (heid he)).trans (if_pos (by simpa using hc))), fun he hk hc hpriv => ?_⟩
    have reaches : ∀ {z}, (if (x.conn o.conn).st ≠ .open_ then _ else _) = z → nxS op z := fun hz => by
      refine ops ((if_neg (heid he)).trans ((if_neg (not_or.2 ⟨not_lt.2 hk, by simp [hc]⟩)).trans ((if_neg ?_).trans hz)))
      rintro ⟨hnone, hany⟩
      obtain h | h := hpriv
      · exact h (Option.isNone_iff_eq_none.1 hnone)
      · rw [h] at hany; cases hany
    have valid : ∀ {z}, (x.conn o.conn).st = .open_ → fabOpOk o (x.conn o.conn) = true → (if o.opcode = 3 ∨ o.opcode = 5 ∨ o.opcode = 6 ∨ o.opcode = 7 then _ else _) = z → nxS op z :=
      fun hst hok hz => reaches ((if_neg (not_not.2 hst)).trans ((if_neg (by simp [hok])).trans hz))
    refine ⟨fun hst => reaches (if_pos hst), fun hst hok => reaches ((if_neg (not_not.2 hst)).trans (if_pos (by simp [hok]))), fun hst hok hop => valid hst hok (if_pos hop),
      fun hst hok h3 h5 h6 h7 hdata => valid hst hok ((if_neg (by simp [h3, h5, h6, h7])).trans ?_)⟩
    rw [hdata]
    exact Chan.reading_ok hd _ _
  · exact exec_command exec_fabRoce ha ((Chan.reading_ok hd _ _).trans ((if_neg (heid he)).trans ((if_neg (not_not.2 hp)).trans (if_pos hpriv))))
  · refine exec_command exec_fabRoce ha ((Chan.reading_ok hd _ _).trans ((if_neg (heid he)).trans ((if_neg (not_not.2 hp)).trans ((if_neg (Bool.eq_false_iff.1 hpriv)).trans ((if_neg ?_).trans ?_)))))
    · simp [hm, hr]; omega
    · rw [hctr]
      dsimp only
      rw [hk]

end Sys2Proof.Machine
end
section
/-! PROOFS. The exchanges of a connection and its timers (R283 to R285, R287 to R290, R292). -/
namespace Sys2Proof.Machine
open Sys2Proof
-- Theorem by theorem: side by side, the checks of this text take more memory than they are given.
set_option Elab.async false

theorem Chan.reach_conn (x : Chan) (t k : Nat) : (x.reach t).conn k = x.conn k := by rw [Chan.reach_eq]; rfl

/-- A packet that is heard and authentic acts on the channel that heard its sender. -/
theorem Chan.onPacket_of {x : Chan} {p : FmtPkt} (hh : x.hears p = true) (hp : p.prot = true) (ht : p.tagOk = true) (body : Chan → Chan) :
    x.onPacket p body = body (x.heardFrom p.srcEid) := by
  simp [Chan.onPacket, hh, hp, ht]

section
variable {x : Chan} {k t : Nat}

/-- With every packet acknowledged, the loads not yet answered are issued again. -/
theorem Chan.retransmit_idle (h : (x.conn k).una = (x.conn k).nx) : x.retransmit k t = (((x.reach t).setConn k { x.conn k with
    rtoDue := some (max x.time t + (x.conn k).rto), ops := (x.conn k).ops.map (fun o => if o.sent = true ∧ o.opcode = 3 then o.missing else o) }).flush k) := by
  simp only [Chan.retransmit, Chan.reach_conn, Chan.reach_time, h, if_true]

/-- After the last retry the connection is in ERROR. -/
theorem Chan.retransmit_last (h : (x.conn k).una ≠ (x.conn k).nx) :
    let counted := (x.reach t).bump Reg.FAB_RETX_CNT 63 32 1
    (if (x.conn k).roce.isSome = true then 7 else counted.retryMax) ≤ (x.conn k).retries → x.retransmit k t = counted.connError k 1 false := fun hl => by
  simp only [Chan.retransmit, Chan.reach_conn, h, if_false]
  exact if_pos (Nat.lt_succ_of_le hl)

/-- Before it, the window is halved, the time doubled, and everything unacknowledged sent again. -/
theorem Chan.retransmit_again (h : (x.conn k).una ≠ (x.conn k).nx) :
    let counted := (x.reach t).bump Reg.FAB_RETX_CNT 63 32 1
    let rto := max (x.conn k).rto (min (2 * (x.conn k).rto) (65 * ms))
    (x.conn k).retries < (if (x.conn k).roce.isSome = true then 7 else counted.retryMax) → x.retransmit k t = ((counted.setConn k { x.conn k with
      retries := (x.conn k).retries + 1, rto := rto, cwnd := max 1 ((x.conn k).cwnd / 2), rtoDue := some (max x.time t + rto) }).resend k) := fun hl => by
  have htime : ((x.reach t).bump Reg.FAB_RETX_CNT 63 32 1).time = max x.time t := Chan.reach_time x t
  simp only [Chan.retransmit, Chan.reach_conn, h, if_false, htime]
  exact if_neg (by omega)

end

/-- Settles O39: each packet by the state of its connection, and each timer by what is due. -/
theorem connectionExchanges : Obligations.ConnectionExchanges := by
  unfold Obligations.ConnectionExchanges
  refine ⟨?_, ?_⟩
  · intro s c p n reason y x k u nxS hh hp ht
    have heard : ∀ {i : Instr} {f : Chan → Chan} {z : Chan}, exec i s = onChS c (fun x => x.onPacket p f) s → f x = z → nxS i z := fun hi hz =>
      execS_on (s.ch c) hi ((Chan.onPacket_of hh hp ht _).trans hz)
    have closed : u.st = .closed → nxS (.connAcc c p) (x.stray p) ∧ nxS (.closeAck c p) (x.stray p) := fun hs => by
      have hs' : (x.conn p.dstConn).st = .closed := hs
      exact ⟨heard exec_connAcc (by simp only [hs', reduceCtorEq, false_and, if_false]), heard exec_closeAck (by simp only [hs', reduceCtorEq, false_and, if_false])⟩
    have opened : u.st = .open_ → u.isWith p = true → nxS (.connAcc c p) x ∧ nxS (.closeAck c p) x := fun hs hw => by
      have hs' : (x.conn p.dstConn).st = .open_ := hs
      have hw' : (x.conn p.dstConn).isWith p = true := hw
      exact ⟨heard exec_connAcc (by simp only [hs', hw', reduceCtorEq, false_and, and_self, if_false, if_true]),
        heard exec_closeAck (by simp only [hs', hw', and_self, if_true])⟩
    refine ⟨fun hr => heard exec_connReq (by rw [hr]), fun hr hreason => heard exec_connReq (by rw [hr]; dsimp only; rw [hreason]; rfl), fun hr hreason hk => ?_,
      fun hs hpeer => heard exec_connAcc (if_pos ⟨hs, hpeer⟩), opened, closed, fun hpeer hroce => ?_, fun hw hs => ?_, fun hw hs => ?_, fun hw => ?_, fun hw hs hd => ?_⟩
    · refine heard exec_connReq ?_
      rw [hr]
      dsimp only
      rw [hreason]
      dsimp only [Chan.connAdmit]
      rw [hk]
      rfl
    · have rejected : ∀ {st z}, u.st = st → (match st with
          | .reqSent => ((x.completeOpt u.openCmd 0x81 p.syndrome).failOps k 0x82).connQuarantine k
          | .open_ | .closing => if p.syndrome = 3 then x.connError k 2 false else x
          | _ => x) = z → nxS (.connRej c p) z := fun hst hz =>
        heard exec_connRej ((if_neg (not_or.2 ⟨not_not.2 hpeer, by simp [show (x.conn p.dstConn).roce = none from hroce]⟩)).trans (by subst hst; exact hz))
      refine ⟨fun hs => rejected hs rfl, fun hs h3 => ?_, fun hs h3 => ?_⟩
      · obtain hs | hs := hs <;> exact rejected hs (if_pos h3)
      · obtain hs | hs := hs <;> exact rejected hs (if_neg h3)
    · refine heard exec_close ((if_neg (by simp [show (x.conn p.dstConn).isWith p = true from hw])).trans ?_)
      obtain hs | hs := hs <;> rw [show (x.conn k).st = _ from hs]
    · refine heard exec_close ((if_neg (by simp [show (x.conn p.dstConn).isWith p = true from hw])).trans ?_)
      rw [show (x.conn k).st = _ from hs]
    · exact heard exec_close (if_pos (by simp [show (x.conn p.dstConn).isWith p = false from hw]))
    · refine heard exec_closeAck ?_
      dsimp only
      rw [show (x.conn p.dstConn).st = _ from hs]
      exact if_pos ⟨hw, by simpa [Option.isSome_iff_ne_none] using hd⟩
  · intro s c k t x u late nx nxS counted limit rto again retried
    refine ⟨fun hd hs => ?_, fun hd => ?_, fun hd => ?_, fun hd hs => ?_, fun hd hs => ?_, fun hs => ?_, fun hv hs hpd hroce hops => ?_⟩
    · have times : ∀ {z}, x.retransmit k t = z → nxS (.retransmitTimeout c k) z := fun hz => execS_on x exec_retransmitTimeout (by
        rw [show (x.conn k).rtoDue = some t from hd]
        exact (if_pos hs).trans hz)
      exact ⟨fun h hl => times (Chan.retransmit_last h hl), fun h hl => times (Chan.retransmit_again h hl), fun h => times (Chan.retransmit_idle h)⟩
    · exact exec_on x exec_ackDelayExpiry (by rw [show (x.conn k).ackDue = some t from hd])
    · refine execS_on x exec_rnrDelayExpiry ?_
      rw [show (x.conn k).rnrDue = some t from hd]
      dsimp only
      rw [Chan.reach_conn, Chan.reach_time]
    · have tries : ∀ {z}, (if u.tries < 8 then _ else _) = z → nxS (.connReqRetry c k) z := fun hz => execS_on x exec_connReqRetry (by
        dsimp only
        rw [show (x.conn k).due = some t from hd]
        dsimp only
        rw [Chan.reach_time]
        exact (if_neg (not_not.2 hs)).trans hz)
      exact ⟨fun h => tries (if_pos h), fun h => tries (if_neg (not_lt.2 h))⟩
    · have tries : ∀ {z}, (if u.tries < 8 then _ else _) = z → nxS (.closeRetry c k) z := fun hz => execS_on x exec_closeRetry (by
        dsimp only
        rw [show (x.conn k).due = some t from hd]
        dsimp only
        rw [Chan.reach_time]
        exact (if_neg (not_not.2 hs)).trans hz)
      exact ⟨fun h => tries (if_pos h), fun h => tries (if_neg (not_lt.2 h))⟩
    · exact exec_on x exec_quarantineEnd (if_neg (not_not.2 hs))
    · have hroce' : ¬ u.roce.isSome = true := by simp [hroce]
      have hops' : ¬ (!u.ops.isEmpty) = true := by simp [hops]
      refine ⟨fun hb => execS_on x exec_pd0IdleClose (if_neg ?_), fun hb => execS_on x exec_pd0IdleClose (if_pos ?_)⟩
      · rintro (h | h | h | h | h | h)
        · simp [hv] at h
        · exact h hs
        · exact h hpd
        · exact hroce' h
        · exact hops' h
        · rw [show x.hbPeer (x.conn k).peer = _ from hb] at h; cases h
      · exact .inr (.inr (.inr (.inr (.inr hb))))

end Sys2Proof.Machine
end
section
/-! PROOFS. The traffic manager (R48, R306 to R308, R311 to R315, R317 to R319). -/
namespace Sys2Proof.Machine
open Sys2Proof
-- Theorem by theorem: side by side, the checks of this text take more memory than they are given.
set_option Elab.async false

/-- Where the port selects the head frame f of queue q, the tenant's policer decides what becomes of it. -/
theorem Chan.selectSend_frame {x y : Chan} {n q k : Nat} {e : Egress} {f : QFrame} {fs : List QFrame} (hy : x.dropHeads n dropFuel 0 = y)
    (hsel : y.select n = (some q, e)) (hq : (y.setEgress n e).qframes n q = f :: fs) :
    x.selectSend n (k + 1) = match f.conn.bind (y.setEgress n e).connSlot with
      | none => (y.setEgress n e).transmit n q f false
      | some t => match (y.setEgress n e).police t 1 f.size with
        | (.green, c) => c.transmit n q f false
        | (.yellow, c) => c.transmit n q f (c.yelEcn t 1)
        | (.red, c) => (c.popFrame n q).selectSend n k := by
  rw [Chan.selectSend, hy, hsel]
  dsimp only
  rw [hq] <;> rfl

theorem Chan.reach_gclInterval (x : Chan) (t n i : Nat) : (x.reach t).gclInterval n i = x.gclInterval n i := by rw [Chan.reach_eq]; rfl

theorem Chan.reach_tm (x : Chan) (t : Nat) : (x.reach t).tm = x.tm := by rw [Chan.reach_eq]

/-- Settles O41: the wire by what is selected and how it is policed, and the timers and registers of the traffic manager. -/
theorem trafficScheduling : Obligations.TrafficScheduling := by
  unfold Obligations.TrafficScheduling
  refine ⟨?_, ?_⟩
  · intro s c n q t r burst e f fs y z b x nx w g turn alarm refilled late
    refine ⟨fun hs hy => ?_, fun hp hg hr => ?_, fun hq ha hp hq16 => ?_, fun hsh hb hr => ?_, fun hsh hb hr => ?_⟩
    · have wire : ∀ {v}, x.selectSend n (x.bufsUsed + 1) = v → nx (.wireFree c n) v := fun hv => exec_on x exec_wireFree ((if_pos hs).trans hv)
      refine ⟨fun hsel => wire ?_, fun hsel hq => ⟨fun ht => wire ?_, fun ht hc => wire ?_, fun ht hc => wire ?_, fun ht hc => wire ?_⟩⟩
      · rw [Chan.selectSend, hy, hsel]
      all_goals rw [Chan.selectSend_frame hy hsel hq, ht]
      all_goals dsimp only
      all_goals rw [hc]
    · refine exec_on x exec_gateEntryExpiry ((if_neg (by simp [hp, hg, hr])).trans ?_)
      rw [Chan.reach_gclInterval] <;> rfl
    · refine exec_on x exec_sojournAlarm ?_
      dsimp only
      rw [hq]
      exact if_neg (by rw [not_or, not_or]; exact ⟨ha, by simp [hp], by omega⟩)
    · refine exec_on x exec_shaperBucketRefill ?_
      dsimp only
      rw [hsh]
      dsimp only
      rw [show (x.egress n).pBucket = _ from hb]
      exact if_neg hr
    · refine exec_on x exec_shaperBucketRefill ?_
      dsimp only
      rw [hsh]
      dsimp only
      rw [show (x.egress n).qBucket.find q = _ from hb]
      exact if_neg hr
  · intro s c off cidx at_ a x nx
    refine ⟨fun hl hb => ?_, fun hl hm => ⟨?_, ?_, ?_⟩, fun hf hs hd => ?_, fun hl => ?_⟩
    · exact exec_on x exec_tmBucketWrite (if_pos (by simp [hl, hb]))
    · exact exec_on x exec_hwmRead (if_neg (by simp [hl, hm]))
    · exact exec_on x exec_hwmRead (if_neg (by simp [hl, hm]))
    · exact exec_on x exec_hwmRead (if_neg (by simp [hl, hm]))
    · refine exec_on x exec_sampleDue ((if_neg (by simp [hf, hs])).trans ?_)
      dsimp only
      rw [hd, Option.getD_some, Chan.reach_tm, hd, Option.getD_some, Chan.smpInterval, Chan.reach_fget]
    · exact exec_on x exec_tmSmpCidxWrite (if_pos hl)

end Sys2Proof.Machine
end
section
/-! PROOFS. Prefix keys and their commands (R321, R323, R324, R328, R329, R334, R335), attachment across channels (R122, R330 to R332), and the cascade (R326, R327). -/
namespace Sys2Proof.Machine
open Sys2Proof
-- Theorem by theorem: side by side, the checks of this text take more memory than they are given.
set_option Elab.async false

/-- Settles O42, command by command. -/
theorem prefixCommands : Obligations.PrefixCommands := by
  unfold Obligations.PrefixCommands
  intro s c src h slot first count seg host entry key mask result n owed toks groups keys valid y rs x e nx chain publish lookup kept done chained sized mine stored named value short
  refine ⟨fun ha ho => ?_, fun ha hd => ?_, fun ha => ?_, fun ha ho => ?_⟩
  · have owned : ∀ k, x.withCtx src h k = k slot := fun k => Chan.withCtx_of_owns ho k
    have hsized : sized ↔ ¬ (count = 0 ∨ 4096 < count ∨ 262144 < first + count) := by simp only [sized]; omega
    have publishes : ∀ {z}, x.dmaFault src.fn = none → x.pfxPublish src slot seg groups = z → nx publish z := fun hd hz =>
      exec_ctxCommand exec_pfxPublish ha ((owned _).trans ((Chan.reading_ok hd _ _).trans hz))
    have hstored : stored ↔ ¬ (!(x.entry slot).state.stored) = true := by
      simp only [stored, e]; cases (x.entry slot).state <;> simp [CtxState.stored]
    have hmine : mine ↔ ¬ ((!x.segFor src seg) = true ∨ x.segUse seg ≠ 1) := by simp [mine]
    have names : ∀ {z}, x.dmaFault src.fn = none → stored → mine → x.running (0x100 + seg) = true → groups.length ≤ 64 →
        (if groups.any (fun g => decide (((x.map slot).grp g).chain = 0)) then _ else _) = z → nx publish z := fun hd hs hm hr h64 hz =>
      publishes hd ((if_neg (hstored.1 hs)).trans ((if_neg (hmine.1 hm)).trans ((if_neg (by simp [hr])).trans ((if_neg (not_lt.2 h64)).trans hz))))
    have hnamed : named ↔ ¬ (groups.any (fun g => decide (((x.map slot).grp g).chain = 0))) = true := by simp [named]
    refine ⟨fun hs => exec_ctxCommand exec_pfxChain ha ((owned _).trans (if_pos (not_not.1 (mt hsized.2 hs)))),
      fun hs hd => exec_ctxCommand exec_pfxChain ha ((owned _).trans ((if_neg (hsized.1 hs)).trans (Chan.reading_ok hd _ _))),
      fun hd hs => publishes hd (if_pos (not_not.1 (mt hstored.2 hs))), fun hd hs hm => publishes hd ((if_neg (hstored.1 hs)).trans (if_pos (not_not.1 (mt hmine.2 hm)))),
      fun hd hs hm hr => publishes hd ((if_neg (hstored.1 hs)).trans ((if_neg (hmine.1 hm)).trans (if_pos (by simp [hr])))),
      fun hd hs hm hr h64 hn => names hd hs hm hr h64 (if_pos (not_not.1 (mt hnamed.2 hn))), fun hd hs hm hr h64 hn hp => names hd hs hm hr h64 ((if_neg (hnamed.1 hn)).trans ?_)⟩
    rw [hp]
  · have looks : ∀ {z}, x.segFor src seg = true → (if 64 < keys.length then _ else _) = z → nx lookup z := fun hs hz =>
      exec_command exec_pfxLookup ha ((if_neg (by simp [hs])).trans ((Chan.reading_ok hd _ _).trans hz))
    refine ⟨fun hs => exec_command exec_pfxLookup ha (if_pos (by simp [hs])), fun hs h64 => looks hs (if_pos h64), fun hs h64 hk => looks hs ((if_neg (not_lt.2 h64)).trans ?_),
      fun hs h64 hk howed => looks hs ((if_neg (not_lt.2 h64)).trans ?_)⟩
    · rw [hk]; rfl
    · rw [hk]; exact if_neg howed
  · exact ⟨fun he => exec_command exec_pfxWrite ha (if_pos he), fun he hr => exec_command exec_pfxWrite ha ((if_neg (not_lt.2 he)).trans (if_pos (by simp [hr]))),
      fun he hr => exec_command exec_pfxWrite ha ((if_neg (not_lt.2 he)).trans (if_neg (by simp [hr])))⟩
  · have unpins : ∀ {z}, (if e.refs < count then _ else _) = z → nx (.pfxUnpin c src h count) z := fun hz =>
      exec_ctxCommand exec_pfxUnpin ha ((Chan.withCtx_of_owns ho _).trans hz)
    refine ⟨fun hc => unpins (if_pos hc), fun hc h0 => unpins ((if_neg (not_lt.2 hc)).trans ?_), fun h0 => unpins ((if_neg (by omega)).trans ?_)⟩
    · rw [if_neg (show ¬ count = 0 by omega)]
    · rw [if_pos h0]

/-! ### Attachment across channels -/

section
variable {x : Chan} {peer : Nat} {m : AttachMsg} {q : AttachReq} {slot : Nat}

/-- A request that has no answer on record is taken as new. -/
theorem Chan.attachRepeat_fresh (hs : x.serves = true) (hr : x.ctx.ready = true)
    (hn : x.pfx.answered.find? (fun a => decide (a.peer = peer ∧ a.reqNum = m.reqNum ∧ x.time < a.until_)) = none) (f : Chan → Chan) : x.attachRepeat peer m f = f x := by
  simp only [Chan.attachRepeat, hs, hr, hn, Bool.not_true, Bool.false_eq_true, or_self, if_false]

/-- One that has is answered the same again. -/
theorem Chan.attachRepeat_again {a : AttachAnswer} (hs : x.serves = true) (hr : x.ctx.ready = true)
    (hn : x.pfx.answered.find? (fun a => decide (a.peer = peer ∧ a.reqNum = m.reqNum ∧ x.time < a.until_)) = some a) (f : Chan → Chan) :
    x.attachRepeat peer m f = x.sendAttach peer a.ty a.msg := by
  simp only [Chan.attachRepeat, hs, hr, hn, Bool.not_true, Bool.false_eq_true, or_self, if_false]

theorem Chan.attachAsked_of {d : Bool} (hq : x.pfx.reqs.find m.reqNum = some q) (hp : q.peer = peer) (hd : q.isDetach = d) : x.attachAsked peer m d = some q := by
  simp only [Chan.attachAsked, hq, hp, hd, Option.bind_some, and_self, if_true]

/-- An acknowledgement attaches the context that asked where it still may and has the room. -/
theorem Chan.attachAcked_ok {y : Chan} (hc : x.checkHandle q.msg.attacher = .ok slot) (ha : x.attachable slot = true) (hb : x.needBlocks slot q.msg.n = some y) :
    x.attachAcked peer m q = (y.attachTo slot m.owner q.msg.n none).completeOpt q.cmd 0 (16 * q.msg.n) := by
  simp only [Chan.attachAcked, hc, ha, hb, Bool.not_true, Bool.false_eq_true, if_false]

end

/-- Settles O43, message by message. -/
theorem attachExchange : Obligations.AttachExchange := by
  unfold Obligations.AttachExchange
  intro s c peer slot n m r q a y x nxS hears earlier owner answer asked rest back late gone reported
  have acks : ∀ {z}, asked false → rest.attachAcked peer m q = z → nxS (.attachAck c peer m) z := fun ⟨hs, hq, hp, hd⟩ hz =>
    execS_on x exec_attachAck ((if_neg (by simp [hs])).trans (by rw [Chan.attachAsked_of hq hp hd]; exact hz))
  refine ⟨fun ⟨hs, hr⟩ he i hi => ?_, fun ⟨hs, hr⟩ he hreason => ?_, fun ⟨hs, hr⟩ he hreason => ?_, fun ⟨hs, hr⟩ he ho => ?_, fun ⟨hs, hr⟩ he ho => ?_, fun ⟨hs, hq, hp, hd⟩ => ?_,
    fun hq hc => acks hq ?_, fun hq hc ha => acks hq ?_, fun hq hc ha hb => acks hq ?_, fun hq hc ha hb => acks hq (Chan.attachAcked_ok hc ha hb),
    fun ⟨hs, hq, hp, hd⟩ hc hpre hatt => ?_, fun hs hq ht => ?_, fun hs hq ht hd => ?_⟩
  · obtain rfl | rfl := hi
    · exact execS_on x exec_attach (Chan.attachRepeat_again hs hr he _)
    · exact execS_on x exec_detach (Chan.attachRepeat_again hs hr he _)
  · refine execS_on x exec_attach ((Chan.attachRepeat_fresh hs hr he _).trans ?_)
    dsimp only
    rw [show x.attachReason (bits m.owner 29 16) m = _ from hreason]; rfl
  · refine execS_on x exec_attach ((Chan.attachRepeat_fresh hs hr he _).trans ?_)
    dsimp only
    rw [show x.attachReason (bits m.owner 29 16) m = _ from hreason]; rfl
  · refine execS_on x exec_detach ((Chan.attachRepeat_fresh hs hr he _).trans ?_)
    rw [ho]; rfl
  · refine execS_on x exec_detach ((Chan.attachRepeat_fresh hs hr he _).trans ?_)
    rw [ho]; rfl
  · exact execS_on x exec_attachRefuse ((if_neg (by simp [hs])).trans (by rw [Chan.attachAsked_of hq hp hd]; rfl))
  · simp only [Chan.attachAcked, hc]; rfl
  · simp only [Chan.attachAcked, hc, ha, Bool.not_false, if_true]; rfl
  · simp only [Chan.attachAcked, hc, ha, hb, Bool.not_true, Bool.false_eq_true, if_false]; rfl
  · refine execS_on x exec_detachAck ((if_neg (by simp [hs])).trans ?_)
    rw [Chan.attachAsked_of hq hp hd]
    dsimp only [Chan.detachEnd]
    rw [show (x.dropAttachReq m.reqNum).checkHandle _ = _ from hc]
    exact if_pos ⟨hpre, hatt⟩
  all_goals refine execS_on x exec_attachMsgRetry ((if_neg (by simp [hs])).trans ?_)
  all_goals rw [hq]
  · exact if_neg (not_le.2 ht)
  · exact (if_pos ht).trans (if_neg (by simp [hd]))

/-! ### The cascade -/

/-- Settles O44: a frame by whose it is and what it carries, a time-out by how many there were in a row. -/
theorem cascade : Obligations.Cascade := by
  unfold Obligations.Cascade
  intro s c f w seq r x nx taken mine heard up found late down over_ due
  have takes : ∀ {z}, taken → (if f.pos = x.cascPos then x.frameBack f else x.frameOn f) = z → nx (.cascadeFrame c f) z := fun ⟨hs, hc, hst⟩ hz =>
    exec_on x exec_cascadeFrame ((if_neg (by simp [hs, hc, hst])).trans hz)
  have searched : found → x.searchFor f = some r := fun ⟨hu, h2, hf, ht, hr⟩ => (if_pos ⟨hu, h2, hf, ht⟩).trans hr
  refine ⟨fun ht hp hprobe => takes ht ((if_neg hp).trans ?_), fun ht hp hprobe hf hbest => takes ht ((if_neg hp).trans ?_), fun ht hp hprobe hf hhit hpos => takes ht ((if_neg hp).trans ?_),
    fun ht hp hm hprobe => ?_, fun ht hp hm hprobe h2 => takes ht ((if_pos hp).trans ?_), fun h => exec_on x exec_cascadeFrame (if_pos (by simpa using h)), fun hw => ?_,
    fun hs h2 => exec_on x exec_cascadeProbeDue (if_neg (by simp [hs, h2]))⟩
  · simp only [Chan.frameOn, hprobe, if_true]
  · have hb : (!f.hit) = true ∨ x.cascPos < f.hitPos := by simpa using hbest
    simp only [Chan.frameOn, hprobe, searched hf, hb, Bool.false_eq_true, if_false, if_true]
  · have hb : ¬ ((!f.hit) = true ∨ x.cascPos < f.hitPos) := by simp [hhit, hpos]
    simp only [Chan.frameOn, hprobe, searched hf, hb, Bool.false_eq_true, if_false]
  · have back : ∀ {z}, (if f.hit = true ∧ f.hitPos ≠ x.cascPos then heard.bump Reg.PFX_CASC_CNT 31 0 1 else heard).lookupBack w (if f.hit then some f.result else none) = z →
        nx (.cascadeFrame c f) z := fun hz => takes ht ((if_pos hp).trans (by
      simp only [Chan.frameBack, show x.pfx.waits.find? _ = some w from hm, hprobe, Bool.false_eq_true, if_false]
      exact hz))
    refine ⟨fun hh hpos => back ?_, fun hh hpos => back ?_, fun hh => back ?_⟩
    · rw [if_pos ⟨hh, hpos⟩, if_pos hh]
    · rw [if_neg (fun h => h.2 hpos), if_pos hh]
    · rw [if_neg (by simp [hh]), if_neg (by simp [hh])]
  · simp only [Chan.frameBack, show x.pfx.waits.find? _ = some w from hm, hprobe, if_true]
    exact if_pos h2
  · have outs : ∀ {z}, (if 3 ≤ late.pfx.miss ∧ late.cascState = 1 then down else late) = z → nx (.cascadeTimeout c seq) (over_ z) := fun hz => by
      refine exec_on x exec_cascadeTimeout ?_
      rw [hw]
      exact congrArg over_ hz
    exact ⟨fun h3 h1 => outs (if_pos ⟨h3, h1⟩), fun h => outs (if_neg fun hn => h.elim (not_lt.2 hn.1) (fun h => h hn.2))⟩

end Sys2Proof.Machine
end

section
/-! PROOFS. Moves between tiers (R337, R341 to R343, R355), and leases and the T2 pool (R346, R347, R349, R354). -/
namespace Sys2Proof.Machine
open Sys2Proof
-- Theorem by theorem: side by side, the checks of this text take more memory than they are given.
set_option Elab.async false

/-- Settles O45: the command by its refusal, the group in hand by whether it was read or written, and where. -/
theorem tierMoves : Obligations.TierMoves := by
  unfold Obligations.TierMoves
  intro s c src h slot first count target lease st stripe share k m o bytes body cause r f x nxS start on written read failed
  have moves : ∀ {obj z}, on → x.groupWritten slot m obj = z → nxS (.tierGroupWritten c slot obj) z := fun ⟨hs, hm, ho⟩ hz =>
    execS_on x exec_tierGroupWritten ((if_neg (by simp [hs])).trans (by rw [hm]; exact hz))
  refine ⟨fun ha ho => ⟨fun hr => ?_, fun hr => ?_⟩, fun hon ⟨ht, hr, hp, hf⟩ hb hobj => moves hon ?_, fun hon ⟨ht, hr, hp, hf⟩ hb hobj hk => moves hon ?_,
    fun hon ⟨ht, hr, hp, hf⟩ hb => moves hon ?_, fun hon hr ht hl hf => moves hon ?_, fun hon hr ht => ⟨moves hon ?_, moves hon ?_⟩, fun hs hr hu hf => ?_⟩
  · exact execS_ctxCommand exec_tierMove ha ((Chan.withCtx_of_owns ho _).trans (by simp only [Chan.tierMove, hr]))
  · exact execS_ctxCommand exec_tierMove ha ((Chan.withCtx_of_owns ho _).trans (by simp only [Chan.tierMove, hr]; rfl))
  · simp only [Chan.groupWritten, hon.2.2, hr, hp, ht, hf, hb, Chan.bodyRead, hobj, Bool.false_eq_true, if_true, if_false]
  · simp only [Chan.groupWritten, hon.2.2, hr, hp, ht, hf, hb, Chan.bodyRead, hobj, hk, Bool.false_eq_true, if_true, if_false]
  · simp only [Chan.groupWritten, hon.2.2, hr, hp, ht, hf, hb, Bool.false_eq_true, if_true, if_false]
    rfl
  · simp only [Chan.groupWritten, hon.2.2, hr, ht, hl, hf, Bool.false_eq_true, Bool.not_false, and_self, if_true, if_false]
  · simp only [Chan.groupWritten, hon.2.2, hr, ht, Bool.false_eq_true, if_false]
  · simp only [Chan.groupWritten, hon.2.2, hr, ht, Bool.false_eq_true, if_false]
  · have hedges : ∀ {z}, (if r.whole f = true ∧ (!f.head.isEmpty) = true then x else (x.reach r.due).hedge slot share false) = z → nxS (.hedgeDeadline c slot stripe share) z := fun hz =>
      execS_on x exec_hedgeDeadline ((if_pos hs).trans (by
        simp only [Chan.hedgeDue, hr, hf]
        exact (if_pos (.inl hu)).trans hz))
    refine ⟨fun h => hedges (if_neg fun hn => ?_), fun hw hh => hedges (if_pos ⟨hw, by simpa using hh⟩)⟩
    obtain h | h := h
    · rw [h] at hn; cases hn.1
    · rw [h] at hn; cases hn.2

/-! ### Leases -/

section
variable {x : Chan} {peer : Nat} {m : TierMsg}

/-- A request of a peer with a session that has no answer on record is taken as new. -/
theorem Chan.tierAsked_fresh (hs : x.serves = true) (he : x.eid ≠ none) (hp : x.session peer = true)
    (hn : x.tiers.answered.find? (fun a => decide (a.peer = peer ∧ a.reqNum = m.reqNum ∧ x.time < a.until_)) = none) (f : Chan → Chan) : x.tierAsked peer m f = f x := by
  have he' : x.eid.isNone = false := by simpa [Option.isSome_iff_ne_none] using he
  simp only [Chan.tierAsked, hs, he', hp, hn, Bool.not_true, Bool.false_eq_true, or_self, if_false]

/-- A reply to a request that was made of its sender ends the request. -/
theorem Chan.tierReply_of {q : TierReq} {tys : List Nat} (hs : x.serves = true) (hq : x.tiers.reqs.find m.reqNum = some q) (hp : q.peer = peer) (ht : tys.contains q.ty = true)
    (k : Chan → TierReq → Chan) : x.tierReply peer m tys k = k (x.dropTierReq m.reqNum) q := by
  simp only [Chan.tierReply, hs, hq, hp, ht, Bool.not_true, Bool.false_eq_true, and_self, if_true, if_false]

end

/-- Settles O46, command by command and message by message. -/
theorem leases : Obligations.Leases := by
  unfold Obligations.Leases
  intro s c src peer n i me r t addr units req slabs force m l q y z x nxS pf lend callIn pool sized lent taken asked answers rest due called called_ expired
  have hsized : sized ↔ ¬ (n = 0 ∨ 65536 < n ∨ 2 ^ 18 ≤ peer) := by simp only [sized]; omega
  have lends : ∀ {z}, pf → x.tierLend src peer n = z → nxS lend z := fun hp hz => execS_command exec_tierLend hp hz
  have session : ∀ {z}, pf → sized → x.eid = some me → peer ≠ me → (if !x.session peer then _ else _) = z → nxS lend z := fun hp hs he hne hz => lends hp (by
    simp only [Chan.tierLend, hsized.1 hs, he, if_false]
    exact (if_neg hne).trans hz)
  have asks : ∀ {i : Instr} {f : Chan → Chan} {v : Chan}, exec i s = onChS c (fun x => x.tierAsked peer m f) s → asked → f x = v → nxS i v := fun hi ⟨hs, he, hp, hn⟩ hv =>
    execS_on x hi ((Chan.tierAsked_fresh hs he hp hn _).trans hv)
  have replies : ∀ {i : Instr} {tys : List Nat} {k : Chan → TierReq → Chan} {v : Chan}, exec i s = onChS c (fun x => x.tierReply peer m tys k) s → answers tys → k rest q = v → nxS i v :=
    fun hi ⟨hs, hq, hp, ht⟩ hv => execS_on x hi ((Chan.tierReply_of hs hq hp ht _).trans hv)
  have recalls : ∀ {z}, pf → x.tierRecall src i force = z → nxS callIn z := fun hp hz => execS_command exec_tierRecall hp hz
  have pools : ∀ {b z}, pf → x.tierT2Pool src addr units b force = z → nxS (pool b) z := fun hp hz => execS_command exec_tierT2Pool hp hz
  have aligned : addr % (2 * mib) = 0 → 1 ≤ units → units ≤ 2 ^ 32 → addr + units * (2 * mib) ≤ 2 ^ 64 →
      ¬ (addr % (2 * mib) ≠ 0 ∨ units = 0 ∨ 2 ^ 32 < units ∨ 2 ^ 64 < addr + units * (2 * mib)) := by omega
  refine ⟨fun hp hs => lends hp (if_pos (not_not.1 (mt hsized.2 hs))), fun hp hs he => lends hp ?_, fun hp hs he hme => lends hp ?_, fun hp hs he hne hses => session hp hs he hne (if_pos (by simp [hses])),
    fun hp hs he hne hses hn => session hp hs he hne ((if_neg (by simp [hses])).trans (if_pos hn)),
    fun hp hs he hne hses hn hi hk hreg => session hp hs he hne ((if_neg (by simp [hses])).trans ((if_neg (not_lt.2 hn)).trans ?_)), ?_⟩
  · simp only [Chan.tierLend, hsized.1 hs, he, if_false]
  · simp only [Chan.tierLend, hsized.1 hs, he, if_false]
    exact if_pos hme
  · rw [hi, hk]
    dsimp only
    rw [hreg]
  refine ⟨fun ha hm => asks exec_lend ha (if_pos hm), fun ha hm hi => asks exec_lend ha ((if_neg hm).trans (by rw [hi])), fun ha hm hi => asks exec_lend ha ((if_neg hm).trans (by rw [hi])),
    fun ha hw hl => replies exec_lendAck ha ?_, fun ha => replies exec_tierRefuse ha rfl, fun hp hl => recalls hp ?_, fun hp hl hlent hg => recalls hp ?_, fun hp hl hlent hg hc => recalls hp ?_, ?_⟩
  · rw [hw]
    dsimp only
    rw [show rest.tiers.leases.find i = _ from hl]
  · simp only [Chan.tierRecall, hl]
  · simp only [Chan.tierRecall, hl]
    exact (if_neg (by simp [hlent])).trans (if_pos (by simpa [Option.isSome_iff_ne_none] using hg))
  · simp only [Chan.tierRecall, hl]
    exact (if_neg (by simp [hlent])).trans (if_neg (by simp [hg, hc]))
  refine ⟨fun ha hb => asks exec_recall ha (by rw [hb]), fun ha hb hl hr => asks exec_recall ha ?_, fun ha hb hl hr => asks exec_recall ha ?_, fun hs hk hl => ?_, fun hl ht => ?_, fun hq hs => ?_,
    fun hp hu ha h1 h2 h3 => pools hp ?_, fun hp hu ha h1 h2 h3 => pools hp ?_, fun hp hu => pools hp (if_pos hu), fun hp hu hf hrem => pools hp ?_⟩
  · rw [hb]; dsimp only; rw [hl]; dsimp only; rw [if_pos hr]
  · rw [hb]; dsimp only; rw [hl]; dsimp only; rw [if_neg (by simp [hr])]; rfl
  · refine execS_on x exec_recallDone ((if_neg (by simp [hs])).trans ?_)
    rw [hk]; dsimp only; rw [hl]; rfl
  · refine execS_on x exec_recallTimeExpiry ?_
    rw [hl]; dsimp only; rw [ht]
  · have retries : ∀ {z}, (if q.tries < 8 then _ else _) = z → nxS (.tierMsgRetry c req) z := fun hz =>
      execS_on x exec_tierMsgRetry (by rw [hq]; exact (if_neg (by simp [hs])).trans hz)
    exact ⟨fun h => retries (if_pos h), fun h => retries (if_neg (not_lt.2 h))⟩
  · exact (if_neg (aligned ha h1 h2 h3)).trans (if_pos hu)
  · exact (if_neg (aligned ha h1 h2 h3)).trans (if_neg (not_not.2 hu))
  · exact (if_neg hu).trans ((if_neg (by simp [hf])).trans (if_neg (by simp [hrem])))

end Sys2Proof.Machine
end
section
/-! PROOFS. Fragment sets (R350 to R354, R356). -/
namespace Sys2Proof.Machine
open Sys2Proof
-- Theorem by theorem: side by side, the checks of this text take more memory than they are given.
set_option Elab.async false

/-- Settles O47, message by message. -/
theorem fragmentSets : Obligations.FragmentSets := by
  unfold Obligations.FragmentSets
  intro s c src h slot addr most req tag epoch peer reason base r k i m f q w v y ks x e nx nxS pf asked answers rest room region opened held sums sealing wanted sealed3 named
  have asks : ∀ {i : Instr} {f : Chan → Chan} {v : Chan}, exec i s = onChS c (fun x => x.tierAsked peer m f) s → asked → f x = v → nxS i v := fun hi ⟨hs, he, hp, hn⟩ hv =>
    execS_on x hi ((Chan.tierAsked_fresh hs he hp hn _).trans hv)
  have contains : ∀ {ty}, q.ty = ty → [ty].contains q.ty = true := by simp
  have replies : ∀ {i : Instr} {ty : Nat} {k : Chan → TierReq → Chan} {v : Chan}, exec i s = onChS c (fun x => x.tierReply peer m [ty] k) s → answers ty → k rest q = v → nxS i v :=
    fun hi ⟨hs, hq, hp, ht⟩ hv => execS_on x hi ((Chan.tierReply_of hs hq hp (contains ht) _).trans hv)
  refine ⟨fun ha hr => asks exec_fragOpen ha (by rw [hr]), fun ha hr hroom => asks exec_fragOpen ha ?_, fun ha hr hroom hreg => asks exec_fragOpen ha ?_, fun ha hs => asks exec_fragSeal ha ?_,
    fun ha hs hf hsum => asks exec_fragSeal ha ?_, fun ha hs hf hsum => asks exec_fragSeal ha ?_, ?_⟩
  · rw [hr]; dsimp only; rw [show Chan.fragRoom _ _ = _ from hroom]
  · rw [hr]; dsimp only; rw [show Chan.fragRoom _ _ = _ from hroom]; dsimp only; rw [show Chan.register _ _ = _ from hreg]
  · rw [show List.head? _ = none from hs]
  · rw [show List.head? _ = some k from hs]; dsimp only; rw [hf]; exact if_neg hsum
  · rw [show List.head? _ = some k from hs]; dsimp only; rw [hf]; exact if_pos hsum
  refine ⟨fun ha hk => asks exec_fragFree ha (by dsimp only; rw [hk]; rfl), fun ha hk => asks exec_fragFree ha (by dsimp only; rw [hk]; rfl), fun ha hw => asks exec_fragRead ha ?_,
    fun ha hw hf => asks exec_fragRead ha ?_, fun ha hw => replies exec_fragOpenAck ha (by rw [hw]), fun ha hw hwr => ⟨fun hlen hall => replies exec_fragSealAck ha ?_,
      fun hex => replies exec_fragSealAck ha ?_⟩, fun ⟨hs, hq, hp, ht⟩ => ?_, fun ha hw hr => replies exec_fragReadAck ha ?_, ?_⟩
  · rw [show List.head? _ = none from hw]
  · rw [show List.head? _ = some k from hw]; dsimp only; rw [hf]
  · rw [hw]; dsimp only; rw [show (rest.setHolder _ _ _).tiers.writing.find slot = some w from hwr]
    exact if_pos ⟨hlen, by simpa using hall⟩
  · rw [hw]; dsimp only; rw [show (rest.setHolder _ _ _).tiers.writing.find slot = some w from hwr]
    refine if_neg fun hn => ?_
    obtain ⟨y, hy, h3⟩ := hex
    exact h3 (by simpa using List.all_eq_true.1 hn.2 y hy)
  · exact exec_on x exec_fragFreeAck (Chan.tierReply_of hs hq hp (contains ht) _)
  · rw [hw]; dsimp only; rw [show rest.tiers.reads.find slot = some v from hr]
  refine ⟨fun ha ho => ⟨fun hh => ?_, fun hh => ?_⟩, fun hp => execS_command exec_tierFragList hp rfl, fun hp hn => execS_command exec_tierFragDrop hp ?_,
    fun hp hn => execS_command exec_tierFragDrop hp ?_⟩
  · exact execS_ctxCommand exec_tierFragWhere ha ((Chan.withCtx_of_owns ho _).trans (by simp only [hh]))
  · exact execS_ctxCommand exec_tierFragWhere ha ((Chan.withCtx_of_owns ho _).trans (by simp only [hh]; rfl))
  · dsimp only; rw [show AMap.keysWhere _ _ = [] from hn]; rfl
  · dsimp only; rw [show AMap.keysWhere _ _ = k :: ks from hn]; rfl

end Sys2Proof.Machine
end
section
/-! PROOFS. Command rings (R366 to R368, R370, R371, R375, R378). -/
namespace Sys2Proof.Machine
open Sys2Proof
-- Theorem by theorem: side by side, the checks of this text take more memory than they are given.
set_option Elab.async false

/-- Settles O48: the doorbells by their index, the entry by its code, the configuration by its enable bit. -/
theorem ringPairs : Obligations.RingPairs := by
  unfold Obligations.RingPairs
  intro s c w n v t e cause a x f r nx usable size filled given takes taken src word r1 r2
  have use : usable → ¬ ((!x.barLive f) = true ∨ 16 ≤ n ∨ (!r.en) = true ∨ r.err = true) := fun ⟨hb, hn, he, herr⟩ => by
    simp [hb, not_le.2 hn, he, herr]
  have take : ∀ {o z}, takes → x.dmaFault f = none → (match o with
        | .failed _ => x.ringError f n 3 r.sqHead
        | .ok e' => if e'.fence = true ∧ (!r.taken.isEmpty) = true then x
          else
            let y := x.setRing f n { r with sqHead := (r.sqHead + 1) % 2 ^ r.lSqLog2, taken := r.taken ++ [⟨e'.code, e'.cid⟩] }
            if knownCode e'.code then y else y.complete { src with cid := e'.cid, tslot := e'.tslot } 0x77 0) = z → nx (.entryTake c w n o) z :=
    fun ⟨hs, hn, hm⟩ hd hz => exec_on x exec_entryTake ((if_neg (by simp [hs, not_le.2 hn, show x.mayTake (winFn w) n = true from hm])).trans
      ((if_neg (by simp [show x.dmaFault (winFn w) = none from hd])).trans hz))
  have free : (e.fence = false ∨ r.taken = []) → ¬ (e.fence = true ∧ (!r.taken.isEmpty) = true) := fun h hn => by
    obtain h | h := h
    · rw [h] at hn; cases hn.1
    · rw [h] at hn; cases hn.2
  refine ⟨fun hu hv => ?_, fun hu hv => ?_, fun hu hv hg => ?_, fun hu hv => ?_, fun ht hd => take ht hd rfl, fun ht hd hf hk => take ht hd ((if_neg (free hf)).trans (if_pos hk)),
    fun ht hd hf hk => take ht hd ((if_neg (free hf)).trans (if_neg (by simp [hk]))), fun ht hd hf hr => take ht hd (if_pos ⟨hf, by simpa using hr⟩), fun ho => ?_, fun hb hn => ?_⟩
  · exact exec_on x exec_tenSqDoorbell ((if_neg (use hu)).trans (if_neg (not_le.2 hv)))
  · exact exec_on x exec_tenSqDoorbell ((if_neg (use hu)).trans (if_pos hv))
  · exact exec_on x exec_tenCqDoorbell ((if_neg (use hu)).trans (if_neg (not_or.2 ⟨not_le.2 hv, not_lt.2 hg⟩)))
  · exact exec_on x exec_tenCqDoorbell ((if_neg (use hu)).trans (if_pos hv))
  · exact exec_on x exec_coalTimeExpiry (by dsimp only; rw [show (x.ring (winFn w) n).oldest = _ from ho])
  · have writes : ∀ {z}, x.ringCfg f n a = z → nx (.tenRingCfgWrite c w n a) z := fun hz =>
      exec_on x exec_tenRingCfgWrite ((if_neg (by simp [show x.barLive (winFn w) = true from hb, not_le.2 hn])).trans hz)
    have reached : reaches a 63 63 = true → ¬ (!reaches a 63 63) = true := by simp
    exact ⟨fun h => writes (if_pos (by simp [h])), fun h hw ha => writes ((if_neg (reached h)).trans ((if_pos hw).trans (if_neg (Bool.eq_false_iff.1 ha)))),
      fun h hw ha => writes ((if_neg (reached h)).trans ((if_pos hw).trans (if_pos ha))),
      fun h hw ht => writes ((if_neg (reached h)).trans ((if_neg (Bool.eq_false_iff.1 hw)).trans (if_pos (by simpa using ht)))),
      fun h hw ht => writes ((if_neg (reached h)).trans ((if_neg (Bool.eq_false_iff.1 hw)).trans (if_neg (by simpa using ht))))⟩

end Sys2Proof.Machine
end
section
/-! PROOFS. Event rings, vectors, configuration space and bad completions (R361, R362, R376, R378, R379, R381, R499). -/
namespace Sys2Proof.Machine
open Sys2Proof
-- Theorem by theorem: side by side, the checks of this text take more memory than they are given.
set_option Elab.async false

section
variable {s : State} {c : ChId} {a : Access} {t v : Nat} {f : PciFn} {w : EvqWin} {k : ConfigSet}

theorem exec_evqCfg_ch (h : (f = .pf ∧ w = .pf c) ∨ (f = .vf t ∧ w = .vf c t)) :
    exec (.tenEvqCfgWrite w a) s = onCh c (fun x => if x.barLive f then x.setEvq f ((x.evq f).cfg a) else x) s := by
  obtain ⟨rfl, rfl⟩ | ⟨rfl, rfl⟩ := h <;> rfl

theorem exec_evqCidx_ch (h : (f = .pf ∧ w = .pf c) ∨ (f = .vf t ∧ w = .vf c t)) : exec (.tenEvqCidxWrite w a) s = onCh c (fun x => x.evqConsume f a) s := by
  obtain ⟨rfl, rfl⟩ | ⟨rfl, rfl⟩ := h <;> rfl

theorem exec_unmask_ch (h : (f = .pf ∧ w = .pf c) ∨ (f = .vf t ∧ w = .vf c t)) :
    exec (.vectorUnmask w v) s = onCh c (fun x => if x.barLive f ∧ v ≤ 16 then x.unmask f v else x) s := by
  obtain ⟨rfl, rfl⟩ | ⟨rfl, rfl⟩ := h <;> rfl

/-- A configuration write to a function that exists, while the input holds, is its effect on the channel. -/
theorem exec_configWrite_ch (h : (f = .pf ∧ w = .pf c) ∨ (f = .vf t ∧ w = .vf c t)) (hb : s.hub.bus ≠ .lost) (hf : (s.ch c).fnExists f = true) :
    exec (.pcieConfigWrite w k) s = .next (s.after c ((s.ch c).configWrite f k)) := by
  obtain ⟨rfl, rfl⟩ | ⟨rfl, rfl⟩ := h
  · exact exec_onHubCh (g := fun h y => (h, if h.bus = .lost then y else y.configWrite .pf k)) s.hub (s.ch c) rfl (by simp only [hb, if_false])
  · exact exec_onHubCh (g := fun h y => (h, if h.bus = .lost ∨ !y.fnExists (.vf t) then y else y.configWrite (.vf t) k)) s.hub (s.ch c) rfl
      (by simp only [hb, hf, Bool.not_true, Bool.false_eq_true, or_self, if_false])

end

/-- A command of the hub leaves what its function leaves. -/
theorem exec_hub {i : Instr} {s : State} {g : Hub → Hub} {h' : Hub} (he : exec i s = onHub g s) (h : g s.hub = h') : exec i s = .next (s.withHub h') := by
  rw [he, onHub_eq, h]

theorem exec_evqCfg_hub {a : Access} {s : State} : exec (.tenEvqCfgWrite .hub a) s = onHub (fun h => if !h.barLive then h
    else { h with evq := h.evq.cfg a, sevs := if !h.evq.en ∧ (h.evq.cfg a).en then [] else h.sevs }) s := rfl

theorem exec_evqCidx_hub {a : Access} {s : State} : exec (.tenEvqCidxWrite .hub a) s = onHub (fun h => if !h.barLive then h
    else
      let r := h.evq.consume a
      let h := { h with evq := r.1, sevs := h.sevs.take ((r.1.pidx + 2 ^ 32 - r.1.cidx) % 2 ^ 32) }
      if r.2 then h.interrupt else h) s := rfl

theorem exec_unmask_hub {s : State} : exec (.vectorUnmask .hub 0) s = onHub (fun h => if !h.barLive ∨ 0 ≠ 0 then h
    else if h.vec.masked ∧ h.vec.pending then { h with vec := ⟨false, false⟩ }.interrupt else { h with vec := ⟨false, false⟩ }) s := rfl

theorem exec_bme_hub {on : Bool} {s : State} : exec (.pcieConfigWrite .hub (.bme on)) s = onHub (fun h => if h.bus = .lost then h
    else { h with pci := { h.pci with bme := on } }) s := rfl

/-- Returning a CIDX leaves the vector of the ring. -/
theorem EvRing.consume_vector (r : EvRing) (a : Access) : (r.consume a).1.vector = r.vector := by
  simp only [EvRing.consume]; split <;> rfl

/-- A CIDX returned on a ring of a function that answers: the vector again while records remain. -/
theorem Chan.evqConsume_eq {x : Chan} {f : PciFn} (hb : x.barLive f = true) (a : Access) :
    x.evqConsume f a = if ((x.evq f).consume a).2 = true then (x.setEvq f ((x.evq f).consume a).1).interrupt f (x.evq f).vector else x.setEvq f ((x.evq f).consume a).1 := by
  rw [← EvRing.consume_vector (x.evq f) a]
  simp only [Chan.evqConsume, hb, Bool.not_true, Bool.false_eq_true, if_false]

/-- A ring that is enabled takes its base and restarts its indices. -/
theorem EvRing.cfg_enabled {r : EvRing} {a : Access} (h0 : r.en = false) (h1 : (a.apply r.word).testBit 63 = true) :
    (r.cfg a).en = true ∧ (r.cfg a).lBase = r.base ∧ (r.cfg a).pidx = 0 ∧ (r.cfg a).cidx = 0 ∧ (r.cfg a).seq = 0 := by
  simp [EvRing.cfg, h0, h1]

theorem EvRing.consume_none {r : EvRing} {a : Access} (h : reaches a 31 0 = false) : r.consume a = (r, false) := by
  simp [EvRing.consume, h]

/-- Settles O49: the rings, vectors and configuration of a channel's functions and of the hub's, and the two kinds of bad completion. -/
theorem hostFunctions : Obligations.HostFunctions := by
  unfold Obligations.HostFunctions
  intro s c a t v n on q src f w k x h nx nh here old vec unmasked cause severity
  refine ⟨fun hh hb => ⟨?_, EvRing.cfg_enabled, fun hm => ?_, fun hm => ?_, fun hv h1 h2 => ?_, fun hv h1 => ?_⟩, fun hh hb hf => ⟨?_, ?_, fun hpf hn => ?_, fun hpf => ?_⟩,
    fun hb => ⟨?_, fun hr => ?_, fun h1 h2 => ?_, fun h1 => ?_⟩, fun hb => ⟨?_, ?_⟩, fun hs hn hm => ?_, fun hs htaken => ?_⟩
  · exact exec_on x (exec_evqCfg_ch hh) (if_pos hb)
  · exact exec_on x (exec_evqCidx_ch hh) ((Chan.evqConsume_eq hb a).trans (if_pos hm))
  · exact exec_on x (exec_evqCidx_ch hh) ((Chan.evqConsume_eq hb a).trans (if_neg (Bool.eq_false_iff.1 hm)))
  · exact exec_on x (exec_unmask_ch hh) ((if_pos ⟨hb, hv⟩).trans (if_pos ⟨h1, h2⟩))
  · refine exec_on x (exec_unmask_ch hh) ((if_pos ⟨hb, hv⟩).trans (if_neg fun hn => ?_))
    obtain h1 | h1 := h1
    · exact Bool.eq_false_iff.1 h1 hn.1
    · exact Bool.eq_false_iff.1 h1 hn.2
  · exact exec_configWrite_ch hh hb hf
  · exact exec_configWrite_ch hh hb hf
  · exact (exec_configWrite_ch hh hb hf).trans (after_congr (if_pos ⟨hpf, hn⟩))
  · exact (exec_configWrite_ch hh hb hf).trans (after_congr (if_neg fun hn => hpf hn.1))
  · refine exec_hub exec_evqCfg_hub ((if_neg (by simp [show s.hub.barLive = _ from hb])).trans ?_)
    simp only [Bool.not_eq_true']
    rfl
  · refine exec_hub exec_evqCidx_hub ((if_neg (by simp [show s.hub.barLive = _ from hb])).trans ?_)
    rw [EvRing.consume_none hr]
    rfl
  · exact exec_hub exec_unmask_hub ((if_neg (by simp [show s.hub.barLive = _ from hb])).trans (if_pos ⟨h1, h2⟩))
  · exact exec_hub exec_unmask_hub ((if_neg (by simp [show s.hub.barLive = _ from hb])).trans (if_neg (by simp [show s.hub.vec.masked = _ from h1])))
  · exact exec_hub exec_bme_hub (if_neg hb)
  · exact exec_hub exec_pcieCorrectableError (if_neg hb)
  · have idle : ¬ (16 ≤ n ∨ (!x.mayTake (winFn q) n) = true) := by simp [not_le.2 hn, hm]
    refine ⟨exec_on x exec_pcieCompletionTimeout ((if_pos hs).trans (if_neg idle)), exec_on x exec_pcieErrorCompletion ((if_pos hs).trans ?_)⟩
    cases k <;> exact if_neg idle
  · refine ⟨exec_on x exec_pcieCompletionTimeout ((if_pos hs).trans (if_pos htaken)), exec_on x exec_pcieErrorCompletion ((if_pos hs).trans ?_)⟩
    cases k <;> exact if_pos htaken

end Sys2Proof.Machine
end

section
/-! PROOFS. The SPDM request of a module whose hub has still an event to write (R398). -/
namespace Sys2Proof.Machine
open Sys2Proof
-- Theorem by theorem: side by side, the checks of this text take more memory than they are given.
set_option Elab.async false

/-- The module at reset, but for one event of channel 0 that the hub has not written. -/
def State.unwritten : State := { State.reset with ch0 := { State.reset.ch0 with toHub := [(0x0004, 0, 0)] } }

theorem State.unwritten_responder : State.unwritten.responder = some 0 := rfl

/-- The hub that hears an SPDM request writes that event too. -/
theorem State.unwritten_spdm : ∃ t, exec (.spdmRequest .ask) State.unwritten = .next t ∧
    t.hub.out = [.event 0x0004 (eventDef 0x0004).sev none 0 0, .pin "SPDM response" 0] := ⟨_, rfl, rfl⟩

/-- Refutes O50: the statement fixes the outputs of the hub after an SPDM request, at every state. Where a channel has handed the hub an event that is not written yet,
as no state that reset and `step` reach has it, the request writes it, and its output stands before the response. -/
theorem not_keysAndFirmware : ¬ Obligations.KeysAndFirmware := by
  unfold Obligations.KeysAndFirmware
  rintro ⟨-, h⟩
  have src : Src := { vf := none, n := 0, cid := 0, tslot := 0, res := 0 }
  obtain ⟨-, -, -, -, hresp, -⟩ := h State.unwritten .c0 src src [] 0 0 false false (stagedOf []) ⟨.both, 0⟩ .ask
  obtain ⟨t, ht, -, hout, -⟩ := hresp State.unwritten_responder (by decide)
  obtain ⟨u, hu, hwritten⟩ := State.unwritten_spdm
  obtain rfl : u = t := Host.Outcome.next.inj (hu.symm.trans ht)
  rw [hwritten] at hout
  exact absurd (congrArg List.length hout) (by decide)

end Sys2Proof.Machine
end

section
/-! PROOFS. The channel's end of the meter link (R413, R416, R418, R419, R428 to R430). -/
namespace Sys2Proof.Machine
open Sys2Proof
-- Theorem by theorem: side by side, the checks of this text take more memory than they are given.
set_option Elab.async false

theorem Totals.absent_eq : Totals.absent = fun t => { t with
    uPrompt := t.uPrompt + (t.prompt - t.sent.1), uOutput := t.uOutput + (t.output - t.sent.2.1), uAttached := t.uAttached + (t.attached - t.sent.2.2.1),
    prompt := t.sent.1, output := t.sent.2.1, attached := t.sent.2.2.1 } := rfl

/-- The channel's end of the link is open: the channel is powered and working, and the meter is there. -/
theorem Chan.linkOpen_iff (x : Chan) : (x.sec.mode ≠ .failed ∧ x.pwr.st ≠ .c3 ∧ x.mtr.absent = false) ↔ (!x.linkLive || x.mtr.absent) = false := by
  simp [Chan.linkLive, and_assoc]

/-- Settles O51, happening by happening. -/
theorem meterLink : Obligations.MeterLink := by
  unfold Obligations.MeterLink
  intro s c slot ty f rest x nx open_ counted late off marked back told
  have hopen : open_ ↔ (!x.linkLive || x.mtr.absent) = false := x.linkOpen_iff
  have totals : ∀ {z}, open_ → slot < 16 → x.tag slot ≠ 0 → x.mtr.credits ≠ 0 → (if (x.totals slot).sent ≠ x.totalsNow slot then _ else _) = z → nx (.totalsDue c slot) z :=
    fun ho hs ht hc hz => exec_on x exec_totalsDue ((if_neg (by rw [hopen.1 ho]; simp [not_le.2 hs, ht, hc])).trans hz)
  refine ⟨fun ho hs ht hc hne => totals ho hs ht hc (if_pos hne), fun ho hs ht hc he => totals ho hs ht hc (if_neg (not_not.2 he)), fun h => exec_on x exec_totalsDue (if_pos ?_),
    fun ho hc => exec_on x exec_helloDue (if_neg ?_), fun h => exec_on x exec_helloDue (if_pos ?_), fun ho => exec_on x exec_creditPulse ?_,
    fun ho ha hl => exec_on x exec_creditPulse ?_, fun ha => exec_on x exec_meterAbsent ((if_neg (by simp [ha])).trans ?_), fun ha => exec_on x exec_meterAbsent (if_pos ha),
    fun ha hc => exec_on x exec_creditsResumed ((if_neg (by simp [ha, hc])).trans ?_), fun ha => exec_on x exec_creditsResumed (if_pos (by simp [ha]))⟩
  · have h' : (!x.linkLive || x.mtr.absent) = true ∨ x.tag slot = 0 ∨ x.mtr.credits = 0 := by simpa only [hopen, Bool.not_eq_false] using h
    obtain h | h | h := h' <;> simp [h]
  · rw [hopen.1 ho]; simp [hc]
  · have h' : (!x.linkLive || x.mtr.absent) = true ∨ x.mtr.credits = 0 := by simpa only [hopen, Bool.not_eq_false] using h
    obtain h | h := h' <;> simp [h]
  · dsimp only
    split
    · rename_i h
      cases ho.symm.trans h
    · rfl
  · dsimp only; rw [ho]
    refine if_neg ?_
    obtain ⟨hf, hc3 | h3⟩ := hl
    · simp [ha, Chan.linkSends, Chan.linkLive, hf, hc3]
    · simp [ha, Chan.linkSends, hf, h3]
  · simp only [Totals.absent_eq]
    rfl
  · dsimp only

end Sys2Proof.Machine
end

section
/-! PROOFS. The Pontil meter (R419, R420, R422, R423, R425, R431, R432, R435). -/
namespace Sys2Proof.Machine
open Sys2Proof
-- Theorem by theorem: side by side, the checks of this text take more memory than they are given.
set_option Elab.async false

/-- A frame whose CRC is wrong is discarded and counted. -/
theorem Hub.takeFrame_bad {h : Hub} {m : Meter} (hm : h.meter = some m) (f : LinkFrame) (k : Meter → Meter) :
    h.takeFrame f false k = h.withMeter (fun m => { m with discards := m.discards + 1 }) := by
  simp only [Hub.takeFrame, hm, Bool.not_false, if_true]

/-- What the meter does with the records that the host acknowledges leaves a removal as it was. -/
theorem Meter.removing_put (m : Meter) (r : RecordIn) : (m.put r).removing = m.removing := rfl

/-- The meter of a removal that is acknowledged, in the words of the option. -/
theorem Meter.match_removing (o : Option Nat) (n : Nat) (x y : Meter) :
    (match o with | some r => if r ≤ n then x else y | none => y) = if o.any (fun r => decide (r ≤ n)) = true then x else y := by
  cases o <;> simp

/-- Settles O52, happening by happening. -/
theorem meterRecords : Obligations.MeterRecords := by
  unfold Obligations.MeterRecords
  intro s c f m t0 t a n w h ch nh bad m1 takes old o fell older ended m1' acc dt m2 began supplied tick m3 gap fresh acked freed closed
  refine ⟨fun hm => ?_, exec_hub exec_meterInserted rfl, exec_hub exec_mtrDrainSelWrite rfl⟩
  have taken : ∀ {i : Instr} {k : Hub → Meter → Meter} {y : Meter}, exec i s = onHub (fun h => h.takeFrame f true (k h)) s → k s.hub (m.heard f) = y → nh i (takes y) := fun hi hy =>
    exec_hub hi (by rw [Hub.takeFrame_ok (h := s.hub) hm, hy])
  have meters : ∀ {i : Instr} {g : Meter → Meter} {y : Meter}, exec i s = onHub (fun h => h.withMeter g) s → g m = y → nh i (h.withMeter (fun _ => y)) := fun hi hy =>
    exec_hub hi (by rw [Hub.withMeter_of (h := s.hub) hm, hy])
  refine ⟨exec_hub exec_meterTotalsFrame (Hub.takeFrame_bad hm ..), exec_hub exec_meterHelloFrame (Hub.takeFrame_bad hm ..), exec_hub exec_meterSupplyFrame (Hub.takeFrame_bad hm ..),
    exec_hub exec_meterUnmeteredFrame (Hub.takeFrame_bad hm ..), fun hf => taken exec_meterTotalsFrame (if_pos hf), fun hf => taken exec_meterTotalsFrame (if_neg hf),
    fun hs => taken exec_meterHelloFrame (if_pos hs), fun hs => taken exec_meterHelloFrame (if_neg (Bool.eq_false_iff.1 hs)), fun hs => taken exec_meterSupplyFrame (if_pos hs), fun h0 h1 ht => taken exec_meterSupplyFrame ?_, taken exec_meterUnmeteredFrame rfl,
    exec_hub exec_meterCreditTick rfl, fun he => meters exec_meterIntervalBoundary (if_pos he), fun he => meters exec_meterIntervalBoundary (if_neg (Bool.eq_false_iff.1 he)), fun hl => meters exec_meterLinkGap ?_, fun hl => exec_hub exec_meterLinkGap ?_,
    meters exec_mtrDrainAckWrite ?_, fun hr => exec_hub exec_mtrRemove ?_, fun hr => exec_hub exec_mtrRemove ?_⟩
  · exact (if_neg (Bool.eq_false_iff.1 h0)).trans ((if_pos h1).trans (by rw [show AMap.find (m.heard f).supplyAt (chNum f.ch) = some t0 from ht] <;> rfl))
  · dsimp only
    rw [hl]
  · have still : ∀ {g : Meter → Meter}, g m = m → h.withMeter g = h.withMeter (fun m => m) := fun hg =>
      (Hub.withMeter_of hm _).trans ((congrArg (fun y => h.withMeter (fun _ => y)) hg).trans (Hub.withMeter_of hm (fun m => m)).symm)
    exact still (by dsimp only; rw [hl])
  · have kept : freed.removing = m.removing := by
      simp only [freed, acked, apply_ite Meter.removing, Meter.removing_put, ite_self]
    dsimp only
    simp only [Bool.and_eq_true, decide_eq_true_eq]
    exact (Meter.match_removing freed.removing freed.acked _ _).trans
      (congrArg (fun o => if Option.any (fun r => decide (r ≤ freed.acked)) o = true then { freed with withheld := true } else freed) kept)
  · dsimp only
    rw [show s.hub.meter = some m from hm]
    exact if_neg (by simp [hr])
  · dsimp only
    rw [show s.hub.meter = some m from hm]
    exact if_pos (Option.isSome_iff_ne_none.2 hr)

end Sys2Proof.Machine
end

section
/-! PROOFS. Peers and the shadow (R449 to R454). -/
namespace Sys2Proof.Machine
open Sys2Proof
-- Theorem by theorem: side by side, the checks of this text take more memory than they are given.
set_option Elab.async false

/-- A mirror message of the shadow's own peer whose operation can be run again is judged by its result. -/
theorem Chan.judgeMirror_of {x : Chan} {m : MirrorMsg} {r : List Byte} (hm : x.rel.mode = .shadow) (hp : x.rel.part = 1) (he : m.eid = x.rel.peer) (hv : m.version = 1)
    (hl : m.payload.length ≤ 8128) (hr : x.mirrorResult m = some r) :
    x.judgeMirror m =
      (let c := { x with rel := { x.rel with lastMirror := x.time, stalled := false } }
       if sha512t256 r = m.result then
         let n := c.rel.count + 1
         let c := { c with rel := { c.rel with count := n } }
         if c.rel.ops ≤ n then c.promote false else c
       else (c.isolate 5).event 0xE00D none (c.rel.peer % 2 ^ 18) (m.kind % 256 + m.opNum % 2 ^ 32 * 2 ^ 32)) := by
  unfold Chan.judgeMirror
  rw [if_neg (by simp [hm, hp, he, hv, hl]), hr]

/-- Settles O53, happening by happening. -/
theorem peersAndShadow : Obligations.PeersAndShadow := by
  unfold Obligations.PeersAndShadow
  intro s c src p k i eid digest host most sample ops role remove m r y x nx takes z peer late expects marked wrote heard one judges still
  have beats : ∀ {j : Chan → Chan}, x.comesIn p false = some y →
      (∀ x : Chan, (if p.data.length ≠ 128 then x.refused p.dstConn p.psn p.addr p.srcEid (4, 0) else (x.judgeHeartbeat p.srcEid p.data).accepted p.dstConn p.psn 1 p.ar 0) = j x) →
      exec (.heartbeat c p) s = .next (s.after c ((y.inOrder p.dstConn p.psn j id).serveEnded serveFuel)) := fun hy hj =>
    execS_on x exec_heartbeat ((Chan.onConn_of_comesIn hy _).trans (congrArg (fun j => y.inOrder p.dstConn p.psn j id) (funext hj)))
  have judged : judges → ∀ {z : Chan}, _ = z → nx (.mirrorMessage c m) z := fun hj z hz => by
    obtain ⟨hs, hm, hp, he, hv, hl, hr⟩ := hj
    exact exec_on x exec_mirrorMessage ((if_pos hs).trans ((Chan.judgeMirror_of hm hp he hv hl hr).trans hz))
  refine ⟨fun hy hl => beats hy fun _ => if_neg (not_not.2 hl), fun hy hl => beats hy fun _ => if_pos hl, fun ho hpd hr hs => exec_on x exec_keepaliveExpiry (if_neg (by simp [z] at ho hpd hr; simp [ho, hpd, hr, hs])),
    fun hi hf hc hs => exec_on x exec_peerSilent (if_neg (by simp [x, peer] at hf hc hs; simp [x, hi, hf, hc, hs])),
    fun ha hok => exec_command exec_relExpect ha ((if_neg ?_).trans rfl), fun ha hr hf hl => exec_command exec_relExpect ha (if_pos ?_),
    fun ha => ⟨fun hm => ?_, fun hm hw => ?_, fun hm hw => ?_⟩, fun ha => ⟨fun hm => ?_, fun hm => ?_, fun hr hs => ?_, fun hr hs => ?_, fun hm => ?_, fun hm => ?_⟩,
    fun hj hr hc => judged hj ((if_pos hr).trans (if_neg (by simpa using hc))), fun hj hr hc => judged hj ((if_pos hr).trans (if_pos hc)), fun hj hr => judged hj (if_neg hr),
    fun hn => exec_on x exec_mirrorMessage ?_, fun hm hst hs => exec_on x exec_shadowStall (if_neg (by simp [x] at hm hst hs; simp [x, hm, hst, hs]))⟩
  · rcases hok with h | h | h
    · simp [h]
    · simp [Option.isNone_eq_false_iff.2 (Option.isSome_iff_ne_none.2 h)]
    · have hl : ¬ 4096 ≤ x.rel.expects.length := Nat.not_le.2 h
      simp [hl]
  · have hn : x.rel.expects.find eid = none := hf
    have hm : 4096 ≤ x.rel.expects.length := hl
    simp [hr, hn, hm]
  · exact exec_command exec_relMismatchList ha (if_pos (List.isEmpty_iff.2 hm))
  · exact exec_command exec_relMismatchList ha ((if_neg (mt List.isEmpty_iff.1 hm)).trans (if_pos hw))
  · exact exec_command exec_relMismatchList ha ((if_neg (mt List.isEmpty_iff.1 hm)).trans (if_neg (Bool.eq_false_iff.1 hw)))
  · exact exec_command exec_relShadow ha (congrArg (fun y : Chan => y.complete src 0 0) (if_pos (decide_eq_true hm)))
  · exact exec_command exec_relShadow ha (congrArg (fun y : Chan => y.complete src 0 0) (if_neg (Bool.eq_false_iff.1 (decide_eq_false hm))))
  · refine exec_command exec_relShadow ha ?_
    rcases hr with ⟨rfl, hm⟩ | ⟨rfl, hm⟩
    · exact (if_neg (by simpa using hm)).trans (if_neg (by simpa using hs))
    · exact (if_neg (by simpa using hm)).trans (if_neg (by simpa using hs))
  · refine exec_command exec_relShadow ha ?_
    rcases hr with ⟨rfl, hm⟩ | ⟨rfl, hm⟩
    · exact (if_neg (by simpa using hm)).trans (if_pos (by simpa using hs))
    · exact (if_neg (by simpa using hm)).trans (if_pos (by simpa using hs))
  · exact exec_command exec_relShadow ha (if_pos (by simpa using hm))
  · exact exec_command exec_relShadow ha (if_pos (by simpa using hm))
  · exact ite_eq_right_iff.2 fun _ => if_pos (by tauto)

end Sys2Proof.Machine
end

section
/-! PROOFS. Patrol, repair, isolation and injected errors (R438 to R447, R458, R459). -/
namespace Sys2Proof.Machine
open Sys2Proof
-- Theorem by theorem: side by side, the checks of this text take more memory than they are given.
set_option Elab.async false

/-- Settles O54, happening by happening. -/
theorem repair : Obligations.Repair := by
  unfold Obligations.Repair
  intro s c src row pch lane addr kind count k f t n flashOk e y x nx nxS takes seen used copied spared inFlash lanes laned laneFlash left awake powered inside at_
  have asleep : ∀ {b : Bool}, ¬ awake → (x.hbmAwake && b) = false := fun ha => by rw [Bool.eq_false_iff.2 ha, Bool.false_and]
  have reads : ∀ {ok : Bool} {z : Chan}, awake → seen = some k → x.readCw k 10 = (ok, y) →
      (if ok then at_ y ok else match (at_ y ok).culletAt (64 * k) with | some f => (at_ y ok).withdrawFrame f | none => at_ y ok) = z → nx (.patrolRead c) z := fun {ok z} ha hs hr hz => by
    refine exec_on x exec_patrolRead ?_
    dsimp only
    rw [if_neg (by simpa using ha), show (x.rel.cw.keysWhere (fun k _ => decide (x.rel.patrolAt ≤ k))).head? = some k from hs]
    dsimp only
    rw [hr]
    exact hz
  have spares : ∀ {ok : Bool} {z : Chan}, awake → x.rowFails row = true → row * 1024 < x.hbmMib * mib → x.spareRow row ok = z → nx (.rowSpare c row ok) z := fun ha hf hr hz =>
    exec_on x exec_rowSpare ((if_pos (by rw [hf, decide_eq_true hr, show x.hbmAwake = true from ha]; rfl)).trans hz)
  have lanes_ : ∀ {ok : Bool} {z : Chan}, awake → pch < x.pchs → x.spareLane pch lane ok = z → nx (.laneSpare c pch lane ok) z := fun ha hp hz =>
    exec_on x exec_laneSpare ((if_pos (by rw [decide_eq_true hp, show x.hbmAwake = true from ha]; rfl)).trans hz)
  have live : powered → ¬ (x.pwr.st = .c3 ∨ x.pwr.st = .held) := fun h => not_or.2 h
  refine ⟨fun ha hs => exec_on x exec_patrolRead ?_, fun ha hs hr => reads ha hs hr (if_pos rfl), fun ha hs hr hf => reads ha hs hr ?_, fun ha hs hr hf => reads ha hs hr ?_,
    fun ha => ⟨exec_on x exec_patrolRead (if_pos (by rw [Bool.eq_false_iff.2 ha]; rfl)), exec_on x exec_rowSpare (if_neg (by rw [Bool.and_assoc, asleep ha]; exact Bool.false_ne_true)),
      exec_on x exec_laneSpare (if_neg (by rw [asleep ha]; exact Bool.false_ne_true))⟩,
    fun ha hf hr => ⟨fun hu => spares ha hf hr (if_pos hu), fun hu => spares ha hf hr (if_neg (Nat.not_le.2 hu)), fun hu => spares ha hf hr (if_neg (Nat.not_le.2 hu))⟩,
    fun hf => exec_on x exec_rowSpare (if_neg (by rw [hf]; simp)),
    fun ha hp => ⟨fun hu => lanes_ ha hp (if_pos hu), fun hu => lanes_ ha hp (if_neg (Nat.not_le.2 hu)), fun hu => lanes_ ha hp (if_neg (Nat.not_le.2 hu))⟩,
    fun hp => execS_on x exec_sramError (if_neg (live hp)), fun hp he => execS_on x exec_sramError ((if_neg (live hp)).trans ?_),
    fun hp => exec_on x exec_consistencyCheckFail (if_pos hp), fun hu ha => exec_on x exec_relIsolate ((if_neg hu).trans (Chan.command_of_admits ha _)),
    fun hu hv => exec_on x exec_relIsolate ((if_pos hu).trans (by simp [hv])),
    fun ha hin hi => exec_command exec_relInject ha ((if_neg ?_).trans (by rw [hi])), fun ha hin => exec_command exec_relInject ha (if_pos ?_), fun ht hm hf hc hp hl => exec_on x exec_autoWarmExpiry ?_,
    fun ht hn => exec_on x exec_autoWarmExpiry ?_⟩
  · dsimp only
    rw [if_neg (by simpa using ha), show (x.rel.cw.keysWhere (fun k _ => decide (x.rel.patrolAt ≤ k))).head? = none from hs]
  · exact (if_neg Bool.false_ne_true).trans (by rw [hf])
  · exact (if_neg Bool.false_ne_true).trans (by rw [hf])
  · cases e with
    | single => exact absurd rfl he
    | _ => rfl
  · obtain ⟨ha, hc, hk, hk'⟩ := hin
    simp only [not_or]
    exact ⟨Nat.not_le.2 ha, Bool.eq_false_iff.1 hc, Nat.one_le_iff_ne_zero.1 hk, Nat.not_lt.2 hk'⟩
  · by_contra hn
    simp only [not_or] at hn
    obtain ⟨ha, hc, hk, hk'⟩ := hn
    exact hin ⟨Nat.not_le.1 ha, Bool.eq_false_iff.2 hc, Nat.one_le_iff_ne_zero.2 hk, Nat.not_lt.1 hk'⟩
  · dsimp only
    rw [ht]
    exact if_neg (by simp [hm, hf, hc, hp, hl])
  · dsimp only
    rw [ht]
    exact if_pos (by rcases hn with h | h | h <;> simp [h])

end Sys2Proof.Machine
end

section
/-! PROOFS. The 56 V input and the module's management (R39, R461 to R466, R481, R486, R487, R491). -/
namespace Sys2Proof.Machine
open Sys2Proof
-- Theorem by theorem: side by side, the checks of this text take more memory than they are given.
set_option Elab.async false

/-- A channel whose supply is back wakes by a warm reset, unless it is powered off or its reset is pending. -/
theorem Chan.recover_eq (w : WarmIn) (x : Chan) :
    x.recover w = if x.pwr.st = .c3 ∨ x.pwr.pending = some 3 ∨ x.pwr.pending = some 8 then x.sendSupply 2
      else ((x.warmReset 5 w).sendSupply 2).event 0xF003 none 0 (min (x.time - x.pwr.heldAt) (2 ^ 32 - 1)) := by
  unfold Chan.recover
  by_cases h : x.pwr.st = .c3
  · rw [if_pos h, if_pos (.inl h)]
  · simp only [h, if_false, false_or]

/-- Settles O55, level by level of the bus. -/
theorem inputAndManagement : Obligations.InputAndManagement := by
  unfold Obligations.InputAndManagement
  intro s vin low kind w wet half h nh nall span seen recover
  refine ⟨fun hb hv => exec_busWarning.trans (if_pos ⟨hb, hv⟩), fun hn => exec_busWarning.trans (if_neg ?_), fun hb hv hp => exec_warningLeft.trans (if_pos ⟨hb, hv, hp⟩),
    fun hn => exec_warningLeft.trans (if_neg ?_), fun hb hv => exec_busResetLevel.trans (if_pos ⟨hb, hv⟩), fun hb hv hp => ?_, fun hb hv => exec_retentionLost.trans (if_pos ⟨hb, hv⟩),
    fun hn => ⟨exec_retentionRecovered.trans (if_neg ?_), exec_retentionLost.trans (if_neg ?_)⟩, fun hp ho => exec_hub exec_inputOvervoltage (if_pos ⟨hp, by simpa using ho⟩),
    fun hn => exec_hub exec_inputOvervoltage (if_neg ?_), fun hp => exec_hub exec_plugMate (if_neg (Bool.eq_false_iff.1 hp)), fun hp => ⟨exec_hub exec_plugMate (if_pos hp), exec_hub exec_plugBreak (if_pos hp)⟩,
    fun hp => exec_hub exec_plugBreak (if_neg (Bool.eq_false_iff.1 hp)), fun hl => exec_hub exec_pwrModInputRead (if_neg (by simpa using hl)), fun hl => exec_hub exec_moistureSensorChange (if_neg hl),
    fun hl => exec_hub exec_moistureSensorChange (if_pos hl), fun hb => exec_hub exec_smbusMctpRequest (if_neg hb)⟩
  · rintro ⟨hb, hv⟩
    exact hn.elim (absurd hb) (absurd hv ∘ Nat.not_lt.2)
  · rintro ⟨hb, hv, -⟩
    exact hn.elim (absurd hb) (absurd hv ∘ Nat.not_le.2)
  · refine exec_retentionRecovered.trans ((if_pos ⟨hb, hv, hp⟩).trans ((onEach_eq _ (fun d x => (x.recover (w d)).serveEnded serveFuel) s).trans ?_))
    exact congrArg (fun g => Host.Outcome.next (s.afterAll _ g)) (funext fun d => congrArg (fun z : Chan => z.serveEnded serveFuel) (Chan.recover_eq (w d) (s.ch d)))
  · rintro ⟨hb, hv, -⟩
    exact hn.elim (absurd hb) fun h => absurd hv (Nat.not_le.2 h.2)
  · rintro ⟨hb, hv⟩
    exact hn.elim (absurd hb) fun h => absurd hv (Nat.not_lt.2 h.1)
  · rintro ⟨hp, ho⟩
    exact hn.elim (fun h => Bool.false_ne_true (h.symm.trans hp)) fun h => by simp [show s.hub.overvoltage = true from h] at ho

end Sys2Proof.Machine
end

section
/-! PROOFS. Pace, clocks and the power states of a channel (R467 to R472, R477 to R479, R481). -/
namespace Sys2Proof.Machine
open Sys2Proof
-- Theorem by theorem: side by side, the checks of this text take more memory than they are given.
set_option Elab.async false

/-- An event changes no register of the lane mode, so the ports stay. -/
theorem Chan.event_ports (x : Chan) (code : Nat) (ten : Option Nat) (subject detail : Nat) : (x.event code ten subject detail).ports = x.ports := by
  simp only [Chan.ports, Chan.fget, Chan.event_rd x code ten subject detail (off := Reg.FAB_LANE_MODE) (by decide), Chan.event_frame]

/-- A pace sample of a channel that is awake: pace-low first, then power-cap. -/
theorem Chan.paceSample_awake {s : State} {c : ChId} {p : PaceIn} {y z : Chan} (x : Chan) (hx : s.ch c = x) (h : x.pwr.st = .c0 ∨ x.pwr.st = .c1)
    (hy : (let sampled := { x with pwr := { x.pwr with vcore := p.vcore, tempCtl := p.tempCtl, tempBase := p.tempBase, index := p.index, minIndex := min x.pwr.minIndex p.index, capped := decide (max 200 (min 470 (x.fget Reg.PWR_LIMIT 15 0)) < p.draw ∧ p.index ≤ 768) } }
      if 768 ≤ x.pwr.index ∧ p.index < 768 then sampled.eventEvery ms 0xF006 0 none p.index (fun _ => p.tempCtl % 256 + p.tempBase % 256 * 256) else sampled) = y)
    (hz : (if decide (max 200 (min 470 (x.fget Reg.PWR_LIMIT 15 0)) < p.draw ∧ p.index ≤ 768) && !x.pwr.capped then y.event 0xF007 none (x.fget Reg.PWR_LIMIT 15 0) p.draw else y) = z) :
    exec (.paceSample c p) s = .next (s.after c z) := by
  refine exec_on x exec_paceSample ?_ hx
  subst hy hz
  dsimp only
  split
  case h_1 h2 => exact (by rcases h with h | h <;> cases h.symm.trans h2)
  case h_2 | h_3 => rfl
  case h_4 hn0 hn1 => exact (h.elim hn0 hn1).elim

/-- A power request of a channel that can take one does what its function does. -/
theorem exec_pwrReq {s : State} {c : ChId} {i : Instr} {f : Chan → Chan} {z : Chan} (x : Chan) (hx : s.ch c = x) (he : exec i s = onPwrReq c f s)
    (hl : s.hub.barLive = true) (hz : (if x.pwr.busy ∨ x.pwr.st = .held then x.pwrResult 0xF3 else f x) = z) : exec i s = .next (s.after c z) := by
  subst hx
  exact exec_onHubCh s.hub (s.ch c) he (Prod.ext rfl ((if_neg (by simpa using hl)).trans hz))

/-- What a request for an active state does, by the state that the channel is in. -/
theorem Chan.toActive_of_active {x : Chan} {dest : PwrState} (ha : x.pwr.st = .c0 ∨ x.pwr.st = .c1) (hd : x.pwr.st ≠ dest) :
    x.toActive dest = ({ x with pwr := { x.pwr with st := dest } }.event 0xF005 none dest.code x.pwr.st.code).pwrResult 0 := by
  refine (if_neg hd).trans ?_
  split
  case h_1 | h_2 => rfl
  case h_3 h | h_4 h | h_5 h => rcases ha with ha | ha <;> cases ha.symm.trans h

theorem Chan.toActive_of_c2 {x : Chan} {dest : PwrState} (hs : x.pwr.st = .c2) (hd : dest = .c0 ∨ dest = .c1) :
    x.toActive dest = if x.tripHolds then x.pwrResult 0xF3 else (x.leaveC2 dest).pwrResult 0 := by
  refine (if_neg (by rcases hd with rfl | rfl <;> simp [hs])).trans ?_
  split
  case h_3 => rfl
  case h_1 h | h_2 h | h_4 h | h_5 h => cases hs.symm.trans h

theorem Chan.toActive_of_c3 {x : Chan} {dest : PwrState} (hs : x.pwr.st = .c3) (hd : dest ≠ .c3) :
    x.toActive dest = if dest = .c0 then x.pwrReset 8 else x.pwrResult 0xF3 := by
  refine (if_neg (by rw [hs]; exact hd.symm)).trans ?_
  split
  case h_4 => rfl
  case h_1 h | h_2 h | h_3 h | h_5 h => cases hs.symm.trans h

/-- The time that a channel reaches changes neither its handoffs nor its power. -/
theorem Chan.reach_handoffsOpen (x : Chan) (t : Nat) : (x.reach t).handoffsOpen = x.handoffsOpen := by rw [Chan.reach_eq]; rfl

theorem Chan.reach_pwr (x : Chan) (t : Nat) : (x.reach t).pwr = x.pwr := by rw [Chan.reach_eq]

/-- Settles O56: pace and clocks, and the requests for power states. -/
theorem paceClocksAndPower : Obligations.PaceClocksAndPower := by
  unfold Obligations.PaceClocksAndPower
  refine ⟨?_, ?_⟩
  · intro s c p ctl base source t a x nx awake measured cap excess sampled lowered low hot lost dead fails
    have clock : ∀ {z : Chan}, fails → (if lost.isEmpty then dead else if lost.contains 1 then (List.range (dead.event 0xF009 none source dead.pwr.coast).ports).foldl Chan.linkLost (dead.event 0xF009 none source dead.pwr.coast)
        else dead.event 0xF009 none source dead.pwr.coast) = z → nx (.clockSourceFail c source) z := fun hf hz => by
      obtain ⟨hs, h3, hr⟩ := hf
      exact exec_on x exec_clockSourceFail ((if_neg (by simp [Nat.not_lt.2 hs, h3, hr])).trans hz)
    have quiet : ¬ excess ∨ x.pwr.capped = true → ¬ (decide excess && !x.pwr.capped) = true := fun h => by
      rcases h with h | h
      · rw [decide_eq_false h]; simp
      · rw [h]; simp
    have tripped : 110 ≤ ctl ∨ 100 ≤ base → x.pwr.st ≠ .c3 → x.pwr.st ≠ .held → x.pwr.tripped = false → ∀ {y : Chan}, (if (ctl < 110 ∧ base < 100) ∨ x.pwr.st = .c3 ∨ x.pwr.st = .held ∨ x.pwr.tripped then x else y) = y := fun hh h3 hd ht _ =>
      if_neg (by simp only [h3, hd, ht, Bool.false_eq_true, or_false]; omega)
    refine ⟨fun h => exec_on x exec_paceSample ?_, fun ha hl he => Chan.paceSample_awake x rfl ha (if_neg hl) (if_neg ?_), fun ha hl he => Chan.paceSample_awake x rfl ha (if_pos hl) (if_neg ?_),
      fun ha hl he hc => Chan.paceSample_awake x rfl ha (if_neg hl) (if_pos ?_), fun ha hl he hc => Chan.paceSample_awake x rfl ha (if_pos hl) (if_pos ?_),
      fun hr => exec_on x exec_pwrPaceClear (if_pos hr), fun hh ha ht => exec_on x exec_thermalTrip ?_, fun hh hs ht => exec_on x exec_thermalTrip ?_, fun hn => exec_on x exec_thermalTrip (if_pos ?_),
      fun hf hl => clock hf (if_pos (List.isEmpty_iff.2 hl)), fun hf hl hc => clock hf ((if_neg (mt List.isEmpty_iff.1 hl)).trans (if_neg (Bool.eq_false_iff.1 hc))), fun hf hc => clock hf ?_,
      fun hd => exec_on x exec_oscSettled ?_, fun hs => exec_on x exec_refClockReady (if_neg hs), fun hr ha => exec_on x exec_clkSrcWrite ?_, fun want d => ⟨fun hn hr => ?_, fun hn hr => ?_, fun ho hc => ?_⟩⟩
    · dsimp only
      split
      case h_1 => rfl
      case h_2 h2 | h_3 h2 => exact absurd (h.symm.trans h2) (by decide)
      case h_4 hn _ _ => exact (hn h).elim
    · exact quiet he
    · exact quiet he
    · rw [decide_eq_true he, show x.pwr.capped = false from hc]; rfl
    · rw [decide_eq_true he, show x.pwr.capped = false from hc]; rfl
    · exact (tripped hh (by rcases ha with h | h <;> simp [h]) (by rcases ha with h | h <;> simp [h]) ht).trans (if_neg (by rcases ha with h | h <;> simp [h]))
    · exact (tripped hh (by simp [hs]) (by simp [hs]) ht).trans (if_pos (by simpa using hs))
    · exact hn.imp id fun h => .inr (.inr h)
    · have some_ : lost ≠ [] := fun h => by simp [h] at hc
      refine (if_neg (mt List.isEmpty_iff.1 some_)).trans ((if_pos hc).trans ?_)
      rw [Chan.event_ports]; rfl
    · dsimp only
      rw [hd]
    · exact if_neg (by simp [hr, ha])
    · exact (if_neg (by rw [decide_eq_true hn]; simp)).trans (if_pos hr)
    · exact (if_neg (by rw [decide_eq_true hn]; simp)).trans ((if_neg (Bool.eq_false_iff.1 hr)).trans (if_pos (decide_eq_true hn)))
    · exact if_pos (by rw [decide_eq_false (not_not.2 ho), hc]; rfl)
  · intro s c st force t x nx result starts free active tripHolds ask goes holds waited given
    have held : ¬ tripHolds → ¬ x.tripHolds = true := fun h => by simpa [Chan.tripHolds, tripHolds] using h
    have holding : tripHolds → x.tripHolds = true := fun h => by simpa [Chan.tripHolds, tripHolds] using h
    have asks : ∀ {i : Instr} {f : Chan → Chan} {z : Chan}, exec i s = onPwrReq c f s → free → f x = z → nx i z := fun he hf hz => by
      obtain ⟨hl, hb, hs⟩ := hf
      exact exec_pwrReq x rfl he hl ((if_neg (by simp [hb, hs])).trans hz)
    have refuses : ∀ {i : Instr} {f : Chan → Chan}, exec i s = onPwrReq c f s → s.hub.barLive = true → x.pwr.busy = true ∨ x.pwr.st = .held → nx i (result x 0xF3) := fun he hl hb =>
      exec_pwrReq x rfl he hl (if_pos hb)
    have wakes : ∀ {z : Chan}, free → goes → x.toActive st = z → nx (ask st) z := fun hf hg hz => by
      rcases hg with rfl | rfl
      · exact asks exec_pwrReqC0 hf hz
      · exact asks exec_pwrReqC1 hf hz
    have waitedOpen : waited.handoffsOpen = x.handoffsOpen := by
      simp only [waited]; split
      · exact Chan.reach_handoffsOpen x t
      · rfl
    have waitedPwr : waited.pwr = x.pwr := by
      simp only [waited]; split
      · exact Chan.reach_pwr x t
      · rfl
    have ends : x.pwr.c2Due = some t → ∀ {z : Chan}, (if waited.handoffsOpen then (if given.pwr.ride then given else given.releaseCores) else waited.enterC2) = z → nx (.c2EntryWaitEnd c) z := fun hd z hz => by
      have hw : (if x.handoffsOpen || !x.cru.jobs.isEmpty then x.reach t else x) = waited := if_congr (by simp) rfl rfl
      refine exec_on x exec_c2EntryWaitEnd ?_
      dsimp only
      rw [hd]
      dsimp only
      rw [hw]
      exact hz
    refine ⟨fun hl hb => ⟨refuses exec_pwrReqC0 hl hb, refuses exec_pwrReqC1 hl hb, refuses exec_pwrReqC2 hl hb, refuses exec_pwrReqC3 hl hb, refuses exec_pwrReqWarmReset hl hb, refuses exec_pwrReqColdReset hl hb⟩,
      fun hf hg hs => wakes hf hg (if_pos hs), fun hf hg ha hs => wakes hf hg (Chan.toActive_of_active ha hs), fun hf hg hs ht => wakes hf hg ((Chan.toActive_of_c2 hs hg).trans (if_pos (holding ht))),
      fun hf hg hs ht => wakes hf hg ((Chan.toActive_of_c2 hs hg).trans (if_neg (held ht))),
      fun hf hs => ⟨asks exec_pwrReqC0 hf (Chan.toActive_of_c3 hs (by decide)), asks exec_pwrReqC1 hf (Chan.toActive_of_c3 hs (by decide)), asks exec_pwrReqC2 hf ((if_neg (by simp [hs])).trans (if_pos (.inl hs))),
        asks exec_pwrReqC3 hf (if_pos hs), asks exec_pwrReqWarmReset hf (if_pos (.inl hs)), asks exec_pwrReqColdReset hf (if_pos (.inl hs))⟩,
      fun hf ha hm => asks exec_pwrReqC2 hf ((if_neg ?_).trans (if_neg ?_)), fun hd ho => ends hd ((if_pos (waitedOpen.trans ho)).trans ?_), fun hd ho => ends hd (if_neg (Bool.eq_false_iff.1 (waitedOpen.trans ho))),
      fun hd => exec_on x exec_c2EntryWaitEnd (by dsimp only; rw [hd]),
      fun hf h3 hu ht => ⟨fun hfo hh => asks exec_pwrReqC3 hf ?_, fun hh => asks exec_pwrReqC3 hf ?_, fun hm => asks exec_pwrReqWarmReset hf ?_, fun hm => asks exec_pwrReqWarmReset hf (if_pos (.inr (.inr (.inl hm))))⟩,
      fun hf h3 hu => asks exec_pwrReqColdReset hf (if_neg (not_or.2 ⟨h3, hu⟩)), fun hf hu => ⟨asks exec_pwrReqC3 hf ?_, asks exec_pwrReqWarmReset hf (if_pos (.inr (.inl hu))), asks exec_pwrReqColdReset hf (if_pos (.inr hu))⟩⟩
    · rcases ha with h | h <;> simp [h]
    · rcases ha with h | h <;> simp [h, hm]
    · show (if waited.pwr.ride = true then given else given.releaseCores) = _
      rw [waitedPwr]
    · exact (if_neg h3).trans ((if_neg (not_or.2 ⟨hu, held ht⟩)).trans (if_pos (by rw [hfo]; exact hh)))
    · refine (if_neg h3).trans ((if_neg (not_or.2 ⟨hu, held ht⟩)).trans (if_neg ?_))
      rcases hh with h | h
      · rw [h]; exact Bool.false_ne_true
      · exact fun hc => h (Bool.and_eq_true_iff.1 hc).2
    · exact if_neg (not_or.2 ⟨h3, not_or.2 ⟨hu, not_or.2 ⟨hm, held ht⟩⟩⟩)
    · by_cases h3 : x.pwr.st = .c3
      · exact (if_pos h3).trans (if_pos h3).symm
      · exact (if_neg h3).trans ((if_pos (.inl hu)).trans (if_neg h3).symm)

end Sys2Proof.Machine
end
